-- ==== Sys2Proof/Word.lean ====
section
/-! DEFINITION. The word types of the registers and of memory (R16, R341). -/

namespace Sys2Proof

/-- A register: all registers are 32 bits wide (R16). -/
abbrev Word := BitVec 32

/-- One byte of memory. -/
abbrev Byte := BitVec 8

end Sys2Proof
end

