-- ==== Sys2Proof/Syntax.lean ====
section
/-! DEFINITION. The commands: one constructor per row of spec/opcode_table.json. The table gives the rows no bits; the operands are
what the row's rule says the happening carries. `at_` is a vehicle time in TAI ns. -/

namespace Sys2Proof

/-- One Quench program of the billet (R228) with its RANGE table (R232). -/
structure QProg where
  hdr : List Nat := []
  instrs : List Nat := []
  coefs : List Int := []
  cols : List (Int × Int × Int × Int) := []
  bounds : List (Int × Int) := []
deriving DecidableEq, Repr

/-- Where the PLAN stream goes: IPv4 addresses, UDP ports, VLAN ID and priority of the NETWORK section (R276). -/
structure PlanStream where
  /-- Source IPv4 address (R276). -/
  srcIp : Nat := 0
  /-- Destination IPv4 address (R276). -/
  dstIp : Nat := 0
  /-- Source UDP port (R276). -/
  srcPort : Nat := 0
  /-- Destination UDP port (R276). -/
  dstPort : Nat := 0
  /-- VLAN ID (R276). -/
  vlan : Nat := 0
  /-- VLAN priority (R276). -/
  priority : Nat := 0
deriving DecidableEq, Repr

/-- The port 3 settings of the DEVICE section for Banked (R469, R501). -/
structure PortSettings where
  /-- IPv4 address (R469, R501). -/
  ip : Nat := 0
  /-- Network mask (R469, R501). -/
  mask : Nat := 0
  /-- UDP port; 47,600 when no billet gives one (R469, R501). -/
  udp : Nat := 47600
  /-- VLAN ID; 0 untagged (R501). -/
  vlan : Nat := 0
  /-- Link-local addressing (R469). -/
  linkLocal : Bool := true
deriving DecidableEq, Repr

/-- The decoded content of a verified billet and its device record (R498 to R503 and the chapters that load from it).
`regs` gives the words the register tables mark 'billet'; `queues` are the 64 descriptors of R293 as bytes. -/
structure Billet where
  /-- VERSION (R499). -/
  version : Nat := 0
  /-- GRADE (R501). -/
  grade : Nat := 48
  /-- ROLE (R501). -/
  role : Nat := 1
  /-- FLAGS.ADVANCE (R501, R507). -/
  advance : Bool := false
  /-- FLAGS.NO_RPMB (R501, R508). -/
  noRpmb : Bool := false
  /-- Expected-node mask (R501). -/
  exp : Nat := 1
  /-- The reserved bytes of the sections are zero (R500). -/
  reservedOk : Bool := true
  /-- Digest of the billet (R468, R504). -/
  digest : List Nat := []
  /-- The sections (R500). -/
  sections : List (Nat × List Nat) := []
  /-- The sections' bytes, decrypted where ENC is set (R501, R502). -/
  plain : List (Nat × List Nat) := []
  /-- Words of the registers marked 'billet' (R20). -/
  regs : List (Nat × Nat) := []
  /-- Entries of timetable bank 0 and 1 (R56, R63). -/
  timetable : List Nat := []
  /-- The Ember timetable (R56, R463). -/
  ember : List Nat := []
  /-- Queue descriptors (R293). -/
  queues : List (List Nat) := []
  /-- The Peal's move table (R124). -/
  moves : List Nat := []
  /-- The Peal's penalty table (R123). -/
  pen : List Nat := []
  /-- Quench programs (R228, R232). -/
  progs : List (Nat × QProg) := []
  /-- Hammer cost sets (R183, R198). -/
  costSets : List (List Nat) := []
  /-- Golden world of the Assay (R285, R286). -/
  world : List Nat := []
  /-- Golden region's contents (R413). -/
  golden : List (Nat × List Nat) := []
  /-- Expected golden hallmarks (R413, R415). -/
  goldenHm : List (Nat × Nat) := []
  /-- Addresses of the two heat images (R80). -/
  imgBase : Nat × Nat := (0, 0)
  /-- Addresses of the two heat images in Ember (R462). -/
  emberImg : Nat × Nat := (0, 0)
  /-- The NETWORK section names a PLAN stream (R276, R279). -/
  planStream : Bool := false
  /-- The PLAN stream's addresses, ports, VLAN ID and priority (R276). -/
  planNet : PlanStream := {}
  /-- The PLAN stream is replicated on port 1 (R279). -/
  planTwoPorts : Bool := false
  /-- Ring that an Ethernet stream fills (R90). -/
  networkRing : Option Nat := none
  /-- Digest of the OS image (R503). -/
  osDigest : List Nat := []
  /-- CAN FD identifier (R280). -/
  canId : Nat := 0
  /-- Port 3 settings for Banked (R469, R501). -/
  port3 : PortSettings := {}
  /-- STEPPING of the device record (R498). -/
  stepping : Nat := 1
  /-- GRADE of the device record (R498). -/
  gradeRec : Nat := 48
  /-- PUBKEY of the device record (R498). -/
  pubKey : List Nat := []
  /-- Factory spare map (R498). -/
  retired : List Nat := []
  /-- BANKS of the device record (R498). -/
  banks : List Nat := []
  /-- AGE0 of the device record (R478, R498). -/
  age0 : List Nat := []
  /-- The device record as it is read at SEC (R498, R516). -/
  drec : List Nat := []
deriving DecidableEq, Repr

/-- What the boot ROM reads from one billet slot: its bytes (R499), and what the sections that no rule lays out decode to (log 51). -/
structure SlotImage where
  /-- The slot's bytes from its first on (R499). -/
  raw : List Nat := []
  /-- The decoded content; fields that R498 to R501 place are taken from `raw`. -/
  content : Billet := {}
deriving DecidableEq, Repr

/-- The moment at which gPTP becomes valid, and its time then (R55). -/
structure GptpTime where
  /-- Vehicle time of the moment. -/
  at_ : Nat := 0
  /-- gPTP time at the moment. -/
  gptp : Nat := 0
deriving DecidableEq, Repr

/-- What the eMMC answers to the version read (R506): the frame's bytes that its MAC covers, in the order of JESD84-B51 (log 8). -/
structure RpmbAnswer where
  /-- It answers within the start's time (R458). -/
  inTime : Bool := true
  /-- An authentication key is programmed. -/
  keyed : Bool := true
  /-- Half-sector 0, nonce, write counter, address, block count, result code and message type: 284 bytes. -/
  frame : List Nat := []
  /-- The MAC of the frame. -/
  mac : List Nat := []
deriving DecidableEq, Repr

inductive Instr where
  -- 01 register access
  | registerWrite (brand addr width value hw : Nat)
  | rcRead (brand addr hw : Nat)
  | loWordRead (brand addr : Nat)
  -- 02 stroke, timetable, Bell line
  | strokeInEdge (at_ highNs : Nat)
  | strokeInMissing (at_ : Nat)
  | flywheelStroke (at_ : Nat)
  | computedStroke (at_ : Nat)
  | strokeInstant (at_ : Nat)
  | gptpLost (at_ : Nat)
  | holdoverExpired (at_ : Nat)
  | gptpRestored (at_ : GptpTime)
  | entryDue (at_ idx : Nat)
  | launchStart (at_ : Nat)
  | launchCopyDone (at_ : Nat)
  | launchLate (at_ idx : Nat)
  | swapReq (brand : Nat)
  | timetableWrite (brand addr value : Nat)
  | reproStroke (at_ : Nat)
  | bellEdge (at_ highNs : Nat)
  | bellMissing (at_ : Nat)
  | calWindowOpen (at_ : Nat)
  | calPulse (at_ highNs : Nat)
  | targetFix (delays : List Nat)
  | strokeMessageLate (at_ : Nat)
  | planDue (at_ : Nat)
  -- 03 world and heats
  | worldSeal (at_ : Nat)
  | sealMaxExpired (at_ : Nat)
  | sealComplete (at_ : Nat)
  | stagingCopyDone
  | ringWpWrite (brand ring value : Nat)
  | networkDatagram (ring : Nat) (bytes : List Nat)
  | pad (ring : Nat)
  | primSet (ring : Nat)
  | primDel (ring : Nat)
  | agentSet (ring : Nat)
  | agentDel (ring : Nat)
  | ego (ring : Nat)
  | heatClear (ring : Nat)
  | sealMark (ring : Nat)
  | unknownRecord (ring : Nat)
  | repairStatic (unit : Nat)
  | buildStatic (unit : Nat)
  | buildDyn (unit : Nat)
  | crucibleDrainEnd (unit : Nat)
  -- 04 Peal
  | repair (unit : Nat)
  | build (unit : Nat)
  | pealBarrier (at_ : Nat)
  | pealSelectOfs (at_ : Nat)
  | pealEnd (at_ : Nat)
  -- 05, 06 Swage and Hammers
  | expand (unit : Nat)
  | strike (unit : Nat)
  | hammerGolden (unit : Nat)
  | strikeCut (at_ k : Nat) (done : List (Nat × Nat))
  -- 07 Tongs
  | select (unit : Nat)
  | merge (unit : Nat)
  | inboxWrite (brand slot : Nat) (line : List Nat)
  | inboxClear (brand mask : Nat)
  | gatherOffset (at_ k : Nat)
  -- 08 Quench
  | refine (unit : Nat)
  | quenchGolden (unit : Nat)
  | quenchDeadline (at_ : Nat) (phases : List (Nat × Nat × Nat))
  -- 09 Assay and plans
  | assay (unit : Nat)
  | assayGolden (unit : Nat)
  | assayLoadDone (at_ : Nat)
  | assayGridDone (at_ : Nat)
  | deltaWatchCheck
  | assayFreeze (at_ : Nat)
  | stopPlanRepeat (at_ : Nat)
  | canFrameSent (ctrl : Nat) (ok : Bool)
  -- 10 Tabor and Bellows
  | doorbell (brand queue tail : Nat)
  | cqHeadWrite (brand queue value : Nat)
  | commandAdmit (queue : Nat)
  | nop (queue : Nat)
  | bankSwap (queue : Nat)
  | taskPlace (cls : Nat)
  | gateOpen (gate : Nat)
  | engineTaskDone (cls unit : Nat)
  | completionRelease
  | flowSkip (brand flow : Nat)
  | goldenInject (brand word15 : Nat)
  | engineFence (cls unit : Nat) (sharedPart : Bool)
  | copy (unit : Nat)
  | fill (unit : Nat)
  | listPush (unit : Nat)
  | bellowsGolden (unit : Nat)
  | crucibleGolden (unit : Nat)
  | pealGolden (unit : Nat)
  | swageGolden (unit : Nat)
  | tongsGolden (unit : Nat)
  -- 11 reproducibility
  | digest (unit : Nat)
  | modeReqService (brand : Nat)
  | modeReqRepro (brand : Nat) (others : List (Nat × Nat))
  | reproEnter (at_ : Nat)
  | reproExit (at_ : Nat)
  -- 12 memory
  | anvilWriteback (line : Nat)
  | scrub (at_ bank : Nat) (assay : Bool)
  | scrubForced (bank : Nat) (assay : Bool)
  | bankRetire
  | bankCopyDone
  | bankSwitch (at_ : Nat)
  | mr4Poll (ch rank value : Nat)
  | ddrRefresh (ch : Nat)
  | patrolScrub
  | ddrSrTimeout (at_ : Nat) (inSelfRefresh : Nat)
  | ddrVerWrite (brand value : Nat)
  | subResetDdr (ch : Nat) (ok : Bool)
  | subResetEth (mac : Nat)
  | subResetPcie
  -- 13 Ubfi
  | linkTrain (link badLaneTx badLaneRx : Nat)
  | retrain (link : Nat)
  | retrainFail (at_ link : Nat)
  | syncTimeout (at_ link : Nat)
  | ubfRetrainReq (brand link : Nat)
  | skpReceive (link : Nat) (laneErrs : List Nat)
  | flitReceive (link : Nat) (frame : List Nat)
  | controlFlit (link : Nat) (payload : List Nat)
  | replayTimeout (link : Nat)
  | wr (link : Nat) (hdr : List Nat) (lines : List (List Nat))
  | wack (link : Nat) (hdr : List Nat)
  | rd (link : Nat) (hdr : List Nat)
  | rdr (link : Nat) (hdr : List Nat) (lines : List (List Nat))
  | remoteTimeout (tag : Nat)
  | stroke (at_ : Nat) (hdr : List Nat)
  | timeReq (at_ link : Nat) (hdr : List Nat)
  | timeRsp (at_ link : Nat) (hdr : List Nat)
  | cal (at_ : Nat) (hdr : List Nat)
  | mode (link : Nat) (hdr : List Nat)
  | heartbeat (link : Nat)
  | heartbeatTick (at_ : Nat)
  | linkId (link : Nat) (hdr : List Nat)
  | admitMessage (at_ : Nat) (hdr : List Nat)
  | workerAdmit (at_ node delay : Nat)
  -- 14 safety
  | goldenCompare (cmdtag : Nat)
  | thOpen (brand group : Nat) (both : Bool)
  | thStageWrite (brand addr value : Nat)
  | thClose (brand group : Nat)
  | thCommit (brand group : Nat)
  | thAbort (brand group : Nat)
  | thTimeout (group : Nat)
  | faultRecord (block code cls unit : Nat)
  | faultAccept
  | coldEscalate
  | clrFirst (brand : Nat)
  | lockstepMismatch (pair : Nat)
  | pairTakeoverDone
  -- 15 reset and start
  | clockOutOfTol (domain khz : Nat)
  | refclkLost
  | resetPinAssert (pin : Nat)
  | resetPinRelease (pin : Nat)
  | pwrGoodFall
  | pwrGoodRise
  | releaseBegin (roleStrap nodeStrap : Nat)
  | domainQualified (domain khz : Nat)
  | domainQualTimeout (domain : Nat)
  | clockFailRetry
  | journalDecide
  | billetVerify (slotA slotB : SlotImage)
  | rpmbCheck (answer : RpmbAnswer)
  | startCommit (monitorAgrees : Bool)
  | emberQuickTest (passed : List Nat) (badBanks : List Nat) (ms : Nat)
  | ddrTrained (mask : Nat)
  | ddrSweepDone
  | selfTestDone (failed : List Nat) (ages : List Nat)
  | osLoadDone (digest : List Nat)
  | appReady (brand : Nat)
  | fullService (at_ ms : Nat) (rpmbWriteOk : Bool)
  | startFail (cause : Nat)
  | startTimeout
  | bankedReport (at_ : Nat)
  | readJournal (obj : List Nat) (nonce fromSeq : Nat)
  | clearJournal (obj : List Nat) (nonce : Nat)
  | writeSlot (obj : List Nat) (nonce slot offset : Nat) (bytes : List Nat)
  | restart (obj : List Nat) (nonce : Nat)
  | wdogKick (brand value : Nat)
  | swWarmReq (brand value : Nat)
  | wdogExpire
  -- 16 wear
  | wearEval (ages : List Nat) (hotRegions : List Nat) (ce : List (Nat × Nat))
  | wearRecordWrite
  | spareReady (at_ : Nat)
  | proactiveStart (pass : Bool)
  | proactiveSwitch (at_ : Nat)
  | drainDone (e : Nat) (testPass : Bool)
  -- 17 identity
  | attestReq (brand : Nat)
  | attestDone
  | debugSubmit
  -- 18 temperature and PPS
  | sensorUpdate (at_ : Nat) (readings : List Int)
  | throttleStepApply
  | thermalTrip (region : Nat)
  | ppsEdge (at_ highNs : Nat)
  -- rows added at the table's end
  | registerRead (brand addr width : Nat)
  | memoryAccess (brand kind addr : Nat) (bytes : List Nat) (len : Nat)
  | maintenanceColdReset
  | tapInstruction (ir : Nat)
deriving DecidableEq, Repr

end Sys2Proof
end

