-- ==== Sys2Proof/Machine/Bits.lean ====
section
/-! DEFINITION. Bit fields, two's complement, little-endian bytes (R12), integer roots and the sparse maps the state is made of. -/

namespace Sys2Proof.Machine

/-- Bits [lo + w - 1 : lo] of n. -/
def bits (n lo w : Nat) : Nat := n / 2 ^ lo % 2 ^ w

/-- n with bits [lo + w - 1 : lo] replaced by the low w bits of v. -/
def setBits (n lo w v : Nat) : Nat := n - bits n lo w * 2 ^ lo + v % 2 ^ w * 2 ^ lo

/-- Bit i of n. -/
def bit (n i : Nat) : Bool := n / 2 ^ i % 2 == 1

/-- The two's complement value of the low w bits of n. -/
def sx (w n : Nat) : Int := if bit n (w - 1) then (n % 2 ^ w : Int) - 2 ^ w else (n % 2 ^ w : Int)

/-- An integer as w bits of two's complement. -/
def toU (w : Nat) (i : Int) : Nat := (i % (2 ^ w : Int)).toNat

def b2n (b : Bool) : Nat := if b then 1 else 0

/-- Arithmetic shift right, rounding toward −∞ (R151). -/
def ashr (i : Int) (n : Nat) : Int := Int.fdiv i (2 ^ n)

def clampI (lo hi v : Int) : Int := if v < lo then lo else if hi < v then hi else v

/-- k bytes, least significant first (R12). -/
def leBytes : Nat → Nat → List Nat
  | 0, _ => []
  | k + 1, n => n % 256 :: leBytes k (n / 256)

def leNat : List Nat → Nat
  | [] => 0
  | b :: t => b % 256 + 256 * leNat t

/-- The little-endian field of len bytes at offset off. -/
def fldAt (bs : List Nat) (off len : Nat) : Nat := leNat ((bs.drop off).take len)

/-- All bytes of [off, off + len) are zero. -/
def zeroAt (bs : List Nat) (off len : Nat) : Bool := ((bs.drop off).take len).all (· == 0)

/-- Lay the fields (offset, length, value) over n zero bytes. -/
def layout (n : Nat) (fs : List (Nat × Nat × Nat)) : List Nat :=
  leBytes n (fs.foldl (fun a f => a + f.2.2 % 256 ^ f.2.1 * 256 ^ f.1) 0)

def sqrtGo : Nat → Nat → Nat → Nat
  | 0, _, r => r
  | k + 1, n, r => let c := r + 2 ^ k; sqrtGo k n (if c * c ≤ n then c else r)

/-- floor(√n). -/
def isqrt (n : Nat) : Nat := sqrtGo (n.log2 / 2 + 1) n 0

/-- ceil(√n). -/
def csqrt (n : Nat) : Nat := let r := isqrt n; if r * r = n then r else r + 1

def cdiv (a b : Nat) : Nat := (a + b - 1) / b

/-- Read a sparse map whose unlisted entries have the value d a. -/
def sget {α : Type} (d : Nat → α) : List (Nat × α) → Nat → α
  | [], a => d a
  | (b, w) :: t, a => if a = b then w else sget d t a

/-- Write a sparse map, keeping its keys strictly rising and no entry equal to the unlisted value. -/
def sset {α : Type} [DecidableEq α] (d : Nat → α) : List (Nat × α) → Nat → α → List (Nat × α)
  | [], a, v => if v = d a then [] else [(a, v)]
  | (b, w) :: t, a, v =>
    if a < b then (if v = d a then (b, w) :: t else (a, v) :: (b, w) :: t)
    else if a = b then (if v = d a then t else (a, v) :: t)
    else (b, w) :: sset d t a v

/-- The keys from `lo` up are strictly rising and no entry equals the unlisted value: the one canonical form. -/
def swfFrom {α : Type} [DecidableEq α] (d : Nat → α) : Nat → List (Nat × α) → Bool
  | _, [] => true
  | lo, (b, w) :: t => decide (lo ≤ b) && decide (w ≠ d b) && swfFrom d (b + 1) t

def swf {α : Type} [DecidableEq α] (d : Nat → α) (m : List (Nat × α)) : Bool := swfFrom d 0 m

/-- The map with default 0. -/
def nget (m : List (Nat × Nat)) (a : Nat) : Nat := sget (fun _ => 0) m a
def nset (m : List (Nat × Nat)) (a v : Nat) : List (Nat × Nat) := sset (fun _ => 0) m a v

/-- Insert into a list without repeats. -/
def insertNew (l : List Nat) (a : Nat) : List Nat := if l.contains a then l else l ++ [a]

/-- Replace entry i of a list. -/
def setAt {α : Type} (l : List α) (i : Nat) (v : α) : List α := l.set i v

/-- The bits set in the low n bits of m, ascending. -/
def bitList (n m : Nat) : List Nat := (List.range n).filter (bit m)

end Sys2Proof.Machine
end

