-- ==== Sys2Proof/Machine/Sm3.lean ====
section
/-! DEFINITION. SM3, the hash of R428, R495, R499 and R500 (GB/T 32905; the spec names it and does not restate it: PRESUMED, log 8). -/

namespace Sys2Proof.Machine

def m32 (n : Nat) : Nat := n % 2 ^ 32
def rol32 (x n : Nat) : Nat := m32 (x * 2 ^ (n % 32)) + m32 x / 2 ^ (32 - n % 32) % 2 ^ (n % 32)
def sm3P0 (x : Nat) : Nat := Nat.xor x (Nat.xor (rol32 x 9) (rol32 x 17))
def sm3P1 (x : Nat) : Nat := Nat.xor x (Nat.xor (rol32 x 15) (rol32 x 23))

/-- The message schedule, newest word first: from 16 words to 68. -/
def sm3Expand : Nat → List Nat → List Nat
  | 0, w => w
  | k + 1, w =>
    let a := Nat.xor (w.getD 15 0) (Nat.xor (w.getD 8 0) (rol32 (w.getD 2 0) 15))
    let n := Nat.xor (sm3P1 a) (Nat.xor (rol32 (w.getD 12 0) 7) (w.getD 5 0))
    sm3Expand k (n :: w)

def sm3FF (j x y z : Nat) : Nat :=
  if j < 16 then Nat.xor x (Nat.xor y z) else Nat.lor (Nat.land x y) (Nat.lor (Nat.land x z) (Nat.land y z))
def sm3GG (j x y z : Nat) : Nat :=
  if j < 16 then Nat.xor x (Nat.xor y z) else Nat.lor (Nat.land x y) (Nat.land (Nat.xor x 0xFFFFFFFF) z)

/-- Round j over the eight chaining words. -/
def sm3Round (w : List Nat) (v : List Nat) (j : Nat) : List Nat :=
  let a := v.getD 0 0; let b := v.getD 1 0; let c := v.getD 2 0; let d := v.getD 3 0
  let e := v.getD 4 0; let f := v.getD 5 0; let g := v.getD 6 0; let h := v.getD 7 0
  let t := if j < 16 then 0x79CC4519 else 0x7A879D8A
  let ss1 := rol32 (m32 (rol32 a 12 + e + rol32 t (j % 32))) 7
  let ss2 := Nat.xor ss1 (rol32 a 12)
  let tt1 := m32 (sm3FF j a b c + d + ss2 + Nat.xor (w.getD j 0) (w.getD (j + 4) 0))
  let tt2 := m32 (sm3GG j e f g + h + ss1 + w.getD j 0)
  [tt1, a, rol32 b 9, c, sm3P0 tt2, e, rol32 f 19, g]

def beWord (bs : List Nat) : Nat := bs.foldl (fun a b => a * 256 + b % 256) 0

def words16 : Nat → List Nat → List Nat
  | 0, _ => []
  | k + 1, bs => beWord (bs.take 4) :: words16 k (bs.drop 4)

def sm3Block (v : List Nat) (blk : List Nat) : List Nat :=
  let w := (sm3Expand 52 (words16 16 blk).reverse).reverse
  List.zipWith Nat.xor v ((List.range 64).foldl (sm3Round w) v)

def sm3Blocks : Nat → List Nat → List Nat → List Nat
  | 0, v, _ => v
  | k + 1, v, bs => sm3Blocks k (sm3Block v (bs.take 64)) (bs.drop 64)

def beBytes : Nat → Nat → List Nat
  | 0, _ => []
  | k + 1, n => n / 256 ^ k % 256 :: beBytes k n

/-- The 32-byte SM3 digest. -/
def sm3 (bs : List Nat) : List Nat :=
  let n := bs.length
  let padded := bs ++ [128] ++ List.replicate ((119 - n % 64) % 64) 0 ++ beBytes 8 (n * 8)
  let v := sm3Blocks (padded.length / 64)
    [0x7380166F, 0x4914B2B9, 0x172442D7, 0xDA8A0600, 0xA96F30BC, 0x163138AA, 0xE38DEE4D, 0xB0FB0E4E] padded
  v.flatMap (beBytes 4)

end Sys2Proof.Machine
end

