-- ==== Sys2Proof/Machine/Sha256.lean ====
section
/-! DEFINITION. SHA-256 and the HMAC construction (R493: HMAC-SHA-256 of the RPMB, HMAC-SM3 of the wear record; FIPS 180-4 and RFC 2104, which
the spec names and does not restate: PRESUMED, log 8). -/

namespace Sys2Proof.Machine

def shaK : List Nat :=
  [0x428A2F98, 0x71374491, 0xB5C0FBCF, 0xE9B5DBA5, 0x3956C25B, 0x59F111F1, 0x923F82A4, 0xAB1C5ED5,
   0xD807AA98, 0x12835B01, 0x243185BE, 0x550C7DC3, 0x72BE5D74, 0x80DEB1FE, 0x9BDC06A7, 0xC19BF174,
   0xE49B69C1, 0xEFBE4786, 0x0FC19DC6, 0x240CA1CC, 0x2DE92C6F, 0x4A7484AA, 0x5CB0A9DC, 0x76F988DA,
   0x983E5152, 0xA831C66D, 0xB00327C8, 0xBF597FC7, 0xC6E00BF3, 0xD5A79147, 0x06CA6351, 0x14292967] ++
  [0x27B70A85, 0x2E1B2138, 0x4D2C6DFC, 0x53380D13, 0x650A7354, 0x766A0ABB, 0x81C2C92E, 0x92722C85,
   0xA2BFE8A1, 0xA81A664B, 0xC24B8B70, 0xC76C51A3, 0xD192E819, 0xD6990624, 0xF40E3585, 0x106AA070,
   0x19A4C116, 0x1E376C08, 0x2748774C, 0x34B0BCB5, 0x391C0CB3, 0x4ED8AA4A, 0x5B9CCA4F, 0x682E6FF3,
   0x748F82EE, 0x78A5636F, 0x84C87814, 0x8CC70208, 0x90BEFFFA, 0xA4506CEB, 0xBEF9A3F7, 0xC67178F2]

def ror32 (x n : Nat) : Nat := rol32 x (32 - n)
def shaS (a b c x : Nat) : Nat := Nat.xor (ror32 x a) (Nat.xor (ror32 x b) (ror32 x c))

/-- The message schedule, newest word first: from 16 words to 64. -/
def shaExpand : Nat → List Nat → List Nat
  | 0, w => w
  | k + 1, w =>
    let x := w.getD 14 0
    let y := w.getD 1 0
    let s0 := Nat.xor (ror32 x 7) (Nat.xor (ror32 x 18) (x / 8))
    let s1 := Nat.xor (ror32 y 17) (Nat.xor (ror32 y 19) (y / 1024))
    shaExpand k (m32 (w.getD 15 0 + s0 + w.getD 6 0 + s1) :: w)

/-- A round over the eight working words with its constant and message word. -/
def shaRound (v : List Nat) (kw : Nat × Nat) : List Nat :=
  let a := v.getD 0 0; let b := v.getD 1 0; let c := v.getD 2 0; let d := v.getD 3 0
  let e := v.getD 4 0; let f := v.getD 5 0; let g := v.getD 6 0; let h := v.getD 7 0
  let ch := Nat.xor (Nat.land e f) (Nat.land (Nat.xor e 0xFFFFFFFF) g)
  let maj := Nat.xor (Nat.land a b) (Nat.xor (Nat.land a c) (Nat.land b c))
  let t := h + shaS 6 11 25 e + ch + kw.1 + kw.2
  [m32 (t + shaS 2 13 22 a + maj), a, b, c, m32 (d + t), e, f, g]

def shaBlock (v : List Nat) (blk : List Nat) : List Nat :=
  let w := (shaExpand 48 (words16 16 blk).reverse).reverse
  List.zipWith (fun x y => m32 (x + y)) v ((List.zip shaK w).foldl shaRound v)

def shaBlocks : Nat → List Nat → List Nat → List Nat
  | 0, v, _ => v
  | k + 1, v, bs => shaBlocks k (shaBlock v (bs.take 64)) (bs.drop 64)

/-- The 32-byte SHA-256 digest. -/
def sha256 (bs : List Nat) : List Nat :=
  let n := bs.length
  let padded := bs ++ [128] ++ List.replicate ((119 - n % 64) % 64) 0 ++ beBytes 8 (n * 8)
  (shaBlocks (padded.length / 64)
    [0x6A09E667, 0xBB67AE85, 0x3C6EF372, 0xA54FF53A, 0x510E527F, 0x9B05688C, 0x1F83D9AB, 0x5BE0CD19] padded).flatMap (beBytes 4)

/-- HMAC under a key of at most 64 bytes, over a hash with blocks of 64 bytes. -/
def hmac (hash : List Nat → List Nat) (key msg : List Nat) : List Nat :=
  let k := key ++ List.replicate (64 - key.length) 0
  hash (k.map (Nat.xor · 0x5C) ++ hash (k.map (Nat.xor · 0x36) ++ msg))

end Sys2Proof.Machine
end

