-- ==== Sys2Proof/Machine/Sm2.lean ====
section
/-! DEFINITION. SM2 over its prime curve: public keys, signatures, decryption and the key derivation function (R493, R495 to R497, R502; GB/T
32918, which the spec names and does not restate: PRESUMED, log 8). -/

namespace Sys2Proof.Machine

/- ### The curve (GB/T 32918.5) -/

def sm2P : Nat := 0xFFFFFFFEFFFFFFFFFFFFFFFFFFFFFFFFFFFFFFFF00000000FFFFFFFFFFFFFFFF
def sm2A : Nat := sm2P - 3
def sm2B : Nat := 0x28E9FA9E9D9F5E344D5A9E4BCF6509A7F39789F515AB8F92DDBCBD414D940E93
def sm2N : Nat := 0xFFFFFFFEFFFFFFFFFFFFFFFFFFFFFFFF7203DF6B21C6052B53BBF40939D54123
def sm2G : Nat × Nat :=
  (0x32C4AE2C1F1981195F9904466A39C9948FE30BBFF2660BE1715A4589334C74C7, 0xBC3736A2F4F6779C59BDCEE36B692153D0A9877CC62A474002DF32E52139F0A0)

/-- Continue with a number once it is evaluated. -/
def withNat {α : Type} (n : Nat) (f : Nat → α) : α :=
  match n with
  | 0 => f 0
  | k + 1 => f (k + 1)

def fMul (x y : Nat) : Nat := x * y % sm2P
def fSub (x y : Nat) : Nat := (x + (sm2P - y % sm2P)) % sm2P

/-- A power modulo m, of an exponent below 2^256. -/
def powMod (m x e : Nat) : Nat :=
  (List.range 256).foldl (fun r i => withNat (if e / 2 ^ (255 - i) % 2 = 1 then r * r % m * x % m else r * r % m) id) 1

/-- The inverse modulo a prime. -/
def invMod (m x : Nat) : Nat := powMod m (x % m) (m - 2)

/-- A point in Jacobian coordinates: x = X/Z², y = Y/Z³; Z = 0 at infinity. -/
structure JPoint where
  x : Nat
  y : Nat
  z : Nat
deriving DecidableEq, Repr

def mkPoint (x y z : Nat) : JPoint := withNat x (fun x => withNat y (fun y => withNat z (fun z => ⟨x, y, z⟩)))

def infinity : JPoint := ⟨1, 1, 0⟩

def double (q : JPoint) : JPoint :=
  withNat (fMul q.y q.y) fun yy =>
  withNat (fMul q.z q.z) fun zz =>
  withNat (4 * fMul q.x yy % sm2P) fun s =>
  withNat (3 * fMul (fSub q.x zz) (q.x + zz) % sm2P) fun m =>
  withNat (fSub (fMul m m) (2 * s)) fun x =>
  mkPoint x (fSub (fMul m (fSub s x)) (8 * fMul yy yy)) (2 * fMul q.y q.z % sm2P)

def addPoints (q r : JPoint) : JPoint :=
  if q.z = 0 then r
  else if r.z = 0 then q
  else
    withNat (fMul q.z q.z) fun zz1 =>
    withNat (fMul r.z r.z) fun zz2 =>
    withNat (fMul q.x zz2) fun u1 =>
    withNat (fSub (fMul r.x zz1) u1) fun h =>
    withNat (fMul q.y (fMul zz2 r.z)) fun s1 =>
    withNat (fSub (fMul r.y (fMul zz1 q.z)) s1) fun v =>
    if h = 0 then (if v = 0 then double q else infinity)
    else
      withNat (fMul h h) fun hh =>
      withNat (fMul h hh) fun hhh =>
      withNat (fMul u1 hh) fun w =>
      withNat (fSub (fMul v v) (hhh + 2 * w)) fun x =>
      mkPoint x (fSub (fMul v (fSub w x)) (fMul s1 hhh)) (fMul (fMul q.z r.z) h)

/-- k times a point, k below 2^256. -/
def timesPoint (k : Nat) (q : Nat × Nat) : JPoint :=
  (List.range 256).foldl (fun r i => if k / 2 ^ (255 - i) % 2 = 1 then addPoints (double r) ⟨q.1, q.2, 1⟩ else double r) infinity

/-- Affine coordinates. -/
def affine (q : JPoint) : Nat × Nat :=
  withNat (invMod sm2P q.z) fun i => withNat (fMul i i) fun ii => (fMul q.x ii, fMul q.y (fMul ii i))

def onCurve (q : Nat × Nat) : Bool :=
  decide (q.1 < sm2P) && decide (q.2 < sm2P) && fMul q.2 q.2 == (fMul q.1 (fMul q.1 q.1) + fMul sm2A q.1 + sm2B) % sm2P

/-- A point's 64 bytes, x then y, and the point of 64 bytes. -/
def pointBytes (q : Nat × Nat) : List Nat := beBytes 32 q.1 ++ beBytes 32 q.2
def bytesPoint (bs : List Nat) : Nat × Nat := (beWord (bs.take 32), beWord ((bs.drop 32).take 32))

/-- The public key of a secret. -/
def sm2Public (d : Nat) : List Nat := pointBytes (affine (timesPoint d sm2G))

/- ### Signatures (GB/T 32918.2; the distinguishing identifier is "HJZS", R497) -/

/-- The digest e of a message under a signer's key. -/
def sm2Digest (key msg : List Nat) : Nat :=
  let za := sm3 ([0, 32, 0x48, 0x4A, 0x5A, 0x53] ++ beBytes 32 sm2A ++ beBytes 32 sm2B ++ pointBytes sm2G ++ key)
  beWord (sm3 (za ++ msg))

/-- A signature (r, s) verifies under a public key. -/
def sm2Verify (key msg sig : List Nat) : Bool :=
  let r := beWord (sig.take 32)
  let s := beWord ((sig.drop 32).take 32)
  let t := (r + s) % sm2N
  let q := bytesPoint key
  decide (1 ≤ r) && decide (r < sm2N) && decide (1 ≤ s) && decide (s < sm2N) && decide (t ≠ 0) && onCurve q &&
    (let p := addPoints (timesPoint s sm2G) (timesPoint t q)
     p.z != 0 && (sm2Digest key msg + (affine p).1) % sm2N == r)

/-- The signature with secret d and the random number k. -/
def sm2Sign (d k : Nat) (msg : List Nat) : List Nat :=
  let r := (sm2Digest (sm2Public d) msg + (affine (timesPoint k sm2G)).1) % sm2N
  let s := invMod sm2N (1 + d) * ((k + (sm2N - r * d % sm2N)) % sm2N) % sm2N
  beBytes 32 r ++ beBytes 32 s

/- ### Key derivation and decryption (GB/T 32918.4) -/

/-- n bytes derived from z. -/
def kdf (z : List Nat) (n : Nat) : List Nat := ((List.range ((n + 31) / 32)).flatMap (fun i => sm3 (z ++ beBytes 4 (i + 1)))).take n

/-- The plaintext of C1 ‖ C3 ‖ C2 with secret d; none when C1 is no point of the curve, the key stream is all zero or the C3 check fails. -/
def sm2Decrypt (d : Nat) (c : List Nat) : Option (List Nat) :=
  let c1 := bytesPoint (c.take 64)
  let c3 := (c.drop 64).take 32
  let c2 := c.drop 96
  let p := pointBytes (affine (timesPoint d c1))
  let stream := kdf p c2.length
  let key := List.zipWith Nat.xor c2 stream
  if onCurve c1 ∧ stream.any (· != 0) ∧ sm3 (p.take 32 ++ key ++ p.drop 32) = c3 then some key else none

end Sys2Proof.Machine
end

