-- ==== Sys2Proof/Config.lean ====
section
/-! DEFINITION. What the spec leaves open: opaque constants, so that a statement about them holds for every value
(notes/assumptions/2.md and the entries each one names). None has a body. -/

namespace Sys2Proof.Config

/-- A fresh value the spec leaves open, by the model's counter `free` (log 2): `DBG.NONCE` (R511), nonces (R470, R506), the
random number of a signature (R470, R513). -/
opaque freeValue : Nat → Nat

/-- Which code within the guarantee of R103 or R105 a field cell takes; a function of the shapes near the cell (log 5). -/
opaque fieldPick : List Int → Nat

/-- A status bit that engine timing alone decides, by register and moment, and stall cycles by engine, start and end (log 147). -/
opaque busyBit : Nat → Nat → Nat
opaque stallCycles : Nat → Nat → Nat → Nat

/-- Where in its bounds the depth inside a union of shapes is taken (R103; log 5). -/
opaque unionDepth : List Int → Nat

/-- What an engine of the Crucible or the Peal takes for a byte of a line whose read failed (log 143). -/
opaque unreadByte : Nat → Nat → Nat

/-- Slack of the narrow-phase bounds below and above the exact distance (R176 fixes the direction, not the amount; log 6). -/
opaque narrowLow : List Int → Nat
opaque narrowHigh : List Int → Nat

/-- Which point within 1 unit the Assay's CORDIC yields, and how an exact test falls within the model's own precision (R263; log 7). -/
opaque assayPick : List Int → Nat

/-- What temporary k and accumulator k of a Quench system hold when its n-th section run begins: the rules reset the matrix and the vector
alone (R231; log 119). -/
opaque quenchTemp : Nat → Nat → BitVec 32
opaque quenchAcc : Nat → Nat → BitVec 64

/-- Byte i of what a spilling Tongs task leaves in its spill share, by the counter of free values (R218; log 154). -/
opaque spillByte : Nat → Nat → Nat

/-- The logical Hammers of a node's worker (R276, R327; log 35). -/
opaque workerHammers : Nat → Nat

/-- Word j of the solution entry of a Quench system that chose no iterate, by its z0 (R241, R248; log 120). -/
opaque quenchUnchosen : List Int → Nat → BitVec 32

/-- How far the counter is slewed toward gPTP time between two moments, within 100 ppm (R55; log 123). -/
opaque slewStep : Nat → Nat → Nat

/-- The engine clock's phase, in fifths of a nanosecond (R58; log 124). -/
opaque clockPhase : Nat

/-- Where within ±2 ns a BELL_OUT pulse of a moment starts, and where within its tolerance its width lies (R65, R68, R70; log 125). -/
opaque bellDelay : Nat → Nat
opaque bellWidth : Nat → Nat

/-- What `BEL.SKEW_LAST` shows of a difference outside its 16 bits (R71, R76; log 126). -/
opaque skewWord : Int → Nat

/-- Bytes of the vendor root public key that the boot ROM holds (R496; log 8). -/
opaque rootByte : Nat → Nat

/-- Bytes of the secret that the PUF and the helper data give (R493; log 8). -/
opaque pufByte : Nat → Nat

/-- The vendor root public key, x then y (R496). -/
def vendorRoot : List Nat := (List.range 64).map (fun i => rootByte i % 256)

/-- The 256-bit secret S (R493). -/
def pufSecret : List Nat := (List.range 32).map (fun i => pufByte i % 256)

/-- The stepping wired into the die (R498; log 8). -/
opaque stepping : Nat

end Sys2Proof.Config
end

