-- ==== Sys2Proof/Machine/State.lean ====
section
/-! DEFINITION. State: everything the spec gives the device, as plain data; the outcomes' reasons; the state after reset.
The reset state is the device right after the release sequence of a cold episode has been requested and nothing has run yet:
every register at the value its table gives (R20), nothing placed in memory, every queue empty. -/

namespace Sys2Proof.Machine

/-- No fault of the spec stops the block: a fault is a record (R431). The constructor is raised by no command. -/
inductive Fault where
  /-- Raised by nothing. Safe: it never happens. -/
  | none
deriving DecidableEq, Repr

inductive Refusal where
  /-- A command without its meaning, by its mnemonic. Safe: the run stops. -/
  | notModelled (mnemonic : String)
deriving DecidableEq, Repr

/-- A fault record (R431). -/
structure FaultRec where
  /-- Writing block (R431). -/
  block : Nat
  /-- Fault code (R431). -/
  code : Nat
  /-- Class (R431). -/
  cls : Nat
  /-- Unit (R431). -/
  unit : Nat
  /-- Stroke number (R431). -/
  stroke : Nat
  /-- Vehicle time (R431). -/
  time : Nat
deriving DecidableEq, Repr

/-- Memory: the bytes in one canonical form, the error pattern of each line that is not a clean codeword (37 symbols, R341), the lines
awaiting a write-back (R344), the DDR TAGs that differ from the sweep's (R362), and the CRC stored beside each Assay store line (R258). -/
structure Mem where
  /-- Bytes that differ from what an unlisted address reads as (0 in the Anvil and the DDR after start) (R13, R32, R349, R455). -/
  cells : List Host.Cell := []
  /-- Error pattern of each line that is no clean codeword (R341, R342). -/
  errs : List (Nat × List Nat) := []
  /-- Error pattern that the fabric adds to a line of the Anvil or the Assay store on its way to a reader's port (R344). -/
  fabErrs : List (Nat × List Nat) := []
  /-- Error patterns of the free spare banks' lines, by physical bank × 4,096 + row (R350). -/
  spareErrs : List (Nat × List Nat) := []
  /-- Lines whose corrected codeword waits for an idle cycle of its bank (R344). -/
  writeback : List Nat := []
  /-- DDR TAGs that differ from the sweep's (R362). -/
  tags : List (Nat × Nat) := []
  /-- CRCs stored beside Assay store lines that differ from the computed one (R258). -/
  crcs : List (Nat × Nat) := []
deriving DecidableEq, Repr

/-- The stroke source and the current stroke (R40 to R55). -/
structure Stk where
  /-- Stroke number (R41). -/
  no : Nat := 0
  /-- Stroke time, TAI ns (R41). -/
  time : Nat := 0
  /-- Stroke instant: stroke time + TARGET_NS (R41). -/
  inst : Nat := 0
  /-- A stroke has begun since reset (R41, R46). -/
  any : Bool := false
  /-- Number, time and instant of an accepted stroke whose instant has not come (R41, R68). -/
  awaiting : Option (Nat × Nat × Nat) := none
  /-- PLAN_DUE of this stroke has acted (R270, R279). -/
  planDone : Bool := true
  /-- Last accepted STROKE_IN edge or stroke message (R47, R49). -/
  lastAccepted : Option Nat := none
  /-- Number and time of the last stroke, from which the next number follows (R42). -/
  lastStroke : Option (Nat × Nat) := none
  /-- Pulses ignored in the current stroke (R48, R49). -/
  ignored : Nat := 0
  /-- STROKE_IN is marked unusable (R48, R49). -/
  unusable : Bool := false
  /-- Flywheel anchor (R52). -/
  anchor : Option Nat := none
  /-- Consecutive flywheel strokes with exactly one qualifying edge (R51). -/
  goodFly : Nat := 0
  /-- Flywheel slot of the last qualifying edge (R51). -/
  lastGood : Nat := 0
  /-- Flywheel slot that an edge has spoilt for the count (R51). -/
  flyBad : Option Nat := none
  /-- Moment at which the flywheel took over (R50, R52). -/
  changeAt : Nat := 0
  /-- GPTP is valid on port 0 or 1 (R53, R55). -/
  gptp : Bool := false
  /-- GPTP has been valid since reset (R43, R53). -/
  gptpEver : Bool := false
  /-- Moment at which holdover began (R53). -/
  holdStart : Option Nat := none
  /-- CAR 0x00B of this holdover is written (R54). -/
  holdNoted : Bool := false
  /-- Moment from which the device takes strokes (Ember or full service) (R453, R464). -/
  takeFrom : Option Nat := none
deriving DecidableEq, Repr

/-- The Carillon (R56 to R64): two banks, each with the primary's and the shadow's copy, and the launches of the stroke; REPRO_BASE and
REPRO_T0 as read at the entry, and whether a loss ends the REPRO run (R331). -/
structure Car where
  /-- Entries of timetable bank 0, primary copy (R56, R63). -/
  bank0 : List (Nat × Nat) := []
  /-- Entries of timetable bank 1, primary copy (R56, R63). -/
  bank1 : List (Nat × Nat) := []
  /-- Entries of timetable bank 0, shadow copy (R23, R63). -/
  shadow0 : List (Nat × Nat) := []
  /-- Entries of timetable bank 1, shadow copy (R23, R63). -/
  shadow1 : List (Nat × Nat) := []
  /-- Entries that came due and wait for their launch, in launch order (R58). -/
  due : List (Nat × Nat) := []
  /-- Entries launched, abandoned or disabled in this stroke (R58, R61). -/
  settled : List Nat := []
  /-- The shadow unit's own entries that came due and wait, in launch order (R23, R58). -/
  shadowDue : List (Nat × Nat) := []
  /-- The shadow unit's own settled entries (R23, R58, R61). -/
  shadowSettled : List Nat := []
  /-- The launch whose commands are being copied into a ring (R59, R60). -/
  copying : Option (Nat × Nat × Nat) := none
  /-- Lists launched in the stroke (R60, R64). -/
  launched : List (Nat × Nat) := []
  /-- REPRO_BASE and REPRO_T0 as read at the entry (R327, R329). -/
  reproFrom : Nat × Nat := (0, 0)
  /-- A loss ends the REPRO run at the next instant (R331). -/
  leaving : Bool := false
deriving DecidableEq, Repr

/-- The Bell line and its calibration (R65 to R73). -/
structure Bell where
  /-- Last accepted Bell edge (R66, R72). -/
  lastAccepted : Option Nat := none
  /-- Bell pulses ignored in the current stroke (R66). -/
  ignored : Nat := 0
  /-- BELL_IN is marked unusable (R73). -/
  unusable : Bool := false
  /-- The Bell line counts as missing and messages carry the strokes (R73). -/
  missing : Bool := false
  /-- Stroke-equivalent times of the 16 pulses from CAL messages (R68, R70). -/
  calTimes : List Nat := []
  /-- Timestamps of the 16 calibration pulses (R68, R70). -/
  calEdges : List Nat := []
  /-- Moment of this worker's admission, from which a Bell edge is missed (R67, R73). -/
  admittedAt : Nat := 0
  /-- Start and length of the announced calibration window (R70). -/
  window : Option (Nat × Nat) := none
  /-- This worker is calibrated and admitted (R68, R69). -/
  admitted : Bool := false
  /-- Last Bell edge while the line counts as missing (R73). -/
  edgeAt : Option Nat := none
  /-- Number and time from a message that came before its edge, and its arrival (R41, R68, R72). -/
  message : Option (Nat × Nat × Nat) := none
  /-- The number of this stroke is the previous one + 1, unconfirmed (R72). -/
  guessed : Bool := false
  /-- The message of this stroke is later than 100 us (R72). -/
  late : Bool := false
  /-- Number a late message gave, taken at the next stroke (R72). -/
  adopt : Option Nat := none
  /-- Edges in a row that agree with messages while the line counts as missing (R73). -/
  goodEdges : Nat := 0
  /-- The manager has fixed TARGET_NS (R69, R391). -/
  targetFixed : Bool := false
deriving DecidableEq, Repr

/-- What a task of a heat keeps of it when the next heat seals (R87, R101, R110, R130, R134). -/
structure HeatInfo where
  /-- Number of the sealed heat (R81, R87). -/
  heat : Nat := 0
  /-- Address of its image (R80, R81). -/
  img : Nat := 0
  /-- Its descriptor as sealed (R81). -/
  desc : List Nat := []
  /-- Stroke instant of its stroke (R83, R289). -/
  inst : Nat := 0
  /-- Shift of its origin against the heat before (R101). -/
  shift : Int × Int := (0, 0)
  /-- Primitives whose change it carries (R110). -/
  chg : List (Nat × List Int) := []
  /-- Static tile rows that an earlier heat left unprocessed (R110). -/
  stale : List Nat := []
  /-- The lattice selected for it, as PEL.FRAME shows it (R130, R134). -/
  frame : Nat := 0x2FF
deriving DecidableEq, Repr

/-- The intake, the staging heat and the fields' progress (R77 to R113). `chgPrim` keeps, per changed primitive, its old bounding box. -/
structure Wld where
  /-- Last sequence number seen in each ring (R93, R99). -/
  lastSeq : List (Option Nat) := [none, none]
  /-- The ring whose turn it is (R90, R92). -/
  nextRing : Nat := 0
  /-- Bytes from the network not yet written because the ring is full (R90). -/
  stalled : List (Nat × List Nat) := []
  /-- Address of the staging image (R80, R86). -/
  staging : Nat := 0
  /-- Address of the second image before the first seal (R80, R86). -/
  spareImg : Nat := 0
  /-- Triangles in the staging heat (R79). -/
  nTri : Nat := 0
  /-- Primitives present in the staging heat (R79). -/
  nPrim : Nat := 0
  /-- Agents present in the staging heat (R79). -/
  nAgent : Nat := 0
  /-- The staging heat holds an ego record (R94). -/
  hasEgo : Bool := false
  /-- Primitives changed since the last seal, with their old boxes (R110). -/
  chgPrim : List (Nat × List Int) := []
  /-- Agents changed since the last seal (R86). -/
  chgAgent : List Nat := []
  /-- Primitives whose vertices compaction moved (R80). -/
  moved : List Nat := []
  /-- Primitives whose change the sealed heat carries (R110). -/
  sealedChg : List (Nat × List Int) := []
  /-- Primitives the new staging image still lacks (R86). -/
  copyPrim : List Nat := []
  /-- Agents the new staging image still lacks (R86). -/
  copyAgent : List Nat := []
  /-- A HEAT_CLEAR came in this heat (R94, R110). -/
  cleared : Bool := false
  /-- The copy into the new staging image is running (R86). -/
  copying : Bool := false
  /-- The seal offset has come and the seal waits for its cut (R83, R85). -/
  sealPending : Bool := false
  /-- Stroke whose seal has been requested (R83). -/
  sealedFor : Option Nat := none
  /-- Write pointers at the seal offset: the records before them belong to this heat (R83, R84). -/
  cut : Option (Nat × Nat) := none
  /-- Moment of the seal request (R83, R84). -/
  sealTime : Nat := 0
  /-- Stroke number for the descriptor (R81). -/
  sealNo : Nat := 0
  /-- Stroke time for the descriptor (R81). -/
  sealStroke : Nat := 0
  /-- Stroke instant of the sealed heat's stroke, from which LOAD_NS counts (R83, R289). -/
  heatInst : Nat := 0
  /-- HLM log pointer at the seal: the plan's hallmark counts from it (R276, R335). -/
  hlmSeal : Nat := 0
  /-- REPRO: the intake has met the mark of the pending seal (R85). -/
  markReached : Bool := false
  /-- Shift of the origin at the last seal (R101). -/
  shift : Int × Int := (0, 0)
  /-- Static tile rows processed for the sealed heat (R109). -/
  rowsDone : List Nat := []
  /-- Dynamic slices built for the sealed heat (R109). -/
  slicesDone : List Nat := []
  /-- Rows that an earlier heat left unprocessed (R110). -/
  staleRows : List Nat := []
  /-- The next heat rewrites every tile (R110, R464). -/
  staticFull : Bool := false
  /-- Frames the MAC dropped because its receive buffer was full (R91). -/
  macDropped : Nat := 0
  /-- Heats sealed before that a task still holds (R87). -/
  past : List HeatInfo := []
deriving DecidableEq, Repr

/-- The Peal (R119 to R138). -/
structure Peal where
  /-- Heat of the lattice under way (R127, R138). -/
  heat : Nat := 0
  /-- HEAT, goal base, count and NPART the first part of the heat fixed (R138). -/
  fixed : Option (Nat × Nat × Nat × Nat) := none
  /-- Parts placed for the heat (R138). -/
  parts : List Nat := []
  /-- Lattice buffer under construction (R119, R130). -/
  buf : Nat := 0
  /-- This lattice is built from nothing (R129). -/
  full : Bool := true
  /-- Parts that have started the lattice (R138). -/
  arrived : List Nat := []
  /-- None, raise, repair, relax (R127, R129). -/
  phase : Nat := 0
  /-- Open set (R127, R129). -/
  opens : List Nat := []
  /-- Affected states of a repair (R129). -/
  affected : List Nat := []
  /-- States that a repair opens again (R129). -/
  reopen : List Nat := []
  /-- Lower bound of the current band (R127). -/
  lo : Nat := 0
  /-- Upper bound of the current band (R127). -/
  hi : Nat := 0
  /-- Goal-set hallmark of the lattice in buffer 0 (R122, R129). -/
  goalHm0 : Nat := 0
  /-- Goal-set hallmark of the lattice in buffer 1 (R122, R129). -/
  goalHm1 : Nat := 0
  /-- Parts that completed with status 0 (R130). -/
  doneParts : Nat := 0
  /-- Parts that completed with another status (R130, R138). -/
  failedParts : Nat := 0
deriving DecidableEq, Repr

/-- Where a task is on its way (R300, R301, R308). -/
inductive Where where
  | ready
  | prefetch (e : Nat)
  | running (e : Nat)
  | finished
deriving DecidableEq, Repr

/-- One entry of the Tabor's task table: the command's 64 bytes and what the Tabor keeps of it (R290, R298 to R312). `slots` holds the
inbox slots that were full when a MERGE was placed (R213). -/
structure Task where
  /-- The Tabor's own name of the entry (R298). -/
  id : Nat
  /-- Queue it came from (R289). -/
  queue : Nat
  /-- Its position in the command ring (R298, R308). -/
  num : Nat
  /-- The command (R290). -/
  cmd : List Nat
  /-- Effective priority (R292). -/
  pri : Nat
  /-- Ready, in an engine's prefetch slot, running, finished (R300, R301). -/
  loc : Where := .ready
  /-- Its outputs are written (R308). -/
  ran : Bool := false
  /-- Completion status (R308). -/
  status : Nat := 0
  /-- The heat it was given at placement (R87). -/
  heat : Nat := 0
  /-- It was dispatched again after its unit left (R482, R483). -/
  redisp : Bool := false
  /-- Its hallmark (R308). -/
  hm : Nat := 0
  /-- Logical index it runs on (R302, R308). -/
  lunit : Nat := 0
  /-- Physical unit it runs on (R302, R308). -/
  punit : Nat := 0
  /-- Its REPRO admission count, which fixes its unit (R303). -/
  pin : Nat := 0
  /-- It holds a place in an ordered flow (R310). -/
  inFlow : Bool := false
  /-- Its command line was unreadable or its header bad (R291, R298). -/
  unread : Bool := false
  /-- The Swage bound to this Hammer task (R304). -/
  swage : Option Nat := none
  /-- Moment of admission (R298, R315). -/
  admitted : Nat := 0
  /-- Moment of start (R301, R315). -/
  started : Nat := 0
  /-- It counts as a running task of its engine (R301, R315). -/
  counted : Bool := false
  /-- Inbox slots that were full when a MERGE was placed (R213). -/
  slots : Nat := 0
deriving DecidableEq, Repr

/-- The Tabor's state, of which it keeps two copies (R313). -/
structure Tabor where
  /-- The task table, in admission order (R298). -/
  tasks : List Task := []
  /-- Next entry name (R298). -/
  nextId : Nat := 0
  /-- NEXT of each ordered flow (R310). -/
  flows : List (Nat × Nat) := []
  /-- Last_key + 1 of each class and logical index (R301). -/
  lastKey : List (Nat × Nat) := []
  /-- REPRO admission count of each class (R303). -/
  pinCount : List (Nat × Nat) := []
deriving DecidableEq, Repr

/-- Bookkeeping beside the two copies: injected golden command (R294), header faults of the stroke (R291), gates whose opening
was posted for the current heat (R300). -/
structure TabAux where
  /-- The command injected through GINJ (R294, R320). -/
  inject : Option (Nat × List Nat) := none
  /-- Queues whose header fault of this stroke is written (R291). -/
  badHdr : List Nat := []
  /-- Queue whose turn at admission comes first (R298). -/
  turn : Nat := 0
  /-- Completion interrupts raised (R308). -/
  evts : List (Nat × Nat × Nat) := []
  /-- Golden tasks waiting for GINJ (R484). -/
  golds : List (Nat × Nat) := []
  /-- Golden tasks of this stroke that passed (R415). -/
  goldDone : List Nat := []
  /-- Gates posted open since the stroke began (R300). -/
  gates : List Nat := []
deriving DecidableEq, Repr

/-- The Assay's verdict on one plan (R264). -/
structure Verdict where
  /-- Candidate's index (R263, R264). -/
  gidx : Nat
  /-- Verdict of the re-check (R264). -/
  result : Nat
  /-- First conflicting pose (R264). -/
  pose : Nat := 0
  /-- Conflicting footprint sphere (R264). -/
  sphere : Nat := 0
  /-- Conflicting entity (R264). -/
  entity : Nat := 0
  /-- The conflict is with a hypothesis (R264). -/
  hyp : Bool := false
deriving DecidableEq, Repr

/-- The Assay, the cascade and the plan (R257 to R284). -/
structure Asy where
  /-- The load of the sealed heat runs (R86, R258). -/
  loading : Bool := false
  /-- The grid is being built (R259, R260). -/
  gridding : Bool := false
  /-- The grid overflowed (R259). -/
  ovf : Bool := false
  /-- Entries in the urgent delta (R113). -/
  nDelta : Nat := 0
  /-- The CHECK command of this stroke (R261). -/
  task : Option (List Nat) := none
  /-- Verdict on the carried plan (R265, R271). -/
  carry : Option Verdict := none
  /-- Verdicts in order (R264). -/
  verdicts : List Verdict := []
  /-- Next order entry (R265). -/
  pos : Nat := 0
  /-- Chosen order entry and its verdict (R265). -/
  chosen : Option (Nat × Nat) := none
  /-- The delta watch runs (R266). -/
  watching : Bool := false
  /-- Delta entries re-checked (R266). -/
  deltaSeen : Nat := 0
  /-- The freeze has passed (R267). -/
  frozen : Bool := false
  /-- The Assay's golden task of this stroke passed (R269, R415). -/
  goldenPass : Bool := false
  /-- Disagreements inside the window (R272). -/
  disagree : List (Nat × Nat) := []
  /-- No Assay unit serves, so the Assay is in doubt (R269, R490). -/
  noUnit : Bool := false
  /-- Flag URGENT_HIT (R278). -/
  urgentHit : Bool := false
  /-- Flag URGENT_LATE (R278). -/
  urgentLate : Bool := false
  /-- Flag DATA_ERR (R278). -/
  dataErr : Bool := false
  /-- Flag DISAGREE_SEEN (R278). -/
  disSeen : Bool := false
  /-- A disagreement with ARM set forbids a plan of this stroke (R270, R271). -/
  armedHit : Bool := false
  /-- CHECK has completed (R270). -/
  done : Bool := false
  /-- The TOPK list cannot be used (R262). -/
  orderBad : Bool := false
  /-- A unit was fenced with no spare in this stroke (R270, R418). -/
  spareOutFence : Bool := false
  /-- Flag CUT (R278). -/
  cutSeen : Bool := false
  /-- The Carillon pair differs (R23, R270). -/
  shadowBad : Bool := false
  /-- Delta entries at the freeze (R266, R278). -/
  nFrozen : Nat := 0
deriving DecidableEq, Repr

/-- A CAN FD frame with the identifier format and the bit rates it is sent with (R280). -/
structure CanFrame where
  /-- Identifier (R280). -/
  id : Nat := 0
  /-- Identifier format (R280, R289). -/
  ext : Nat := 0
  /-- Nominal bit rate (R280, R289). -/
  nbr : Nat := 2
  /-- Data bit rate (R280, R289). -/
  dbr : Nat := 1
  /-- Data (R280). -/
  data : List Nat := []
deriving DecidableEq, Repr

/-- A datagram handed to the reserved Ethernet queue: its port, its stream's addresses and its UDP payload (R276, R279). -/
structure EthOut where
  /-- Port (R279). -/
  port : Nat := 0
  /-- Addresses, ports, VLAN ID and priority (R276). -/
  net : PlanStream := {}
  /-- UDP payload (R276). -/
  payload : List Nat := []
deriving DecidableEq, Repr

/-- The fallback pair's own copy of what it needs of the billet, which a warm reset leaves it: validity in µs, stop deceleration, the CAN FD
settings, the PLAN stream (R274, R276, R279, R280, R434). -/
structure PlanCfg where
  /-- VALIDITY in us (R289). -/
  validity : Nat := 0
  /-- STOP_DECEL (R274, R289). -/
  decel : Nat := 0
  /-- CAN FD identifier of the first frame (R280). -/
  canId : Nat := 0
  /-- Identifier format (R280). -/
  ext : Nat := 0
  /-- Nominal bit rate (R280). -/
  nbr : Nat := 2
  /-- Data bit rate (R280). -/
  dbr : Nat := 1
  /-- Controller 1 repeats the frames (R280). -/
  dual : Nat := 0
  /-- The PLAN stream (R276). -/
  net : PlanStream := {}
  /-- The PLAN stream is replicated on port 1 (R279). -/
  twoPorts : Bool := false
deriving DecidableEq, Repr

/-- What the monitor pair fixes at the decision: the case, the delta entries the plan was checked against, the poses of an order entry or a
carry-over as a list, the fields of the selection, the flags of the choice (R266, R270, R276, R278). -/
structure Decided where
  /-- Case of the cascade (R270). -/
  case : Nat := 0
  /-- Delta entries seen (R266, R276). -/
  seen : Nat := 0
  /-- The poses delivered (R272, R273). -/
  poses : List Nat := []
  /-- Fields of the message that the choice fixes (R276). -/
  fields : List (Nat × Nat × Nat) := []
  /-- FLAGS bits that the choice fixes (R278). -/
  flags : Nat := 0
deriving DecidableEq, Repr

/-- The plan decided for the stroke, the message built from it and the copies kept (R270 to R284). `sent` is the fallback pair's copy. -/
structure Pln where
  /-- The case of the cascade and the delta entries seen (R270). -/
  decided : Option Decided := none
  /-- The plan message of this stroke (R275, R276). -/
  message : Option (List Nat) := none
  /-- The delivered plan: what carry-over starts from (R257, R271, R273). -/
  delivered : Option (List Nat × Nat) := none
  /-- The fallback pair's copy of the last message (R274). -/
  sent : Option (List Nat) := none
  /-- CAN FD frames waiting on controller 0 (R280). -/
  canTx0 : List CanFrame := []
  /-- CAN FD frames waiting on controller 1 (R280). -/
  canTx1 : List CanFrame := []
  /-- Messages handed to the reserved Ethernet queue (R279). -/
  eth : List EthOut := []
  /-- The fallback pair's copy of its settings (R274, R434). -/
  cfg : PlanCfg := {}
  /-- SEQ of the last message since the last cold reset (R279). -/
  seq : Nat := 0
  /-- Number and time of the current stroke as the fallback pair holds them (R274, R276). -/
  stroke : Nat × Nat := (0, 0)
  /-- Stroke loss: no further strokes (R54, R270). -/
  strokeLoss : Bool := false
deriving DecidableEq, Repr

/-- The Anvil's banks (R348 to R355). -/
structure Anv where
  /-- Scrub pointer of each physical Anvil bank (R350). -/
  scrubPtr : List (Nat × Nat) := []
  /-- Scrub pointer of each Assay store bank (R350, R356). -/
  asyPtr : List (Nat × Nat) := []
  /-- Late scrubs counted as reported, per bank (R351). -/
  late : List (Nat × Nat) := []
  /-- Complete passes of each bank (R350). -/
  passes : List (Nat × Nat) := []
  /-- The pass in which a bank's count began to rise from zero, plus 1 (R352). -/
  ceFrom : List (Nat × Nat) := []
  /-- Physical banks whose retirement is due (R352). -/
  due : List Nat := []
  /-- The retirement under way: logical, old and new bank (R353). -/
  copyOf : Option (Nat × Nat × Nat) := none
  /-- Moment at which the copy ended (R353). -/
  copied : Option Nat := none
  /-- Corrected-error records written in this stroke (R344, R352, R364). -/
  ceSeen : List Nat := []
  /-- Banks for which ANV 0x005 is written (R355). -/
  noSpareSeen : List Nat := []
deriving DecidableEq, Repr

/-- The DDR controllers (R359 to R369). -/
structure Ddr where
  /-- Version of each 16 MiB region (R362). -/
  ver : List (Nat × Nat) := []
  /-- Versions at the sweep, from which unlisted TAGs follow (R362, R455). -/
  sweepVer : List (Nat × Nat) := []
  /-- Patrol pointer (R365). -/
  patrol : Nat := 0
  /-- Distinct uncorrectable lines of this stroke (R369). -/
  ueLines : List (Nat × Nat) := []
  /-- DDR records written in this stroke (R365). -/
  ceSeen : List Nat := []
  /-- Refreshes the MR4 reading asked for (R364). -/
  refreshes : Nat := 0
  /-- Active channels before the reset (R366). -/
  mapBefore : Nat := 0
  /-- The contents are not valid (R366). -/
  invalid : Bool := true
  /-- Channels whose contents a reset lost (R366, R367). -/
  contentLost : List Nat := []
deriving DecidableEq, Repr

/-- One Ubfi link (R378 to R388). -/
structure Link where
  /-- Next sequence number sent (R380). -/
  txSeq : Nat := 0
  /-- Next sequence number expected (R380). -/
  rxSeq : Nat := 0
  /-- Unacknowledged data flits (R385). -/
  replay : List (List Nat) := []
  /-- Flits sent per VC (R381, R384). -/
  sent : List Nat := [0, 0, 0, 0]
  /-- Credit the peer last reported per VC (R381, R384). -/
  credSeen : List Nat := [0, 0, 0, 0]
  /-- Receive flits freed per VC (R381). -/
  credFreed : List Nat := [0, 0, 0, 0]
  /-- Messages waiting for credit and their turn (R383, R384). -/
  waiting : List (Nat × List (List Nat)) := []
  /-- The rest of the message being sent (R383). -/
  sending : List (List Nat) := []
  /-- Receive buffer (R384). -/
  rxBuf : List (List Nat) := []
  /-- Moment of the last NAK (R385). -/
  nakAt : Option Nat := none
  /-- Replays in a row from the same flit (R386). -/
  replays : Nat := 0
  /-- The flit they start at (R386). -/
  replayFrom : Nat := 0
  /-- The replay buffer is sent again after a retrain (R385, R386). -/
  replayDue : Bool := false
  /-- Failed training attempts in a row (R388). -/
  attempts : Nat := 0
  /-- Parity errors of the last second (R387). -/
  laneErr : List (Nat × Nat) := []
  /-- Lane that the next training leaves out (R387). -/
  badLane : Option Nat := none
  /-- A bad frame is not yet replaced (R385). -/
  badPending : Bool := false
  /-- UBF 0x001 of this stroke is written (R385, R402). -/
  badSeen : Bool := false
  /-- The peer is refused and only sync messages pass (R389). -/
  refused : Bool := false
  /-- The link has been up (R386, R388). -/
  wasUp : Bool := false
  /-- The link stays down until a RETRAIN or a reset (R388). -/
  downed : Bool := false
  /-- More than one lane has failed (R387). -/
  broken : Bool := false
  /-- Moment of the last sync message (R388). -/
  syncAt : Nat := 0
  /-- Frames handed to the lanes (R380). -/
  tx : List (List Nat) := []
deriving DecidableEq, Repr

/-- An outstanding remote request of this device (R394). -/
structure Remote where
  /-- Tag of the request (R382, R394). -/
  tag : Nat
  /-- Target node (R392). -/
  node : Nat
  /-- Read or write (R382). -/
  kind : Nat
  /-- Unit that issued it (R394). -/
  unit : Nat
  /-- Task that issued it (R394). -/
  task : Nat
  /-- Its brand (R419). -/
  brand : Nat := 0
  /-- Where a read's data goes (R394). -/
  dst : Nat := 0
  /-- Bytes (R382). -/
  len : Nat := 0
  /-- The remote address (R392). -/
  src : Nat := 0
deriving DecidableEq, Repr

/-- The four links and what the device keeps of remote accesses; `heads` are LIST_PUSH headers that wait for their entries (R316). -/
structure Ubf where
  /-- The links (R374, R376). -/
  links : List Link := [{}, {}, {}, {}]
  /-- Outstanding remote requests of this device (R394). -/
  pending : List Remote := []
  /-- LIST_PUSH header lines that wait for their entries' acknowledgements (R316, R396). -/
  heads : List (Nat × Nat × List Nat) := []
  /-- Next tag (R382). -/
  nextTag : Nat := 0
  /-- Inbox slots marked lost (R397). -/
  lostSlots : Nat := 0
  /-- Lost nodes (R398). -/
  lost : List Nat := []
  /-- The upstream link went down (R400). -/
  orphan : Bool := false
  /-- Send time of the TIME_REQ under way (R395). -/
  sentAt : Nat := 0
  /-- Propagation measurements of the eight exchanges (R68, R395). -/
  xfers : List Nat := []
  /-- Workers that report they are drained (R329, R395). -/
  ready : List Nat := []
  /-- This worker has reported that it is drained (R329). -/
  told : Bool := false
  /-- The manager has set the next stroke instant as the change to REPRO mode (R329). -/
  reproSet : Bool := false
deriving DecidableEq, Repr

/-- Two-hand groups (R425 to R429): the staged words of the open groups and the committer's digest words. -/
structure Fwl where
  /-- Staging copies of the open groups (R425, R427). -/
  staged : List (Nat × Nat × Nat) := []
  /-- Digest words the committer wrote (R427). -/
  digest : List (Nat × Nat × Nat) := []
  /-- A committed map change that waits for the next instant (R486). -/
  mapPending : Option (List (Nat × Nat)) := none
deriving DecidableEq, Repr

/-- The fault collector (R432 to R438). -/
structure Flt where
  /-- Collector FIFO (R432). -/
  fifo : List FaultRec := []
  /-- First-fault area of the log (R432). -/
  first : List FaultRec := []
  /-- Ring area of the log (R432). -/
  ring : List (Nat × FaultRec) := []
  /-- A WARM reaction is pending (R434). -/
  warmPending : Bool := false
  /-- Moment of the pending WARM (R434). -/
  warmSince : Nat := 0
  /-- A COLD reaction is pending (R434). -/
  coldPending : Bool := false
  /-- Cause bits for the warm reset (R434, R474). -/
  warmCauses : Nat := 0
  /-- Cause bits for the cold reset (R434, R474). -/
  coldCauses : Nat := 0
  /-- Stop plans repeat until a reset (R434). -/
  stopRepeat : Bool := false
  /-- Service interrupt (R434). -/
  serviceIrq : Bool := false
  /-- Physical pair of the monitor and of the fallback role (R36, R438). -/
  roles : List (Nat × Nat) := [(0, 0), (1, 1)]
  /-- Pairs that mismatched (R438). -/
  deadPairs : List Nat := []
  /-- A takeover under way (R438). -/
  takeover : Option (Nat × Nat) := none
deriving DecidableEq, Repr

/-- Reset episodes (R444 to R451). -/
structure Rst where
  /-- Reset sources that are asserted (R445). -/
  held : List Nat := []
  /-- Reach of the episode; 0 outside one (R444, R445). -/
  reach : Nat := 4
  /-- Causes of the episode (R445, R474). -/
  causes : Nat := 0
  /-- The release has begun (R445). -/
  released : Bool := false
  /-- PWR_GOOD is high (R447). -/
  pwrGood : Bool := true
  /-- Moments of the warm resets in the window (R472, R473). -/
  warmTimes : List Nat := []
  /-- Moment the warm episode began (R366). -/
  warmAt : Nat := 0
  /-- Reach at which EPISODES counted this episode (R447, R474). -/
  counted : Nat := 0
deriving DecidableEq, Repr

/-- One record of the start journal (R467). -/
structure JRec where
  /-- TYPE (R467). -/
  typ : Nat
  /-- REACH (R467). -/
  reach : Nat
  /-- SLOT (R467). -/
  slot : Nat
  /-- CAUSE (R467). -/
  cause : Nat
  /-- Sequence number (R467). -/
  rseq : Nat
  /-- EMBER_MS (R467). -/
  emberMs : Nat := 0xFFFF
  /-- FULL_MS (R467). -/
  fullMs : Nat := 0xFFFF
  /-- Digest of the billet (R467). -/
  digest : List Nat
  /-- TIME (R467). -/
  time : Nat := 0
deriving DecidableEq, Repr

/-- The start sequence (R454 to R471) and what it keeps. `aonCopy` is the always-on copy of the newest 8 records (R466); `chosen` and
`other` are the slots under verification, `failCause` the cause of one that failed (R504). -/
structure Start where
  /-- The start journal in flash (R466). -/
  journal : List JRec := []
  /-- The always-on copy of the newest records (R466). -/
  aonCopy : List JRec := []
  /-- Bytes of billet slot A that maintenance wrote (R471, R499). -/
  slotA : List (Nat × Nat) := []
  /-- Bytes of billet slot B that maintenance wrote (R471, R499). -/
  slotB : List (Nat × Nat) := []
  /-- Digest of the billet to be started (R468). -/
  digest : List Nat := []
  /-- The boot ROM has looked at both slots (R468, R504). -/
  known : Bool := false
  /-- The slot under use (R504). -/
  chosen : Option SlotImage := none
  /-- Its number, 0xFF for none (R467, R504). -/
  chosenSlot : Nat := 0xFF
  /-- The slot that remains if the first fails later (R504, R506). -/
  other : Option SlotImage := none
  /-- Cause of a slot that failed (R458, R504). -/
  failCause : Nat := 0
  /-- The device is Banked (R468, R469). -/
  banked : Bool := false
  /-- DDR training has completed (R359). -/
  trained : Bool := false
  /-- The DDR sweep has completed (R455). -/
  swept : Bool := false
  /-- RETIRED units as the factory map and the wear record gave them at the billet's load (R26, R477). -/
  retired : List Nat := []
  /-- The self-test has completed (R477). -/
  tested : Bool := false
  /-- The OS image is in place (R503). -/
  osLoaded : Bool := false
  /-- Units that passed the quick test (R460). -/
  ember : List Nat := []
  /-- Nonces of the last two Banked reports (R470). -/
  nonces : List Nat := []
  /-- Banked reports sent (R470). -/
  reports : List (PortSettings × List Nat) := []
  /-- Answers to READ_JOURNAL (R471). -/
  answers : List (List Nat) := []
  /-- A maintenance cold reset is due (R471). -/
  coldDue : Bool := false
  /-- A retry of the cold release is due (R450). -/
  retryDue : Bool := false
  /-- MIN_VER of the RPMB half-sector (R506). -/
  minVer : Nat := 0
  /-- The watchdog is armed (R457, R472). -/
  wdogArmed : Bool := false
  /-- Last kick (R473). -/
  wdogAt : Nat := 0
deriving DecidableEq, Repr

/-- Wear and spares (R476 to R489). -/
structure Spr where
  /-- Time each region has been hot (R478, R480). -/
  heatHours : List (Nat × Nat) := []
  /-- Fence counts of the newest wear record (R480). -/
  wearFences : List (Nat × Nat) := []
  /-- Retired units of the newest wear record (R480). -/
  wearRetired : List Nat := []
  /-- Retired banks of the newest wear record (R480). -/
  wearBanks : List Nat := []
  /-- Wear records in flash (R480). -/
  records : List (Nat × List Nat) := []
  /-- Sequence number of the newest (R480). -/
  wearSeq : Nat := 0
  /-- A record verifies (R480). -/
  wearValid : Bool := false
  /-- Units that crossed a threshold and wait for their substitution (R481). -/
  crossed : List Nat := []
  /-- Substitutions whose spare is not ready (R482). -/
  subst : List (Nat × Nat × Nat × Nat) := []
  /-- Indices without a unit until the next instant (R418, R489). -/
  vacant : List (Nat × Nat × Nat) := []
  /-- The proactive substitution under way (R487). -/
  proactive : Option (Nat × Nat) := none
  /-- This stroke's proactive substitution is spent (R487). -/
  proDone : Bool := false
  /-- Units tested at the entry to full service (R464, R481). -/
  entryTest : List Nat := []
deriving DecidableEq, Repr

/-- Attestation (R513) and the device key (R494). `att` keeps the destination and the nonce words of the request under way. -/
structure Sec where
  /-- The attestation under way (R513). -/
  att : Option (Nat × List Nat) := none
  /-- The device key is in memory (R494). -/
  keyPresent : Bool := true
  /-- The PUF secret (R493). -/
  secret : List Nat := Config.pufSecret
  /-- The vendor root public key in the boot ROM (R496). -/
  root : List Nat := Config.vendorRoot
  /-- The chip's stepping, 1 being A1 (R498). -/
  stepping : Nat := Config.stepping
  /-- The nonce of the RPMB version read last asked (R506). -/
  rpmbNonce : List Nat := []
deriving DecidableEq, Repr

/-- The sensors and throttling (R533 to R535). -/
structure Thm where
  /-- Consecutive readings off its region's median, per sensor (R533). -/
  off : List (Nat × Nat) := []
  /-- Excluded sensors (R533). -/
  excluded : List Nat := []
  /-- Regions with no valid sensor (R533). -/
  failed : List Nat := []
  /-- Moment of the last step down (R534). -/
  hotSince : Option Nat := none
  /-- Moment since which the hottest reading is cool (R534). -/
  coolSince : Option Nat := none
  /-- A decided throttle step not yet applied (R534). -/
  nextStep : Option Nat := none
  /-- MAX_SEEN holds a reading (R533). -/
  seen : Bool := false
  /-- Moment of the last update (R533). -/
  lastAt : Option Nat := none
  /-- Throttled time below one millisecond (R543). -/
  msAcc : Nat := 0
  /-- Last accepted PPS_IN edge (R539). -/
  ppsLast : Option Nat := none
deriving DecidableEq, Repr

/-- The pins (R281 to R283, R452, R522). FAULT_N true means driven high; false means released. -/
structure Pins where
  /-- PLAN_LIVE (R281, R282). -/
  planLive : Bool := false
  /-- SAFE_STATE (R283, R452). -/
  safeState : Bool := true
  /-- FAULT_N; true is driven high (R283, R452). -/
  faultN : Bool := false
  /-- FAULT_N as a takeover or reset found it (R438, R452). -/
  faultHeld : Bool := false
  /-- Pulses on BELL_OUT that have not ended (R65, R70). -/
  bellOut : List (Nat × Nat) := []
  /-- DDR RESET_n (R452). -/
  ddrResetN : Bool := false
  /-- EXTEST in effect (R509). -/
  extest : Bool := false
  /-- JTAG instruction in effect (R509). -/
  ir : Nat := 0
deriving DecidableEq, Repr

/-- The answer to the last access: none, a value, a write acknowledged, bytes, or an error response (R16, R421). -/
inductive Resp where
  | none
  | ok
  | value (v : Nat)
  | data (bytes : List Nat)
  | error
deriving DecidableEq, Repr

structure State where
  /-- Registers that differ from their reset value: (address, value), addresses strictly rising (R13). -/
  regs : List (Nat × Word) := []
  mem : Mem := {}
  /-- The vehicle time counter, TAI ns (R40). -/
  time : Nat := 0
  /-- What the counter still has to be slewed by to reach gPTP time (R55). -/
  slew : Int := 0
  /-- The holdover time of the always-on domain, which no reset clears (R35, R444). -/
  aonTime : Nat := 0
  /-- Latched HI words: stroke number, stroke time, vehicle time, PPS (R75, R543). -/
  hiStroke : Word := 0
  hiTai : Word := 0
  hiTime : Word := 0
  hiPps : Word := 0
  stk : Stk := {}
  car : Car := {}
  bell : Bell := {}
  wld : Wld := {}
  peal : Peal := {}
  tabA : Tabor := {}
  tabB : Tabor := {}
  tabX : TabAux := {}
  asy : Asy := {}
  pln : Pln := {}
  anv : Anv := {}
  ddr : Ddr := {}
  ubf : Ubf := {}
  fwl : Fwl := {}
  flt : Flt := {}
  rst : Rst := {}
  start : Start := {}
  spr : Spr := {}
  sec : Sec := {}
  thm : Thm := {}
  pins : Pins := {}
  /-- The billet in use (R499); empty before one is verified. -/
  bil : Billet := {}
  resp : Resp := .none
  /-- The model's own counter of fresh free values (log 2). -/
  free : Nat := 0
  /-- The commands that wait, first in, first out (the model's own, log 1). -/
  pending : List Instr := []
deriving DecidableEq, Repr

/-- The device right after reset: every register at its table's reset value, nothing in memory, nothing waiting. -/
def State.reset : State := {}

/-- The answer of a command. -/
abbrev Ans := Host.Outcome State Fault Refusal

end Sys2Proof.Machine
end

