-- ==== Sys2Proof/Machine/Keys.lean ====
section
/-! DEFINITION. The device's secret and the keys derived from it (R493 to R495). -/

namespace Sys2Proof.Machine

/-- Key material of n bytes for a label. -/
def derived (k : Sec) (label : List Nat) (n : Nat) : List Nat := kdf (k.secret ++ label) n

/-- The device key d: label "HJ-DEV-SM2". -/
def deviceKey (k : Sec) : Nat := beWord (derived k [0x48, 0x4A, 0x2D, 0x44, 0x45, 0x56, 0x2D, 0x53, 0x4D, 0x32] 40) % (sm2N - 1) + 1

/-- K_RPMB: label "HJ-RPMB". -/
def rpmbKey (k : Sec) : List Nat := derived k [0x48, 0x4A, 0x2D, 0x52, 0x50, 0x4D, 0x42] 32

/-- K_WEAR: label "HJ-WEAR". -/
def wearKey (k : Sec) : List Nat := derived k [0x48, 0x4A, 0x2D, 0x57, 0x45, 0x41, 0x52] 32

/-- The public key d·G. -/
def devicePublic (k : Sec) : List Nat := sm2Public (deviceKey k)

/-- The first 8 bytes of SM3 of a public key. -/
def keyId (key : List Nat) : List Nat := (sm3 key).take 8

/-- DEVICE_ID (R495). -/
def deviceId (k : Sec) : List Nat := keyId (devicePublic k)

/-- The random number of a signature, by the counter of free values (log 2). -/
def signRandom (c : Nat) : Nat := Config.freeValue c % (sm2N - 1) + 1

/-- The 64 bytes of a signature with the device key. -/
def signature (k : Sec) (c : Nat) (b : List Nat) : List Nat := sm2Sign (deviceKey k) (signRandom c) b

/-- The keys that every reset leaves (R494, R496). -/
def keptSec (s : State) : Sec := { s.sec with att := none, rpmbNonce := [] }

end Sys2Proof.Machine
end

