-- ==== Sys2Proof/Machine/Crc.lean ====
section
/-! DEFINITION. The CRCs of the spec: CRC-64/ECMA-182 of the hallmark (R332 to R334) and CRC-32C (R276, R362, R380). -/

namespace Sys2Proof.Machine

def crc64Bit (c : Nat) : Nat :=
  if bit c 63 then Nat.xor (c * 2 % 2 ^ 64) 0x42F0E1EBA9EA3693 else c * 2 % 2 ^ 64

def crc64Byte (c b : Nat) : Nat :=
  crc64Bit (crc64Bit (crc64Bit (crc64Bit (crc64Bit (crc64Bit (crc64Bit (crc64Bit (Nat.xor c (b % 256 * 2 ^ 56)))))))))

/-- CRC-64/ECMA-182, not reflected, initial value and final XOR zero (R332). -/
def crc64 (bs : List Nat) : Nat := bs.foldl crc64Byte 0

def crc32cBit (c : Nat) : Nat := if bit c 0 then Nat.xor (c / 2) 0x82F63B78 else c / 2

def crc32cByte (c b : Nat) : Nat :=
  crc32cBit (crc32cBit (crc32cBit (crc32cBit (crc32cBit (crc32cBit (crc32cBit (crc32cBit (Nat.xor c (b % 256)))))))))

/-- CRC-32C (Castagnoli), in its usual reflected form with all-ones initial value and final XOR (PRESUMED, log 13). -/
def crc32c (bs : List Nat) : Nat := Nat.xor (bs.foldl crc32cByte 0xFFFFFFFF) 0xFFFFFFFF

/-- The hallmark contribution of one line at region offset o (R332). -/
def lineHm (o : Nat) (line : List Nat) : Nat := crc64 (leBytes 8 o ++ (line ++ List.replicate 64 0).take 64)

/-- The TAG of DDR line index L under a region version (R362). -/
def ddrTag (l ver : Nat) : Nat := crc32c (leBytes 8 (l % 2 ^ 30 + ver % 256 * 2 ^ 30))

end Sys2Proof.Machine
end

