-- ==== Sys2Proof/Machine/LineCode.lean ====
section
/-! DEFINITION. The line code: the bounded-distance decoder of the shortened RS(37, 32) code over GF(2^16) (R341, R342), on error
patterns. A stored line is a codeword plus a pattern of 37 symbols; the decoder's outcome depends on the pattern alone. -/

namespace Sys2Proof.Machine

def gfMulGo : Nat → Nat → Nat → Nat → Nat
  | 0, _, _, r => r
  | k + 1, a, b, r =>
    let r' := if b % 2 = 1 then Nat.xor r a else r
    let a' := a * 2
    gfMulGo k (if bit a' 16 then Nat.xor a' 0x1100B else a') (b / 2) r'

/-- The product in GF(2^16) under x^16 + x^12 + x^3 + x + 1 (R341). -/
def gfMul (a b : Nat) : Nat := gfMulGo 16 (a % 65536) (b % 65536) 0

def gfPow : Nat → Nat → Nat → Nat
  | 0, _, _ => 1
  | k + 1, a, n => let h := gfPow k (gfMul a a) (n / 2); if n % 2 = 1 then gfMul a h else h

/-- α^n, with α the root x: n steps of a shift and a reduction. -/
def alpha (n : Nat) : Nat := (List.replicate (n % 65535) ()).foldl (fun a _ => if bit (a * 2) 16 then Nat.xor (a * 2) 0x1100B else a * 2) 1
def gfInv (a : Nat) : Nat := gfPow 16 a 65534

/-- The product of a polynomial, lowest coefficient first, and x + c. -/
def timesRoot (g : List Nat) (c : Nat) : List Nat := List.zipWith Nat.xor (0 :: g) ((g.map (gfMul c)) ++ [0])

/-- The generator (x + α^0)(x + α^1)(x + α^2)(x + α^3)(x + α^4), lowest coefficient first (R341). -/
def generator : List Nat := (List.range 5).foldl (fun g i => timesRoot g (alpha i)) [1]

/-- One step of the division by the generator, the next coefficient coming in below the five held ones. -/
def divStep (r : List Nat) (d : Nat) : List Nat :=
  let f := Nat.xor d (r.getD 4 0)
  List.zipWith Nat.xor (0 :: r.take 4) ((generator.take 5).map (gfMul f))

/-- The check symbols p_0 to p_4 of 32 data symbols: (Σ d_k x^(k+5)) mod g(x) (R341). -/
def checkSymbols (ds : List Nat) : List Nat := ds.reverse.foldl divStep [0, 0, 0, 0, 0]

/-- The 80-bit check field: bits [16j + 15:16j] hold p_j (R341). -/
def checkField (ds : List Nat) : Nat := ((checkSymbols ds).zipIdx.map (fun p => p.1 * 2 ^ (16 * p.2))).sum

/-- The data symbols of a line's 64 bytes: d_k is line bits [16k + 15:16k] (R341). -/
def dataSymbols (bs : List Nat) : List Nat := (List.range 32).map (fun k => leNat ((bs.drop (2 * k)).take 2))

/-- The codeword of a line: c_j = p_j below position 5, c_(k+5) = d_k (R341). -/
def codeword (bs : List Nat) : List Nat := checkSymbols (dataSymbols bs) ++ dataSymbols bs

/-- Syndrome i of a pattern (R342). -/
def syndrome (e : List Nat) (i : Nat) : Nat :=
  (e.zipIdx).foldl (fun a p => Nat.xor a (if p.1 = 0 then 0 else gfMul p.1 (alpha (i * p.2)))) 0

def syndromes (e : List Nat) : List Nat := (List.range 5).map (syndrome e)

inductive LineRes where
  | clean
  | corrected (fix : List Nat)
  | bad
deriving DecidableEq, Repr

def onePattern (j v : Nat) : List Nat := (List.replicate 37 0).set j v

/-- Every pattern of one or two symbols with these syndromes. Two positions whose third syndrome cannot fit are passed over first: with
x and v the symbols, s1 + α^j·s0 = (α^j + α^k)·v and s2 + α^2j·s0 = (α^j + α^k)²·v. -/
def shortPatterns (s : List Nat) : List (List Nat) :=
  let s0 := s.getD 0 0; let s1 := s.getD 1 0; let s2 := s.getD 2 0
  let ones := ((List.range 37).map (fun j => onePattern j s0)).filter (fun p => decide (syndromes p = s) && decide (s0 ≠ 0))
  let twos := (List.range 37).flatMap (fun k => (List.range k).filterMap (fun j =>
    let aj := alpha j; let d := Nat.xor aj (alpha k)
    let n := Nat.xor s1 (gfMul aj s0)
    if Nat.xor s2 (gfMul (gfMul aj aj) s0) = gfMul d n then
      let v := gfMul n (gfInv d)
      let p := (onePattern j (Nat.xor s0 v)).set k v
      if v ≠ 0 ∧ Nat.xor s0 v ≠ 0 ∧ syndromes p = s then some p else none
    else none))
  ones ++ twos

/-- The checker (R342): clean, the one correction of one or two symbols, or uncorrectable. -/
def lineCheck (e : List Nat) : LineRes :=
  let s := syndromes e
  if s.all (· == 0) then .clean
  else match shortPatterns s with
    | [p] => .corrected p
    | _ => .bad

/-- Poison: c_0, c_1 and c_2 each XORed with 0xFFFF (R346). -/
def poison : List Nat := [0xFFFF, 0xFFFF, 0xFFFF] ++ List.replicate 34 0

/-- The data bytes that a pattern flips: data symbol k is codeword position k + 5 (R341). -/
def patternBytes (e : List Nat) : List Nat := (e.drop 5).flatMap (fun s => leBytes 2 s)

def xorBytes (a b : List Nat) : List Nat := List.zipWith Nat.xor a (b ++ List.replicate a.length 0)

def xorPattern (a b : List Nat) : List Nat := List.zipWith Nat.xor a b

end Sys2Proof.Machine
end

