-- ==== Sys2Proof/Machine/RegMap.lean ====
section
/-! DEFINITION. The registers of the spec's register tables by name: each constant is a field (address, lowest bit, width);
a name without a field part is the whole register. Arrays take the index of their unit, queue, link or entry. Addresses: R13, R15 and
the chapters' tables (R75, R76, R117, R118, R142, R143, R164, R165, R197, R198, R223, R224, R255, R256, R288, R289, R319 to R322,
R338 to R340, R371 to R373, R403, R404, R441 to R443, R473 to R475, R492, R515, R516, R542, R543). -/

namespace Sys2Proof.Machine

/-- A register field: the register's address, the field's lowest bit and its width. -/
structure Fld where
  addr : Nat
  lo : Nat
  w : Nat
deriving DecidableEq, Repr

abbrev CAR_SRC_CFG : Fld := ⟨0x40400000, 0, 2⟩
abbrev CAR_PERIOD : Fld := ⟨0x40400004, 0, 17⟩
abbrev CAR_EPOCH_LO : Fld := ⟨0x40400008, 0, 32⟩
abbrev CAR_EPOCH_HI : Fld := ⟨0x4040000c, 0, 32⟩
abbrev CAR_SEAL_OFS : Fld := ⟨0x40400010, 0, 27⟩
abbrev CAR_PLAN_DUE : Fld := ⟨0x40400014, 0, 27⟩
abbrev CAR_STATUS : Fld := ⟨0x40400020, 0, 32⟩
abbrev CAR_STATUS_SOURCE : Fld := ⟨0x40400020, 0, 3⟩
abbrev CAR_STATUS_SI_USABLE : Fld := ⟨0x40400020, 3, 1⟩
abbrev CAR_STATUS_GPTP_VALID : Fld := ⟨0x40400020, 4, 1⟩
abbrev CAR_STATUS_BANK : Fld := ⟨0x40400020, 5, 1⟩
abbrev CAR_STATUS_REPRO_WAIT : Fld := ⟨0x40400020, 6, 1⟩
abbrev CAR_STROKE_LO : Fld := ⟨0x40400024, 0, 32⟩
abbrev CAR_STROKE_HI : Fld := ⟨0x40400028, 0, 32⟩
abbrev CAR_STROKE_TAI_LO : Fld := ⟨0x4040002c, 0, 32⟩
abbrev CAR_STROKE_TAI_HI : Fld := ⟨0x40400030, 0, 32⟩
abbrev CAR_TIME_LO : Fld := ⟨0x40400034, 0, 32⟩
abbrev CAR_TIME_HI : Fld := ⟨0x40400038, 0, 32⟩
abbrev CAR_HOLD_ELAPSED : Fld := ⟨0x4040003c, 0, 21⟩
abbrev CAR_SI_IGNORED : Fld := ⟨0x40400040, 0, 32⟩
abbrev CAR_LATE_CNT : Fld := ⟨0x40400044, 0, 32⟩
abbrev CAR_SKIPPED : Fld := ⟨0x40400048, 0, 32⟩
abbrev CAR_REPRO_DROPPED : Fld := ⟨0x4040004c, 0, 32⟩
abbrev CAR_LAUNCH_LAG : Fld := ⟨0x40400050, 0, 32⟩
abbrev CAR_BANK_CTRL : Fld := ⟨0x40400054, 0, 32⟩
abbrev CAR_BANK_CTRL_SWAP_REQ : Fld := ⟨0x40400054, 0, 1⟩
abbrev CAR_BANK_CTRL_SWAP_ERR : Fld := ⟨0x40400054, 1, 1⟩
abbrev CAR_BANK_CTRL_ERR_IDX : Fld := ⟨0x40400054, 8, 8⟩
abbrev CAR_REPRO_BASE_LO : Fld := ⟨0x40400058, 0, 32⟩
abbrev CAR_REPRO_BASE_HI : Fld := ⟨0x4040005c, 0, 32⟩
abbrev CAR_REPRO_T0_LO : Fld := ⟨0x40400060, 0, 32⟩
abbrev CAR_REPRO_T0_HI : Fld := ⟨0x40400064, 0, 32⟩
abbrev BEL_CFG : Fld := ⟨0x40500000, 0, 32⟩
abbrev BEL_CFG_MANAGER : Fld := ⟨0x40500000, 0, 1⟩
abbrev BEL_CFG_OUT_EN : Fld := ⟨0x40500000, 1, 1⟩
abbrev BEL_TARGET_NS : Fld := ⟨0x40500004, 0, 12⟩
abbrev BEL_OWN_DELAY : Fld := ⟨0x40500008, 0, 12⟩
abbrev BEL_COMP : Fld := ⟨0x4050000c, 0, 12⟩
abbrev BEL_STATUS : Fld := ⟨0x40500010, 0, 32⟩
abbrev BEL_STATUS_CALIBRATED : Fld := ⟨0x40500010, 0, 1⟩
abbrev BEL_STATUS_EDGE_OK : Fld := ⟨0x40500010, 1, 1⟩
abbrev BEL_STATUS_NUM_OK : Fld := ⟨0x40500010, 2, 1⟩
abbrev BEL_EDGE_IGNORED : Fld := ⟨0x40500014, 0, 32⟩
abbrev BEL_NUM_MISMATCH : Fld := ⟨0x40500018, 0, 32⟩
abbrev BEL_SKEW_LAST : Fld := ⟨0x4050001c, 0, 16⟩
abbrev CRU_U_STATUS (i : Nat) : Fld := ⟨0x40a00000 + i * 0x1000, 0, 32⟩
abbrev CRU_U_STATUS_BUSY (i : Nat) : Fld := ⟨0x40a00000 + i * 0x1000, 0, 1⟩
abbrev CRU_U_STATUS_DRAIN_WAIT (i : Nat) : Fld := ⟨0x40a00000 + i * 0x1000, 1, 1⟩
abbrev CRU_U_STATUS_OPC (i : Nat) : Fld := ⟨0x40a00000 + i * 0x1000, 2, 8⟩
abbrev CRU_CFG0 : Fld := ⟨0x40a80000, 0, 32⟩
abbrev CRU_CFG0_CLAMP : Fld := ⟨0x40a80000, 0, 16⟩
abbrev CRU_CFG0_REACH : Fld := ⟨0x40a80000, 16, 16⟩
abbrev CRU_CFG1 : Fld := ⟨0x40a80004, 0, 32⟩
abbrev CRU_CFG1_SEAL_MAX : Fld := ⟨0x40a80004, 0, 16⟩
abbrev CRU_CFG1_EGO_MAX_AGE : Fld := ⟨0x40a80004, 16, 16⟩
abbrev CRU_ZBAND_LO : Fld := ⟨0x40a80008, 0, 16⟩
abbrev CRU_ZBAND_HI : Fld := ⟨0x40a8000c, 0, 16⟩
abbrev CRU_RING_BASE_LO (i : Nat) : Fld := ⟨0x40a80020 + i * 0x20, 0, 32⟩
abbrev CRU_RING_BASE_HI (i : Nat) : Fld := ⟨0x40a80024 + i * 0x20, 0, 32⟩
abbrev CRU_RING_SIZE (i : Nat) : Fld := ⟨0x40a80028 + i * 0x20, 0, 32⟩
abbrev CRU_RING_WP (i : Nat) : Fld := ⟨0x40a8002c + i * 0x20, 0, 32⟩
abbrev CRU_RING_RP (i : Nat) : Fld := ⟨0x40a80030 + i * 0x20, 0, 32⟩
abbrev CRU_HEAT_SEALED : Fld := ⟨0x40a80060, 0, 32⟩
abbrev CRU_HEAT_STAGING : Fld := ⟨0x40a80064, 0, 32⟩
abbrev CRU_FIELD_STATUS : Fld := ⟨0x40a80068, 0, 32⟩
abbrev CRU_FIELD_STATUS_STATIC_READY : Fld := ⟨0x40a80068, 0, 1⟩
abbrev CRU_FIELD_STATUS_DYN_READY : Fld := ⟨0x40a80068, 1, 1⟩
abbrev CRU_FIELD_STATUS_SUPERSEDED_URGENT : Fld := ⟨0x40a80068, 2, 1⟩
abbrev CRU_FIELD_STATUS_INCONSISTENT : Fld := ⟨0x40a80068, 3, 1⟩
abbrev CRU_FIELD_STATUS_ROWS_DONE : Fld := ⟨0x40a80068, 4, 8⟩
abbrev CRU_FIELD_STATUS_SLICES_DONE : Fld := ⟨0x40a80068, 12, 7⟩
abbrev CRU_ORIGIN_X : Fld := ⟨0x40a8006c, 0, 32⟩
abbrev CRU_ORIGIN_Y : Fld := ⟨0x40a80070, 0, 32⟩
abbrev CRU_TORUS : Fld := ⟨0x40a80074, 0, 32⟩
abbrev CRU_TORUS_X : Fld := ⟨0x40a80074, 0, 11⟩
abbrev CRU_TORUS_Y : Fld := ⟨0x40a80074, 16, 11⟩
abbrev CRU_REC_ACCEPT : Fld := ⟨0x40a80080, 0, 32⟩
abbrev CRU_REC_REJECT : Fld := ⟨0x40a80084, 0, 32⟩
abbrev CRU_SEQ_GAP : Fld := ⟨0x40a80088, 0, 32⟩
abbrev CRU_DEFERRED : Fld := ⟨0x40a8008c, 0, 32⟩
abbrev CRU_MARK_IGNORED : Fld := ⟨0x40a80090, 0, 32⟩
abbrev CRU_URG_CNT : Fld := ⟨0x40a80094, 0, 32⟩
abbrev CRU_WP_REFUSED : Fld := ⟨0x40a80098, 0, 32⟩
abbrev CRU_SEAL_LAG : Fld := ⟨0x40a800a0, 0, 32⟩
abbrev CRU_REJ_LAST : Fld := ⟨0x40a800a4, 0, 32⟩
abbrev CRU_REJ_LAST_REASON : Fld := ⟨0x40a800a4, 0, 4⟩
abbrev CRU_REJ_LAST_RING : Fld := ⟨0x40a800a4, 4, 1⟩
abbrev CRU_REJ_LAST_TYPE : Fld := ⟨0x40a800a4, 8, 8⟩
abbrev PEL_U_STATUS (i : Nat) : Fld := ⟨0x40c00000 + i * 0x1000, 0, 32⟩
abbrev PEL_U_STATUS_BUSY (i : Nat) : Fld := ⟨0x40c00000 + i * 0x1000, 0, 1⟩
abbrev PEL_U_STATUS_PHASE (i : Nat) : Fld := ⟨0x40c00000 + i * 0x1000, 1, 2⟩
abbrev PEL_U_STATUS_PART (i : Nat) : Fld := ⟨0x40c00000 + i * 0x1000, 3, 3⟩
abbrev PEL_CFG0 : Fld := ⟨0x40c80000, 0, 32⟩
abbrev PEL_CFG0_EN : Fld := ⟨0x40c80000, 0, 1⟩
abbrev PEL_CFG0_AGE_MAX : Fld := ⟨0x40c80000, 8, 8⟩
abbrev PEL_CFG0_BAND : Fld := ⟨0x40c80000, 16, 16⟩
abbrev PEL_CFG1 : Fld := ⟨0x40c80004, 0, 32⟩
abbrev PEL_CFG1_RADIUS : Fld := ⟨0x40c80004, 0, 16⟩
abbrev PEL_CFG1_PEN_STEP : Fld := ⟨0x40c80004, 16, 16⟩
abbrev PEL_SEL_OFS : Fld := ⟨0x40c80008, 0, 27⟩
abbrev PEL_END_OFS : Fld := ⟨0x40c8000c, 0, 27⟩
abbrev PEL_BUF_BASE0_LO : Fld := ⟨0x40c80010, 0, 32⟩
abbrev PEL_BUF_BASE0_HI : Fld := ⟨0x40c80014, 0, 32⟩
abbrev PEL_BUF_BASE1_LO : Fld := ⟨0x40c80018, 0, 32⟩
abbrev PEL_BUF_BASE1_HI : Fld := ⟨0x40c8001c, 0, 32⟩
abbrev PEL_CHG_BASE_LO : Fld := ⟨0x40c80020, 0, 32⟩
abbrev PEL_CHG_BASE_HI : Fld := ⟨0x40c80024, 0, 32⟩
abbrev PEL_LAT_HEAT (i : Nat) : Fld := ⟨0x40c80040 + i * 0x10, 0, 32⟩
abbrev PEL_LAT_LO_X (i : Nat) : Fld := ⟨0x40c80044 + i * 0x10, 0, 32⟩
abbrev PEL_LAT_LO_Y (i : Nat) : Fld := ⟨0x40c80048 + i * 0x10, 0, 32⟩
abbrev PEL_LAT_STATE (i : Nat) : Fld := ⟨0x40c8004c + i * 0x10, 0, 2⟩
abbrev PEL_FRAME : Fld := ⟨0x40c80060, 0, 32⟩
abbrev PEL_FRAME_AGE : Fld := ⟨0x40c80060, 0, 8⟩
abbrev PEL_FRAME_BUF : Fld := ⟨0x40c80060, 8, 1⟩
abbrev PEL_FRAME_NONE : Fld := ⟨0x40c80060, 9, 1⟩
abbrev PEL_FRAME_SELECTED : Fld := ⟨0x40c80060, 10, 1⟩
abbrev PEL_BUILDS : Fld := ⟨0x40c80080, 0, 32⟩
abbrev PEL_REPAIRS : Fld := ⟨0x40c80084, 0, 32⟩
abbrev PEL_TIMEUPS : Fld := ⟨0x40c80088, 0, 32⟩
abbrev PEL_REOPEN_LAST : Fld := ⟨0x40c800a0, 0, 32⟩
abbrev PEL_DONE_NS_LAST : Fld := ⟨0x40c800a4, 0, 32⟩
abbrev SWG_U_STATUS (i : Nat) : Fld := ⟨0x40b00000 + i * 0x1000, 0, 32⟩
abbrev SWG_U_STATUS_BUSY (i : Nat) : Fld := ⟨0x40b00000 + i * 0x1000, 0, 1⟩
abbrev SWG_U_STATUS_STALL (i : Nat) : Fld := ⟨0x40b00000 + i * 0x1000, 1, 1⟩
abbrev SWG_U_STATUS_STRIKE (i : Nat) : Fld := ⟨0x40b00000 + i * 0x1000, 2, 1⟩
abbrev SWG_U_STATUS_OPC (i : Nat) : Fld := ⟨0x40b00000 + i * 0x1000, 3, 8⟩
abbrev SWG_U_CAND (i : Nat) : Fld := ⟨0x40b00004 + i * 0x1000, 0, 32⟩
abbrev SWG_FAM_EN_LO : Fld := ⟨0x40b80000, 0, 32⟩
abbrev SWG_FAM_EN_HI : Fld := ⟨0x40b80004, 0, 32⟩
abbrev SWG_START_BASE_LO : Fld := ⟨0x40b80008, 0, 32⟩
abbrev SWG_START_BASE_HI : Fld := ⟨0x40b8000c, 0, 32⟩
abbrev SWG_FOOT_NSPH : Fld := ⟨0x40b80010, 0, 32⟩
abbrev SWG_FOOT_NSPH_NSPH0 : Fld := ⟨0x40b80010, 0, 5⟩
abbrev SWG_FOOT_NSPH_NSPH1 : Fld := ⟨0x40b80010, 8, 5⟩
abbrev SWG_FOOT_NSPH_NSPH2 : Fld := ⟨0x40b80010, 16, 5⟩
abbrev SWG_FOOT_NSPH_NSPH3 : Fld := ⟨0x40b80010, 24, 5⟩
abbrev SWG_DESC_BAD : Fld := ⟨0x40b80020, 0, 32⟩
abbrev SWG_RD_ERR : Fld := ⟨0x40b80024, 0, 32⟩
abbrev SWG_BAD_LAST : Fld := ⟨0x40b80028, 0, 32⟩
abbrev SWG_BAD_LAST_REASON : Fld := ⟨0x40b80028, 0, 4⟩
abbrev SWG_BAD_LAST_UNIT : Fld := ⟨0x40b80028, 4, 5⟩
abbrev SWG_BAD_LAST_IDX : Fld := ⟨0x40b8002c, 0, 32⟩
abbrev HAM_U_STATUS (i : Nat) : Fld := ⟨0x40900000 + i * 0x1000, 0, 32⟩
abbrev HAM_U_STATUS_BUSY (i : Nat) : Fld := ⟨0x40900000 + i * 0x1000, 0, 1⟩
abbrev HAM_U_STATUS_GOLD (i : Nat) : Fld := ⟨0x40900000 + i * 0x1000, 1, 1⟩
abbrev HAM_U_STATUS_FILL (i : Nat) : Fld := ⟨0x40900000 + i * 0x1000, 2, 1⟩
abbrev HAM_U_STATUS_NARROW (i : Nat) : Fld := ⟨0x40900000 + i * 0x1000, 3, 1⟩
abbrev HAM_U_STATUS_OPC (i : Nat) : Fld := ⟨0x40900000 + i * 0x1000, 4, 8⟩
abbrev HAM_U_CAND (i : Nat) : Fld := ⟨0x40900004 + i * 0x1000, 0, 32⟩
abbrev HAM_U_SLOTS (i : Nat) : Fld := ⟨0x40900008 + i * 0x1000, 0, 32⟩
abbrev HAM_CFG0 : Fld := ⟨0x409a0000, 0, 32⟩
abbrev HAM_CFG0_MARGIN : Fld := ⟨0x409a0000, 0, 16⟩
abbrev HAM_CFG0_BEYOND : Fld := ⟨0x409a0000, 16, 1⟩
abbrev HAM_CUT_OFS0 : Fld := ⟨0x409a0004, 0, 27⟩
abbrev HAM_CUT_OFS1 : Fld := ⟨0x409a0008, 0, 27⟩
abbrev HAM_CSET_EN : Fld := ⟨0x409a000c, 0, 4⟩
abbrev HAM_COST_BASE_LO : Fld := ⟨0x409a0010, 0, 32⟩
abbrev HAM_COST_BASE_HI : Fld := ⟨0x409a0014, 0, 32⟩
abbrev HAM_STATIC_BASE_LO : Fld := ⟨0x409a0018, 0, 32⟩
abbrev HAM_STATIC_BASE_HI : Fld := ⟨0x409a001c, 0, 32⟩
abbrev HAM_DYN_BASE_LO : Fld := ⟨0x409a0020, 0, 32⟩
abbrev HAM_DYN_BASE_HI : Fld := ⟨0x409a0024, 0, 32⟩
abbrev HAM_SBRICK_BASE_LO : Fld := ⟨0x409a0028, 0, 32⟩
abbrev HAM_SBRICK_BASE_HI : Fld := ⟨0x409a002c, 0, 32⟩
abbrev HAM_DBRICK_BASE_LO : Fld := ⟨0x409a0030, 0, 32⟩
abbrev HAM_DBRICK_BASE_HI : Fld := ⟨0x409a0034, 0, 32⟩
abbrev HAM_HEAT_IMG_LO : Fld := ⟨0x409a0038, 0, 32⟩
abbrev HAM_HEAT_IMG_HI : Fld := ⟨0x409a003c, 0, 32⟩
abbrev HAM_CLEAR_CNT : Fld := ⟨0x409a0080, 0, 32⟩
abbrev HAM_MARGIN_CNT : Fld := ⟨0x409a0084, 0, 32⟩
abbrev HAM_CONTACT_CNT : Fld := ⟨0x409a0088, 0, 32⟩
abbrev HAM_UNTESTED_CNT : Fld := ⟨0x409a008c, 0, 32⟩
abbrev HAM_CUT_CNT : Fld := ⟨0x409a0090, 0, 32⟩
abbrev HAM_INVALID_CNT : Fld := ⟨0x409a0094, 0, 32⟩
abbrev HAM_OVF_CNT : Fld := ⟨0x409a0098, 0, 32⟩
abbrev HAM_RD_ERR : Fld := ⟨0x409a009c, 0, 32⟩
abbrev HAM_HORIZON_CNT : Fld := ⟨0x409a00a0, 0, 32⟩
abbrev TNG_U_STATUS (i : Nat) : Fld := ⟨0x40d00000 + i * 0x1000, 0, 32⟩
abbrev TNG_U_STATUS_BUSY (i : Nat) : Fld := ⟨0x40d00000 + i * 0x1000, 0, 1⟩
abbrev TNG_U_STATUS_SPILL (i : Nat) : Fld := ⟨0x40d00000 + i * 0x1000, 1, 1⟩
abbrev TNG_U_STATUS_PASS (i : Nat) : Fld := ⟨0x40d00000 + i * 0x1000, 2, 3⟩
abbrev TNG_U_STATUS_OPC (i : Nat) : Fld := ⟨0x40d00000 + i * 0x1000, 5, 8⟩
abbrev TNG_U_STATUS_RESTARTS (i : Nat) : Fld := ⟨0x40d00000 + i * 0x1000, 13, 5⟩
abbrev TNG_GATHER_OFS0 : Fld := ⟨0x40d80000, 0, 27⟩
abbrev TNG_GATHER_OFS1 : Fld := ⟨0x40d80004, 0, 27⟩
abbrev TNG_INBOX_BASE_LO : Fld := ⟨0x40d80008, 0, 32⟩
abbrev TNG_INBOX_BASE_HI : Fld := ⟨0x40d8000c, 0, 32⟩
abbrev TNG_SPILL_BASE_LO : Fld := ⟨0x40d80010, 0, 32⟩
abbrev TNG_SPILL_BASE_HI : Fld := ⟨0x40d80014, 0, 32⟩
abbrev TNG_LOCAL_BASE_LO : Fld := ⟨0x40d80018, 0, 32⟩
abbrev TNG_LOCAL_BASE_HI : Fld := ⟨0x40d8001c, 0, 32⟩
abbrev TNG_SPILL_SIZE : Fld := ⟨0x40d80020, 0, 32⟩
abbrev TNG_LOCAL_SIZE : Fld := ⟨0x40d80024, 0, 32⟩
abbrev TNG_INBOX_STATUS : Fld := ⟨0x40d80040, 0, 32⟩
abbrev TNG_INBOX_STALE : Fld := ⟨0x40d80044, 0, 32⟩
abbrev TNG_SELECT_CNT : Fld := ⟨0x40d80080, 0, 32⟩
abbrev TNG_MERGE_CNT : Fld := ⟨0x40d80084, 0, 32⟩
abbrev TNG_SPILL_CNT : Fld := ⟨0x40d80088, 0, 32⟩
abbrev TNG_DUP_CNT : Fld := ⟨0x40d8008c, 0, 32⟩
abbrev TNG_DUP_DISC_CNT : Fld := ⟨0x40d80090, 0, 32⟩
abbrev TNG_IN_REJECT : Fld := ⟨0x40d80094, 0, 32⟩
abbrev TNG_RD_RESTART : Fld := ⟨0x40d80098, 0, 32⟩
abbrev QNC_U_STATUS (i : Nat) : Fld := ⟨0x40e00000 + i * 0x1000, 0, 32⟩
abbrev QNC_U_STATUS_BUSY (i : Nat) : Fld := ⟨0x40e00000 + i * 0x1000, 0, 1⟩
abbrev QNC_U_STATUS_GOLD (i : Nat) : Fld := ⟨0x40e00000 + i * 0x1000, 1, 1⟩
abbrev QNC_U_STATUS_PHASE (i : Nat) : Fld := ⟨0x40e00000 + i * 0x1000, 2, 3⟩
abbrev QNC_U_STATUS_ITER (i : Nat) : Fld := ⟨0x40e00000 + i * 0x1000, 5, 4⟩
abbrev QNC_U_STATUS_OPC (i : Nat) : Fld := ⟨0x40e00000 + i * 0x1000, 9, 8⟩
abbrev QNC_U_SYS (i : Nat) : Fld := ⟨0x40e00004 + i * 0x1000, 0, 32⟩
abbrev QNC_DL_OFS : Fld := ⟨0x40e80000, 0, 27⟩
abbrev QNC_PROG_EN : Fld := ⟨0x40e80004, 0, 16⟩
abbrev QNC_REFINED_CNT : Fld := ⟨0x40e80080, 0, 32⟩
abbrev QNC_EARLY_CNT : Fld := ⟨0x40e80084, 0, 32⟩
abbrev QNC_WARM_CNT : Fld := ⟨0x40e80088, 0, 32⟩
abbrev QNC_UNREF_CNT : Fld := ⟨0x40e8008c, 0, 32⟩
abbrev QNC_LOST_CNT : Fld := ⟨0x40e80090, 0, 32⟩
abbrev QNC_PIV_ZERO_CNT : Fld := ⟨0x40e80094, 0, 32⟩
abbrev QNC_PIV_TINY_CNT : Fld := ⟨0x40e80098, 0, 32⟩
abbrev QNC_PIV_NEG_CNT : Fld := ⟨0x40e8009c, 0, 32⟩
abbrev QNC_OVF_CNT : Fld := ⟨0x40e800a0, 0, 32⟩
abbrev QNC_RANGE_CNT : Fld := ⟨0x40e800a4, 0, 32⟩
abbrev QNC_DL_CNT : Fld := ⟨0x40e800a8, 0, 32⟩
abbrev ASY_U_STATUS (i : Nat) : Fld := ⟨0x40f00000 + i * 0x1000, 0, 32⟩
abbrev ASY_U_STATUS_BUSY (i : Nat) : Fld := ⟨0x40f00000 + i * 0x1000, 0, 1⟩
abbrev ASY_U_STATUS_GOLD (i : Nat) : Fld := ⟨0x40f00000 + i * 0x1000, 1, 1⟩
abbrev ASY_U_STATUS_PHASE (i : Nat) : Fld := ⟨0x40f00000 + i * 0x1000, 2, 3⟩
abbrev ASY_U_STATUS_OPC (i : Nat) : Fld := ⟨0x40f00000 + i * 0x1000, 5, 8⟩
abbrev ASY_CFG0 : Fld := ⟨0x40f80000, 0, 32⟩
abbrev ASY_CFG0_AMARGIN : Fld := ⟨0x40f80000, 0, 16⟩
abbrev ASY_CFG0_CO_MIN : Fld := ⟨0x40f80000, 16, 6⟩
abbrev ASY_CFG1 : Fld := ⟨0x40f80004, 0, 32⟩
abbrev ASY_CFG1_CO_DECEL : Fld := ⟨0x40f80004, 0, 16⟩
abbrev ASY_CFG1_STOP_DECEL : Fld := ⟨0x40f80004, 16, 16⟩
abbrev ASY_FREEZE_OFS : Fld := ⟨0x40f80008, 0, 27⟩
abbrev ASY_VALIDITY : Fld := ⟨0x40f8000c, 0, 18⟩
abbrev ASY_CAN_ID : Fld := ⟨0x40f80010, 0, 32⟩
abbrev ASY_CAN_ID_ID : Fld := ⟨0x40f80010, 0, 29⟩
abbrev ASY_CAN_ID_EXT : Fld := ⟨0x40f80010, 29, 1⟩
abbrev ASY_CAN_CFG : Fld := ⟨0x40f80014, 0, 32⟩
abbrev ASY_CAN_CFG_NBR : Fld := ⟨0x40f80014, 0, 2⟩
abbrev ASY_CAN_CFG_DBR : Fld := ⟨0x40f80014, 2, 3⟩
abbrev ASY_CAN_CFG_DUAL : Fld := ⟨0x40f80014, 5, 1⟩
abbrev ASY_STATUS : Fld := ⟨0x40f80020, 0, 32⟩
abbrev ASY_STATUS_READY : Fld := ⟨0x40f80020, 0, 1⟩
abbrev ASY_STATUS_DOUBT : Fld := ⟨0x40f80020, 1, 1⟩
abbrev ASY_STATUS_ARMED : Fld := ⟨0x40f80020, 2, 1⟩
abbrev ASY_STATUS_SAFE : Fld := ⟨0x40f80020, 3, 1⟩
abbrev ASY_STATUS_LIVE : Fld := ⟨0x40f80020, 4, 1⟩
abbrev ASY_STATUS_FAULT : Fld := ⟨0x40f80020, 5, 1⟩
abbrev ASY_STATUS_SOURCE : Fld := ⟨0x40f80020, 6, 2⟩
abbrev ASY_STATUS_DIS_WIN : Fld := ⟨0x40f80020, 8, 8⟩
abbrev ASY_HEAT : Fld := ⟨0x40f80024, 0, 32⟩
abbrev ASY_LOAD_NS : Fld := ⟨0x40f80028, 0, 32⟩
abbrev ASY_GRID_FULL : Fld := ⟨0x40f8002c, 0, 32⟩
abbrev ASY_SEQ : Fld := ⟨0x40f80030, 0, 32⟩
abbrev ASY_CHECKS : Fld := ⟨0x40f80080, 0, 32⟩
abbrev ASY_CLEAR_CNT : Fld := ⟨0x40f80084, 0, 32⟩
abbrev ASY_BLK_HEAT : Fld := ⟨0x40f80088, 0, 32⟩
abbrev ASY_BLK_DELTA : Fld := ⟨0x40f8008c, 0, 32⟩
abbrev ASY_DATA_ERR : Fld := ⟨0x40f80090, 0, 32⟩
abbrev ASY_CARRY_CNT : Fld := ⟨0x40f80094, 0, 32⟩
abbrev ASY_STOP_CNT : Fld := ⟨0x40f80098, 0, 32⟩
abbrev ASY_NOPLAN_CNT : Fld := ⟨0x40f8009c, 0, 32⟩
abbrev ASY_URG_LATE : Fld := ⟨0x40f800a0, 0, 32⟩
abbrev TAB_Q_BASE_LO (i : Nat) : Fld := ⟨0x40600000 + i * 0x1000, 0, 32⟩
abbrev TAB_Q_BASE_HI (i : Nat) : Fld := ⟨0x40600004 + i * 0x1000, 0, 32⟩
abbrev TAB_Q_CQBASE_LO (i : Nat) : Fld := ⟨0x40600008 + i * 0x1000, 0, 32⟩
abbrev TAB_Q_CQBASE_HI (i : Nat) : Fld := ⟨0x4060000c + i * 0x1000, 0, 32⟩
abbrev TAB_Q_CFG (i : Nat) : Fld := ⟨0x40600010 + i * 0x1000, 0, 32⟩
abbrev TAB_Q_CFG_LOG2SIZE (i : Nat) : Fld := ⟨0x40600010 + i * 0x1000, 0, 5⟩
abbrev TAB_Q_CFG_DEFPRI (i : Nat) : Fld := ⟨0x40600010 + i * 0x1000, 5, 3⟩
abbrev TAB_Q_CFG_BRAND (i : Nat) : Fld := ⟨0x40600010 + i * 0x1000, 8, 8⟩
abbrev TAB_Q_CFG_SERIAL (i : Nat) : Fld := ⟨0x40600010 + i * 0x1000, 16, 1⟩
abbrev TAB_Q_CFG_EN (i : Nat) : Fld := ⟨0x40600010 + i * 0x1000, 17, 1⟩
abbrev TAB_Q_CFG_LOG2CQ (i : Nat) : Fld := ⟨0x40600010 + i * 0x1000, 18, 5⟩
abbrev TAB_Q_CFG2 (i : Nat) : Fld := ⟨0x40600014 + i * 0x1000, 0, 32⟩
abbrev TAB_Q_CFG2_CLSMASK (i : Nat) : Fld := ⟨0x40600014 + i * 0x1000, 0, 10⟩
abbrev TAB_Q_CFG2_PRODUCER (i : Nat) : Fld := ⟨0x40600014 + i * 0x1000, 16, 8⟩
abbrev TAB_Q_CFG2_EVTLINE (i : Nat) : Fld := ⟨0x40600014 + i * 0x1000, 24, 8⟩
abbrev TAB_Q_TAIL (i : Nat) : Fld := ⟨0x40600020 + i * 0x1000, 0, 32⟩
abbrev TAB_Q_HEAD (i : Nat) : Fld := ⟨0x40600024 + i * 0x1000, 0, 32⟩
abbrev TAB_Q_CQ_WR (i : Nat) : Fld := ⟨0x40600028 + i * 0x1000, 0, 32⟩
abbrev TAB_Q_CQ_HEAD (i : Nat) : Fld := ⟨0x4060002c + i * 0x1000, 0, 32⟩
abbrev TAB_Q_DEPTH (i : Nat) : Fld := ⟨0x40600030 + i * 0x1000, 0, 18⟩
abbrev TAB_Q_DEPTH_MAX (i : Nat) : Fld := ⟨0x40600034 + i * 0x1000, 0, 32⟩
abbrev TAB_Q_BUSY (i : Nat) : Fld := ⟨0x40600038 + i * 0x1000, 0, 32⟩
abbrev TAB_Q_STATUS (i : Nat) : Fld := ⟨0x4060003c + i * 0x1000, 0, 32⟩
abbrev TAB_Q_STATUS_FENCE_WAIT (i : Nat) : Fld := ⟨0x4060003c + i * 0x1000, 0, 1⟩
abbrev TAB_Q_STATUS_CQ_FULL (i : Nat) : Fld := ⟨0x4060003c + i * 0x1000, 1, 1⟩
abbrev TAB_Q_STATUS_FLOW_WAIT (i : Nat) : Fld := ⟨0x4060003c + i * 0x1000, 2, 1⟩
abbrev TAB_Q_STATUS_BUSY_LAST (i : Nat) : Fld := ⟨0x4060003c + i * 0x1000, 3, 1⟩
abbrev TAB_CLS_POLICY : Fld := ⟨0x40680000, 0, 10⟩
abbrev TAB_TASKS : Fld := ⟨0x40680004, 0, 17⟩
abbrev TAB_STATUS : Fld := ⟨0x40680008, 0, 32⟩
abbrev TAB_STATUS_COPY_MISMATCH : Fld := ⟨0x40680008, 0, 1⟩
abbrev TAB_STATUS_PINNED : Fld := ⟨0x40680008, 1, 1⟩
abbrev TAB_CLOG_BASE_LO : Fld := ⟨0x40680010, 0, 32⟩
abbrev TAB_CLOG_BASE_HI : Fld := ⟨0x40680014, 0, 32⟩
abbrev TAB_CLOG_SIZE : Fld := ⟨0x40680018, 0, 32⟩
abbrev TAB_CLOG_WR : Fld := ⟨0x4068001c, 0, 32⟩
abbrev TAB_FLOW_SKIP : Fld := ⟨0x40680020, 0, 8⟩
abbrev TAB_FLOW_SEL : Fld := ⟨0x40680024, 0, 8⟩
abbrev TAB_FLOW_STATE : Fld := ⟨0x40680028, 0, 32⟩
abbrev TAB_FLOW_STATE_NEXT : Fld := ⟨0x40680028, 0, 16⟩
abbrev TAB_FLOW_STATE_PEND : Fld := ⟨0x40680028, 16, 11⟩
abbrev TAB_FLOW_STATE_STALLED : Fld := ⟨0x40680028, 27, 1⟩
abbrev TAB_REDISP : Fld := ⟨0x40680030, 0, 32⟩
abbrev TAB_DISPLACED : Fld := ⟨0x40680034, 0, 32⟩
abbrev TAB_BAD_HDR : Fld := ⟨0x40680038, 0, 32⟩
abbrev TAB_TASKS_MAX : Fld := ⟨0x4068003c, 0, 32⟩
abbrev TAB_GINJ (i : Nat) : Fld := ⟨0x40680100 + i * 0x4, 0, 32⟩
abbrev TAB_GINJ_STATUS : Fld := ⟨0x40680140, 0, 1⟩
abbrev TAB_HIST (i : Nat) : Fld := ⟨0x40690000 + i * 0x4, 0, 32⟩
abbrev TAB_ENG_BUSY (i : Nat) : Fld := ⟨0x406a0000 + i * 0x10, 0, 32⟩
abbrev TAB_ENG_DONE (i : Nat) : Fld := ⟨0x406a0004 + i * 0x10, 0, 32⟩
abbrev TAB_ENG_STALL (i : Nat) : Fld := ⟨0x406a0008 + i * 0x10, 0, 32⟩
abbrev BLW_U_STATUS (i : Nat) : Fld := ⟨0x40700000 + i * 0x1000, 0, 32⟩
abbrev BLW_U_STATUS_BUSY (i : Nat) : Fld := ⟨0x40700000 + i * 0x1000, 0, 1⟩
abbrev BLW_U_STATUS_STALL (i : Nat) : Fld := ⟨0x40700000 + i * 0x1000, 1, 1⟩
abbrev BLW_U_STATUS_OPC (i : Nat) : Fld := ⟨0x40700000 + i * 0x1000, 2, 8⟩
abbrev BLW_U_LINES (i : Nat) : Fld := ⟨0x40700004 + i * 0x1000, 0, 32⟩
abbrev BLW_ALC_STATUS : Fld := ⟨0x40780000, 0, 1⟩
abbrev BLW_ERR_ADDR_LO : Fld := ⟨0x40780010, 0, 32⟩
abbrev BLW_ERR_ADDR_HI : Fld := ⟨0x40780014, 0, 32⟩
abbrev BLW_ALC_LINES : Fld := ⟨0x40780004, 0, 32⟩
abbrev BLW_RD_ERR : Fld := ⟨0x40780080, 0, 32⟩
abbrev BLW_WR_ERR : Fld := ⟨0x40780084, 0, 32⟩
abbrev BLW_LOCAL_REFUSED : Fld := ⟨0x40780088, 0, 32⟩
abbrev TOP_MODE : Fld := ⟨0x40000100, 0, 32⟩
abbrev TOP_MODE_MODE : Fld := ⟨0x40000100, 0, 2⟩
abbrev TOP_MODE_REQ_PEND : Fld := ⟨0x40000100, 2, 1⟩
abbrev TOP_MODE_REQ : Fld := ⟨0x40000104, 0, 2⟩
abbrev TOP_MODE_WHY : Fld := ⟨0x40000108, 0, 32⟩
abbrev TOP_MODE_WHY_WHY : Fld := ⟨0x40000108, 0, 4⟩
abbrev TOP_MODE_WHY_CLS : Fld := ⟨0x40000108, 8, 4⟩
abbrev TOP_MODE_WHY_NODE : Fld := ⟨0x40000108, 12, 4⟩
abbrev HLM_U_STATUS (i : Nat) : Fld := ⟨0x41000000 + i * 0x1000, 0, 32⟩
abbrev HLM_U_STATUS_BUSY (i : Nat) : Fld := ⟨0x41000000 + i * 0x1000, 0, 1⟩
abbrev HLM_U_STATUS_OPC (i : Nat) : Fld := ⟨0x41000000 + i * 0x1000, 1, 8⟩
abbrev HLM_LOG_BASE_LO : Fld := ⟨0x41080000, 0, 32⟩
abbrev HLM_LOG_BASE_HI : Fld := ⟨0x41080004, 0, 32⟩
abbrev HLM_LOG_SIZE : Fld := ⟨0x41080008, 0, 32⟩
abbrev HLM_LOG_WR : Fld := ⟨0x4108000c, 0, 32⟩
abbrev HLM_DIGEST_CNT : Fld := ⟨0x41080080, 0, 32⟩
abbrev HLM_RD_ERR : Fld := ⟨0x41080084, 0, 32⟩
abbrev ANV_CFG : Fld := ⟨0x40800000, 0, 16⟩
abbrev ANV_STATUS : Fld := ⟨0x40800004, 0, 32⟩
abbrev ANV_STATUS_SPARES_FREE : Fld := ⟨0x40800004, 0, 7⟩
abbrev ANV_STATUS_REMAP_BUSY : Fld := ⟨0x40800004, 7, 1⟩
abbrev ANV_STATUS_REMAP_FROM : Fld := ⟨0x40800004, 8, 11⟩
abbrev ANV_STATUS_REMAP_TO : Fld := ⟨0x40800004, 19, 11⟩
abbrev ANV_STATUS_NO_SPARE : Fld := ⟨0x40800004, 30, 1⟩
abbrev ANV_REMAP_REQ : Fld := ⟨0x40800008, 0, 32⟩
abbrev ANV_REMAP_REQ_LBANK : Fld := ⟨0x40800008, 0, 10⟩
abbrev ANV_REMAP_REQ_GO : Fld := ⟨0x40800008, 10, 1⟩
abbrev ANV_SCRUB_PASS : Fld := ⟨0x4080000c, 0, 32⟩
abbrev ANV_FORCED : Fld := ⟨0x40800010, 0, 32⟩
abbrev ANV_CE_TOTAL : Fld := ⟨0x40800014, 0, 32⟩
abbrev ANV_UE_TOTAL : Fld := ⟨0x40800018, 0, 32⟩
abbrev ANV_FAB_CE : Fld := ⟨0x4080001c, 0, 32⟩
abbrev ANV_FAB_UE : Fld := ⟨0x40800020, 0, 32⟩
abbrev ANV_POISON_W : Fld := ⟨0x40800024, 0, 32⟩
abbrev ANV_ASY_CE : Fld := ⟨0x40800028, 0, 32⟩
abbrev ANV_ASY_UE : Fld := ⟨0x4080002c, 0, 32⟩
abbrev ANV_UE_ADDR_LO : Fld := ⟨0x40800030, 0, 32⟩
abbrev ANV_UE_ADDR_HI : Fld := ⟨0x40800034, 0, 32⟩
abbrev ANV_UE_INFO : Fld := ⟨0x40800038, 0, 32⟩
abbrev ANV_UE_INFO_PBANK : Fld := ⟨0x40800038, 0, 11⟩
abbrev ANV_UE_INFO_SCRUB : Fld := ⟨0x40800038, 11, 1⟩
abbrev ANV_UE_INFO_FABRIC : Fld := ⟨0x40800038, 12, 1⟩
abbrev ANV_UE_INFO_POISON : Fld := ⟨0x40800038, 13, 1⟩
abbrev ANV_UE_INFO_ASY : Fld := ⟨0x40800038, 14, 1⟩
abbrev ANV_MAP (i : Nat) : Fld := ⟨0x40810000 + i * 0x4, 0, 11⟩
abbrev ANV_BANK_CE (i : Nat) : Fld := ⟨0x40820000 + i * 0x4, 0, 32⟩
abbrev ANV_BANK_CE_COUNT (i : Nat) : Fld := ⟨0x40820000 + i * 0x4, 0, 16⟩
abbrev ANV_BANK_CE_RETIRED (i : Nat) : Fld := ⟨0x40820000 + i * 0x4, 16, 1⟩
abbrev ANV_BANK_CE_IN_USE (i : Nat) : Fld := ⟨0x40820000 + i * 0x4, 17, 1⟩
abbrev DDR_CH_STATUS (i : Nat) : Fld := ⟨0x41500000 + i * 0x1000, 0, 32⟩
abbrev DDR_CH_STATUS_TRAINED (i : Nat) : Fld := ⟨0x41500000 + i * 0x1000, 0, 1⟩
abbrev DDR_CH_STATUS_ACTIVE (i : Nat) : Fld := ⟨0x41500000 + i * 0x1000, 1, 1⟩
abbrev DDR_CH_STATUS_SELF_REFRESH (i : Nat) : Fld := ⟨0x41500000 + i * 0x1000, 2, 1⟩
abbrev DDR_CH_STATUS_LOST (i : Nat) : Fld := ⟨0x41500000 + i * 0x1000, 3, 1⟩
abbrev DDR_CH_STATUS_CONTENT_LOST (i : Nat) : Fld := ⟨0x41500000 + i * 0x1000, 4, 1⟩
abbrev DDR_CH_STATUS_HOT (i : Nat) : Fld := ⟨0x41500000 + i * 0x1000, 5, 1⟩
abbrev DDR_CH_STATUS_LCH (i : Nat) : Fld := ⟨0x41500000 + i * 0x1000, 8, 3⟩
abbrev DDR_CH_CE (i : Nat) : Fld := ⟨0x41500004 + i * 0x1000, 0, 32⟩
abbrev DDR_CH_UE (i : Nat) : Fld := ⟨0x41500008 + i * 0x1000, 0, 32⟩
abbrev DDR_CH_TAG (i : Nat) : Fld := ⟨0x4150000c + i * 0x1000, 0, 32⟩
abbrev DDR_CH_RETRAIN (i : Nat) : Fld := ⟨0x41500010 + i * 0x1000, 0, 32⟩
abbrev DDR_CH_RETRY (i : Nat) : Fld := ⟨0x41500014 + i * 0x1000, 0, 32⟩
abbrev DDR_CH_MR4 (i : Nat) : Fld := ⟨0x41500018 + i * 0x1000, 0, 32⟩
abbrev DDR_CH_MR4_MR4 (i : Nat) : Fld := ⟨0x41500018 + i * 0x1000, 0, 8⟩
abbrev DDR_CH_MR4_MR4_R1 (i : Nat) : Fld := ⟨0x41500018 + i * 0x1000, 8, 8⟩
abbrev DDR_CFG : Fld := ⟨0x41580000, 0, 32⟩
abbrev DDR_CFG_RATE : Fld := ⟨0x41580000, 0, 2⟩
abbrev DDR_CFG_RANK2 : Fld := ⟨0x41580000, 2, 1⟩
abbrev DDR_CFG_POP : Fld := ⟨0x41580000, 3, 6⟩
abbrev DDR_CFG_SCRUB_H : Fld := ⟨0x41580000, 16, 8⟩
abbrev DDR_CFG_REFMODE : Fld := ⟨0x41580000, 24, 1⟩
abbrev DDR_MAP : Fld := ⟨0x41580004, 0, 32⟩
abbrev DDR_MAP_ACTIVE : Fld := ⟨0x41580004, 0, 6⟩
abbrev DDR_MAP_C : Fld := ⟨0x41580004, 6, 3⟩
abbrev DDR_MAP_SPARE : Fld := ⟨0x41580004, 9, 6⟩
abbrev DDR_SIZE_LO : Fld := ⟨0x41580008, 0, 32⟩
abbrev DDR_SIZE_HI : Fld := ⟨0x4158000c, 0, 32⟩
abbrev DDR_VER_SEL : Fld := ⟨0x41580010, 0, 12⟩
abbrev DDR_VER : Fld := ⟨0x41580014, 0, 8⟩
abbrev DDR_ERR_ADDR_LO : Fld := ⟨0x41580018, 0, 32⟩
abbrev DDR_ERR_ADDR_HI : Fld := ⟨0x4158001c, 0, 32⟩
abbrev DDR_ERR_INFO : Fld := ⟨0x41580020, 0, 32⟩
abbrev DDR_ERR_INFO_UNIT : Fld := ⟨0x41580020, 0, 4⟩
abbrev DDR_ERR_INFO_KIND : Fld := ⟨0x41580020, 4, 2⟩
abbrev DDR_ERR_INFO_PATROL : Fld := ⟨0x41580020, 6, 1⟩
abbrev DDR_PATROL_PASS : Fld := ⟨0x41580024, 0, 32⟩
abbrev UBF_L_STATUS (i : Nat) : Fld := ⟨0x41600000 + i * 0x1000, 0, 32⟩
abbrev UBF_L_STATUS_STATE (i : Nat) : Fld := ⟨0x41600000 + i * 0x1000, 0, 2⟩
abbrev UBF_L_STATUS_TX_BAD (i : Nat) : Fld := ⟨0x41600000 + i * 0x1000, 2, 4⟩
abbrev UBF_L_STATUS_RX_BAD (i : Nat) : Fld := ⟨0x41600000 + i * 0x1000, 6, 4⟩
abbrev UBF_L_STATUS_PEER (i : Nat) : Fld := ⟨0x41600000 + i * 0x1000, 10, 4⟩
abbrev UBF_L_STATUS_PEER_VALID (i : Nat) : Fld := ⟨0x41600000 + i * 0x1000, 14, 1⟩
abbrev UBF_L_CTRL (i : Nat) : Fld := ⟨0x41600004 + i * 0x1000, 0, 1⟩
abbrev UBF_L_DELAY (i : Nat) : Fld := ⟨0x41600008 + i * 0x1000, 0, 16⟩
abbrev UBF_L_BAD (i : Nat) : Fld := ⟨0x41600010 + i * 0x1000, 0, 32⟩
abbrev UBF_L_NAK (i : Nat) : Fld := ⟨0x41600014 + i * 0x1000, 0, 32⟩
abbrev UBF_L_REPLAY_TO (i : Nat) : Fld := ⟨0x41600018 + i * 0x1000, 0, 32⟩
abbrev UBF_L_RETRAIN (i : Nat) : Fld := ⟨0x4160001c + i * 0x1000, 0, 32⟩
abbrev UBF_L_LANE_ERR (i : Nat) : Fld := ⟨0x41600020 + i * 0x1000, 0, 32⟩
abbrev UBF_NODE_CFG : Fld := ⟨0x41680000, 0, 32⟩
abbrev UBF_NODE_CFG_ROLE : Fld := ⟨0x41680000, 0, 2⟩
abbrev UBF_NODE_CFG_NODE_ID : Fld := ⟨0x41680000, 2, 4⟩
abbrev UBF_NODE_CFG_EXP : Fld := ⟨0x41680000, 16, 16⟩
abbrev UBF_NODE_ADMIT : Fld := ⟨0x41680004, 0, 16⟩
abbrev UBF_NODE_LOST : Fld := ⟨0x41680008, 0, 32⟩
abbrev UBF_NODE_LOST_LOST : Fld := ⟨0x41680008, 0, 16⟩
abbrev UBF_NODE_LOST_REFUSED : Fld := ⟨0x41680008, 16, 16⟩
abbrev UBF_CFG : Fld := ⟨0x4168000c, 0, 16⟩
abbrev UBF_LINK_SLOTS (i : Nat) : Fld := ⟨0x41680020 + i * 0x4, 0, 32⟩
abbrev FWL_TH_CTRL (i : Nat) : Fld := ⟨0x41280000 + i * 0x40, 0, 32⟩
abbrev FWL_TH_CTRL_OPEN (i : Nat) : Fld := ⟨0x41280000 + i * 0x40, 0, 1⟩
abbrev FWL_TH_CTRL_CLOSE (i : Nat) : Fld := ⟨0x41280000 + i * 0x40, 1, 1⟩
abbrev FWL_TH_CTRL_COMMIT (i : Nat) : Fld := ⟨0x41280000 + i * 0x40, 2, 1⟩
abbrev FWL_TH_CTRL_ABORT (i : Nat) : Fld := ⟨0x41280000 + i * 0x40, 3, 1⟩
abbrev FWL_TH_STATUS (i : Nat) : Fld := ⟨0x41280004 + i * 0x40, 0, 32⟩
abbrev FWL_TH_STATUS_STATE (i : Nat) : Fld := ⟨0x41280004 + i * 0x40, 0, 2⟩
abbrev FWL_TH_STATUS_RESULT (i : Nat) : Fld := ⟨0x41280004 + i * 0x40, 2, 3⟩
abbrev FWL_TH_STATUS_STAGER (i : Nat) : Fld := ⟨0x41280004 + i * 0x40, 8, 8⟩
abbrev FWL_TH_SEQ (i : Nat) : Fld := ⟨0x41280008 + i * 0x40, 0, 32⟩
abbrev FWL_TH_DIGEST0 (i : Nat) : Fld := ⟨0x41280010 + i * 0x40, 0, 32⟩
abbrev FWL_TH_DIGEST1 (i : Nat) : Fld := ⟨0x41280014 + i * 0x40, 0, 32⟩
abbrev FWL_TH_DIGEST2 (i : Nat) : Fld := ⟨0x41280018 + i * 0x40, 0, 32⟩
abbrev FWL_TH_DIGEST3 (i : Nat) : Fld := ⟨0x4128001c + i * 0x40, 0, 32⟩
abbrev FWL_TH_DIGEST4 (i : Nat) : Fld := ⟨0x41280020 + i * 0x40, 0, 32⟩
abbrev FWL_TH_DIGEST5 (i : Nat) : Fld := ⟨0x41280024 + i * 0x40, 0, 32⟩
abbrev FWL_TH_DIGEST6 (i : Nat) : Fld := ⟨0x41280028 + i * 0x40, 0, 32⟩
abbrev FWL_TH_DIGEST7 (i : Nat) : Fld := ⟨0x4128002c + i * 0x40, 0, 32⟩
abbrev FWL_DENY_LAST_LO : Fld := ⟨0x41280400, 0, 32⟩
abbrev FWL_DENY_LAST_HI : Fld := ⟨0x41280404, 0, 32⟩
abbrev FWL_DENY_INFO : Fld := ⟨0x41280408, 0, 32⟩
abbrev FWL_DENY_INFO_BRAND : Fld := ⟨0x41280408, 0, 8⟩
abbrev FWL_DENY_INFO_KIND : Fld := ⟨0x41280408, 8, 2⟩
abbrev FWL_DENY_INFO_TARGET : Fld := ⟨0x41280408, 10, 2⟩
abbrev FLT_STATUS : Fld := ⟨0x41e02000, 0, 32⟩
abbrev FLT_STATUS_SAFE : Fld := ⟨0x41e02000, 0, 1⟩
abbrev FLT_STATUS_SERVICE : Fld := ⟨0x41e02000, 1, 1⟩
abbrev FLT_STATUS_FIRST : Fld := ⟨0x41e02000, 2, 5⟩
abbrev FLT_STATUS_RING_WR : Fld := ⟨0x41e02000, 7, 6⟩
abbrev FLT_CTRL : Fld := ⟨0x41e02004, 0, 1⟩
abbrev FLT_DROPPED : Fld := ⟨0x41e02008, 0, 32⟩
abbrev RST_CAUSE : Fld := ⟨0x40100000, 0, 32⟩
abbrev RST_CAUSE_REACH : Fld := ⟨0x40100000, 0, 3⟩
abbrev RST_CAUSE_POR : Fld := ⟨0x40100000, 3, 1⟩
abbrev RST_CAUSE_PIN_COLD : Fld := ⟨0x40100000, 4, 1⟩
abbrev RST_CAUSE_THERM : Fld := ⟨0x40100000, 5, 1⟩
abbrev RST_CAUSE_SFI_COLD : Fld := ⟨0x40100000, 6, 1⟩
abbrev RST_CAUSE_START_FAIL : Fld := ⟨0x40100000, 7, 1⟩
abbrev RST_CAUSE_PIN_WARM : Fld := ⟨0x40100000, 8, 1⟩
abbrev RST_CAUSE_SFI_WARM : Fld := ⟨0x40100000, 9, 1⟩
abbrev RST_CAUSE_WDOG : Fld := ⟨0x40100000, 10, 1⟩
abbrev RST_CAUSE_SW_WARM : Fld := ⟨0x40100000, 11, 1⟩
abbrev RST_PIN_SHORT : Fld := ⟨0x40100004, 0, 32⟩
abbrev RST_PIN_SHORT_COLD : Fld := ⟨0x40100004, 0, 16⟩
abbrev RST_PIN_SHORT_WARM : Fld := ⟨0x40100004, 16, 16⟩
abbrev RST_EPISODES : Fld := ⟨0x40100008, 0, 32⟩
abbrev RST_EPISODES_WARM : Fld := ⟨0x40100008, 0, 16⟩
abbrev RST_EPISODES_COLD : Fld := ⟨0x40100008, 16, 16⟩
abbrev RST_POLICY : Fld := ⟨0x40100010, 0, 32⟩
abbrev RST_POLICY_WDOG_EN : Fld := ⟨0x40100010, 0, 1⟩
abbrev RST_POLICY_SWREQ_EN : Fld := ⟨0x40100010, 1, 1⟩
abbrev RST_POLICY_WARM_LIMIT : Fld := ⟨0x40100010, 4, 4⟩
abbrev RST_POLICY_WARM_WIN : Fld := ⟨0x40100010, 8, 8⟩
abbrev RST_WDOG_CFG : Fld := ⟨0x40100014, 0, 16⟩
abbrev RST_WDOG_KICK : Fld := ⟨0x40100018, 0, 32⟩
abbrev RST_SW_REQ : Fld := ⟨0x4010001c, 0, 32⟩
abbrev RST_SUB_CTRL : Fld := ⟨0x40100020, 0, 32⟩
abbrev RST_SUB_CTRL_DDR : Fld := ⟨0x40100020, 0, 6⟩
abbrev RST_SUB_CTRL_ETH : Fld := ⟨0x40100020, 6, 4⟩
abbrev RST_SUB_CTRL_PCIE : Fld := ⟨0x40100020, 10, 1⟩
abbrev RST_START : Fld := ⟨0x40100030, 0, 32⟩
abbrev RST_START_PHASE : Fld := ⟨0x40100030, 0, 4⟩
abbrev RST_START_WARM : Fld := ⟨0x40100030, 4, 1⟩
abbrev RST_START_EMBER_SKIPPED : Fld := ⟨0x40100030, 5, 1⟩
abbrev RST_START_SLOT : Fld := ⟨0x40100030, 6, 1⟩
abbrev RST_START_APP_READY : Fld := ⟨0x40100030, 7, 1⟩
abbrev RST_START_CAUSE : Fld := ⟨0x40100030, 8, 8⟩
abbrev RST_START_MS : Fld := ⟨0x40100034, 0, 32⟩
abbrev RST_START_MS_EMBER_MS : Fld := ⟨0x40100034, 0, 16⟩
abbrev RST_START_MS_FULL_MS : Fld := ⟨0x40100034, 16, 16⟩
abbrev RST_JOURNAL : Fld := ⟨0x40100038, 0, 32⟩
abbrev RST_JOURNAL_FAILS : Fld := ⟨0x40100038, 0, 2⟩
abbrev RST_JOURNAL_BANKED : Fld := ⟨0x40100038, 2, 1⟩
abbrev RST_JOURNAL_FRESH : Fld := ⟨0x40100038, 3, 1⟩
abbrev RST_JOURNAL_NEXT : Fld := ⟨0x40100038, 4, 12⟩
abbrev CLK_D_STATUS (i : Nat) : Fld := ⟨0x40200000 + i * 0x1000, 0, 32⟩
abbrev CLK_D_STATUS_LOCKED (i : Nat) : Fld := ⟨0x40200000 + i * 0x1000, 0, 1⟩
abbrev CLK_D_STATUS_QUALIFIED (i : Nat) : Fld := ⟨0x40200000 + i * 0x1000, 1, 1⟩
abbrev CLK_D_STATUS_FAILED (i : Nat) : Fld := ⟨0x40200000 + i * 0x1000, 2, 1⟩
abbrev CLK_D_STATUS_OUT_TOL (i : Nat) : Fld := ⟨0x40200000 + i * 0x1000, 3, 1⟩
abbrev CLK_D_FREQ (i : Nat) : Fld := ⟨0x40200004 + i * 0x1000, 0, 24⟩
abbrev CLK_D_OOT (i : Nat) : Fld := ⟨0x40200008 + i * 0x1000, 0, 32⟩
abbrev CLK_ENG : Fld := ⟨0x40280000, 0, 2⟩
abbrev CLK_REF : Fld := ⟨0x40280004, 0, 32⟩
abbrev CLK_REF_PRESENT : Fld := ⟨0x40280004, 0, 1⟩
abbrev CLK_REF_LOST_SEEN : Fld := ⟨0x40280004, 1, 1⟩
abbrev SPR_POLICY : Fld := ⟨0x41100000, 0, 32⟩
abbrev SPR_POLICY_FENCE_LIFE : Fld := ⟨0x41100000, 0, 4⟩
abbrev SPR_POLICY_PROACTIVE_EN : Fld := ⟨0x41100000, 4, 1⟩
abbrev SPR_THRESH0 : Fld := ⟨0x41100010, 0, 32⟩
abbrev SPR_THRESH0_AGE_PPM : Fld := ⟨0x41100010, 0, 16⟩
abbrev SPR_THRESH0_HOT_H : Fld := ⟨0x41100010, 16, 16⟩
abbrev SPR_THRESH1 : Fld := ⟨0x41100014, 0, 16⟩
abbrev SPR_OUT : Fld := ⟨0x41100040, 0, 11⟩
abbrev SPR_SWAP_LAST : Fld := ⟨0x41100050, 0, 32⟩
abbrev SPR_SWAP_MAX : Fld := ⟨0x41100054, 0, 32⟩
abbrev SPR_LIVE_CNT : Fld := ⟨0x41100060, 0, 32⟩
abbrev SPR_PRO_CNT : Fld := ⟨0x41100064, 0, 32⟩
abbrev SPR_HEARTH_AGE (i : Nat) : Fld := ⟨0x41100080 + i * 0x4, 0, 24⟩
abbrev SPR_COUNT (i : Nat) : Fld := ⟨0x41100100 + i * 0x4, 0, 32⟩
abbrev SPR_COUNT_LOGICAL (i : Nat) : Fld := ⟨0x41100100 + i * 0x4, 0, 8⟩
abbrev SPR_COUNT_SPARE (i : Nat) : Fld := ⟨0x41100100 + i * 0x4, 8, 8⟩
abbrev SPR_COUNT_WORN (i : Nat) : Fld := ⟨0x41100100 + i * 0x4, 16, 8⟩
abbrev SPR_MAP0 (i : Nat) : Fld := ⟨0x41110000 + i * 0x4, 0, 32⟩
abbrev SPR_MAP0_PUNIT (i : Nat) : Fld := ⟨0x41110000 + i * 0x4, 0, 8⟩
abbrev SPR_MAP0_VALID (i : Nat) : Fld := ⟨0x41110000 + i * 0x4, 8, 1⟩
abbrev SPR_MAP1 (i : Nat) : Fld := ⟨0x41110400 + i * 0x4, 0, 32⟩
abbrev SPR_MAP1_PUNIT (i : Nat) : Fld := ⟨0x41110400 + i * 0x4, 0, 8⟩
abbrev SPR_MAP1_VALID (i : Nat) : Fld := ⟨0x41110400 + i * 0x4, 8, 1⟩
abbrev SPR_MAP2 (i : Nat) : Fld := ⟨0x41110800 + i * 0x4, 0, 32⟩
abbrev SPR_MAP2_PUNIT (i : Nat) : Fld := ⟨0x41110800 + i * 0x4, 0, 8⟩
abbrev SPR_MAP2_VALID (i : Nat) : Fld := ⟨0x41110800 + i * 0x4, 8, 1⟩
abbrev SPR_MAP3 (i : Nat) : Fld := ⟨0x41110c00 + i * 0x4, 0, 32⟩
abbrev SPR_MAP3_PUNIT (i : Nat) : Fld := ⟨0x41110c00 + i * 0x4, 0, 8⟩
abbrev SPR_MAP3_VALID (i : Nat) : Fld := ⟨0x41110c00 + i * 0x4, 8, 1⟩
abbrev SPR_MAP4 (i : Nat) : Fld := ⟨0x41111000 + i * 0x4, 0, 32⟩
abbrev SPR_MAP4_PUNIT (i : Nat) : Fld := ⟨0x41111000 + i * 0x4, 0, 8⟩
abbrev SPR_MAP4_VALID (i : Nat) : Fld := ⟨0x41111000 + i * 0x4, 8, 1⟩
abbrev SPR_MAP5 (i : Nat) : Fld := ⟨0x41111400 + i * 0x4, 0, 32⟩
abbrev SPR_MAP5_PUNIT (i : Nat) : Fld := ⟨0x41111400 + i * 0x4, 0, 8⟩
abbrev SPR_MAP5_VALID (i : Nat) : Fld := ⟨0x41111400 + i * 0x4, 8, 1⟩
abbrev SPR_MAP6 (i : Nat) : Fld := ⟨0x41111800 + i * 0x4, 0, 32⟩
abbrev SPR_MAP6_PUNIT (i : Nat) : Fld := ⟨0x41111800 + i * 0x4, 0, 8⟩
abbrev SPR_MAP6_VALID (i : Nat) : Fld := ⟨0x41111800 + i * 0x4, 8, 1⟩
abbrev SPR_MAP7 (i : Nat) : Fld := ⟨0x41111c00 + i * 0x4, 0, 32⟩
abbrev SPR_MAP7_PUNIT (i : Nat) : Fld := ⟨0x41111c00 + i * 0x4, 0, 8⟩
abbrev SPR_MAP7_VALID (i : Nat) : Fld := ⟨0x41111c00 + i * 0x4, 8, 1⟩
abbrev SPR_MAP8 (i : Nat) : Fld := ⟨0x41112000 + i * 0x4, 0, 32⟩
abbrev SPR_MAP8_PUNIT (i : Nat) : Fld := ⟨0x41112000 + i * 0x4, 0, 8⟩
abbrev SPR_MAP8_VALID (i : Nat) : Fld := ⟨0x41112000 + i * 0x4, 8, 1⟩
abbrev SPR_MAP10 (i : Nat) : Fld := ⟨0x41112800 + i * 0x4, 0, 32⟩
abbrev SPR_MAP10_PUNIT (i : Nat) : Fld := ⟨0x41112800 + i * 0x4, 0, 8⟩
abbrev SPR_MAP10_VALID (i : Nat) : Fld := ⟨0x41112800 + i * 0x4, 8, 1⟩
abbrev SPR_U_STATE (i : Nat) : Fld := ⟨0x41120000 + i * 0x4, 0, 32⟩
abbrev SPR_U_STATE_STATE (i : Nat) : Fld := ⟨0x41120000 + i * 0x4, 0, 3⟩
abbrev SPR_U_STATE_LUNIT (i : Nat) : Fld := ⟨0x41120000 + i * 0x4, 3, 8⟩
abbrev SPR_U_STATE_FENCES (i : Nat) : Fld := ⟨0x41120000 + i * 0x4, 11, 4⟩
abbrev SPR_U_STATE_TESTING (i : Nat) : Fld := ⟨0x41120000 + i * 0x4, 15, 1⟩
abbrev SEC_ATT_CTRL : Fld := ⟨0x41400000, 0, 32⟩
abbrev SEC_ATT_CTRL_REQ : Fld := ⟨0x41400000, 0, 1⟩
abbrev SEC_ATT_CTRL_BUSY : Fld := ⟨0x41400000, 1, 1⟩
abbrev SEC_ATT_CTRL_DONE : Fld := ⟨0x41400000, 2, 1⟩
abbrev SEC_ATT_DST_LO : Fld := ⟨0x41400008, 0, 32⟩
abbrev SEC_ATT_DST_HI : Fld := ⟨0x4140000c, 0, 32⟩
abbrev SEC_ATT_NONCE (i : Nat) : Fld := ⟨0x41400010 + i * 0x4, 0, 32⟩
abbrev SEC_BILLET : Fld := ⟨0x41400040, 0, 32⟩
abbrev DBG_STATE : Fld := ⟨0x41d00000, 0, 32⟩
abbrev DBG_STATE_SCOPE : Fld := ⟨0x41d00000, 0, 3⟩
abbrev DBG_STATE_PENDING : Fld := ⟨0x41d00000, 3, 1⟩
abbrev DBG_NONCE : Fld := ⟨0x41d00004, 0, 32⟩
abbrev DBG_CTRL : Fld := ⟨0x41d00008, 0, 1⟩
abbrev DBG_TOKEN (i : Nat) : Fld := ⟨0x41d01000 + i * 0x4, 0, 32⟩
abbrev DBG_UNLOCK : Fld := ⟨0x41d00010, 0, 3⟩
abbrev THM_CFG : Fld := ⟨0x40300000, 0, 32⟩
abbrev THM_CFG_T_THROTTLE : Fld := ⟨0x40300000, 0, 8⟩
abbrev THM_CFG_T_RELEASE : Fld := ⟨0x40300000, 8, 8⟩
abbrev THM_CFG_T_CRIT : Fld := ⟨0x40300000, 16, 8⟩
abbrev THM_CFG_MAX_STEP : Fld := ⟨0x40300000, 24, 2⟩
abbrev THM_STATUS : Fld := ⟨0x40300004, 0, 32⟩
abbrev THM_STATUS_THROTTLED : Fld := ⟨0x40300004, 0, 1⟩
abbrev THM_STATUS_CRIT : Fld := ⟨0x40300004, 1, 1⟩
abbrev THM_STATUS_HOT_IDX : Fld := ⟨0x40300004, 2, 7⟩
abbrev THM_STATUS_HOT_T : Fld := ⟨0x40300004, 16, 16⟩
abbrev THM_MAX_SEEN : Fld := ⟨0x40300008, 0, 16⟩
abbrev THM_STEP_DOWN : Fld := ⟨0x40300010, 0, 32⟩
abbrev THM_STEP_UP : Fld := ⟨0x40300014, 0, 32⟩
abbrev THM_MS_THROTTLED : Fld := ⟨0x40300018, 0, 32⟩
abbrev THM_EXCLUDED : Fld := ⟨0x4030001c, 0, 32⟩
abbrev THM_SENSOR (i : Nat) : Fld := ⟨0x40300100 + i * 0x4, 0, 32⟩
abbrev THM_SENSOR_T (i : Nat) : Fld := ⟨0x40300100 + i * 0x4, 0, 16⟩
abbrev THM_SENSOR_VALID (i : Nat) : Fld := ⟨0x40300100 + i * 0x4, 16, 1⟩
abbrev THM_SENSOR_REGION (i : Nat) : Fld := ⟨0x40300100 + i * 0x4, 17, 4⟩
abbrev TOP_PPS_LO : Fld := ⟨0x40000200, 0, 32⟩
abbrev TOP_PPS_HI : Fld := ⟨0x40000204, 0, 32⟩
abbrev TOP_PPS_CNT : Fld := ⟨0x40000208, 0, 32⟩
abbrev CAR_INACTIVE (i : Nat) : Fld := ⟨0x40410000 + i * 0x4, 0, 32⟩
abbrev CAR_ACTIVE (i : Nat) : Fld := ⟨0x40411000 + i * 0x4, 0, 32⟩
abbrev SWG_FAMILY (i : Nat) : Fld := ⟨0x40b90000 + i * 0x4, 0, 32⟩
abbrev SWG_FOOT (i : Nat) : Fld := ⟨0x40b91000 + i * 0x4, 0, 32⟩
abbrev FLT_LOG (i : Nat) : Fld := ⟨0x41e00000 + i * 0x4, 0, 32⟩
abbrev FLT_REACT (i : Nat) : Fld := ⟨0x41e01000 + i * 0x4, 0, 32⟩
abbrev FWL_REGION0 (i : Nat) : Fld := ⟨0x41200000 + i * 0x4, 0, 32⟩
abbrev FWL_REGION1 (i : Nat) : Fld := ⟨0x41201000 + i * 0x4, 0, 32⟩
abbrev FWL_REGION2 (i : Nat) : Fld := ⟨0x41202000 + i * 0x4, 0, 32⟩
abbrev FWL_REGION3 (i : Nat) : Fld := ⟨0x41203000 + i * 0x4, 0, 32⟩
abbrev SEC_DREC (i : Nat) : Fld := ⟨0x41410000 + i * 0x4, 0, 32⟩

end Sys2Proof.Machine
end

