-- ==== Sys2Proof/Machine/Ops.lean ====
section
/-! DEFINITION. The named operations over registers, faults and memory that every command uses. A block has no exception entry: raising
a fault record is `sendFault` (R431, R432). -/

namespace Sys2Proof.Machine

/-- The reset value of a register: zero but for those the tables give otherwise (R20, R75, R118, R143, R338, R403, R443, R473 to R475). -/
def resetOf (a : Nat) : Word :=
  if a = 0x40400020 then 0x6 else if a = 0x40A80064 then 0x1 else if a = 0x40C80060 then 0x2FF
  else if a = 0x40000100 then 0x2 else if a = 0x41600000 then 0x3FC else if a = 0x41601000 then 0x3FC
  else if a = 0x41602000 then 0x3FC else if a = 0x41603000 then 0x3FC else if a = 0x41E02000 then 0x800
  else if a = 0x40200000 then 0x3 else if a = 0x40280000 then 0x3 else if a = 0x40100034 then 0xFFFFFFFF else 0

/-- The stored value of a register. -/
def rd (s : State) (a : Nat) : Nat := (sget resetOf s.regs a).toNat

def wr (s : State) (a v : Nat) : State := { s with regs := sset resetOf s.regs a (BitVec.ofNat 32 v) }

/-- A field of a register. -/
def getF (s : State) (f : Fld) : Nat := bits (rd s f.addr) f.lo f.w

def setF (s : State) (f : Fld) (v : Nat) : State := wr s f.addr (setBits (rd s f.addr) f.lo f.w v)

/-- Add n to a counter, saturating at its field's largest value. -/
def bump (s : State) (f : Fld) (n : Nat) : State := setF s f (min (getF s f + n) (2 ^ f.w - 1))

/-- Add 1 to a free-running count. -/
def tick (s : State) (f : Fld) : State := setF s f (getF s f + 1)

/-- Keep a high-water mark. -/
def high (s : State) (f : Fld) (n : Nat) : State := if getF s f < n then setF s f (min n (2 ^ f.w - 1)) else s

def flag (s : State) (f : Fld) : Bool := getF s f == 1

/-- A 64-bit value in a LO and HI register pair. -/
def get64 (s : State) (lo hi : Fld) : Nat := getF s lo + 2 ^ 32 * getF s hi
def set64 (s : State) (lo hi : Fld) (v : Nat) : State := setF (setF s lo v) hi (v / 2 ^ 32)

/-- The free value drawn next, and the counter advanced (log 2). -/
def fresh (s : State) : Nat × State := (s.free, { s with free := s.free + 1 })

def answer (s : State) (r : Resp) : State := { s with resp := r }

/-- What is left to slew after d ns: at most 100 ppm of them are taken up (R55; log 123). -/
def slewLeft (off : Int) (a b : Nat) : Int :=
  let k : Int := (Config.slewStep a b % ((b - a) / 10000 + 1) : Nat)
  if off.natAbs ≤ k then 0 else if 0 < off then off - k else off + k

/-- The vehicle time counter takes the moment a timed happening names; it never goes back, and the always-on domain's holdover time goes
with it (R35, R40, R55; log 1). -/
def atTime (s : State) (t : Nat) : State :=
  let n := max s.time (t % 2 ^ 64)
  { s with time := n, slew := slewLeft s.slew s.time n, aonTime := s.aonTime + (n - s.time) }

/- ### Units (R22, R315, R492) -/

/-- The first E of each class; 9 and more have none (R315); class 10, the application cores, starts at 224 (R476). -/
def classBase (c : Nat) : Nat := [0, 18, 27, 32, 56, 200, 205, 214, 216, 999, 224].getD c 999
def physCount (c : Nat) : Nat := [18, 9, 5, 24, 144, 5, 9, 2, 8, 0, 10].getD c 0
/-- The logical count of each class and grade (R5, R22, R26). -/
def gradeCount (grade c : Nat) : Nat :=
  let t := if grade = 48 then [16, 8, 4, 16, 128, 4, 8, 1, 8, 0, 8]
    else if grade = 36 then [16, 6, 3, 12, 96, 3, 6, 1, 8, 0, 8] else [16, 4, 2, 8, 64, 2, 4, 1, 8, 0, 6]
  t.getD c 0
def classOfE (e : Nat) : Nat :=
  if e < 18 then 0 else if e < 27 then 1 else if e < 32 then 2 else if e < 56 then 3 else if e < 200 then 4
  else if e < 205 then 5 else if e < 214 then 6 else if e < 216 then 7 else if e < 224 then 8 else 10
/-- The register block of an engine class (R15). -/
def classBlock (c : Nat) : Nat := [0x07, 0x0A, 0x0C, 0x0B, 0x09, 0x0D, 0x0E, 0x0F, 0x10].getD c 0x11
/-- Hammers lie 18 to a hearth, Swage engines 3 (R25). -/
def hearthOf (e : Nat) : Option Nat :=
  if 32 ≤ e ∧ e < 56 then some ((e - 32) / 3) else if 56 ≤ e ∧ e < 200 then some ((e - 56) / 18) else none

def mapP (c l : Nat) : Fld := ⟨0x41110000 + c * 0x400 + l * 4, 0, 8⟩
def mapV (c l : Nat) : Fld := ⟨0x41110000 + c * 0x400 + l * 4, 8, 1⟩
def logical (s : State) (c : Nat) : Nat := getF s (SPR_COUNT_LOGICAL c)
/-- The physical E of logical index l of class c, when in service (R14, R492). -/
def physE (s : State) (c l : Nat) : Option Nat :=
  if getF s (mapV c l) = 1 then some (classBase c + getF s (mapP c l)) else none
def ustate (s : State) (e : Nat) : Nat := getF s (SPR_U_STATE_STATE e)

/- ### Faults (R431 to R437) -/

/-- The low 32 bits of the stroke number, 0 before the first stroke (R431). -/
def strokeLow (s : State) : Nat := if s.stk.any then s.stk.no % 2 ^ 32 else 0

def mkRec (s : State) (block code cls unit : Nat) : FaultRec :=
  { block := block % 256, code := code % 4096, cls := cls % 16, unit := unit % 256, stroke := strokeLow s, time := s.time }

/-- Entry words of a fault record in the log (R431). -/
def recWords (r : FaultRec) : List Nat :=
  [r.stroke, r.code + r.cls * 2 ^ 12 + r.unit * 2 ^ 16 + r.block * 2 ^ 24, r.time % 2 ^ 32, r.time / 2 ^ 32]

/-- An accepted record enters the first-fault area while it has room, and the ring otherwise (R432). -/
def logRec (s : State) (r : FaultRec) : State :=
  if getF s FLT_STATUS_FIRST < 16 then
    setF { s with flt := { s.flt with first := s.flt.first ++ [r] } } FLT_STATUS_FIRST (getF s FLT_STATUS_FIRST + 1)
  else
    let w := getF s FLT_STATUS_RING_WR
    let s := { s with flt := { s.flt with ring := s.flt.ring.filter (·.1 ≠ w) ++ [(w, r)] } }
    setF s FLT_STATUS_RING_WR (if w ≥ 63 then 16 else w + 1)

def classDefault (cls : Nat) : Nat := [0, 0, 1, 2, 3, 4, 5, 6].getD cls 0

/-- Does entry i of the reaction table match (R433)? -/
def reactMatch (s : State) (r : FaultRec) (i : Nat) : Bool :=
  let w := rd s (FLT_REACT (2 * i)).addr
  bit w 26 && bits w 8 4 == r.cls && (bit w 24 || bits w 0 8 == r.block) && (bit w 25 || bits w 12 12 == r.code)

/-- The record's reaction: the first matching entry, else its class default (R433, R434). -/
def reactionOf (s : State) (r : FaultRec) : Nat :=
  match (List.range 256).find? (reactMatch s r) with
  | some i => bits (rd s (FLT_REACT (2 * i + 1)).addr) 0 3
  | none => classDefault r.cls

/-- `ASY.STATUS` shows the levels of the plan pins (R289). -/
def showPins (s : State) : State :=
  setF (setF (setF s ASY_STATUS_SAFE (b2n s.pins.safeState)) ASY_STATUS_LIVE (b2n s.pins.planLive)) ASY_STATUS_FAULT (b2n !s.pins.faultN)

/-- Latch the class 5 state: SAFE_STATE high, FAULT_N released (R282, R283, R434). -/
def latchSafe (s : State) : State :=
  let s := setF s FLT_STATUS_SAFE 1
  showPins { s with pins := { s.pins with safeState := true, faultN := false } }

/-- The reactions that need no engine: LOG, FRAME, SERVICE, SAFE, WARM, COLD (R434, R436). -/
def reactPlain (s : State) (k : Nat) : State :=
  if k = 3 then { setF s FLT_STATUS_SERVICE 1 with flt := { s.flt with serviceIrq := true } }
  else if k = 4 then latchSafe s
  else if k = 5 then
    let s := latchSafe s
    { s with flt := { s.flt with warmPending := true, warmSince := if s.flt.warmPending then s.flt.warmSince else s.time, stopRepeat := true } }
  else if k = 6 then
    let s := latchSafe s
    { s with flt := { s.flt with coldPending := true } }
  else s

/-- Replace the newest queued record of class 0 or 1 (R432). -/
def replaceNewest : List FaultRec → FaultRec → Option (List FaultRec)
  | [], _ => none
  | q :: t, r =>
    match replaceNewest t r with
    | some t' => some (q :: t')
    | none => if q.cls ≤ 1 then some (t ++ [r]) else none

/-- A record arrives at the collector's FIFO of 256 (R432); each arrival is in a clock of its own (log 163). -/
def pushFault (s : State) (r : FaultRec) : State :=
  if s.flt.fifo.length < 256 then { s with flt := { s.flt with fifo := s.flt.fifo ++ [r] } }
  else if r.cls ≤ 1 then bump s FLT_DROPPED 1
  else match replaceNewest s.flt.fifo r with
    | some q => bump { s with flt := { s.flt with fifo := q } } FLT_DROPPED 1
    | none =>
      let s := bump s FLT_DROPPED 1
      let lost := mkRec s 0x1E 0x001 5 0
      reactPlain (logRec s lost) (reactionOf s lost)

/-- A block sends a fault record (R431, R432). -/
def sendFault (s : State) (block code cls unit : Nat) : State := pushFault s (mkRec s block code cls unit)

/-- The error response and class 0 record with code 0x000 of a refused register access (R16). -/
def refuseAccess (s : State) (blk brand : Nat) : State :=
  answer (sendFault s (if blk ≤ 0x1E then blk else 0) 0x000 0 brand) .error

/- ### Brands and firewalls (R419 to R423) -/

/-- The slot of a brand in the permission masks (R419). -/
def slotOf (b : Nat) : Option Nat :=
  if b = 0x01 then some 0 else if 0x02 ≤ b ∧ b ≤ 0x04 then some (b - 1) else if 0x10 ≤ b ∧ b ≤ 0x19 then some (b - 0x10 + 4)
  else if b = 0x20 then some 14 else if b = 0x21 then some 15 else if 0x30 ≤ b ∧ b ≤ 0x3F then some (b - 0x30 + 16)
  else if b = 0x40 then some 32 else if b = 0x41 then some 33 else if 0x50 ≤ b ∧ b ≤ 0x5F then some (b - 0x50 + 34)
  else if b = 0x60 then some 50 else none

def fwWord (s : State) (g r k : Nat) : Nat := rd s (0x41200000 + g * 0x1000 + r * 48 + k * 4)
def fwBase (s : State) (g r : Nat) : Nat := fwWord s g r 0 + 2 ^ 32 * fwWord s g r 1
def fwLimit (s : State) (g r : Nat) : Nat := fwWord s g r 2 + 2 ^ 32 * fwWord s g r 3
/-- The mask of region r for access kind 0 read, 1 write, 2 fetch. -/
def fwMask (s : State) (g r kind : Nat) : Nat := fwWord s g r (4 + 2 * kind) + 2 ^ 32 * fwWord s g r (5 + 2 * kind)
def fwCtrl (s : State) (g r : Nat) : Nat := fwWord s g r 10
def fwHits (s : State) (g a r : Nat) : Bool := bit (fwCtrl s g r) 0 && decide (fwBase s g r ≤ a) && decide (a ≤ fwLimit s g r)

/-- The class of a denial, or none when the access is granted (R421 to R423). -/
def fwDenies (s : State) (g brand kind a len : Nat) : Option Nat :=
  if getF s (FWL_TH_SEQ g) = 0 then (if 1 ≤ brand ∧ brand ≤ 4 then none else some 0)
  else match (List.range 64).find? (fwHits s g a) with
    | none => some 0
    | some r =>
      let cls := if bits (fwCtrl s g r) 1 2 = 1 then 3 else if bits (fwCtrl s g r) 1 2 = 2 then 5 else 0
      match slotOf brand with
      | none => some cls
      | some k => if a + len - 1 ≤ fwLimit s g r ∧ bit (fwMask s g r kind) k then none else some cls

/-- A denial: FWL 0x001 and `FWL.DENY_LAST` (R422). -/
def deny (s : State) (g cls brand kind a : Nat) : State :=
  let s := set64 s FWL_DENY_LAST_LO FWL_DENY_LAST_HI a
  let s := setF (setF (setF s FWL_DENY_INFO_BRAND brand) FWL_DENY_INFO_KIND kind) FWL_DENY_INFO_TARGET g
  sendFault s 0x12 0x001 cls g

/-- A register access of a brand: firewall target 2 first (R420, R421); a denied one answers an error and changes nothing else. -/
def guarded (s : State) (brand kind addr : Nat) (k : State → State) : State :=
  match fwDenies s 2 brand kind addr 4 with
  | some cls => answer (deny s 2 cls brand kind addr) .error
  | none => k s

/-- A role of the safety island has no pair (R438). -/
def islandDown (s : State) : Bool := decide (s.flt.roles.length < 2)

/-- The monitor pair has lost lockstep and no spare pair has taken over (R283). -/
def monitorOut (s : State) : Bool := s.flt.takeover.map (·.1) == some 0 || !(s.flt.roles.any (fun x => x.1 == 0))

/- ### The memory map (R13, R32, R347, R360, R392) -/

def anvilEnd : Nat := 0x10000000
def asyBase : Nat := 0x20000000
def asySize : Nat := 0x800000
def ddrBase : Nat := 0x1000000000
def remoteBase : Nat := 0x800000000000
def ddrSize (s : State) : Nat := get64 s DDR_SIZE_LO DDR_SIZE_HI
def mode (s : State) : Nat := getF s TOP_MODE_MODE
def inEmber (s : State) : Bool := mode s == 2
def inRepro (s : State) : Bool := mode s == 1

/-- The firewall target that holds an address: 0 Anvil, 1 Assay store, 2 registers, 3 DDR window (R420). -/
def targetOf (s : State) (a : Nat) : Option Nat :=
  if a < anvilEnd then some 0 else if asyBase ≤ a ∧ a < asyBase + asySize then some 1
  else if 0x40000000 ≤ a ∧ a < 0x44000000 then some 2
  else if ddrBase ≤ a ∧ a < ddrBase + ddrSize s then some 3 else none

def lineOf (a : Nat) : Nat := a / 64 * 64

/-- Logical bank of an Anvil line (R347). -/
def bankOf (a : Nat) : Nat := Nat.xor (a / 64 % 1024) (a / 64 / 1024 % 1024)
def rowOf (a : Nat) : Nat := a / 64 / 1024 % 4096
/-- The Anvil line of a logical bank and a row (R347 is a bijection given the row). -/
def lineAt (bank row : Nat) : Nat := (row * 1024 + Nat.xor bank (row % 1024)) * 64
def pbankOf (s : State) (a : Nat) : Nat := getF s (ANV_MAP (bankOf a))
/-- Assay store bank: 32 banks of 256 KiB in address order (DESIGN CHOICE, log 14). -/
def asyBankOf (a : Nat) : Nat := (a - asyBase) / 0x40000

/-- DDR line index, logical channel and unit (R360). -/
def ddrLine (a : Nat) : Nat := (a - ddrBase) / 64
def activeChs (s : State) : List Nat := bitList 6 (getF s DDR_MAP_ACTIVE)
def ddrPhys (s : State) (l : Nat) : Nat := (activeChs s).getD (l % max 1 (getF s DDR_MAP_C)) 0
/-- Where a line lies within its subchannel's devices: bank group, bank, column, row, rank (R360). -/
structure DdrPlace where
  group : Nat
  bank : Nat
  column : Nat
  row : Nat
  rank : Nat
deriving DecidableEq, Repr

def ddrPlace (s : State) (l : Nat) : DdrPlace :=
  let m := l / (2 * max 1 (getF s DDR_MAP_C))
  { group := bits m 0 2, bank := bits m 2 2, column := bits m 4 6 * 16, row := bits m 10 16, rank := bits m 26 1 }

def ddrUnit (s : State) (l : Nat) : Nat := ddrPhys s l * 2 + l / max 1 (getF s DDR_MAP_C) % 2

/- ### Bytes -/

def zeroByte (_ : Nat) : BitVec 8 := 0
def byteAt (s : State) (a : Nat) : Nat := (sget zeroByte s.mem.cells a).toNat
def setByte (s : State) (a v : Nat) : State :=
  { s with mem := { s.mem with cells := sset zeroByte s.mem.cells a (BitVec.ofNat 8 v) } }

/-- Store bytes upward from a, without any check. -/
def poke (s : State) (a : Nat) (bs : List Nat) : State :=
  match bs with
  | [] => s
  | b :: t => poke (setByte s a b) (a + 1) t

def peek (s : State) (a n : Nat) : List Nat := (List.range n).map (fun i => byteAt s (a + i))

def noErr (_ : Nat) : List Nat := []
def errAt (s : State) (line : Nat) : List Nat := sget noErr s.mem.errs line
def fabAt (s : State) (line : Nat) : List Nat := sget noErr s.mem.fabErrs line
def setErr (s : State) (line : Nat) (e : List Nat) : State :=
  { s with mem := { s.mem with errs := sset noErr s.mem.errs line (if e.all (· == 0) then [] else e) } }

/-- Memory keeps its canonical form: rising keys, no entry at the unlisted value. -/
def Memory.wf (m : Mem) : Bool :=
  swf zeroByte m.cells && swf noErr m.errs && swf noErr m.fabErrs && swf noErr m.spareErrs

/- ### Lines under the code (R344 to R346, R363) -/

inductive Note where
  | corrected (line : Nat) (fix : List Nat)
  | bad (line : Nat)
  | tag (line : Nat)
  | denied (g cls brand kind a : Nat)
  | fabric (line : Nat) (bad : Bool)
deriving DecidableEq, Repr

/-- The TAG stored with a DDR line, and the one expected (R362). -/
def storedTag (s : State) (l : Nat) : Nat := sget (fun l => ddrTag l (nget s.ddr.sweepVer (l / 2 ^ 18))) s.mem.tags l
def wantTag (s : State) (l : Nat) : Nat := ddrTag l (nget s.ddr.ver (l / 2 ^ 18))

/-- What a checked read of a line returns: its bytes or an uncorrectable error, and what the check found. -/
def readLine (s : State) (a : Nat) : Option (List Nat) × List Note :=
  let line := lineOf a
  let raw := peek s line 64
  let e := errAt s line
  let isDdr := decide (ddrBase ≤ a)
  if isDdr ∧ getF s (DDR_CH_STATUS_LOST (ddrPhys s (ddrLine line))) = 1 then (none, [.bad line])
  else match (if e = [] then .clean else lineCheck e) with
    | .bad => (none, [.bad line])
    | .clean =>
      if isDdr ∧ storedTag s (ddrLine line) ≠ wantTag s (ddrLine line) then (none, [.tag line])
      else (some (xorBytes raw (patternBytes e)), [])
    | .corrected fix =>
      if isDdr ∧ storedTag s (ddrLine line) ≠ wantTag s (ddrLine line) then (none, [.corrected line fix, .tag line])
      else (some (xorBytes raw (patternBytes (xorPattern e fix))), [.corrected line fix])

/-- The line as it is stored: its codeword with the pattern of its errors (R341). -/
def storedLine (s : State) (line : Nat) : List Nat := xorPattern (codeword (peek s line 64)) (errAt s line ++ List.replicate 37 0)

/-- The side device's eight pins of a DDR line: check symbols, TAG, the reserved pin (R361). -/
def sidePins (s : State) (line : Nat) : List Nat :=
  checkSymbols (dataSymbols (peek s line 64)) ++ [storedTag s (ddrLine line) % 65536, storedTag s (ddrLine line) / 65536 % 65536, 0]

/-- A read through a reader's fabric port, which checks the line of the Anvil or the Assay store again (R344). -/
def portLine (s : State) (a : Nat) : Option (List Nat) × List Note :=
  let line := lineOf a
  let r := readLine s a
  let f := fabAt s line
  match r.1 with
  | none => r
  | some bs =>
    if f = [] ∨ ddrBase ≤ a then r
    else match lineCheck f with
      | .clean => (some (xorBytes bs (patternBytes f)), r.2)
      | .corrected fix => (some (xorBytes bs (patternBytes (xorPattern f fix))), r.2 ++ [.fabric line false])
      | .bad => (none, r.2 ++ [.fabric line true])

/-- A bank is due for retirement (R352). -/
def bankDue (s : State) (pb : Nat) : State :=
  match (List.range 1024).find? (fun l => getF s (ANV_MAP l) == pb) with
  | none => s
  | some _ => { s with anv := { s.anv with due := insertNew s.anv.due pb } }

/-- A record written once per stroke under a key. -/
def onceCode (s : State) (key : Nat) (block code cls unit : Nat) : State :=
  if s.anv.ceSeen.contains key then s
  else sendFault { s with anv := { s.anv with ceSeen := key :: s.anv.ceSeen } } block code cls unit

def oncePerStroke (s : State) (key : Nat) (block cls unit : Nat) : State := onceCode s key block 0x001 cls unit

def queueWriteback (s : State) (line : Nat) : State :=
  { s with mem := { s.mem with writeback := insertNew s.mem.writeback line } }

/-- A channel is lost on 16 distinct uncorrectable lines in a stroke (R369). -/
def ddrBadLine (s : State) (l : Nat) : State :=
  let ch := ddrPhys s l
  let ls := if s.ddr.ueLines.contains (ch, l) then s.ddr.ueLines else (ch, l) :: s.ddr.ueLines
  let s := { s with ddr := { s.ddr with ueLines := ls } }
  if 16 ≤ (ls.filter (·.1 = ch)).length ∧ getF s (DDR_CH_STATUS_LOST ch) = 0 then
    sendFault (setF s (DDR_CH_STATUS_LOST ch) 1) 0x15 0x005 4 (ch * 2)
  else s

/-- What a reader's port found: a fabric correction, or a fabric error that the reader receives (R344, R370). -/
def fabricFx (s : State) (line : Nat) (bad : Bool) : State :=
  if !bad then bump s ANV_FAB_CE 1
  else
    let asy := decide (asyBase ≤ line)
    let s := set64 (bump s ANV_FAB_UE 1) ANV_UE_ADDR_LO ANV_UE_ADDR_HI line
    let s := setF s ANV_UE_INFO_PBANK (if asy then asyBankOf line else pbankOf s line)
    let s := setF (setF (setF (setF s ANV_UE_INFO_SCRUB 0) ANV_UE_INFO_FABRIC 1) ANV_UE_INFO_POISON 0) ANV_UE_INFO_ASY (b2n asy)
    sendFault s 0x08 0x002 3 (if asy then 0xC0 + asyBankOf line else pbankOf s line / 8)

/-- A bank's count of corrections rises; its 16 passes begin with the first (R352; log 32). -/
def countCe (s : State) (pb : Nat) : State :=
  let s := if getF s (ANV_BANK_CE_COUNT pb) = 0 then { s with anv := { s.anv with ceFrom := nset s.anv.ceFrom pb (getF s ANV_SCRUB_PASS + 1) } } else s
  bump (bump s (ANV_BANK_CE_COUNT pb) 1) ANV_CE_TOTAL 1

/-- An uncorrectable line at a check of its Anvil or Assay store bank: counted, shown, the bank due for retirement (R352, R356). -/
def anvilBad (s : State) (scrub : Bool) (line : Nat) : State :=
  let asy := decide (asyBase ≤ line)
  let s := set64 s ANV_UE_ADDR_LO ANV_UE_ADDR_HI line
  let s := setF s ANV_UE_INFO_PBANK (if asy then asyBankOf line else pbankOf s line)
  let s := setF (setF (setF (setF s ANV_UE_INFO_SCRUB (b2n scrub)) ANV_UE_INFO_FABRIC 0)
    ANV_UE_INFO_POISON (b2n (errAt s line == poison))) ANV_UE_INFO_ASY (b2n asy)
  if asy then bump s ANV_ASY_UE 1 else bankDue (bump s ANV_UE_TOTAL 1) (pbankOf s line)

/-- The effect on counters and faults of what a line check found (R344, R352, R356, R363). `scrub` marks the scrubber or patrol. -/
def noteFx (scrub : Bool) (s : State) (n : Note) : State :=
  match n with
  | .denied g cls brand kind a => deny s g cls brand kind a
  | .fabric line bad => fabricFx s line bad
  | .corrected line _ =>
    if ddrBase ≤ line then
      let l := ddrLine line
      queueWriteback (oncePerStroke (bump s (DDR_CH_CE (ddrPhys s l)) 1) (0x20000 + ddrPhys s l) 0x15 1 (ddrUnit s l)) line
    else if asyBase ≤ line then
      queueWriteback (oncePerStroke (bump s ANV_ASY_CE 1) (0x10000 + asyBankOf line) 0x08 1 (0xC0 + asyBankOf line)) line
    else
      let pb := pbankOf s line
      let s := countCe s pb
      let s := queueWriteback (oncePerStroke s pb 0x08 1 (pb / 8)) line
      if getF s ANV_CFG ≤ getF s (ANV_BANK_CE_COUNT pb) ∧ 0 < getF s ANV_CFG then bankDue s pb else s
  | .bad line =>
    if ddrBase ≤ line then
      let l := ddrLine line
      let s := set64 (bump s (DDR_CH_UE (ddrPhys s l)) 1) DDR_ERR_ADDR_LO DDR_ERR_ADDR_HI line
      let s := setF (setF (setF s DDR_ERR_INFO_UNIT (ddrUnit s l)) DDR_ERR_INFO_KIND (if errAt s line = poison then 2 else 0))
        DDR_ERR_INFO_PATROL (b2n scrub)
      ddrBadLine (sendFault s 0x15 0x002 3 (ddrUnit s l)) l
    else
      let s := anvilBad s scrub line
      sendFault s 0x08 (if scrub then 0x003 else 0x002) 3 (if asyBase ≤ line then 0xC0 + asyBankOf line else pbankOf s line / 8)
  | .tag line =>
    let l := ddrLine line
    let s := bump (bump s (DDR_CH_RETRY (ddrPhys s l)) 1) (DDR_CH_TAG (ddrPhys s l)) 1
    let s := set64 s DDR_ERR_ADDR_LO DDR_ERR_ADDR_HI line
    let s := setF (setF (setF s DDR_ERR_INFO_UNIT (ddrUnit s l)) DDR_ERR_INFO_KIND 1) DDR_ERR_INFO_PATROL (b2n scrub)
    sendFault s 0x15 0x003 3 (ddrUnit s l)

def notesFx (s : State) (ns : List Note) : State := ns.foldl (noteFx false) s

/-- A read by an engine or unit with a brand: the firewall first, then the line (R421). Addresses outside the Anvil and the DDR window
answer an error (R31, R544). -/
def readBrand (s : State) (brand a : Nat) : Option (List Nat) × List Note :=
  match targetOf s a with
  | none => (none, [])
  | some g =>
    if g = 1 ∨ g = 2 then (none, [])
    else match fwDenies s g brand 0 (lineOf a) 64 with
    | some cls => (none, [.denied g cls brand 0 (lineOf a)])
    | none => if g = 3 ∧ !s.start.swept then (none, []) else portLine s a

/-- Reads that remember what the checks found. -/
abbrev Rdr := StateM (List Note)

/-- Notes of reads made beside the reader. -/
def rdNote (l : List Note) : Rdr Unit := fun ns => ((), ns ++ l)
def rdLine (s : State) (brand a : Nat) : Rdr (Option (List Nat)) := fun ns => let r := readBrand s brand a; (r.1, ns ++ r.2)

/-- The bytes [a, a + n), each line of them read once; none when any read fails. -/
def rdLines : Nat → State → Nat → Nat → Rdr (Option (List Nat))
  | 0, _, _, _ => pure (some [])
  | k + 1, s, brand, line => do
    let x ← rdLine s brand line
    let y ← rdLines k s brand (line + 64)
    pure (match x, y with | some p, some q => some (p ++ q) | _, _ => none)

def rdBytes (s : State) (brand a n : Nat) : Rdr (Option (List Nat)) := do
  let k := (a % 64 + n + 63) / 64
  let x ← rdLines k s brand (lineOf a)
  pure (x.map (fun bs => (bs.drop (a % 64)).take n))

/-- The lines of [a, a + n). -/
def linesOf (a n : Nat) : List Nat := if n = 0 then [] else (List.range ((a % 64 + n + 63) / 64)).map (fun i => lineOf a + 64 * i)

/-- A line as an engine that goes on after a failed read sees it: what it could not read is free (log 143). -/
def seenLine (s : State) (brand line : Nat) : List Nat :=
  match (readBrand s brand line).1 with
  | some bs => bs
  | none => (List.range 64).map (fun i => Config.unreadByte s.free (line + i) % 256)

/-- The bytes [a, a + n) as an engine sees them. -/
def seen (s : State) (brand a n : Nat) : List Nat := (((linesOf a n).flatMap (seenLine s brand)).drop (a % 64)).take n

/-- What the checks and firewalls find over [a, a + n), each line read once. -/
def notesOf (s : State) (brand a n : Nat) : List Note := (linesOf a n).flatMap (fun l => (readBrand s brand l).2)

/- ### Writes -/

/-- The stroke number in the descriptor of the current sealed heat (R81). -/
def heatImg (s : State) : Nat := get64 s HAM_HEAT_IMG_LO HAM_HEAT_IMG_HI
def sealedStroke (s : State) : Nat := leNat (peek s (heatImg s + 16) 8)
def inboxBase (s : State) : Nat := get64 s TNG_INBOX_BASE_LO TNG_INBOX_BASE_HI

/-- The TNG block watches writes to the 32 inbox header lines (R212): only a write of a whole line marks a slot full; a write of part of
one is judged by the line it leaves (log 152). -/
def inboxWatch (s : State) (whole : Bool) (line : Nat) (bs : List Nat) : State :=
  let base := inboxBase s
  if base ≤ line ∧ line < base + 32 * 64 then
    let slot := (line - base) / 64
    let full := ⟨0x40D80040, slot, 1⟩
    if bit (fldAt bs 20 4) 0 then
      if fldAt bs 24 8 = sealedStroke s then (if whole then setF s full 1 else s)
      else sendFault (bump (setF s full 0) TNG_INBOX_STALE 1) 0x0D 0x004 0 slot
    else setF s full 0
  else s

def dropWriteback (s : State) (line : Nat) : State :=
  { s with mem := { s.mem with writeback := s.mem.writeback.filter (· ≠ line) } }

/-- A DDR write stores the TAG of its address and of the current version (R362). -/
def tagWrite (s : State) (line : Nat) : State :=
  if ddrBase ≤ line then
    let l := ddrLine line
    { s with mem := { s.mem with tags := sset (fun l => ddrTag l (nget s.ddr.sweepVer (l / 2 ^ 18))) s.mem.tags l (wantTag s l) } }
  else s

/-- A write of a whole line: a fresh code, poison cleared, a pending write-back dropped (R344, R346). -/
def putLine (s : State) (line : Nat) (bs : List Nat) : State :=
  let s := poke s line ((bs ++ List.replicate 64 0).take 64)
  inboxWatch (tagWrite (dropWriteback (setErr s line []) line) line) true line bs

/-- A line written as poison (R345, R346); `ANV.POISON_W` counts those of the Anvil's banks. -/
def putPoison (s : State) (line : Nat) (bs : List Nat) : State :=
  let s := setErr (tagWrite (dropWriteback (poke s line bs) line) line) line poison
  if line < ddrBase then bump s ANV_POISON_W 1 else s

/-- What the check of a read-modify-write found (R344, R345, R352): no line is returned to a reader, so an Anvil bank writes no
record. -/
def mergeFx (s : State) (n : Note) : State :=
  match n with
  | .bad line => if ddrBase ≤ line then noteFx false s n else anvilBad s false line
  | _ => noteFx false s n

/-- A write that covers part of a line: the old line is read and checked, merged and written with a fresh code, or as poison (R345). -/
def putPart (s : State) (line off : Nat) (bs : List Nat) : State :=
  let r := readLine s line
  let s := r.2.foldl mergeFx s
  match r.1 with
  | some old =>
    let new := old.take off ++ bs ++ old.drop (off + bs.length)
    inboxWatch (tagWrite (dropWriteback (setErr (poke s line new) line []) line) line) false line new
  | none =>
    let raw := peek s line 64
    putPoison s line (raw.take off ++ bs ++ raw.drop (off + bs.length))

/-- Write bytes from a upward, line by line. -/
def storeGo : Nat → State → Nat → List Nat → State
  | 0, s, _, _ => s
  | k + 1, s, a, bs =>
    if bs = [] then s
    else
      let off := a % 64
      let n := min (64 - off) bs.length
      let s := if n = 64 then putLine s a (bs.take 64) else putPart s (lineOf a) off (bs.take n)
      storeGo k s (a + n) (bs.drop n)

def store (s : State) (a : Nat) (bs : List Nat) : State := storeGo (bs.length / 64 + 2) s a bs

/-- One write by a brand: granted and done, or denied with its record (R421, R422). No initiator but the load channel and the Assay
writes the Assay store (R32). -/
def storeBrand (s : State) (brand a : Nat) (bs : List Nat) : State × Bool :=
  match targetOf s a with
  | some g =>
    if g = 1 ∨ g = 2 then (s, false)
    else match fwDenies s g brand 1 a bs.length with
      | some cls => (deny s g cls brand 1 a, false)
      | none => if g = 3 ∧ !s.start.swept then (s, false) else (store s a bs, true)
  | none => (s, false)

/-- The CRC-32C beside an Assay store line (R258). -/
def zeroCrc (_ : Nat) : Nat := crc32c (List.replicate 64 0)
def asyCrc (s : State) (line : Nat) : State :=
  let c := crc32c (peek s (line * 64) 64)
  { s with mem := { s.mem with crcs := sset zeroCrc s.mem.crcs line c } }

/-- A write by the Assay load channel or the Assay: the only path into the Assay store, with the line CRC beside it (R32, R258). -/
def asyStore (s : State) (off : Nat) (bs : List Nat) : State :=
  let s := store s (asyBase + off) bs
  let first := (asyBase + off) / 64
  let n := (off % 64 + bs.length + 63) / 64
  (List.range n).foldl (fun s i => asyCrc s (first + i)) s

/-- The Assay reads a line of its store: an uncorrectable line or a wrong CRC is an uncorrectable error in Assay data (R258, R356). -/
def asyLine (s : State) (off : Nat) : Option (List Nat) :=
  match (portLine s (asyBase + off)).1 with
  | none => none
  | some bs =>
    if crc32c bs = sget zeroCrc s.mem.crcs ((asyBase + off) / 64) then some bs else none

/- ### An engine's task as a whole -/

/-- What one execution of an engine's task does: its working set, line or part-line writes in order, counters to advance, fields to set, fault records
(block, code, class, unit), what its reads found, and the completion status (R307). -/
structure Work where
  writes : List (Nat × List Nat) := []
  scratch : List (Nat × List Nat) := []
  bumps : List (Fld × Nat) := []
  sets : List (Fld × Nat) := []
  faults : List (Nat × Nat × Nat × Nat) := []
  notes : List Note := []
  status : Nat := 0

def bumpsFx (s : State) (l : List (Fld × Nat)) : State := l.foldl (fun s p => bump s p.1 p.2) s
def setsFx (s : State) (l : List (Fld × Nat)) : State := l.foldl (fun s p => setF s p.1 p.2) s
def faultsFx (s : State) (l : List (Nat × Nat × Nat × Nat)) : State := l.foldl (fun s f => sendFault s f.1 f.2.1 f.2.2.1 f.2.2.2) s

/-- A write as the lines it covers, each a write of its own (R421). -/
def piecesGo : Nat → Nat → List Nat → List (Nat × List Nat)
  | 0, _, _ => []
  | k + 1, a, bs => if bs = [] then [] else (a, bs.take (64 - a % 64)) :: piecesGo k (lineOf a + 64) (bs.drop (64 - a % 64))

def pieces (w : Nat × List Nat) : List (Nat × List Nat) := piecesGo (w.2.length / 64 + 2) w.1 w.2

/-- One write, and what has been written with it. -/
def writeOne (brand : Nat) (x : State × List (Nat × List Nat)) (p : Nat × List Nat) : State × List (Nat × List Nat) :=
  let r := storeBrand x.1 brand p.1 p.2
  (r.1, if r.2 then x.2 ++ [p] else x.2)

/-- Writes in order, line by line, with those that were granted. -/
def writeAll (s : State) (brand : Nat) (l : List (Nat × List Nat)) : State × List (Nat × List Nat) := (l.flatMap pieces).foldl (writeOne brand) (s, [])
def writesFx (s : State) (brand : Nat) (l : List (Nat × List Nat)) : State := (writeAll s brand l).1

/-- The hallmark of the lines a task wrote: bytes it did not write count as zero, and a line is digested once (R332 to R334). -/
def hmOffset (a : Nat) : Nat := if remoteBase ≤ a then (a - remoteBase) % 2 ^ 40 else a

def spread (a : Nat) (bs : List Nat) : List (Nat × List Nat) :=
  (List.range ((a % 64 + bs.length + 63) / 64)).map (fun i =>
    let line := lineOf a + 64 * i
    (line, (List.range 64).map (fun j => if a ≤ line + j ∧ line + j < a + bs.length then bs.getD (line + j - a) 0 else 0)))

def mergeLine (m : List (Nat × List Nat)) (p : Nat × List Nat) : List (Nat × List Nat) :=
  match m.find? (·.1 = p.1) with
  | some q => m.map (fun r => if r.1 = p.1 then (r.1, List.zipWith Nat.xor q.2 p.2) else r)
  | none => m ++ [p]

def writesHm (ws : List (Nat × List Nat)) : Nat :=
  ((ws.flatMap (fun w => spread w.1 w.2)).foldl mergeLine []).foldl (fun h p => Nat.xor h (lineHm (hmOffset p.1) p.2)) 0

/- ### The current heat's descriptor (R81) -/

def heatByte (s : State) (off n : Nat) : Nat := leNat (peek s (heatImg s + off) n)
def tHeat (s : State) : Nat := heatByte s 8 8
def originX (s : State) : Int := sx 32 (heatByte s 24 4)
def originY (s : State) : Int := sx 32 (heatByte s 28 4)
/-- Set bits of the sealed heat's FLAGS (R81). -/
def heatFlag (s : State) (i : Nat) : State :=
  poke s (heatImg s + 4) (leBytes 4 (setBits (heatByte s 4 4) i 1 1))

/-- What a task's work writes, of all it would: a denied write changes nothing (R421). -/
def writtenLines (s : State) (brand : Nat) (w : Work) : List (Nat × List Nat) := (writeAll (writesFx (notesFx s w.notes.eraseDups) brand w.scratch) brand w.writes).2

/-- Apply a task's work with the queue's brand; a line its reads found wrong is noted once per task (log 27). -/
def applyWork (s : State) (brand : Nat) (w : Work) : State :=
  faultsFx (setsFx (bumpsFx (writesFx (writesFx (notesFx s w.notes.eraseDups) brand w.scratch) brand w.writes) w.bumps) w.sets) w.faults

def role (s : State) : Nat := getF s UBF_NODE_CFG_ROLE
def isManager (s : State) : Bool := role s == 1
def nodeId (s : State) : Nat := getF s UBF_NODE_CFG_NODE_ID
/-- The stroke period in ns (R44). -/
def period (s : State) : Nat := getF s CAR_PERIOD * 1000

end Sys2Proof.Machine
end

