-- ==== Sys2Proof/Machine/Links.lean ====
section
/-! DEFINITION. The Ubfi transport: the node tree (R376), flits and credits (R380 to R385) and messages (R382, R393). -/

namespace Sys2Proof.Machine

def lnk (s : State) (i : Nat) : Link := s.ubf.links.getD i {}
def setLnk (s : State) (i : Nat) (l : Link) : State := { s with ubf := { s.ubf with links := setAt s.ubf.links i l } }
def linkState (s : State) (i : Nat) : Nat := getF s (UBF_L_STATUS_STATE i)
def linkUp (s : State) (i : Nat) : Bool := linkState s i == 2

/- ### The node tree (R376) -/

def parentOf (n : Nat) : Option Nat := if n = 0 then none else if n ≤ 4 then some 0 else some ((n - 2) / 3)

/-- The node at the far end of a link, none where the position has no link there. -/
def peerOf (me link : Nat) : Option Nat :=
  if me = 0 then some (link + 1)
  else if link = 0 then parentOf me
  else if me ≤ 4 ∧ 3 * me + link + 1 ≤ 15 then some (3 * me + link + 1) else none

/-- The link toward a node: down to a child or a grandchild, else up. -/
def linkTo (me n : Nat) : Option Nat :=
  if n = me then none
  else match (List.range 4).find? (fun l => !(l == 0 && me != 0) &&
      (peerOf me l == some n || (match parentOf n with | some p => p != 0 && peerOf me l == some p | none => false))) with
    | some l => some l
    | none => if me = 0 then none else some 0

/-- The nodes behind a downstream link. -/
def nodesBehind (me link : Nat) : List Nat := (List.range 16).filter (fun n => n != 0 && linkTo me n == some link)

/-- Is the link the one to the parent? -/
def isUpstream (s : State) (link : Nat) : Bool := link == 0 && nodeId s != 0

def nodeMask (l : List Nat) : Nat := l.foldl (fun m n => setBits m n 1 1) 0

/- ### Frames (R380, R381) -/

def frameOf (payload : List Nat) (seq : Nat) : List Nat := payload ++ leBytes 4 (crc32c (payload ++ [seq]))

def bufferOf (vc : Nat) : Nat := [96, 1024, 192, 32].getD vc 0

/-- A write acknowledgement or a read response: the initiator holds its buffer (R384). -/
def isResponse (m : Nat × List (List Nat)) : Bool := [2, 4].contains (fldAt (m.2.headD []) 0 1)

/-- A transmitter starts a message only when its credit covers the whole of it; a response never waits for credit (R384). -/
def creditFor (l : Link) (m : Nat × List (List Nat)) : Bool :=
  isResponse m || decide ((l.sent.getD m.1 0 + 65536 - l.credSeen.getD m.1 0) % 65536 + m.2.length ≤ bufferOf m.1)

/-- The next message at a boundary: sync, collective, command, data; within a virtual channel in order (R383). -/
def nextMsg (l : Link) : Option (Nat × List (List Nat)) :=
  [3, 2, 0, 1].findSome? (fun vc =>
    match l.waiting.find? (fun m => m.1 == vc) with
    | some m => if creditFor l m then some m else none
    | none => none)

/-- Send flits while the replay buffer has room (R385). -/
def pumpGo : Nat → Link → Link
  | 0, l => l
  | k + 1, l =>
    if 64 ≤ l.replay.length then l
    else match l.sending with
      | p :: rest =>
        let f := frameOf p l.txSeq
        pumpGo k { l with sending := rest, replay := l.replay ++ [f], tx := l.tx ++ [f], txSeq := (l.txSeq + 1) % 128 }
      | [] => match nextMsg l with
        | none => l
        | some m =>
          pumpGo k { l with waiting := l.waiting.erase m, sending := m.2,
                            sent := setAt l.sent m.1 ((l.sent.getD m.1 0 + m.2.length) % 65536) }

def pump (s : State) (i : Nat) : State := if linkUp s i then setLnk s i (pumpGo 200 (lnk s i)) else s

/-- A control flit with the current ACK and credit counts (R381). -/
def sendCtl (s : State) (i : Nat) (nak : Nat) : State :=
  let l := lnk s i
  let p := layout 32 ([(0, 1, (l.rxSeq + 127) % 128 + 128 * nak)] ++ (List.range 4).map (fun v => (1 + 2 * v, 2, l.credFreed.getD v 0)))
  setLnk s i { l with tx := l.tx ++ [frameOf p 0x80] }

/- ### Messages (R382) -/

def mkHdr (typ vc nd org tgt tag addr arg body : Nat) : List Nat :=
  layout 32 [(0, 1, typ), (1, 1, vc), (2, 1, nd), (3, 1, org % 16 + 16 * (tgt % 16)), (4, 4, tag), (8, 8, addr), (16, 8, arg), (24, 8, body)]

def hTyp (h : List Nat) : Nat := fldAt h 0 1
def hVc (h : List Nat) : Nat := fldAt h 1 1 % 4
def hOrigin (h : List Nat) : Nat := fldAt h 3 1 % 16
def hTarget (h : List Nat) : Nat := fldAt h 3 1 / 16
def hTag (h : List Nat) : Nat := fldAt h 4 4
def hAddr (h : List Nat) : Nat := fldAt h 8 8
def hArg (h : List Nat) : Nat := fldAt h 16 8
def hBody (h : List Nat) : Nat := fldAt h 24 8

/-- Lines as data flits of 32 bytes. -/
def lineFlits (lines : List (List Nat)) : List (List Nat) := lines.flatMap (fun b => [b.take 32, (b.drop 32).take 32])

/-- Queue a message on a link; a refused peer's link carries only sync messages (R389). -/
def sendMsg (s : State) (link : Nat) (hdr : List Nat) (flits : List (List Nat)) : State :=
  let l := lnk s link
  if l.refused ∧ hVc hdr ≠ 3 then s
  else pump (setLnk s link { l with waiting := l.waiting ++ [(hVc hdr, hdr :: flits)] }) link

/-- Send toward a node along the tree (R393). -/
def sendTo (s : State) (node : Nat) (hdr : List Nat) (flits : List (List Nat)) : State :=
  match linkTo (nodeId s) node with
  | some l => sendMsg s l hdr flits
  | none => s

/-- A sync message to a node (R395). -/
def sendSync (s : State) (typ node addr body : Nat) : State :=
  sendTo s node (mkHdr typ 3 0 (nodeId s) node 0 addr 0 body) []

def isAdmitted (s : State) (n : Nat) : Bool := bit (getF s UBF_NODE_ADMIT) n && !s.ubf.lost.contains n

/-- A sync message to every admitted node (R395). -/
def sendSyncAll (s : State) (typ addr body : Nat) : State :=
  ((List.range 16).filter (fun n => n != nodeId s && isAdmitted s n)).foldl (fun s n => sendSync s typ n addr body) s

/-- The stroke number of an ADMIT message that brings the target alone (log 34). -/
def noAdmit : Nat := 2 ^ 64 - 1

/-- Pass a message toward its target on the same channel (R393). -/
def forward (s : State) (hdr : List Nat) (flits : List (List Nat)) : State := sendTo s (hTarget hdr) hdr flits

/-- The message leaves the receive buffer and its flits count as freed (R381). -/
def takeMsg (s : State) (link : Nat) (hdr : List Nat) (flits : List (List Nat)) : State :=
  let l := lnk s link
  let n := flits.length + 1
  if l.rxBuf.take n = hdr :: flits then
    let freed := setAt l.credFreed (hVc hdr) ((l.credFreed.getD (hVc hdr) 0 + n) % 65536)
    sendCtl (setLnk s link { l with rxBuf := l.rxBuf.drop n, credFreed := freed }) link 0
  else s

/-- A sync message arrived on a link (R388). -/
def noteSync (s : State) (link : Nat) : State := setLnk s link { (lnk s link) with syncAt := s.time }

/-- A sync message arrives from upstream and leaves the receive buffer. -/
def syncDown (s : State) (hdr : List Nat) : State := noteSync (takeMsg s 0 hdr []) 0

/- ### Reception (R380, R381, R385) -/

/-- A retrain cause: state training; a cause during an attempt joins it (R386). -/
def retrainCause (s : State) (i : Nat) : State :=
  if linkUp s i then setF (setLnk s i { (lnk s i) with replays := 0 }) (UBF_L_STATUS_STATE i) 1
  else if linkState s i = 0 ∧ (lnk s i).wasUp then setF s (UBF_L_STATUS_STATE i) 1 else s

/-- Send every buffered flit again; 4 replays in a row from the same flit are a retrain cause (R385, R386). -/
def replay (s : State) (i : Nat) : State :=
  let l := lnk s i
  let start := (l.txSeq + 128 - l.replay.length % 128) % 128
  let n := if l.replays = 0 ∨ l.replayFrom ≠ start then 1 else l.replays + 1
  let s := setLnk s i { l with tx := l.tx ++ l.replay, replays := n, replayFrom := start }
  if 4 ≤ n then retrainCause s i else s

/-- A control flit updates ACK and credits; NAK, or the first control flit after a retrain, starts a replay (R381, R385, R386). -/
def controlFx (s : State) (i : Nat) (p : List Nat) : State :=
  let l := lnk s i
  let ack := fldAt p 0 1 % 128
  let oldest := (l.txSeq + 128 - l.replay.length % 128) % 128
  let gone := (ack + 128 + 1 - oldest) % 128
  let drop := if gone ≤ l.replay.length then gone else 0
  let l' := { l with replay := l.replay.drop drop, replays := if 0 < drop then 0 else l.replays, replayDue := false,
                     credSeen := (List.range 4).map (fun v => fldAt p (1 + 2 * v) 2) }
  let s := setLnk s i l'
  let s := if 128 ≤ fldAt p 0 1 ∨ l.replayDue then (if l'.replay = [] then s else replay s i) else s
  pump s i

/-- A data flit accepted in order; a recovered bad frame is recorded once per link per stroke (R385). -/
def dataFx (s : State) (i : Nat) (p : List Nat) : State :=
  let l := lnk s i
  let s' := setLnk s i { l with rxSeq := (l.rxSeq + 1) % 128, rxBuf := l.rxBuf ++ [p], nakAt := none, badPending := false,
                                badSeen := l.badSeen || l.badPending }
  sendCtl (if l.badPending ∧ !l.badSeen then sendFault s' 0x16 0x001 1 i else s') i 0

/-- A bad frame: counted, and a NAK unless one was sent within 1 µs and nothing good came since (R385). -/
def badFx (s : State) (i : Nat) : State :=
  let l := lnk s i
  let s := bump (setLnk s i { l with badPending := true }) (UBF_L_BAD i) 1
  let again := match l.nakAt with | none => true | some t => decide (t + 1000 ≤ s.time)
  if again then sendCtl (bump (setLnk s i { (lnk s i) with nakAt := some s.time }) (UBF_L_NAK i) 1) i 1 else s

/-- The receiver checks each frame with its expected sequence number first and with 0x80 second (R380). -/
def receiveFrame (s : State) (i : Nat) (frame : List Nat) : State :=
  let p := frame.take 32
  let c := fldAt frame 32 4
  if c = crc32c (p ++ [(lnk s i).rxSeq]) then dataFx s i p
  else if c = crc32c (p ++ [0x80]) then controlFx s i p
  else badFx s i

end Sys2Proof.Machine
end

