-- ==== Sys2Proof/Machine/Operands.lean ====
section
/-! DEFINITION. The operand forms: a command's 64-byte header and body fields (R290), and the ranges a body fixes (R544). -/

namespace Sys2Proof.Machine

/-- Bits [lo + w - 1 : lo] of a command's header (R290). -/
def hd (cmd : List Nat) (lo w : Nat) : Nat := bits (fldAt cmd 0 16) lo w

def cOpc (c : List Nat) : Nat := hd c 0 8
def cCls (c : List Nat) : Nat := hd c 8 4
def cPri (c : List Nat) : Nat := hd c 12 3
def cOrd (c : List Nat) : Bool := hd c 15 1 == 1
def cFlow (c : List Nat) : Nat := hd c 16 8
def cHlm (c : List Nat) : Bool := hd c 24 1 == 1
def cFence (c : List Nat) : Bool := hd c 25 1 == 1
def cEvt (c : List Nat) : Bool := hd c 26 1 == 1
def cAff (c : List Nat) : Bool := hd c 27 1 == 1
def cGold (c : List Nat) : Bool := hd c 28 1 == 1
def cRsvd (c : List Nat) : Nat := hd c 29 3
def cSeq (c : List Nat) : Nat := hd c 32 16
def cAffn (c : List Nat) : Nat := hd c 48 16
def cHeat (c : List Nat) : Nat := hd c 64 32
def cTag (c : List Nat) : Nat := hd c 96 32

/-- A little-endian body field of n bytes at offset o. -/
def bf (c : List Nat) (o n : Nat) : Nat := fldAt c o n

/-- A range [a, a + n) lies wholly in the Anvil, in Ember in the Ember region, or in the DDR window (R461, R544). -/
def inAnvil (s : State) (a n : Nat) : Bool :=
  if inEmber s then decide (a + n ≤ 0x2000000) else decide (a + n ≤ anvilEnd)

def inDdr (s : State) (a n : Nat) : Bool := !inEmber s && decide (ddrBase ≤ a) && decide (a + n ≤ ddrBase + ddrSize s)

def inMemory (s : State) (a n : Nat) : Bool := inAnvil s a n || inDdr s a n

/-- One remote-node window of another node (R392, R544). -/
def remoteNode (a : Nat) : Nat := (a - remoteBase) / 2 ^ 40
def inRemote (s : State) (a n : Nat) : Bool :=
  decide (remoteBase ≤ a) && decide (a + n ≤ remoteBase + 16 * 2 ^ 40) && decide ((a + n - 1) / 2 ^ 40 = a / 2 ^ 40) &&
    decide (0 < n) && remoteNode a != nodeId s

def aligned (a n : Nat) : Bool := a % n == 0

def overlaps (a n b m : Nat) : Bool := decide (a < b + m) && decide (b < a + n)

end Sys2Proof.Machine
end

