-- ==== Sys2Proof/Machine/Tabor.lean ====
section
/-! DEFINITION. The Tabor: queues and doorbells (R293 to R297), admission (R290, R291, R298, R299, R310), slots (R301, R304), completions
(R306 to R309), flows (R311) and injection (R294). -/

namespace Sys2Proof.Machine

/- ### The two copies (R313) -/

/-- Update both copies and compare them; a difference writes TAB 0x003 and sets COPY_MISMATCH. -/
def updTab (s : State) (f : Tabor → Tabor) : State :=
  let a := f s.tabA
  let b := f s.tabB
  let s := { s with tabA := a, tabB := b }
  if a = b then s else sendFault (setF s TAB_STATUS_COPY_MISMATCH 1) 0x06 0x003 4 0

def tasks (s : State) : List Task := s.tabA.tasks
def setTask (s : State) (t : Task) : State :=
  updTab s (fun b => { b with tasks := b.tasks.map (fun u => if u.id = t.id then t else u) })

def taskById (s : State) (id : Nat) : Option Task := (tasks s).find? (fun t => t.id == id)
def runningOn (s : State) (e : Nat) : Option Task := (tasks s).find? (fun t => t.loc == .running e)
def prefetchOn (s : State) (e : Nat) : Option Task := (tasks s).find? (fun t => t.loc == .prefetch e)

/-- The class of a task; a command whose read failed counts as a no-op (R298). -/
def tCls (t : Task) : Nat := if t.unread then 0xF else cCls t.cmd
def tGold (t : Task) : Bool := !t.unread && cGold t.cmd

/- ### Queues (R293, R296, R319) -/

def qBase (s : State) (q : Nat) : Nat := get64 s (TAB_Q_BASE_LO q) (TAB_Q_BASE_HI q)
def qCqBase (s : State) (q : Nat) : Nat := get64 s (TAB_Q_CQBASE_LO q) (TAB_Q_CQBASE_HI q)
def qSize (s : State) (q : Nat) : Nat := 2 ^ getF s (TAB_Q_CFG_LOG2SIZE q)
def cqSize (s : State) (q : Nat) : Nat := 2 ^ getF s (TAB_Q_CFG_LOG2CQ q)
def qTail (s : State) (q : Nat) : Nat := getF s (TAB_Q_TAIL q)
def qHead (s : State) (q : Nat) : Nat := getF s (TAB_Q_HEAD q)
def qBrand (s : State) (q : Nat) : Nat := getF s (TAB_Q_CFG_BRAND q)
def sub32 (a b : Nat) : Nat := (a + 2 ^ 32 - b % 2 ^ 32) % 2 ^ 32
/-- Free slots of a ring for a producer (R59). -/
def qFree (s : State) (q : Nat) : Nat := qSize s q - sub32 (qTail s q) (qHead s q)
def slotAddr (s : State) (q n : Nat) : Nat := qBase s q + n % qSize s q * 64

/-- Depth: TAIL − HEAD plus the queue's tasks (R315), and its maximum. -/
def qDepth (s : State) (q : Nat) : Nat := sub32 (qTail s q) (qHead s q) + ((tasks s).filter (fun t => t.queue == q)).length
def noteDepth (s : State) (q : Nat) : State := high s (TAB_Q_DEPTH_MAX q) (qDepth s q)

/-- A doorbell write: the first row of R296 whose condition holds decides. True: TAIL took the value. -/
def ringDoorbell (s : State) (brand q v : Nat) : State × Bool :=
  let size := qSize s q
  if brand ≠ getF s (TAB_Q_CFG2_PRODUCER q) ∨ getF s (TAB_Q_CFG_EN q) = 0 ∨ size < sub32 v (qTail s q) then
    (sendFault s 0x06 0x001 0 q, false)
  else if size < sub32 v (qHead s q) then (setF (bump s (TAB_Q_BUSY q) 1) (TAB_Q_STATUS_BUSY_LAST q) 1, false)
  else (noteDepth (setF s (TAB_Q_TAIL q) v) q, true)

def cqFull (s : State) (q : Nat) : Bool := decide (cqSize s q ≤ sub32 (getF s (TAB_Q_CQ_WR q)) (getF s (TAB_Q_CQ_HEAD q)))
def noteCq (s : State) (q : Nat) : State := setF s (TAB_Q_STATUS_CQ_FULL q) (b2n (cqFull s q))

/- ### Counters (R315) -/

def clkMhz (s : State) : Nat := [1200, 1000, 800, 600].getD (getF s CLK_ENG) 1200
/-- Engine clocks between two moments of the time counter. -/
def clocks (s : State) (t0 t1 : Nat) : Nat := (t1 - t0) * clkMhz s / 1000
def histBin (w : Nat) : Nat := if w = 0 then 0 else min 15 (w.log2 + 1)
def histFld (cls pri bin : Nat) : Fld := ⟨0x40690000 + ((cls * 8 + pri) * 16 + bin) * 4, 0, 32⟩

/- ### Slots (R301, R304) -/

/-- BUSY, OPC and GOLD of a unit's status register; its other fields start at 0. -/
def busyFx (s : State) (cls unit : Nat) (busy : Bool) (opc : Nat) (gold : Bool) : State :=
  let a := 0x40000000 + classBlock cls * 0x100000 + unit * 0x1000
  let s := setF s ⟨a, 0, 1⟩ (b2n busy)
  let s := match cls with
    | 0 => setF s ⟨a, 2, 8⟩ opc | 1 => setF s ⟨a, 2, 8⟩ opc | 3 => setF s ⟨a, 3, 8⟩ opc | 4 => setF s ⟨a, 4, 8⟩ opc
    | 5 => setF s ⟨a, 5, 8⟩ opc | 6 => setF s ⟨a, 9, 8⟩ opc | 7 => setF s ⟨a, 5, 8⟩ opc | 8 => setF s ⟨a, 1, 8⟩ opc | _ => s
  let s := if cls = 4 ∨ cls = 6 ∨ cls = 7 then setF s ⟨a, 1, 1⟩ (b2n gold) else s
  if cls = 1 then setF s ⟨a, 1, 1⟩ 0 else if cls = 2 then setF s ⟨a, 1, 5⟩ 0 else if cls = 4 then setF s ⟨a, 2, 2⟩ 0 else if cls = 5 then setF (setF s ⟨a, 1, 4⟩ 0) ⟨a, 13, 5⟩ 0 else if cls = 6 then setF s ⟨a, 2, 7⟩ 0
  else if cls = 7 then setF s ⟨a, 2, 3⟩ 0 else s

/-- Rollouts bound to a Swage engine. -/
def boundTo (s : State) (e : Nat) : Nat := ((tasks s).filter (fun t => t.swage == some e && t.loc != .finished && t.loc != .ready)).length

/-- A Swage engine shows its own running task, else the rollouts bound to it (R164). -/
def showSwage (s : State) (e : Nat) : State :=
  let u := e - 32
  match runningOn s e with
  | some t => setF (setF (setF s (SWG_U_STATUS_BUSY u) 1) (SWG_U_STATUS_STRIKE u) 0) (SWG_U_STATUS_OPC u) (cOpc t.cmd)
  | none =>
    match (tasks s).find? (fun t => t.swage == some e && t.loc != .finished && t.loc != .ready) with
    | some t => setF (setF (setF s (SWG_U_STATUS_BUSY u) 1) (SWG_U_STATUS_STRIKE u) 1) (SWG_U_STATUS_OPC u) (cOpc t.cmd)
    | none => setF (setF (setF s (SWG_U_STATUS_BUSY u) 0) (SWG_U_STATUS_STRIKE u) 0) (SWG_U_STATUS_OPC u) 0

def noteStrike (s : State) (sw : Option Nat) : State := match sw with | some w => showSwage s w | none => s

/-- What a task's own fields show from its start: PART, and the copy before a repair, of a Peal part (R142); the first pass of a SELECT, or
the merge (R223); the copies of an ASSAY or of the Assay's golden task (R288). -/
def showTask (s : State) (cls unit : Nat) (t : Task) : State :=
  let c := t.cmd
  if cls = 2 ∧ !cGold c then setF (setF s (PEL_U_STATUS_PART unit) (bf c 25 1)) (PEL_U_STATUS_PHASE unit) (if s.peal.phase = 0 then b2n (cOpc c == 1) else if s.peal.full then 0 else s.peal.phase)
  else if cls = 5 ∧ !cGold c then setF s (TNG_U_STATUS_PASS unit) (if cOpc c = 1 then 3 else 6)
  else if cls = 7 then setF s (ASY_U_STATUS_PHASE unit) 1
  else s

/-- What the serving Assay unit does while it runs no task: the copy of a heat, the grid, the watch (R258, R259, R266, R288). -/
def assayIdle (s : State) (unit : Nat) : State :=
  if physE s 7 0 = some (classBase 7 + unit) then
    setF s (ASY_U_STATUS_PHASE unit) (if s.asy.loading then 1 else if s.asy.gridding then 2 else if s.asy.watching then 4 else 0)
  else s

/-- The status register of e follows its running slot. -/
def showUnit (s : State) (e : Nat) : State :=
  let cls := classOfE e
  if cls = 3 then showSwage s e
  else match runningOn s e with
    | some t => showTask (busyFx s cls (e - classBase cls) true (cOpc t.cmd) (cGold t.cmd)) cls (e - classBase cls) t
    | none =>
      let s := busyFx s cls (e - classBase cls) false 0 false
      if cls = 7 then assayIdle s (e - classBase 7) else s

/-- The serving Assay unit, unless it runs a task, shows what it does. -/
def showAssay (s : State) : State :=
  match physE s 7 0 with
  | some e => if (runningOn s e).isNone then assayIdle s (e - classBase 7) else s
  | none => s

/-- The in-service Swage engine of the hearth with the fewest bound rollouts, lowest index on ties (R27, R304). -/
def bindSwage (s : State) (hammerE : Nat) : Option Nat :=
  match hearthOf hammerE with
  | none => none
  | some h =>
    let c := ((List.range 3).map (fun i => 32 + h * 3 + i)).filter (fun e => ustate s e == 0 && getF s (SPR_U_STATE_TESTING e) == 0)
    c.foldl (fun b e => match b with
      | none => some e
      | some x => if boundTo s e < boundTo s x then some e else some x) none

/-- A task enters a running slot: the wait histogram counts it once, a STRIKE or Hammer GOLDEN is bound to a Swage engine. -/
def startRun (s : State) (t : Task) (e lunit : Nat) : State :=
  let cls := tCls t
  let unit := e - classBase cls
  let s := if t.counted then s else bump s (histFld cls t.pri (histBin (clocks s t.admitted s.time))) 1
  let sw := if cls = 4 then bindSwage s e else none
  let s := setTask s { t with loc := .running e, ran := false, punit := unit, lunit := lunit, counted := true, swage := sw, started := s.time }
  noteStrike (showUnit s e) sw

/-- The running slot of e empties; a prefetched task moves into it (R301). -/
def slotEmpties (s : State) (e : Nat) : State :=
  let s := showUnit s e
  match prefetchOn s e with
  | some t => startRun s t e t.lunit
  | none => s

/-- The busy and the stall cycles of a run on e that ends now (R315; log 147). -/
def countRun (s : State) (e : Nat) (t : Task) : State :=
  let n := clocks s t.started s.time
  bump (bump s (TAB_ENG_BUSY e) n) (TAB_ENG_STALL e) (Config.stallCycles e t.started s.time % (n + 1))

/-- The running task of e leaves the slot and awaits release (R301). -/
def taskLeaves (s : State) (e : Nat) (t : Task) : State :=
  let s := setTask s { t with loc := .finished }
  let s := noteStrike s t.swage
  slotEmpties (countRun (bump s (TAB_ENG_DONE e) 1) e t) e

/-- A task completes without an engine: it awaits release with its status. -/
def finishNow (s : State) (t : Task) (status : Nat) : State := setTask s { t with loc := .finished, status := status }

/- ### Admission (R291, R298, R299, R310) -/

def flowNext (s : State) (f : Nat) : Nat := nget s.tabA.flows f
/-- Admitted members of a flow not yet released. -/
def flowTasks (s : State) (f : Nat) : List Task := (tasks s).filter (fun t => t.inFlow && cFlow t.cmd == f)
def flowHolds (s : State) (f seq : Nat) : Bool := (flowTasks s f).any (fun t => cSeq t.cmd == seq)

/-- The header check of R291. True: the command completes with BAD_ARG. -/
def headerBad (s : State) (q : Nat) (c : List Nat) : Bool :=
  let cls := cCls c
  decide (10 ≤ cls ∧ cls ≤ 14) || (cls != 15 && !bit (getF s (TAB_Q_CFG2_CLSMASK q)) cls) || cRsvd c != 0 ||
    (!cOrd c && (cFlow c != 0 || cSeq c != 0)) || (!cAff c && cAffn c != 0) || (q != 63 && (cGold c || cPri c == 7)) ||
    (q == 63 && !cGold c) || (cGold c && (!cAff c || decide (logical s cls ≤ cAffn c)))

/-- `CAR.BANK_CTRL.SWAP_REQ` set by software or a BANK_SWAP command (R62, R299). -/
def requestSwap (s : State) : State := setF s CAR_BANK_CTRL_SWAP_REQ 1

/-- Enter a command into the task table; a member of a flow beyond its window is not reached here. -/
def enterTask (s : State) (q num : Nat) (c : List Nat) (unread : Bool) : State :=
  let pri := if unread then 0 else if cPri c = 0 then getF s (TAB_Q_CFG_DEFPRI q) else cPri c
  let bad := !unread && headerBad s q c
  let s := if bad then
      let s := bump s TAB_BAD_HDR 1
      if s.tabX.badHdr.contains q then s
      else sendFault { s with tabX := { s.tabX with badHdr := q :: s.tabX.badHdr } } 0x06 0x002 0 q
    else s
  let behind := !unread && !bad && cOrd c &&
    (decide (32768 ≤ (cSeq c + 65536 - flowNext s (cFlow c)) % 65536) || flowHolds s (cFlow c) (cSeq c))
  let s := if behind then sendFault s 0x06 0x004 0 (cFlow c) else s
  let s := if unread then sendFault s 0x06 0x006 3 q else s
  let t : Task := { id := s.tabA.nextId, queue := q, num := num, cmd := c, pri := pri, unread := unread,
                    admitted := s.time, inFlow := !unread && !bad && !behind && cOrd c, heat := cHeat c }
  let tabor := !unread && !bad && !behind && (cCls c == 9 || cCls c == 15)
  let swap := tabor && cCls c == 9 && cOpc c == 1 && zeroAt c 16 48
  let t := if unread then { t with loc := .finished, status := 3 }
    else if bad || behind then { t with loc := .finished, status := 1 }
    else if tabor then { t with loc := .finished, status := if cCls c = 15 ∨ swap then 0 else 1 }
    else t
  let s := if swap then requestSwap s else s
  let s := updTab s (fun b =>
    let n := nget b.pinCount (cCls c)
    let pins := inRepro s && t.loc == .ready && !cAff c
    { b with tasks := b.tasks ++ [{ t with pin := n }], nextId := b.nextId + 1,
             pinCount := if pins then nset b.pinCount (cCls c) (n + 1) else b.pinCount })
  high s TAB_TASKS_MAX (tasks s).length

/-- An earlier command of the queue has not completed. -/
def queueBusy (s : State) (q : Nat) : Bool := (tasks s).any (fun t => t.queue == q)

/-- Is the injected command next in queue q (R294)? -/
def injectDue (s : State) (q : Nat) : Option (List Nat) :=
  match s.tabX.inject with
  | some (pos, c) => if q = 63 ∧ sub32 (qHead s 63) pos < 2 ^ 31 then some c else none
  | none => none

/-- Does anything stop the admission of this command (R298)? 0 nothing, 1 FENCE or SERIAL, 2 ahead of the flow window. -/
def admitStop (s : State) (q : Nat) (c : List Nat) : Nat :=
  if (cFence c || getF s (TAB_Q_CFG_SERIAL q) == 1) && queueBusy s q then 1
  else if !headerBad s q c && cOrd c &&
      (let d := (cSeq c + 65536 - flowNext s (cFlow c)) % 65536; decide (1024 ≤ d ∧ d < 32768)) then 2
  else 0

def noteStop (s : State) (q k : Nat) : State :=
  setF (setF s (TAB_Q_STATUS_FENCE_WAIT q) (b2n (k == 1))) (TAB_Q_STATUS_FLOW_WAIT q) (b2n (k == 2))

/-- The monitor pair injects a command into queue 63, behind the ring command at HEAD at this moment (R294). -/
def injectGolden (s : State) (c : List Nat) : State :=
  let pos := if qHead s 63 = qTail s 63 then qHead s 63 else (qHead s 63 + 1) % 2 ^ 32
  setF { s with tabX := { s.tabX with inject := some (pos, c) } } TAB_GINJ_STATUS 1

def goldTag (cls l : Nat) : Nat := 0xF0000000 + cls * 2 ^ 16 + l

/-- The golden command of a logical engine, as it last stood in queue 63's ring (DESIGN CHOICE, log 15). -/
def goldenOf (s : State) (cls l : Nat) : Option (List Nat) :=
  ((List.range (qSize s 63)).find? (fun i => leNat (peek s (qBase s 63 + i * 64 + 12) 4) == goldTag cls l)).map
    (fun i => peek s (qBase s 63 + i * 64) 64)

/-- The monitor pair injects its next wanted golden task when no injection waits (R271, R484). -/
def pumpGold (s : State) : State :=
  if getF s TAB_GINJ_STATUS = 1 then s
  else match s.tabX.golds with
    | [] => s
    | g :: rest =>
      let s := { s with tabX := { s.tabX with golds := rest } }
      match goldenOf s g.1 g.2 with
      | some c => injectGolden s c
      | none => s

def wantGold (s : State) (cls l : Nat) : State := pumpGold { s with tabX := { s.tabX with golds := s.tabX.golds ++ [(cls, l)] } }

/-- The command that queue q offers to admission, with what its read found: none when it offers nothing, an unread one when the read of the
ring failed (R294, R298). -/
def offered (s : State) (q : Nat) : Option (Option (List Nat) × List Note) :=
  match injectDue s q with
  | some c => some (some c, [])
  | none => if qHead s q = qTail s q then none else some (readBrand s 0x21 (slotAddr s q (qHead s q)))

/-- What stops an offered command (R298); an unread one counts as FENCE clear. -/
def offerStop (s : State) (q : Nat) : Option (List Nat) → Nat
  | some c => admitStop s q c
  | none => b2n (getF s (TAB_Q_CFG_SERIAL q) == 1 && queueBusy s q)

/-- Queue q offers a command that nothing stops. -/
def admissible (s : State) (q : Nat) : Bool := match offered s q with | some x => offerStop s q x.1 == 0 | none => false

/-- It is the turn of queue q: no queue from the one whose turn comes first up to q has a command to admit (R298). -/
def itsTurn (s : State) (q : Nat) : Bool := (List.range ((q + 64 - s.tabX.turn) % 64)).all (fun k => !admissible s ((s.tabX.turn + k) % 64))

/-- HEAD passes the admitted command, or the injection ends; the turn goes to the next queue. -/
def passHead (s : State) (q : Nat) (inj : Bool) : State :=
  let s := { s with tabX := { s.tabX with turn := (q + 1) % 64 } }
  if inj then setF { s with tabX := { s.tabX with inject := none } } TAB_GINJ_STATUS 0 else setF s (TAB_Q_HEAD q) (qHead s q + 1)

/-- Admit an offered command that nothing stops. -/
def admitOffer (s : State) (q : Nat) (x : Option (List Nat) × List Note) : State :=
  let inj := (injectDue s q).isSome
  let s := match x.1 with
    | some c => enterTask (notesFx s x.2) q (qHead s q) c false
    | none => enterTask (notesFx s x.2) q (qHead s q) (List.replicate 64 0) true
  let s := noteDepth (noteStop (passHead s q inj) q 0) q
  if inj then pumpGold s else s

/-- Admit what the queue offers, once nothing stops it and it is the queue's turn (R298). `want` limits the class for NOP and BANK_SWAP. -/
def admitHead (want : Option Nat) (s : State) (q : Nat) : State :=
  if 64 ≤ q ∨ 65536 ≤ (tasks s).length then s
  else match offered s q with
    | none => s
    | some x =>
      if want.any (fun k => x.1.map cCls != some k) then s
      else if offerStop s q x.1 ≠ 0 then noteStop (notesFx s x.2) q (offerStop s q x.1)
      else if itsTurn s q then admitOffer s q x else s

/- ### Completion (R306 to R309, R335) -/

/-- The completion record of R306. -/
def completionBytes (s : State) (t : Task) : List Nat :=
  let wr := getF s (TAB_Q_CQ_WR t.queue)
  let phase := (wr / cqSize s t.queue + 1) % 2
  let hlm := !t.unread && cHlm t.cmd
  let cls := tCls t
  let info := cls + 16 * b2n hlm + 32 * b2n t.redisp + 64 * phase
  let ord := !t.unread && cOrd t.cmd
  layout 16 [(0, 4, if t.unread then 0xFFFFFFFF else cTag t.cmd), (4, 1, t.status), (5, 1, info), (6, 2, if ord then cSeq t.cmd else 0),
    (8, 1, if ord then cFlow t.cmd else 0), (9, 1, if cls = 9 ∨ cls = 15 then 0 else t.lunit), (12, 4, if hlm then t.hm / 2 ^ 32 else 0)]

/-- The completion log entry of R309. -/
def clogBytes (s : State) (t : Task) : List Nat :=
  layout 16 [(0, 4, if t.unread then 0xFFFFFFFF else cTag t.cmd),
    (4, 4, t.punit % 256 + tCls t * 2 ^ 8 + t.queue * 2 ^ 12 + b2n t.redisp * 2 ^ 18), (8, 4, strokeLow s)]

/-- Both conditions of R308. -/
def releasable (s : State) (t : Task) : Bool :=
  t.loc == .finished && (!t.inFlow || cSeq t.cmd == flowNext s (cFlow t.cmd)) && !cqFull s t.queue

def clogBase (s : State) : Nat := get64 s TAB_CLOG_BASE_LO TAB_CLOG_BASE_HI
def hlogBase (s : State) : Nat := get64 s HLM_LOG_BASE_LO HLM_LOG_BASE_HI

/-- Write an entry of a ring of n 16-byte entries with brand 0x21 and advance its free-running count. -/
def ringEntry (s : State) (base n : Nat) (count : Fld) (bs : List Nat) : State :=
  tick (storeBrand s 0x21 (base + getF s count % max 1 n * 16) bs).1 count

/-- The Hallmark log entry of R335. -/
def hallmarkLog (s : State) (tag hm : Nat) : State :=
  ringEntry s (hlogBase s) (getF s HLM_LOG_SIZE) HLM_LOG_WR (layout 16 [(0, 4, tag), (4, 4, strokeLow s), (8, 8, hm)])

/-- Release in one step (R308). -/
def release (s : State) (t : Task) : State :=
  let s := ringEntry s (qCqBase s t.queue) (cqSize s t.queue) (TAB_Q_CQ_WR t.queue) (completionBytes s t)
  let s := ringEntry s (clogBase s) (getF s TAB_CLOG_SIZE) TAB_CLOG_WR (clogBytes s t)
  let s := if !t.unread && cHlm t.cmd then hallmarkLog s (cTag t.cmd) t.hm else s
  let s := if tGold t then { s with tabX := { s.tabX with goldDone := insertNew s.tabX.goldDone (cTag t.cmd) } } else s
  let line := getF s (TAB_Q_CFG2_EVTLINE t.queue)
  let s := if !t.unread && cEvt t.cmd then { s with tabX := { s.tabX with evts := s.tabX.evts ++ [(line, t.queue, cTag t.cmd)] } } else s
  let f := cFlow t.cmd
  let s := updTab s (fun b =>
    { b with tasks := b.tasks.filter (fun u => u.id != t.id), flows := if t.inFlow then nset b.flows f ((nget b.flows f + 1) % 65536) else b.flows })
  noteCq s t.queue

/-- The first finished task, in admission order, whose release conditions hold. -/
def releaseNext (s : State) : Option Task := (tasks s).find? (releasable s)

/- ### Commands -/

/-- A write of `TAB.Q_TAIL` (R296). -/
def writeTail (s : State) (brand queue tail : Nat) : State :=
  let r := ringDoorbell s brand queue (tail % 2 ^ 32)
  answer r.1 (if r.2 then .ok else .error)

/-- DOORBELL; the device has 64 queues. -/
def execDoorbell (brand queue tail : Nat) (s : State) : Ans :=
  if 64 ≤ queue then .next (answer s .error)
  else .next (guarded s brand 1 (TAB_Q_TAIL queue).addr (fun s => writeTail s brand queue tail))

/-- A write of `TAB.Q_CQ_HEAD`: refused beyond Q_CQ_WR (R297). -/
def writeCqHead (s : State) (queue value : Nat) : State :=
  let old := getF s (TAB_Q_CQ_HEAD queue)
  if sub32 (getF s (TAB_Q_CQ_WR queue)) old < sub32 value old then answer s .error
  else answer (noteCq (setF s (TAB_Q_CQ_HEAD queue) value) queue) .ok

/-- CQ_HEAD_WRITE. -/
def execCqHeadWrite (brand queue value : Nat) (s : State) : Ans :=
  if 64 ≤ queue then .next (answer s .error)
  else .next (guarded s brand 1 (TAB_Q_CQ_HEAD queue).addr (fun s => writeCqHead s queue value))

/-- COMMAND_ADMIT (R298). -/
def execCommandAdmit (queue : Nat) (s : State) : Ans := .next (admitHead none s queue)

/-- NOP (R299): the command at HEAD is of CLS 0xF. -/
def execNop (queue : Nat) (s : State) : Ans := .next (admitHead (some 15) s queue)

/-- BANK_SWAP (R299): the command at HEAD is of CLS 9. -/
def execBankSwap (queue : Nat) (s : State) : Ans := .next (admitHead (some 9) s queue)

/-- A write of `TAB.FLOW_SKIP` (R311): only when no admitted member holds NEXT. -/
def skipFlow (s : State) (flow : Nat) : State :=
  let f := flow % 256
  let s := answer s .ok
  if flowHolds s f (flowNext s f) then s
  else sendFault (updTab s (fun b => { b with flows := nset b.flows f ((nget b.flows f + 1) % 65536) })) 0x06 0x005 0 f

/-- FLOW_SKIP. -/
def execFlowSkip (brand flow : Nat) (s : State) : Ans := .next (guarded s brand 1 TAB_FLOW_SKIP.addr (fun s => skipFlow s flow))

/-- A write of word i of `TAB.GINJ`, by a safety brand while no injection waits; word 15 injects the command (R294, R320). -/
def writeInject (s : State) (brand i word : Nat) : State :=
  if brand < 2 ∨ 4 < brand ∨ getF s TAB_GINJ_STATUS = 1 then answer s .error
  else
    let s := setF s (TAB_GINJ i) word
    if i ≠ 15 then answer s .ok
    else answer (injectGolden s ((List.range 16).flatMap (fun k => leBytes 4 (getF s (TAB_GINJ k))))) .ok

/-- GOLDEN_INJECT. -/
def execGoldenInject (brand word15 : Nat) (s : State) : Ans :=
  .next (guarded s brand 1 (TAB_GINJ 15).addr (fun s => writeInject s brand 15 word15))

def isWorker (s : State) : Bool := role s == 2

/-- No list is being copied and no task is in the table (R329). -/
def drained (s : State) : Bool := s.car.copying.isNone && (tasks s).isEmpty

/-- Every admitted device reports that it is drained (R329). -/
def allReady (s : State) : Bool := (List.range 16).all (fun n => n == nodeId s || !isAdmitted s n || s.ubf.ready.contains n)

/-- While a change to REPRO mode is pending a worker reports when it becomes drained or no longer is, and the manager sets the next stroke
instant for the change, or takes that back, as its own and every device's reports say (R329, R395; log 69). -/
def reportDrained (s : State) : State :=
  if !flag s TOP_MODE_REQ_PEND ∨ mode s ≠ 0 then s
  else if isWorker s then
    if drained s = s.ubf.told then s
    else sendSync { s with ubf := { s.ubf with told := drained s } } 0x14 0 (if drained s then 1 else 2) 0
  else
    let ok := isManager s && drained s && allReady s
    if ok = s.ubf.reproSet then s
    else sendSyncAll { s with ubf := { s.ubf with reproSet := ok } } 0x14 (if ok then 3 else 2) 0

/-- COMPLETION_RELEASE (R308). -/
def execCompletionRelease (s : State) : Ans :=
  match releaseNext s with
  | some t => .next (reportDrained (release s t))
  | none => .next s

end Sys2Proof.Machine
end

