-- ==== Sys2Proof/Machine/Spares.lean ====
section
/-! DEFINITION. Unit states, fences and substitutions (R27, R28, R312, R418, R476 to R490) and the golden compares (R414, R415). -/

namespace Sys2Proof.Machine

/- ### Unit states and the map (R476, R492) -/

def setUState (s : State) (e st : Nat) : State := setF s (SPR_U_STATE_STATE e) st
def ulunit (s : State) (e : Nat) : Nat := getF s (SPR_U_STATE_LUNIT e)
def utesting (s : State) (e : Nat) : Bool := getF s (SPR_U_STATE_TESTING e) == 1
def unitsOf (c : Nat) : List Nat := (List.range (physCount c)).map (fun i => classBase c + i)
def inState (s : State) (c st : Nat) : List Nat := (unitsOf c).filter (fun e => ustate s e == st)

/-- Is logical index l of class c in service: mapped, ACTIVE and out of its entry test? -/
def inService (s : State) (c l : Nat) : Option Nat :=
  match physE s c l with
  | some e => if ustate s e = 0 ∧ !utesting s e then some e else none
  | none => none

/-- SPARE and WORN counts of a class. -/
def recount (s : State) (c : Nat) : State :=
  setF (setF s (SPR_COUNT_SPARE c) (inState s c 1).length) (SPR_COUNT_WORN c) (inState s c 2).length

def exhausted (s : State) (c : Nat) : Bool := (inState s c 1).isEmpty && (inState s c 2).isEmpty

/-- `TOP.MODE_WHY`. -/
def setWhy (s : State) (why cls node : Nat) : State := setF s TOP_MODE_WHY (why + cls * 256 + node * 4096)

/-- A loss ends the REPRO run: TOP 0x021 and the change to SERVICE waits for its stroke (R331). -/
def noteLeave (s : State) (why cls node : Nat) : State :=
  sendFault { setF (setWhy s why cls node) TOP_MODE_REQ_PEND 1 with car := { s.car with leaving := true } } 0x00 0x021 0 0

/-- In REPRO mode, once per run; the node's other devices hear of it in a MODE message with the word of `TOP.MODE_WHY` (log 69). -/
def leaveRepro (s : State) (why cls node : Nat) : State :=
  if !inRepro s ∨ s.car.leaving then s
  else
    let s := noteLeave s why cls node
    let body := why + cls * 256 + node * 4096
    if isManager s then sendSyncAll s 0x14 0 body else sendSync s 0x14 0 0 body

/-- A class without SPARE and WORN units is reported once (R489), and ends a REPRO run (R331). It is judged where a unit of the class is
taken into use or fenced, not while a proactive substitution's old unit drains towards WORN (DESIGN CHOICE, log 162). -/
def noteExhausted (s : State) (c e : Nat) : State :=
  if c ≠ 8 ∧ exhausted s c ∧ !bit (getF s SPR_OUT) c then
    leaveRepro (sendFault (setF s SPR_OUT (setBits (getF s SPR_OUT) c 1 1)) 0x11 0x003 4 e) 4 c 0
  else s

/-- Swage engines of a hearth that can be in service: ACTIVE, SPARE or WORN (R27, R28). -/
def hearthSwage (s : State) (h : Nat) : List Nat := ((List.range 3).map (fun i => 32 + h * 3 + i)).filter (fun e => ustate s e ≤ 2)
def hearthHammers (h : Nat) : List Nat := (List.range 18).map (fun i => 56 + h * 18 + i)
def mappedHammers (s : State) (h : Nat) : List Nat := (hearthHammers h).filter (fun e => ustate s e == 0)

/-- The spare of R483: SPARE before WORN; for Hammer and Swage the same hearth first; a Hammer needs a hearth with a Swage engine;
in Ember only units that passed the quick test serve (R461, R463). -/
def chooseSpare (s : State) (c e : Nat) (worn : Bool) : Option Nat :=
  let ok := fun n => !utesting s n && (!inEmber s || (s.start.ember.contains n && ((c != 3 && c != 4) || hearthOf n == some 0))) &&
     (c != 4 || (match hearthOf n with | some h => !(hearthSwage s h).isEmpty | none => false))
  let near := fun n => hearthOf n == hearthOf e
  let sp := (inState s c 1).filter ok
  let wo := if worn then (inState s c 2).filter ok else []
  if c = 3 ∨ c = 4 then ((sp.filter near) ++ (sp.filter (fun n => !near n)) ++ (wo.filter near) ++ (wo.filter (fun n => !near n))).head?
  else (sp ++ wo).head?

/-- A hearth with mapped Hammers and no Swage engine in service takes a rollout-only one; one without Hammers gives it back (R27). -/
def tendHearth (s : State) (h : Nat) : State :=
  let act := (hearthSwage s h).filter (fun e => ustate s e == 0)
  if (mappedHammers s h).isEmpty then
    act.foldl (fun s e => if ulunit s e = 255 then setF (setUState s e 1) (SPR_U_STATE_LUNIT e) 0 else s) s
  else if act.isEmpty then
    match ((hearthSwage s h).filter (fun e => ustate s e == 1) ++ (hearthSwage s h).filter (fun e => ustate s e == 2)).head? with
    | some e => setF (setUState s e 0) (SPR_U_STATE_LUNIT e) 255
    | none => s
  else s

def tendHearths (s : State) : State := recount ((List.range 8).foldl tendHearth s) 3

/- ### Two-hand groups, as far as the hardware ends them (R429, R486) -/

/-- A group returns to IDLE with a result; its staging and the digest written for it are discarded. -/
def thEnd (s : State) (g res : Nat) : State :=
  let s := setF (setF s (FWL_TH_STATUS_STATE g) 0) (FWL_TH_STATUS_RESULT g) res
  let s := if g = 7 then setF s DBG_STATE_PENDING 0 else s
  { s with fwl := { s.fwl with staged := s.fwl.staged.filter (fun p => p.1 != g), digest := s.fwl.digest.filter (fun p => p.1 != g) } }

/-- A hardware substitution writes the committed map: open staging of group 6 is aborted, a waiting change discarded (R486). -/
def mapTouched (s : State) : State :=
  let s := if getF s (FWL_TH_STATUS_STATE 6) ≠ 0 then thEnd s 6 6 else s
  if s.fwl.mapPending.isSome then sendFault { s with fwl := { s.fwl with mapPending := none } } 0x11 0x007 0 0 else s

/-- Logical index l of class c goes to unit n. -/
def mapTo (s : State) (c l n : Nat) : State :=
  let s := setF (setF s (mapP c l) (n - classBase c)) (mapV c l) 1
  let s := setF (setUState s n 0) (SPR_U_STATE_LUNIT n) l
  updTab s (fun b => { b with lastKey := b.lastKey.filter (fun p => p.1 != c * 1024 + l) })

/- ### Fences (R28, R312, R418, R482 to R485) -/

/-- The closed fabric port of a fenced engine: what a task of it still has under way at other nodes is discarded (R312). -/
def closePort (s : State) (t : Task) : State :=
  { s with ubf := { s.ubf with pending := s.ubf.pending.filter (fun r => !(r.task == t.id && decide (r.kind < 6))),
                               heads := s.ubf.heads.filter (fun h => h.1 != t.id) } }

/-- The tasks of a fenced engine: a golden task completes with ABANDONED, the others return to their ready lists (R312). The discarded
execution leaves no hallmark (R308). -/
def returnTask (s : State) (t : Task) : State :=
  let s := closePort s t
  let s := if tCls t = 2 && !tGold t && (match t.loc with | .running _ => true | _ => false) then
      { s with peal := { s.peal with arrived := s.peal.arrived.erase (bf t.cmd 25 1) } }
    else s
  let s := match t.loc with | .running e => countRun s e t | _ => s
  let s := if tGold t then setTask s { t with loc := .finished, status := 0x0D, hm := 0 }
    else bump (setTask s { t with loc := .ready, ran := false, redisp := true, swage := none, hm := 0, status := if t.status = 4 then 4 else 0 }) TAB_REDISP 1
  noteStrike s t.swage

def returnTasks (s : State) (e : Nat) : State :=
  let back := (tasks s).filter (fun t => t.loc == .running e || t.loc == .prefetch e)
  showUnit (back.foldl returnTask s) e

/-- Strikes bound to a fenced Swage engine are re-dispatched (R160). -/
def returnBound (s : State) (e : Nat) : State :=
  ((tasks s).filter (fun t => t.swage == some e && (match t.loc with | .running _ => true | _ => false))).foldl
    (fun s t => match t.loc with | .running h => slotEmpties (returnTask s t) h | _ => s) s

/-- A unit leaves service: FENCED, its tasks back, its fence counted only when the failure record names it. -/
def leaveService (s : State) (e : Nat) (named : Bool) : State :=
  let s := returnTasks s e
  let s := if classOfE e = 3 then returnBound s e else s
  let s := setF (setUState s e 4) (SPR_U_STATE_TESTING e) 0
  if named then bump s (SPR_U_STATE_FENCES e) 1 else s

/-- Bring a spare to a logical index that lost its unit, or leave the index vacant (R483, R489, R418). -/
def substitute (s : State) (c l e : Nat) : State :=
  match chooseSpare s c e true with
  | some n =>
    let s := setF (mapTo (mapTouched s) c l n) (SPR_U_STATE_TESTING n) 1
    let s := recount { s with spr := { s.spr with subst := s.spr.subst ++ [(c, l, n, s.time)] } } c
    noteExhausted (if c = 4 then tendHearths s else s) c e
  | none =>
    let s := setF (mapTouched s) (mapV c l) 0
    let s := leaveRepro (noteExhausted { s with spr := { s.spr with vacant := s.spr.vacant ++ [(c, l, e)] } } c e) 4 c 0
    let s := { s with asy := { s.asy with spareOutFence := true } }
    if c = 7 then sendFault (setF { s with asy := { s.asy with noUnit := true } } ASY_STATUS_DOUBT 1) 0x0F 0x008 5 (e - 214) else s

/-- The units that leave service with e: those of its hearth when the last working Swage engine or a shared part fails, the Hammers of a
rollout-only Swage engine (R27, R28). -/
def goneWith (s : State) (e : Nat) (sharedPart : Bool) : List Nat :=
  match hearthOf e with
  | none => []
  | some h =>
    let all := ((List.range 3).map (fun i => 32 + h * 3 + i) ++ hearthHammers h).filter (fun x => x != e && ustate s x ≤ 3)
    if sharedPart || (classOfE e == 3 && ((hearthSwage s h).filter (· != e)).isEmpty) then all
    else if classOfE e = 3 ∧ ustate s e = 0 ∧ ulunit s e = 255 then mappedHammers s h
    else []

/-- The logical index a unit serves, if any. -/
def servesIndex (s : State) (e : Nat) : Option (Nat × Nat) :=
  if ustate s e = 0 ∧ ulunit s e ≠ 255 ∧ physE s (classOfE e) (ulunit s e) = some e then some (classOfE e, ulunit s e) else none

/-- Fence a physical unit (R482 to R485, R488). -/
def fenceUnit (s : State) (e : Nat) (sharedPart : Bool) : State :=
  if 4 ≤ ustate s e then s
  else
    let gone := goneWith s e sharedPart
    let lost := (e :: gone).filterMap (fun x => (servesIndex s x).map (fun p => (p.1, p.2, x)))
    let s := gone.foldl (fun s x => leaveService s x false) (leaveService s e true)
    let s := { s with spr := { s.spr with subst := s.spr.subst.filter (fun p => !(e :: gone).contains p.2.2.1) } }
    let s := recount (recount (recount s 3) 4) (classOfE e)
    if classOfE e = 8 then sendFault s 0x11 0x00A 5 e
    else
      let s := tendHearths (lost.foldl (fun s p => substitute s p.1 p.2.1 p.2.2) s)
      (e :: gone).foldl (fun s x => noteExhausted s (classOfE x) x) s

/- ### Golden compares (R414, R415, R440) -/

/-- Block and code of a class's golden failure. -/
def goldenCode (c : Nat) : Nat × Nat :=
  match c with
  | 0 => (0x07, 0x005) | 1 => (0x0A, 0x010) | 2 => (0x0C, 0x005) | 3 => (0x0B, 0x005) | 4 => (0x09, 0x005)
  | 5 => (0x0D, 0x005) | 6 => (0x0E, 0x005) | _ => (0x0F, 0x009)

/-- The unit of a failed golden task is fenced with its class's code and a spare comes in (R415). -/
def goldenFail (s : State) (e : Nat) : State :=
  let c := classOfE e
  let s := sendFault s (goldenCode c).1 (goldenCode c).2 2 (e - classBase c)
  let s := if c = 7 then { s with asy := { s.asy with goldenPass := false } } else s
  fenceUnit s e false

/-- The newest of the last `min n count` entries of a ring that satisfies p, as its address. -/
def findLast (base n count size : Nat) (p : Nat → Bool) : Option Nat :=
  ((List.range (min n count)).map (fun i => base + (count - 1 - i) % max 1 n * size)).find? p

/-- The last hallmark logged under a CMDTAG (R335). -/
def loggedHm (s : State) (tag : Nat) : Option Nat :=
  (findLast (hlogBase s) (getF s HLM_LOG_SIZE) (getF s HLM_LOG_WR) 16 (fun a => leNat (peek s a 4) == tag)).map (fun a => leNat (peek s (a + 8) 8))

/-- The last completion log entry of a CMDTAG: its physical unit and class (R309). -/
def loggedUnit (s : State) (tag : Nat) : Option (Nat × Nat) :=
  (findLast (clogBase s) (getF s TAB_CLOG_SIZE) (getF s TAB_CLOG_WR) 16 (fun a => leNat (peek s a 4) == tag)).map
    (fun a => (leNat (peek s (a + 4) 1), leNat (peek s (a + 5) 1) % 16))

/-- The last completion status of a CMDTAG in queue 63 (R306). -/
def goldStatus (s : State) (tag : Nat) : Option Nat :=
  (findLast (qCqBase s 63) (cqSize s 63) (getF s (TAB_Q_CQ_WR 63)) 16 (fun a => leNat (peek s a 4) == tag)).map (fun a => leNat (peek s (a + 4) 1))

def expectedHm (s : State) (tag : Nat) : Option Nat := (s.bil.goldenHm.find? (fun p => p.1 == tag)).map (·.2)

/-- GOLDEN_COMPARE (R414, R415, R285). An ABANDONED golden task does not count, nor one whose index the count no longer has (R302). -/
def execGoldenCompare (cmdtag : Nat) (s : State) : Ans :=
  match loggedHm s cmdtag, loggedUnit s cmdtag, goldStatus s cmdtag with
  | some hm, some (unit, cls), some st =>
    let e := classBase cls + unit
    if st = 0x0D ∨ (st = 1 ∧ logical s cls ≤ cmdtag % 2 ^ 16) then .next s
    else if st = 0 ∧ expectedHm s cmdtag = some hm then
      .next (if cls = 7 then { s with asy := { s.asy with goldenPass := true } } else s)
    else .next (goldenFail s e)
  | _, _, _ => .next s

/-- The golden tasks not released by the stroke instant (R415): the units of the indices whose CMDTAG was expected and not released. -/
def missedGolden (s : State) : List Nat :=
  (List.range 7).flatMap (fun c => (List.range (logical s c)).filterMap (fun l =>
    if (expectedHm s (goldTag c l)).isSome ∧ !s.tabX.goldDone.contains (goldTag c l) then inService s c l else none))

def goldenNotRun (s : State) : State :=
  let s' := (missedGolden s).foldl goldenFail s
  { s' with tabX := { s'.tabX with goldDone := [] } }

/-- Vacant indices are filled from the highest index and the count drops (R489). -/
def reduceOne (s : State) (v : Nat × Nat × Nat) : State :=
  let c := v.1
  let top := logical s c - 1
  let s := if v.2.1 < top then
      match physE s c top with
      | some n => setF (setF (mapTo s c v.2.1 n) (mapV c top) 0) (mapP c top) 0
      | none => s
    else s
  sendFault (setF s (SPR_COUNT_LOGICAL c) top) 0x11 0x004 4 v.2.2

/-- COUNT_REDUCE; the highest vacant index of a class goes first, so a vacancy is never moved down. -/
def countReduce (s : State) : State :=
  let vs := s.spr.vacant.mergeSort (fun a b => decide (b.2.1 ≤ a.2.1))
  vs.foldl reduceOne { s with spr := { s.spr with vacant := [] } }

/- ### A committed map change (R486) -/

/-- One entry of the image: the class and index of its offset, applied when its unit is ACTIVE or SPARE and not named twice. -/
def mapEntry (used : List Nat) (s : State) (p : Nat × Nat) : List Nat × State :=
  let c := (p.1 - 0x41110000) / 0x400
  let l := (p.1 - 0x41110000) % 0x400 / 4
  let n := classBase c + p.2 % 256
  if bit p.2 8 then
    if p.2 % 256 < physCount c ∧ ustate s n ≤ 1 ∧ !used.contains n then (n :: used, setF (setF s (mapP c l) (p.2 % 256)) (mapV c l) 1)
    else (used, sendFault s 0x11 0x006 0 n)
  else (used, setF (setF s (mapP c l) (p.2 % 256)) (mapV c l) 0)

/-- Units follow the map: a mapped unit is ACTIVE with its index; an unmapped one becomes SPARE, or DRAIN while tasks are in its slots. -/
def followUnit (s : State) (e : Nat) : State :=
  let c := classOfE e
  match (List.range (physCount c)).find? (fun l => physE s c l == some e) with
  | some l => if ustate s e = 1 ∨ ulunit s e ≠ l then mapTo s c l e else s
  | none =>
    if ustate s e = 0 ∧ ulunit s e ≠ 255 then
      setUState s e (if (runningOn s e).isSome || (prefetchOn s e).isSome then 3 else 1)
    else s

/-- A committed change takes effect at the stroke instant: `SPR.POLICY`, then the entries in ascending offset. -/
def commitMap (s : State) : State :=
  match s.fwl.mapPending with
  | none => s
  | some ws =>
    let s := { s with fwl := { s.fwl with mapPending := none } }
    let s := ws.foldl (fun s p => if p.1 = 0x41100000 then wr s p.1 (p.2 % 32) else s) s
    let r := (ws.filter (fun p => p.1 != 0x41100000)).foldl (fun (a : List Nat × State) p => mapEntry a.1 a.2 p) ([], s)
    let s := (List.range 234).foldl followUnit r.2
    let s := (List.range 11).foldl (fun s c =>
      setF s (SPR_COUNT_LOGICAL c) (((List.range (physCount c)).filter (fun l => (physE s c l).isSome)).length)) s
    tendHearths ((List.range 11).foldl recount s)

/- ### Commands -/

/-- ENGINE_FENCE (R312): a fence order or a unit's own report; `sharedPart` when its hearth's field cache or dispatch port failed. -/
def execEngineFence (cls unit : Nat) (sharedPart : Bool) (s : State) : Ans :=
  if cls ≤ 8 ∧ unit < physCount cls then .next (fenceUnit s (classBase cls + unit) sharedPart) else .next s

/-- One spare resumes dispatch: its golden task is injected first (R482, R484). -/
def spareResumes (s : State) (p : Nat × Nat × Nat × Nat) : State :=
  let ns := s.time - p.2.2.2
  let s := setF s (SPR_U_STATE_TESTING p.2.2.1) 0
  let s := high (setF s SPR_SWAP_LAST ns) SPR_SWAP_MAX ns
  let s := bump s SPR_LIVE_CNT 1
  let s := if 20000 < ns then sendFault s 0x11 0x005 3 p.2.2.1 else s
  if p.1 ≤ 7 then wantGold s p.1 p.2.1 else s

/-- SPARE_READY (R482): every substitution under way resumes at this moment. -/
def execSpareReady (at_ : Nat) (s : State) : Ans :=
  let s := atTime s at_
  .next (s.spr.subst.foldl spareResumes { s with spr := { s.spr with subst := [] } })

/-- The lowest marked unit with a SPARE unit to take its place (R487). -/
def proactivePair (s : State) : Option (Nat × Nat) :=
  (List.range 224).findSome? (fun e =>
    if (s.spr.crossed.contains e || s.spr.entryTest.contains e) && (servesIndex s e).isSome then
      (chooseSpare s (classOfE e) e false).map (fun n => (e, n))
    else none)

/-- PROACTIVE_START (R487): at most one per stroke; a spare that fails the test is fenced (DESIGN CHOICE, log 16). -/
def execProactiveStart (pass : Bool) (s : State) : Ans :=
  if getF s SPR_POLICY_PROACTIVE_EN = 0 ∨ s.spr.proDone ∨ s.spr.proactive.isSome then .next s
  else match proactivePair s with
    | none => .next s
    | some (e, n) =>
      if pass then .next (setF { s with spr := { s.spr with proactive := some (e, n), proDone := true } } (SPR_U_STATE_TESTING n) 1)
      else .next (noteExhausted (recount (leaveService { s with spr := { s.spr with proDone := true } } n true) (classOfE n)) (classOfE n) n)

/-- PROACTIVE_SWITCH (R487): at the stroke instant the map switches and the old unit drains. -/
def proactiveSwitch (s : State) : State :=
  match s.spr.proactive with
  | none => s
  | some (e, n) =>
    let s := { s with spr := { s.spr with proactive := none } }
    let s := setF s (SPR_U_STATE_TESTING n) 0
    match servesIndex s e with
    | none => s
    | some (c, l) =>
      let s := setUState (mapTo (mapTouched s) c l n) e 3
      tendHearths (recount s c)

def execProactiveSwitch (at_ : Nat) (s : State) : Ans := .next (proactiveSwitch (atTime s at_))

/-- DRAIN_DONE (R487): the slots of a DRAIN unit are empty; a hearth-0 unit under its self-test (R464) becomes SPARE or FENCED. -/
def execDrainDone (e : Nat) (testPass : Bool) (s : State) : Ans :=
  if ustate s e ≠ 3 ∨ 224 ≤ e ∨ (runningOn s e).isSome ∨ (prefetchOn s e).isSome then .next s
  else if s.spr.entryTest.contains e then
    let s := { s with spr := { s.spr with entryTest := s.spr.entryTest.filter (· != e) } }
    let s := tendHearths (recount (if testPass then setUState s e 1 else bump (setUState s e 4) (SPR_U_STATE_FENCES e) 1) (classOfE e))
    .next (if testPass then s else noteExhausted s (classOfE e) e)
  else
    let s := { s with spr := { s.spr with crossed := s.spr.crossed.filter (· != e) } }
    .next (tendHearths (bump (sendFault (recount (setUState s e 2) (classOfE e)) 0x11 0x001 0 e) SPR_PRO_CNT 1))

/- ### Wear (R478 to R481) -/

/-- The sensor region of a unit: its hearth, or 8 (R478). -/
def regionOf (e : Nat) : Nat := match hearthOf e with | some h => h | none => 8

/-- A unit whose threshold is crossed: an ACTIVE one is marked, a SPARE one becomes WORN (R479). -/
def crossUnit (s : State) (e : Nat) : State :=
  if ustate s e = 0 ∧ !s.spr.crossed.contains e then
    sendFault { s with spr := { s.spr with crossed := s.spr.crossed ++ [e] } } 0x11 0x002 0 e
  else if ustate s e = 1 then sendFault (recount (setUState s e 2) (classOfE e)) 0x11 0x002 0 e
  else s

/-- Does a threshold of R478 stand crossed for a unit? -/
def crossedNow (s : State) (ce : List (Nat × Nat)) (e : Nat) : Bool :=
  (match hearthOf e with | some h => decide (getF s SPR_THRESH0_AGE_PPM ≤ getF s (SPR_HEARTH_AGE h)) | none => false) ||
  decide (getF s SPR_THRESH0_HOT_H * 3600 ≤ nget s.spr.heatHours (regionOf e)) || decide (getF s SPR_THRESH1 ≤ nget ce e)

/-- The aging measurement: the increase over AGE0 of the device record, per hearth (R478). -/
def measureAges (s : State) (ages : List Nat) : State :=
  (List.range 8).foldl (fun s h => setF s (SPR_HEARTH_AGE h) (ages.getD h 0 - s.bil.age0.getD h 0)) s

/-- WEAR_EVAL (R481): aging per hearth, regions hotter than 110 °C, corrections of the last 3,600 s per unit. -/
def execWearEval (ages hotRegions : List Nat) (ce : List (Nat × Nat)) (s : State) : Ans :=
  let s := measureAges s ages
  let hours := ((List.range 9).filter (fun r => hotRegions.contains r)).foldl (fun m r => nset m r (nget m r + 1)) s.spr.heatHours
  let s := { s with spr := { s.spr with heatHours := hours } }
  .next (((List.range 224).filter (fun e => ustate s e != 5 && crossedNow s ce e)).foldl crossUnit s)

/-- The wear record of R480. -/
def wearBytes (s : State) : List Nat :=
  let nib := (List.range 240).foldl (fun a e => a + (if e < 234 then getF s (SPR_U_STATE_FENCES e) else 0) * 16 ^ e) 0
  let ret := (List.range 234).foldl (fun a e => a + (if ustate s e = 5 then 1 else 0) * 2 ^ e) 0
  let banks := (List.range 1088).foldl (fun a b => a + getF s (ANV_BANK_CE_RETIRED b) * 2 ^ b) 0
  let body := [0x48, 0x4A, 0x57, 0x52] ++ leBytes 4 (s.spr.wearSeq + 1) ++ leBytes 120 nib ++ leBytes 32 ret ++ leBytes 136 banks ++
    (List.range 9).flatMap (fun r => leBytes 4 (nget s.spr.heatHours r / 3600)) ++ List.replicate 20 0
  body ++ hmac sm3 (wearKey s.sec) body

/-- Write the wear record to the next of its 16 sectors. -/
def writeWear (s : State) : State :=
  let k := (s.spr.wearSeq + 1) % 16
  let b := wearBytes s
  let fences := (List.range 234).foldl (fun m e => nset m e (getF s (SPR_U_STATE_FENCES e))) []
  let ret := (List.range 234).filter (fun e => ustate s e == 5)
  let banks := (List.range 1088).filter (fun x => getF s (ANV_BANK_CE_RETIRED x) == 1)
  { s with spr := { s.spr with records := s.spr.records.filter (fun p => p.1 != k) ++ [(k, b)], wearSeq := s.spr.wearSeq + 1,
                               wearValid := true, wearFences := fences, wearRetired := ret, wearBanks := banks } }

/-- WEAR_RECORD_WRITE (R480). -/
def execWearRecordWrite (s : State) : Ans := .next (writeWear s)

end Sys2Proof.Machine
end

