-- ==== Sys2Proof/Machine/Geometry.lean ====
section
/-! DEFINITION. Plane geometry of the fields and of the exact tests (R96, R103, R105, R106, R176, R263). A coordinate is an integer of
2^-20 fine units, a fine unit being 1/10,240 m (R171), so that cell centres are exact. -/

namespace Sys2Proof.Machine

/- ### Sine and cosine of a 16-bit binary angle, scaled by 2^60 (more than 50 bits; log 18) -/

/-- π · 2^60, rounded. -/
def piFix : Int := 3622009729038561421

def sinTerms : Nat → Int → Int → Int → Nat → Int
  | 0, _, _, acc, _ => acc
  | k + 1, x2, term, acc, n =>
    let t := -(term * x2 / 2 ^ 60 / ((n + 1) * (n + 2) : Nat))
    sinTerms k x2 t (acc + t) (n + 2)

/-- sin of h · 2π/65,536 for 0 ≤ h ≤ 16,384. -/
def sinQuarter (h : Nat) : Int :=
  let x := piFix * h / 32768
  sinTerms 12 (x * x / 2 ^ 60) x x 1

def sinFix (h : Nat) : Int :=
  let a := h % 65536
  let q := a % 16384
  match a / 16384 with
  | 0 => sinQuarter q
  | 1 => sinQuarter (16384 - q)
  | 2 => -sinQuarter q
  | _ => -sinQuarter (16384 - q)

def cosFix (h : Nat) : Int := sinFix (h + 16384)

/-- Round half up of n / 2^k. -/
def roundShift (n : Int) (k : Nat) : Int := Int.fdiv (n + 2 ^ k / 2) (2 ^ k)

/-- A length of n units of 1/1,024 m as a coordinate. -/
def len1024 (n : Int) : Int := n * 10 * 2 ^ 20

/-- The vector of length n (1/1,024 m) along heading h. -/
def along (n : Int) (h : Nat) : Int × Int := (roundShift (n * 10 * cosFix h) 40, roundShift (n * 10 * sinFix h) 40)

/- ### Convex shapes -/

/-- The convex hull of points, inflated by a radius. -/
structure Shape where
  pts : List (Int × Int)
  r : Int
deriving DecidableEq, Repr

def cross (a b c : Int × Int) : Int := (b.1 - a.1) * (c.2 - a.2) - (b.2 - a.2) * (c.1 - a.1)
def dist2 (a b : Int × Int) : Int := (b.1 - a.1) * (b.1 - a.1) + (b.2 - a.2) * (b.2 - a.2)
def dot (a b c : Int × Int) : Int := (b.1 - a.1) * (c.1 - a.1) + (b.2 - a.2) * (c.2 - a.2)

/-- floor of the distance from p to the segment ab. -/
def segDist (a b p : Int × Int) : Nat :=
  let l := dist2 a b
  let d := dot a b p
  if l = 0 ∨ d ≤ 0 then isqrt (dist2 a p).toNat
  else if l ≤ d then isqrt (dist2 b p).toNat
  else isqrt ((cross a b p * cross a b p / l).toNat)

def pairs (ps : List (Int × Int)) : List ((Int × Int) × (Int × Int)) := ps.flatMap (fun a => ps.map (fun b => (a, b)))

def listMin (l : List Nat) : Nat := match l with | [] => 0 | a :: t => t.foldl min a

/-- The hull's edges, with the hull on their left. -/
def hullEdges (ps : List (Int × Int)) : List ((Int × Int) × (Int × Int)) :=
  (pairs ps).filter (fun e => e.1 != e.2 && ps.all (fun c => decide (0 ≤ cross e.1 e.2 c)))

/-- p lies in the hull's interior or on it, for a hull with an area. -/
def inHull (ps : List (Int × Int)) (p : Int × Int) : Bool :=
  let es := hullEdges ps
  !es.isEmpty && es.all (fun e => decide (0 ≤ cross e.1 e.2 p)) && !es.any (fun e => es.contains (e.2, e.1))

/-- floor of the signed distance of p from the shape: negative inside. The exact value lies within one coordinate above it. -/
def signedDist (sh : Shape) (p : Int × Int) : Int :=
  if inHull sh.pts p then
    -((listMin ((hullEdges sh.pts).map (fun e => isqrt ((cross e.1 e.2 p * cross e.1 e.2 p / dist2 e.1 e.2).toNat)))) : Int) - 1 - sh.r
  else ((listMin ((pairs sh.pts).map (fun e => segDist e.1 e.2 p))) : Int) - sh.r

def segsCross (a b c d : Int × Int) : Bool :=
  let s := fun (x y : Int) => decide (x ≤ 0 ∧ 0 ≤ y ∨ y ≤ 0 ∧ 0 ≤ x)
  s (cross a b c) (cross a b d) && s (cross c d a) (cross c d b) &&
    decide (min a.1 b.1 ≤ max c.1 d.1 ∧ min c.1 d.1 ≤ max a.1 b.1 ∧ min a.2 b.2 ≤ max c.2 d.2 ∧ min c.2 d.2 ≤ max a.2 b.2)

/-- floor of the distance between two hulls, 0 when they meet. -/
def hullDist (p q : List (Int × Int)) : Nat :=
  if p.any (inHull q) || q.any (inHull p) || (pairs p).any (fun e => (pairs q).any (fun f => segsCross e.1 e.2 f.1 f.2)) then 0
  else min (listMin (p.flatMap (fun x => (pairs q).map (fun e => segDist e.1 e.2 x))))
           (listMin (q.flatMap (fun x => (pairs p).map (fun e => segDist e.1 e.2 x))))

/-- A shape lies within `reach` of a rectangle. -/
def nearRect (sh : Shape) (rect : List (Int × Int)) (reach : Int) : Bool := decide ((hullDist sh.pts rect : Int) - sh.r ≤ reach)

/-- A shape's bounding box: least x, greatest x, least y, greatest y. -/
def bbox (sh : Shape) : Int × Int × Int × Int :=
  let f := fun (g : Int → Int → Int) (h : Int × Int → Int) => match sh.pts with | [] => 0 | a :: t => (t.map h).foldl g (h a)
  (f min (·.1) - sh.r, f max (·.1) + sh.r, f min (·.2) - sh.r, f max (·.2) + sh.r)

/- ### The depth inside a union (R103)

The boundary of a union of the shapes comes nearest to a point at a foot on an edge or an arc of one shape, at one of its corners, or
where the boundaries of two shapes meet. -/

/-- n times the quotient v / √q, for a unit vector's part. -/
def unitPart (n v : Int) (q : Int) : Int :=
  let m : Int := isqrt ((n * v * (n * v) / max 1 q).toNat)
  if n * v < 0 then -m else m

/-- The straight parts of a shape's boundary: the hull's edges moved outward by the radius. -/
def straightParts (sh : Shape) : List ((Int × Int) × (Int × Int)) :=
  (hullEdges sh.pts).map (fun e =>
    let q := dist2 e.1 e.2
    let ox := unitPart sh.r (e.2.2 - e.1.2) q
    let oy := -(unitPart sh.r (e.2.1 - e.1.1) q)
    ((e.1.1 + ox, e.1.2 + oy), (e.2.1 + ox, e.2.2 + oy)))

/-- The point of the line ab nearest to p. -/
def footOn (a b p : Int × Int) : Int × Int :=
  let q := max 1 (dist2 a b)
  let t := dot a b p
  (a.1 + (b.1 - a.1) * t / q, a.2 + (b.2 - a.2) * t / q)

def onCircle (c : Int × Int) (r : Int) (p : Int × Int) : Int × Int :=
  if dist2 c p = 0 then (c.1 + r, c.2) else (c.1 + unitPart r (p.1 - c.1) (dist2 c p), c.2 + unitPart r (p.2 - c.2) (dist2 c p))

def lineMeets (a b c d : Int × Int) : List (Int × Int) :=
  let den := (b.1 - a.1) * (d.2 - c.2) - (b.2 - a.2) * (d.1 - c.1)
  let num := (c.1 - a.1) * (d.2 - c.2) - (c.2 - a.2) * (d.1 - c.1)
  if den = 0 then [] else [(a.1 + (b.1 - a.1) * num / den, a.2 + (b.2 - a.2) * num / den)]

def lineCircle (a b c : Int × Int) (r : Int) : List (Int × Int) :=
  let q := max 1 (dist2 a b)
  let h : Int := isqrt (r * r * q - cross a b c * cross a b c).toNat
  [dot a b c + h, dot a b c - h].map (fun t => (a.1 + (b.1 - a.1) * t / q, a.2 + (b.2 - a.2) * t / q))

def circlesMeet (c : Int × Int) (r : Int) (d : Int × Int) (r' : Int) : List (Int × Int) :=
  let q := dist2 c d
  if q = 0 then []
  else
    let n := q + r * r - r' * r'
    let h : Int := isqrt (4 * q * r * r - n * n).toNat
    [h, -h].map (fun h => (c.1 + ((d.1 - c.1) * n - (d.2 - c.2) * h) / (2 * q), c.2 + ((d.2 - c.2) * n + (d.1 - c.1) * h) / (2 * q)))

/-- Where the boundaries of two shapes may meet. -/
def boundariesMeet (x y : Shape) : List (Int × Int) :=
  (straightParts x).flatMap (fun e => (straightParts y).flatMap (fun f => lineMeets e.1 e.2 f.1 f.2)) ++
    (straightParts x).flatMap (fun e => y.pts.flatMap (fun c => lineCircle e.1 e.2 c y.r)) ++
    (straightParts y).flatMap (fun e => x.pts.flatMap (fun c => lineCircle e.1 e.2 c x.r)) ++
    x.pts.flatMap (fun c => y.pts.flatMap (fun d => circlesMeet c x.r d y.r))

/-- The points at which the union's boundary may come nearest to p. -/
def nearPoints (shapes : List Shape) (p : Int × Int) : List (Int × Int) :=
  shapes.flatMap (fun sh => (straightParts sh).flatMap (fun e => [footOn e.1 e.2 p, e.1, e.2]) ++ sh.pts.map (fun c => onCircle c sh.r p)) ++
    shapes.flatMap (fun x => shapes.flatMap (fun y => if x = y then [] else boundariesMeet x y))

/-- Points a little to every side of q. -/
def around (d : Int) (q : Int × Int) : List (Int × Int) :=
  [(4, 0), (3, 2), (3, 3), (2, 3), (0, 4), (-2, 3), (-3, 3), (-3, 2), (-4, 0), (-3, -2), (-3, -3), (-2, -3), (0, -4), (2, -3), (3, -3),
    (3, -2)].map (fun o => (q.1 + o.1 * d / 4, q.2 + o.2 * d / 4))

/-- Bounds of the depth of p inside the union of shapes: no point outside the union lies nearer than the first, and one lies as near as
the second. The points are computed to some 2^21 coordinates (log 5). -/
def depthBounds (shapes : List Shape) (p : Int × Int) : Int × Int :=
  let shapes := shapes.eraseDups
  let outside := fun (tol : Int) (q : Int × Int) => shapes.all (fun sh => decide (tol ≤ signedDist sh q))
  let far := fun (q : Int × Int) => (isqrt (dist2 p q).toNat : Int)
  let qs := nearPoints shapes p
  let bs := shapes.map bbox
  let exits := bs.flatMap (fun b => [(b.1 - 1, p.2), (b.2.1 + 1, p.2), (p.1, b.2.2.1 - 1), (p.1, b.2.2.2 + 1)])
  let m := fun (l : List Int) => match l with | [] => 0 | a :: t => t.foldl min a
  let hi := m (((exits ++ (qs.flatMap (around (5 * 2 ^ 20)))).filter (outside 1)).map (fun q => far q + 1))
  let lo := m ((qs.filter (outside (-4096))).map far) - 2 ^ 22
  (max 0 (min lo hi), hi)

/- ### Primitives (R95, R96) and hypotheses (R97, R105), in the odometry frame -/

/-- The planar shape of a primitive entry (R95: record bytes 18 to 43 at 0 to 25); `verts` are a mesh's dx, dy. -/
def primShape (e : List Nat) (verts : List (Int × Int)) : Shape :=
  let x := sx 32 (fldAt e 2 4)
  let y := sx 32 (fldAt e 6 4)
  let h := fldAt e 14 2
  let a : Int := fldAt e 18 4
  let b : Int := fldAt e 22 4
  let c := (len1024 x, len1024 y)
  let u := along a h
  match fldAt e 0 1 with
  | 0 =>
    let v := along b (h + 16384)
    { pts := [(c.1 + u.1 + v.1, c.2 + u.2 + v.2), (c.1 - u.1 + v.1, c.2 - u.2 + v.2), (c.1 - u.1 - v.1, c.2 - u.2 - v.2),
              (c.1 + u.1 - v.1, c.2 + u.2 - v.2)], r := 0 }
  | 1 => { pts := [c], r := len1024 a }
  | 2 => { pts := [(c.1 + u.1, c.2 + u.2), (c.1 - u.1, c.2 - u.2)], r := len1024 b }
  | _ => { pts := verts.map (fun v => (len1024 (x + v.1), len1024 (y + v.2))), r := 0 }

/-- Does a primitive enter the fields (R96)? -/
def inBand (e : List Nat) (zlo zhi : Int) : Bool := decide (sx 16 (fldAt e 10 2) ≤ zhi ∧ zlo ≤ sx 16 (fldAt e 12 2))

/-- A hypothesis as its agent entry gives it (R97). -/
structure Hyp where
  radius : Int
  halfLen : Int
  vmax : Int
  t0 : Nat
  dt : Nat
  prob : Nat
  growth : Int
  ns : Nat
  samples : List (Int × Int × Nat)
deriving DecidableEq, Repr

/-- Hypothesis h of an agent entry (record bytes 16 onward). -/
def hypOf (a : List Nat) (h : Nat) : Hyp :=
  let o := 32 + 656 * h
  let ns := fldAt a (o + 14) 1
  { radius := fldAt a 4 4, halfLen := fldAt a 8 4, vmax := fldAt a 12 2, t0 := fldAt a o 8, dt := fldAt a (o + 8) 2,
    prob := fldAt a (o + 10) 2, growth := fldAt a (o + 12) 2, ns := ns,
    samples := (List.range ns).map (fun k =>
      (sx 32 (fldAt a (o + 16 + 10 * k) 4), sx 32 (fldAt a (o + 20 + 10 * k) 4), fldAt a (o + 24 + 10 * k) 2)) }

def capPts (hy : Hyp) (s : Int × Int × Nat) : List (Int × Int) :=
  let u := along hy.halfLen s.2.2
  [(len1024 s.1 + u.1, len1024 s.2.1 + u.2), (len1024 s.1 - u.1, len1024 s.2.1 - u.2)]

/-- A sum of speeds in 1/1,024 m/s over units of 1/4,096 ns, as a length, rounded up once. -/
def grow (vd : Int) : Int := -(Int.fdiv (-(vd * 10 * 2 ^ 20)) (4096 * 1000000000))

/-- The contribution of a hypothesis to slice k of a heat at T_HEAT (R105). -/
def hypShapes (hy : Hyp) (tHeat k : Nat) : List Shape :=
  let i0 : Int := ((tHeat + k * 100000000) * 4096 : Nat)
  let i1 : Int := ((tHeat + (k + 1) * 100000000) * 4096 : Nat)
  let t0 : Int := (hy.t0 * 4096 : Nat)
  let at_ := fun (j : Nat) => t0 + (j * hy.dt * 1000000000 : Nat)
  let last := hy.ns - 1
  let r0 := len1024 hy.radius
  let between := (List.range last).filterMap (fun j =>
    if at_ j ≤ i1 ∧ i0 ≤ at_ (j + 1) then
      some { pts := capPts hy (hy.samples.getD j (0, 0, 0)) ++ capPts hy (hy.samples.getD (j + 1) (0, 0, 0)),
             r := r0 + grow (hy.growth * (at_ (j + 1) - t0)) : Shape }
    else none)
  let before := if i0 < t0 then [{ pts := capPts hy (hy.samples.getD 0 (0, 0, 0)), r := r0 + grow (hy.vmax * 4 * (t0 - i0)) : Shape }] else []
  let after := if at_ last < i1 then
      [{ pts := capPts hy (hy.samples.getD last (0, 0, 0)),
         r := r0 + grow (hy.growth * (i1 - t0) + hy.vmax * 4 * (i1 - at_ last)) : Shape }] else []
  if hy.prob = 0 ∨ hy.ns = 0 then [] else between ++ before ++ after

/-- A shape moved by (dx, dy) whole coordinates. -/
def moveShape (sh : Shape) (dx dy : Int) : Shape := { sh with pts := sh.pts.map (fun p => (p.1 + dx, p.2 + dy)) }

/-- A shape's numbers, as a key of what the spec leaves open about it. -/
def shapeKey (sh : Shape) : List Int := sh.r :: sh.pts.flatMap (fun p => [p.1, p.2])

end Sys2Proof.Machine
end

