-- ==== Sys2Proof/Machine/World.lean ====
section
/-! DEFINITION. The world intake and the seal (R77 to R101, R113) and the Assay load channel (R86, R258). -/

namespace Sys2Proof.Machine

/- ### The heat image (R80) -/

def egoOff : Nat := 0x40
def primOff : Nat := 0x80
def vertOff : Nat := 0x200080
def agentOff : Nat := 0x5C0080
def imageLen : Nat := 8749184
def agentSize : Nat := 2656
def vertPool : Nat := 655360

/-- A way to read bytes: `peek` for the intake, which owns the images, and `seen` for an engine (R31). -/
abbrev Bytes := Nat → Nat → List Nat

def primEntry (g : Bytes) (img id : Nat) : List Nat := g (img + primOff + 32 * id) 32
def entryKind (e : List Nat) : Nat := fldAt e 0 1
def entryNv (e : List Nat) : Nat := fldAt e 1 1
def entryVbase (e : List Nat) : Nat := fldAt e 28 4
def present (e : List Nat) : Bool := entryKind e != 0xFF
def agentEntry (g : Bytes) (img id : Nat) : List Nat := g (img + agentOff + agentSize * id) agentSize
def agentNh (a : List Nat) : Nat := fldAt a 2 1

/-- dx and dy of a mesh's vertices in an image. -/
def meshVerts (g : Bytes) (img : Nat) (e : List Nat) : List (Int × Int) :=
  if entryKind e = 3 then (List.range (entryNv e)).map (fun k =>
    let v := g (img + vertOff + 6 * (entryVbase e + k)) 4
    (sx 16 (fldAt v 0 2), sx 16 (fldAt v 2 2)))
  else []

def shapeIn (g : Bytes) (img : Nat) (e : List Nat) : Shape := primShape e (meshVerts g img e)
def triOf (e : List Nat) : Nat := if present e ∧ entryKind e = 3 then 2 * entryNv e - 4 else 0
def emptyPrim : List Nat := 0xFF :: List.replicate 31 0

/-- The images start with every primitive entry marked empty; the rest reads zero (R95, log 19). -/
def initImage (s : State) (img : Nat) : State := store s (img + primOff) ((List.range 65536).flatMap (fun _ => emptyPrim))

/-- The old bounding box of a primitive is kept at its first change in a staging heat (R110). -/
def noteChange (s : State) (id : Nat) (e : List Nat) : State :=
  if s.wld.chgPrim.any (fun p => p.1 == id) then s
  else
    let b := bbox (shapeIn (peek s) s.wld.staging e)
    { s with wld := { s.wld with chgPrim := s.wld.chgPrim ++ [(id, if present e then [b.1, b.2.1, b.2.2.1, b.2.2.2] else [])] } }

/- ### Intake (R90, R91, R99) -/

def ringBase (s : State) (r : Nat) : Nat := get64 s (CRU_RING_BASE_LO r) (CRU_RING_BASE_HI r)
def ringSize (s : State) (r : Nat) : Nat := getF s (CRU_RING_SIZE r)
def ringWp (s : State) (r : Nat) : Nat := getF s (CRU_RING_WP r)
def ringRp (s : State) (r : Nat) : Nat := getF s (CRU_RING_RP r)
def ahead (s : State) (r a b : Nat) : Nat := (a + ringSize s r - b) % max 1 (ringSize s r)

/-- The ring the billet names for the NETWORK stream is read with brand 0x41, the other with 0x40 (log 20). -/
def ringBrand (s : State) (r : Nat) : Nat := if s.bil.networkRing = some r then 0x41 else 0x40

/-- How far the intake may read a ring: to WP, or to the seal cut while a seal waits (R83). -/
def ringLimit (s : State) (r : Nat) : Nat :=
  match s.wld.cut with
  | some (a, b) => if s.wld.sealPending then (if r = 0 then a else b) else ringWp s r
  | none => ringWp s r

def ringEmpty (s : State) (r : Nat) : Bool := ringRp s r == ringLimit s r

/-- May the intake take a record of ring r now? Round-robin, ring 0 only in REPRO, not during the staging copy (R82, R90, R326). -/
def mayTake (s : State) (r : Nat) : Bool :=
  decide (r < 2) && !s.wld.copying && !s.wld.markReached && !ringEmpty s r &&
    (if inRepro s then r == 0 else r == s.wld.nextRing || ringEmpty s (1 - r))

/-- The record at RP, read with the ring's brand; of a PAD the header alone (R91, R99). What the intake finds at RP: the type shown, the record or a reason, and the advance of RP. -/
structure Fetched where
  typ : Nat
  reason : Nat
  adv : Nat
  data : List Nat
deriving DecidableEq, Repr

def fetchRecord (s : State) (r : Nat) : Fetched × List Note :=
  let rp := ringRp s r
  let toWp := ahead s r (ringWp s r) rp
  let h := (rdBytes s (ringBrand s r) (ringBase s r + rp) 16).run []
  match h.1 with
  | none => (⟨0xFF, 10, toWp, []⟩, h.2)
  | some hdr =>
    let len := fldAt hdr 2 2
    let typ := fldAt hdr 0 1
    if len < 16 ∨ len % 16 ≠ 0 ∨ ringSize s r < rp + len ∨ toWp < len then (⟨typ, 2, toWp, []⟩, h.2)
    else if typ = 0 then (⟨0, 0, len, []⟩, h.2)
    else
      let d := (rdBytes s (ringBrand s r) (ringBase s r + rp) len).run h.2
      match d.1 with
      | none => (⟨typ, 10, len, []⟩, d.2)
      | some bs => (⟨typ, 0, len, bs⟩, d.2)

def rejectRecord (s : State) (r typ reason : Nat) : State :=
  let s := setF (setF (setF s CRU_REJ_LAST_REASON reason) CRU_REJ_LAST_RING r) CRU_REJ_LAST_TYPE typ
  sendFault (bump s CRU_REC_REJECT 1) 0x0A 0x001 0 r

def firstReason (l : List (Nat × Bool)) : Nat := match l.find? (·.2) with | some p => p.1 | none => 0

def urgentSet (d : List Nat) : Bool := bit (fldAt d 1 1) 0

/-- The length a record's type and counts call for (R94). -/
def wantLen (d : List Nat) : Nat :=
  match fldAt d 0 1 with
  | 1 => (48 + 6 * fldAt d 19 1 + 15) / 16 * 16
  | 2 => 32 | 3 => 48 + 656 * fldAt d 18 1 | 4 => 32 | 5 => 32 | _ => 16

def primReserved (d : List Nat) : Bool := !(zeroAt d 34 2 && zeroAt d 44 4 && ((d.drop (48 + 6 * fldAt d 19 1)).all (· == 0)))
def primRange (d : List Nat) : Bool :=
  let k := fldAt d 18 1
  let nv := fldAt d 19 1
  decide (k ≤ 3) && (if k = 3 then decide (4 ≤ nv ∧ nv ≤ 64) else nv == 0) && decide (sx 16 (fldAt d 28 2) ≤ sx 16 (fldAt d 30 2)) &&
    !(k == 3 && fldAt d 36 4 != 0) && !((k == 1 || k == 3) && fldAt d 40 4 != 0)
def meshInside (d : List Nat) : Bool :=
  (List.range (fldAt d 19 1)).all (fun k =>
    let z := sx 16 (fldAt d (52 + 6 * k) 2)
    decide (4 * sx 16 (fldAt d 28 2) ≤ z ∧ z ≤ 4 * sx 16 (fldAt d 30 2)))
def hypReserved (d : List Nat) (h : Nat) : Bool :=
  let o := 48 + 656 * h
  fldAt d (o + 15) 1 != 0 || !zeroAt d (o + 16 + 10 * min 64 (fldAt d (o + 14) 1)) (640 - 10 * min 64 (fldAt d (o + 14) 1))
def hypRange (d : List Nat) (h : Nat) : Bool :=
  let o := 48 + 656 * h
  decide (1 ≤ fldAt d (o + 14) 1 ∧ fldAt d (o + 14) 1 ≤ 64 ∧ 1 ≤ fldAt d (o + 8) 2)
def hyps (d : List Nat) : List Nat := List.range (fldAt d 18 1)

/-- The reason a record is rejected, 0 for none; of several, the lowest (R99; log 21). -/
def checkRecord (s : State) (r : Nat) (d : List Nat) : Nat :=
  let t := fldAt d 0 1
  let fl := fldAt d 1 1
  let old := primEntry (peek s) s.wld.staging (fldAt d 16 2)
  let newer := match s.wld.lastSeq.getD r none with
    | none => true
    | some l => let x := sx 32 (sub32 (fldAt d 4 4) l); decide (0 < x)
  if !([1, 2, 3, 4, 5, 6, 0x0F].contains t) then 1
  else if fldAt d 2 2 ≠ wantLen d then 2
  else firstReason [
    (3, decide (2 ≤ fl) || (t == 1 && primReserved d) || ((t == 2 || t == 4) && !zeroAt d 18 14) ||
        (t == 3 && (fldAt d 19 1 != 0 || !zeroAt d 30 18 || (hyps d).any (hypReserved d)))),
    (4, (t == 3 || t == 4) && decide (1023 < fldAt d 16 2)),
    (5, (t == 1 && !primRange d) || (t == 3 && (!decide (1 ≤ fldAt d 18 1 ∧ fldAt d 18 1 ≤ 4) || (hyps d).any (fun h => !hypRange d h)))),
    (6, t == 1 && fldAt d 18 1 == 3 && decide (1048576 + triOf old < s.wld.nTri + (2 * fldAt d 19 1 - 4))),
    (7, t == 1 && fldAt d 18 1 == 3 && !meshInside d),
    (8, urgentSet d && t != 1 && t != 3),
    (9, !newer)]

/- ### Applying a record (R92, R95, R97) -/

/-- The vertex ranges in use by meshes other than id. -/
def usedVerts (s : State) (id : Nat) : List (Nat × Nat) :=
  let l := (List.range 65536).filterMap (fun i =>
    let e := primEntry (peek s) s.wld.staging i
    if i ≠ id ∧ present e ∧ entryKind e = 3 then some (entryVbase e, entryNv e) else none)
  l.mergeSort (fun a b => decide (a.1 ≤ b.1))

def firstGap : List (Nat × Nat) → Nat → Nat → Nat
  | [], pos, _ => pos
  | (b, n) :: t, pos, nv => if pos + nv ≤ b then pos else firstGap t (max pos (b + n)) nv

/-- Move every other mesh down, in ID order, so that the free vertices are one range; the vertices are those that stood in the pool
before (R80; log 22). -/
def compactVerts (s : State) (id : Nat) : State × Nat :=
  (List.range 65536).foldl (fun (a : State × Nat) i =>
    let img := s.wld.staging
    let e := primEntry (peek s) img i
    if i ≠ id ∧ present e ∧ entryKind e = 3 then
      let vs := peek s (img + vertOff + 6 * entryVbase e) (6 * entryNv e)
      let s := store (store a.1 (img + vertOff + 6 * a.2) vs) (img + primOff + 32 * i + 28) (leBytes 4 a.2)
      ({ s with wld := { s.wld with moved := insertNew s.wld.moved i } }, a.2 + entryNv e)
    else a) (s, 0)

/-- The vertex pool index for a mesh of nv vertices: first fit, after compaction when no gap fits. -/
def allocVerts (s : State) (id nv : Nat) : State × Nat :=
  let pos := firstGap (usedVerts s id) 0 nv
  if pos + nv ≤ vertPool then (s, pos) else compactVerts s id

def setPrim (s : State) (d : List Nat) : State :=
  let id := fldAt d 16 2
  let old := primEntry (peek s) s.wld.staging id
  let nv := fldAt d 19 1
  let s := noteChange s id old
  let r := if fldAt d 18 1 = 3 then allocVerts s id nv else (s, 0)
  let s := r.1
  let img := s.wld.staging
  let e := (d.drop 18).take 26 ++ [0, 0] ++ leBytes 4 r.2
  let s := if nv = 0 then s else store s (img + vertOff + 6 * r.2) ((d.drop 48).take (6 * nv))
  let s := store s (img + primOff + 32 * id) e
  { s with wld := { s.wld with nTri := s.wld.nTri + triOf e - triOf old, nPrim := if present old then s.wld.nPrim else s.wld.nPrim + 1 } }

def delPrim (s : State) (id : Nat) : State :=
  let old := primEntry (peek s) s.wld.staging id
  if !present old then s
  else
    let s := store (noteChange s id old) (s.wld.staging + primOff + 32 * id) emptyPrim
    { s with wld := { s.wld with nTri := s.wld.nTri - triOf old, nPrim := s.wld.nPrim - 1 } }

def setAgent (s : State) (d : List Nat) : State :=
  let id := fldAt d 16 2
  let old := agentNh (agentEntry (peek s) s.wld.staging id)
  let body := (d.drop 16 ++ List.replicate agentSize 0).take agentSize
  let s := store s (s.wld.staging + agentOff + agentSize * id) body
  { s with wld := { s.wld with nAgent := if old = 0 then s.wld.nAgent + 1 else s.wld.nAgent, chgAgent := insertNew s.wld.chgAgent id } }

def delAgent (s : State) (id : Nat) : State :=
  if agentNh (agentEntry (peek s) s.wld.staging id) = 0 then s
  else
    let s := store s (s.wld.staging + agentOff + agentSize * id) (List.replicate agentSize 0)
    { s with wld := { s.wld with nAgent := s.wld.nAgent - 1, chgAgent := insertNew s.wld.chgAgent id } }

def setEgo (s : State) (d : List Nat) : State :=
  let s := store s (s.wld.staging + egoOff) (d.take 32)
  { s with wld := { s.wld with hasEgo := true } }

/-- HEAT_CLEAR removes every primitive and agent and keeps the ego state (R94). -/
def clearHeat (s : State) : State :=
  let s := (List.range 65536).foldl delPrim s
  let s := (List.range 1024).foldl delAgent s
  { s with wld := { s.wld with cleared := true } }

/-- The heat is inconsistent (R99), once per heat. -/
def inconsistent (s : State) : State :=
  if flag s CRU_FIELD_STATUS_INCONSISTENT then s
  else sendFault (setF (heatFlag s 1) CRU_FIELD_STATUS_INCONSISTENT 1) 0x0A 0x005 3 0

def deltaOff (slot : Nat) : Nat := 0x719000 + 2688 * slot

/-- An URGENT record goes into the urgent delta of the sealed heat (R113); in REPRO, and before the first heat, it is only staged. -/
def urgentDelta (s : State) (d : List Nat) : State :=
  if inRepro s ∨ getF s CRU_HEAT_SEALED = 0 then s
  else if 256 ≤ s.asy.nDelta then
    inconsistent (heatFlag { s with asy := { s.asy with ovf := true } } 4)
  else
    let slot := s.asy.nDelta
    let s := asyStore { s with asy := { s.asy with nDelta := slot + 1 } } (deltaOff slot) ((d ++ List.replicate 2688 0).take 2688)
    let s := poke (heatFlag s 0) (heatImg s + 42) (leBytes 2 (slot + 1))
    let s := bump (setF s CRU_FIELD_STATUS_SUPERSEDED_URGENT 1) CRU_URG_CNT 1
    sendFault s 0x0A 0x006 0 slot

def applyRecord (s : State) (d : List Nat) : State :=
  match fldAt d 0 1 with
  | 1 => setPrim s d
  | 2 => delPrim s (fldAt d 16 2)
  | 3 => setAgent s d
  | 4 => delAgent s (fldAt d 16 2)
  | 5 => setEgo s d
  | 6 => clearHeat s
  | _ => if s.wld.sealPending ∧ inRepro s then { s with wld := { s.wld with markReached := true } } else bump s CRU_MARK_IGNORED 1

/-- RP advances past the record, and the turn passes to the other ring (R91, R92). -/
def movedRp (s : State) (r : Nat) (f : Fetched) : State :=
  let rp := (ringRp s r + f.adv) % max 1 (ringSize s r)
  let past := decide (ahead s r (ringLimit s r) (ringRp s r) < f.adv)
  let s := setF { s with wld := { s.wld with nextRing := 1 - r } } (CRU_RING_RP r) rp
  if past then { s with wld := { s.wld with cut := s.wld.cut.map (fun c => if r = 0 then (rp, c.2) else (c.1, rp)) } } else s

/-- The record at RP is consumed: RP advances, and it is applied or rejected (R91, R99). -/
def consume (s : State) (r : Nat) (f : Fetched) : State :=
  let s := movedRp s r f
  if f.reason ≠ 0 then rejectRecord s r f.typ f.reason
  else if f.typ = 0 then s
  else
    let k := checkRecord s r f.data
    if k ≠ 0 then rejectRecord s r f.typ k
    else
      let seq := fldAt f.data 4 4
      let gap := match s.wld.lastSeq.getD r none with | some l => decide (sub32 seq l ≠ 1) | none => false
      let s := if gap then sendFault (bump s CRU_SEQ_GAP 1) 0x0A 0x002 0 r else s
      let s := bump { s with wld := { s.wld with lastSeq := setAt s.wld.lastSeq r (some seq) } } CRU_REC_ACCEPT 1
      let s := applyRecord s f.data
      if urgentSet f.data then urgentDelta s f.data else s

/- ### The Ethernet DMA (R90, R91) -/

/-- Write one record into a ring and advance WP, after a PAD when it would wrap; false when it does not fit. -/
def dmaRecord (s : State) (r : Nat) (rec : List Nat) : State × Bool :=
  let size := ringSize s r
  let wp := ringWp s r
  let pad := if size < wp + rec.length then size - wp else 0
  if size < 16 + ahead s r wp (ringRp s r) + pad + rec.length then (s, false)
  else
    let s := if pad = 0 then s else (storeBrand s 0x41 (ringBase s r + wp) (layout 16 [(2, 2, pad)])).1
    let at_ := if pad = 0 then wp else 0
    let s := (storeBrand s 0x41 (ringBase s r + at_) rec).1
    (setF s (CRU_RING_WP r) ((at_ + rec.length) % max 1 size), true)

/-- WP stays a multiple of 16 (R91): zeros fill a record that is none (log 145). -/
def wholeSteps (bs : List Nat) : List Nat := bs ++ List.replicate ((16 - bs.length % 16) % 16) 0

/-- Write a datagram's records in order; what does not fit stays in the receive buffer. -/
def dmaGo : Nat → State → Nat → List Nat → State × List Nat
  | 0, s, _, bs => (s, bs)
  | k + 1, s, r, bs =>
    if bs = [] then (s, [])
    else
      let len := if fldAt bs 2 2 < 16 ∨ bs.length < fldAt bs 2 2 then bs.length else fldAt bs 2 2
      let x := dmaRecord s r (wholeSteps (bs.take len))
      if x.2 then dmaGo k x.1 r (bs.drop len) else (s, bs)

/-- Continue a stalled transfer when there is room. -/
def dmaPump (s : State) : State :=
  match s.wld.stalled with
  | [] => s
  | (r, bs) :: rest =>
    let x := dmaGo (bs.length / 16 + 1) s r bs
    { x.1 with wld := { x.1.wld with stalled := if x.2 = [] then rest else (r, x.2) :: rest } }

/-- A datagram behind a stalled transfer finds room in the MAC receive buffer, or is dropped and counted (R91); the buffer's size is open
(log 145). -/
def receiveDatagram (s : State) (ring : Nat) (bytes : List Nat) : State :=
  let x := fresh s
  if s.wld.stalled ≠ [] ∧ Config.freeValue x.1 % 2 = 1 then { x.2 with wld := { x.2.wld with macDropped := x.2.wld.macDropped + 1 } }
  else dmaPump { x.2 with wld := { x.2.wld with stalled := x.2.wld.stalled ++ [(ring, bytes)] } }

/-- NETWORK_DATAGRAM (R90): only the ring the billet names. -/
def execNetworkDatagram (ring : Nat) (bytes : List Nat) (s : State) : Ans :=
  .next (if s.bil.networkRing = some ring then receiveDatagram s ring bytes else s)

/-- A write of a ring's write pointer (R91). -/
def writeWp (s : State) (ring value : Nat) : State :=
  let size := ringSize s ring
  if value % 16 ≠ 0 ∨ size ≤ value ∨ size < ahead s ring (ringWp s ring) (ringRp s ring) + ahead s ring value (ringWp s ring) + 16 then
    answer (bump s CRU_WP_REFUSED 1) .error
  else answer (setF s (CRU_RING_WP ring) value) .ok

/-- RING_WP_WRITE. -/
def execRingWpWrite (brand ring value : Nat) (s : State) : Ans :=
  if 2 ≤ ring then .next (answer s .error)
  else .next (guarded s brand 1 (CRU_RING_WP ring).addr (fun s => writeWp s ring value))

/-- Take the record at RP of a ring when it is of the row's kind. -/
def intake (want : Nat → Bool) (s : State) (r : Nat) : State :=
  if !mayTake s r then s
  else
    let f := fetchRecord s r
    if want f.1.typ then dmaPump (consume (notesFx s f.2) r f.1) else s

def execPad (ring : Nat) (s : State) : Ans := .next (intake (· == 0) s ring)
def execPrimSet (ring : Nat) (s : State) : Ans := .next (intake (· == 1) s ring)
def execPrimDel (ring : Nat) (s : State) : Ans := .next (intake (· == 2) s ring)
def execAgentSet (ring : Nat) (s : State) : Ans := .next (intake (· == 3) s ring)
def execAgentDel (ring : Nat) (s : State) : Ans := .next (intake (· == 4) s ring)
def execEgo (ring : Nat) (s : State) : Ans := .next (intake (· == 5) s ring)
def execHeatClear (ring : Nat) (s : State) : Ans := .next (intake (· == 6) s ring)

/-- SEAL_MARK (R85): in REPRO mode it waits in its ring until a seal waits for it. -/
def execSealMark (ring : Nat) (s : State) : Ans :=
  if inRepro s ∧ !s.wld.sealPending then .next s else .next (intake (· == 0x0F) s ring)

/-- UNKNOWN_RECORD (R99): an unknown TYPE, or a header that could not be read. -/
def execUnknownRecord (ring : Nat) (s : State) : Ans :=
  .next (intake (fun t => !([0, 1, 2, 3, 4, 5, 6, 0x0F].contains t)) s ring)

/- ### The seal (R83 to R86, R100, R101) -/

/-- The heat hallmark: image offset 0x40 to its end (R81, R333). -/
def imageHm (s : State) (img : Nat) : Nat :=
  (List.range (imageLen / 64 - 1)).foldl (fun h i => Nat.xor h (lineHm (64 * (i + 1)) (peek s (img + 64 * (i + 1)) 64))) 0

def metre (x : Int) : Int := Int.fdiv (x + 512) 1024

/-- The gate numbers posted to the Tabor: 0 both layers READY, 1 static layer READY, 2 lattice selected, 3 Assay ready, 4 and 5 the gather
offsets (R300). -/
def gateGather (k : Nat) : Nat := 4 + k

/-- The gather offset passes once per stroke; a seal closes the other gates (R213, R300). -/
def isGather (g : Nat) : Bool := g == 4 || g == 5

def gateOpen (s : State) (g : Nat) : Bool := s.tabX.gates.contains g

/-- Every slot of the mask is full, or lost with its node (R213, R397). -/
def slotsSettled (s : State) (mask : Nat) : Bool :=
  (bitList 32 mask).all (fun i => bit (getF s TNG_INBOX_STATUS) i || bit s.ubf.lostSlots i)

/-- A held MERGE with LOCAL clear (R213, R214). -/
def mergeHeld (s : State) (c : List Nat) : Bool :=
  let wait := bf c 20 1
  cOpc c == 2 && !bit (bf c 21 1) 0 && wait != 0 && !slotsSettled s (bf c 24 4) && !(wait ≤ 2 && !inRepro s && gateOpen s (gateGather (wait - 1)))

/-- A MERGE still held when the next heat seals will complete with STALE_HEAT (R221); its status says so. -/
def staleMerges (s : State) : State :=
  ((tasks s).filter (fun t => t.loc == .ready && !tGold t && tCls t == 5 && mergeHeld s t.cmd)).foldl
    (fun s t => setTask s { t with status := 2 }) s

/-- The descriptor of R81. -/
def descriptor (heat flags tHeat stroke : Nat) (ox oy : Int) (tx ty nPrim nAgent nTri hm : Nat) : List Nat :=
  layout 64 [(0, 4, heat), (4, 4, flags), (8, 8, tHeat), (16, 8, stroke), (24, 4, toU 32 ox), (28, 4, toU 32 oy), (32, 2, tx), (34, 2, ty),
    (36, 4, nPrim), (40, 2, nAgent), (44, 4, nTri), (48, 8, hm)]

/-- A new heat has no lattice selected yet; with EN = 0 every heat selects NONE (R130, R131, R143). -/
def pealSeal (s : State) : State :=
  let en := getF s PEL_CFG0_EN = 1
  setF s PEL_FRAME (if en then 0x2FF else 0x6FF)

/-- The current sealed heat as its tasks keep it. -/
def currentHeat (s : State) : HeatInfo :=
  { heat := getF s CRU_HEAT_SEALED, img := heatImg s, desc := peek s (heatImg s) 64, inst := s.wld.heatInst, shift := s.wld.shift, chg := s.wld.sealedChg,
    stale := s.wld.staleRows, frame := rd s PEL_FRAME.addr }

/-- The heats that tasks hold when the current one retires (R87). -/
def pastHeats (s : State) : List HeatInfo :=
  (currentHeat s :: s.wld.past).filter (fun h => (tasks s).any (fun t => t.heat == h.heat))

/-- A heat by its number: the current one, or one that a task still holds. -/
def heatInfo (s : State) (heat : Nat) : HeatInfo :=
  if heat = getF s CRU_HEAT_SEALED then currentHeat s
  else match s.wld.past.find? (·.heat == heat) with
    | some h => h
    | none => currentHeat s

/-- The copy into the new staging image (R82): the entries that changed in the sealed heat. -/
def finishCopy (s : State) : State :=
  if !s.wld.copying then s
  else
    let src := heatImg s
    let dst := s.wld.staging
    let cp := fun (s : State) (off n : Nat) => store s (dst + off) (peek s (src + off) n)
    let s := s.wld.copyPrim.foldl (fun s id =>
      let e := primEntry (peek s) src id
      let s := if entryKind e = 3 then cp s (vertOff + 6 * entryVbase e) (6 * entryNv e) else s
      cp s (primOff + 32 * id) 32) s
    let s := s.wld.copyAgent.foldl (fun s id => cp s (agentOff + agentSize * id) agentSize) s
    let s := cp s egoOff 32
    { s with wld := { s.wld with copying := false, copyPrim := [], copyAgent := [] } }

/-- The completed seal. A staging image still being copied holds the sealed heat first (R82; log 144). -/
def sealHeat (s : State) : State :=
  let s := finishCopy s
  let img := s.wld.staging
  let heat := getF s CRU_HEAT_STAGING
  let ego := peek s (img + egoOff) 32
  let px := sx 32 (getF s CRU_ORIGIN_X)
  let py := sx 32 (getF s CRU_ORIGIN_Y)
  let first := decide (getF s CRU_HEAT_SEALED = 0)
  let ox := if s.wld.hasEgo then metre (sx 32 (fldAt ego 16 4)) else px
  let oy := if s.wld.hasEgo then metre (sx 32 (fldAt ego 20 4)) else py
  let dx := if first then 0 else ox - px
  let dy := if first then 0 else oy - py
  let tx := ((getF s CRU_TORUS_X + 10 * dx) % 2048).toNat
  let ty := ((getF s CRU_TORUS_Y + 10 * dy) % 2048).toNat
  let full := first || s.wld.cleared || decide (2048 ≤ 10 * dx.natAbs ∨ 2048 ≤ 10 * dy.natAbs) || s.wld.staticFull
  let hm := imageHm s img
  let d := descriptor heat (if full then 4 else 0) s.wld.sealStroke s.wld.sealNo ox oy tx ty s.wld.nPrim s.wld.nAgent s.wld.nTri hm
  let old := heatImg s
  let s := store (staleMerges s) img d
  let s := set64 s HAM_HEAT_IMG_LO HAM_HEAT_IMG_HI img
  let s := setF (setF s CRU_HEAT_SEALED heat) CRU_HEAT_STAGING (if heat = 0xFFFFFFFF then 1 else heat + 1)
  let s := setF (setF s CRU_ORIGIN_X (toU 32 ox)) CRU_ORIGIN_Y (toU 32 oy)
  let s := setF (setF (setF s CRU_TORUS_X tx) CRU_TORUS_Y ty) CRU_FIELD_STATUS 0
  let s := high s CRU_SEAL_LAG (s.time - s.wld.sealTime)
  let stale := if full then [] else (List.range 128).filter (fun row => !s.wld.rowsDone.contains row)
  let w := { s.wld with
    staging := if first then s.wld.spareImg else old, sealedChg := s.wld.chgPrim, copyPrim := s.wld.chgPrim.map (·.1) ++ s.wld.moved,
    copyAgent := s.wld.chgAgent, chgPrim := [], chgAgent := [], moved := [], cleared := false, copying := true, sealPending := false,
    cut := none, markReached := false, shift := (dx, dy), rowsDone := [], slicesDone := [], staleRows := stale, staticFull := false,
    heatInst := s.wld.sealTime - getF s CAR_SEAL_OFS, hlmSeal := getF s HLM_LOG_WR,
    past := pastHeats s }
  let s := { s with wld := w, tabX := { s.tabX with gates := s.tabX.gates.filter isGather } }
  let s := showAssay (setF { s with asy := { s.asy with loading := true, gridding := false, ovf := false, nDelta := 0, deltaSeen := 0 } } ASY_STATUS_READY 0)
  let s := setF (setF s BLW_ALC_STATUS 1) TNG_INBOX_STATUS 0
  let s := pealSeal s
  let tm := fldAt ego 8 8
  if !s.wld.hasEgo ∨ tm + getF s CRU_CFG1_EGO_MAX_AGE * 1000 < s.wld.sealStroke + getF s CAR_SEAL_OFS then inconsistent s else s

/-- Records taken by the seal cut and still unapplied, counted along their lengths (R84); a LEN that gives no boundary takes all that is
unread with it (R91). -/
def unapplied : Nat → State → Nat → Nat → Nat
  | 0, _, _, _ => 0
  | k + 1, s, r, rp =>
    let lim := ringLimit s r
    if rp = lim then 0
    else
      let len := leNat (peek s (ringBase s r + rp + 2) 2)
      let ok := decide (16 ≤ len ∧ len % 16 = 0 ∧ rp + len ≤ ringSize s r ∧ len < ahead s r lim rp)
      if ok then 1 + unapplied k s r ((rp + len) % max 1 (ringSize s r)) else 1

def unappliedAll (s : State) : Nat :=
  unapplied (ringSize s 0 / 16) s 0 (ringRp s 0) + unapplied (ringSize s 1 / 16) s 1 (ringRp s 1)

/-- A seal that must complete now, deferring what is unapplied (R84). -/
def sealDeferring (s : State) : State :=
  let n := unappliedAll s
  sealHeat (if n = 0 then s else sendFault (bump s CRU_DEFERRED n) 0x0A 0x003 0 0)

/-- WORLD_SEAL (R83): at stroke instant + SEAL_OFS, once per stroke. A seal that still waits completes first (log 23). -/
def execWorldSeal (at_ : Nat) (s : State) : Ans :=
  let s := atTime s at_
  if !s.stk.any ∨ at_ < s.stk.inst + getF s CAR_SEAL_OFS ∨ s.wld.sealedFor = some s.stk.no ∨ (inRepro s ∧ s.wld.sealPending) then .next s
  else
    let s := if s.wld.sealPending then sealDeferring s else s
    .next { s with wld := { s.wld with sealPending := true, sealedFor := some s.stk.no, sealNo := s.stk.no, sealStroke := s.stk.time,
                                       sealTime := s.stk.inst + getF s CAR_SEAL_OFS, cut := if inRepro s then none else some (ringWp s 0, ringWp s 1) } }

/-- SEAL_MAX_EXPIRED (R84): not in REPRO mode (R85). -/
def execSealMaxExpired (at_ : Nat) (s : State) : Ans :=
  let s := atTime s at_
  if s.wld.sealPending ∧ !inRepro s ∧ s.wld.sealTime + getF s CRU_CFG1_SEAL_MAX * 1000 ≤ at_ ∧ unappliedAll s ≠ 0 then .next (sealDeferring s)
  else .next s

/-- SEAL_COMPLETE (R86): every record taken is applied; in REPRO mode the SEAL_MARK is reached (R85). -/
def execSealComplete (at_ : Nat) (s : State) : Ans :=
  let s := atTime s at_
  let ready := if inRepro s then s.wld.markReached else ringEmpty s 0 && ringEmpty s 1 && !s.wld.copying
  if s.wld.sealPending ∧ ready then .next (sealHeat s) else .next s

/-- STAGING_COPY_DONE (R82): the entries that changed in the sealed heat stand in the new staging image. -/
def execStagingCopyDone (s : State) : Ans := .next (finishCopy s)

/- ### The Assay load channel (R86, R258) -/

/-- The vertex pool without dz (R257). -/
def dropDz : Nat → List Nat → List Nat
  | 0, _ => []
  | k + 1, bs => bs.take 4 ++ dropDz k (bs.drop 6)

/-- ASSAY_LOAD_DONE (R258): the world copy stands in the Assay store; a differing hallmark makes the heat inconsistent (R86, R99). -/
def execAssayLoadDone (at_ : Nat) (s : State) : Ans :=
  let s := atTime s at_
  if !s.asy.loading then .next s
  else
    let img := heatImg s
    let lines := (List.range (imageLen / 64)).map (fun i => portLine s (img + 64 * i))
    let s := lines.foldl (fun s r => notesFx s r.2) s
    let ok := lines.all (fun r => r.1.isSome)
    let hm := (List.range (imageLen / 64 - 1)).foldl (fun h i =>
      match lines.getD (i + 1) (none, []) with | (some bs, _) => Nat.xor h (lineHm (64 * (i + 1)) bs) | _ => h) 0
    let bs := lines.flatMap (fun r => match r.1 with | some b => b | none => List.replicate 64 0)
    let good := ok && hm == fldAt bs 48 8
    let s := asyStore s 0 (bs.take 64)
    let s := asyStore s 0x1000 ((bs.drop primOff).take 0x200000)
    let s := asyStore s 0x201000 (dropDz vertPool (bs.drop vertOff))
    let s := asyStore s 0x481000 ((bs.drop agentOff).take (1024 * agentSize))
    let s := setF (bump s BLW_ALC_LINES 116225) BLW_ALC_STATUS 0
    let s := showAssay (setF { s with asy := { s.asy with loading := false, gridding := true } } ASY_HEAT (getF s CRU_HEAT_SEALED))
    .next (if good then s else inconsistent s)

end Sys2Proof.Machine
end

