-- ==== Sys2Proof/Machine/Engine.lean ====
section
/-! DEFINITION. The shared shape of an engine's row: the running task of a unit is computed as a whole over the state it starts from,
and its work is applied at once (R24, R301, R334). -/

namespace Sys2Proof.Machine

/-- The running task of a unit, not yet executed, of one of the opcodes. -/
def engineTask (s : State) (cls unit : Nat) (opcs : List Nat) : Option Task :=
  if physCount cls ≤ unit then none
  else match runningOn s (classBase cls + unit) with
    | some t => if !t.ran ∧ tCls t = cls ∧ opcs.contains (cOpc t.cmd) then some t else none
    | none => none

/-- The task has executed: status and hallmark of this execution (R308, R334). -/
def taskRan (s : State) (t : Task) (status hm : Nat) : State := setTask s { t with ran := true, status := status, hm := hm }

/-- Apply the work of a task. -/
def finishWork (s : State) (t : Task) (w : Work) : State :=
  taskRan (applyWork s (qBrand s t.queue) w) t w.status (if cHlm t.cmd then writesHm (writtenLines s (qBrand s t.queue) w) else 0)

def engineRow (s : State) (cls unit : Nat) (opcs : List Nat) (f : State → Task → Work) : State :=
  match engineTask s cls unit opcs with
  | some t => finishWork s t (f s t)
  | none => s

/-- A block posts an opening, or a passed offset, to the Tabor (R300); numbers at `gateGather`, `deadlineGate` and `cutGate`. -/
def openGate (s : State) (g : Nat) : State := { s with tabX := { s.tabX with gates := insertNew s.tabX.gates g } }

/-- GSET and DST of a GOLDEN command (R191, R253, R285, R412). -/
def goldSet (t : Task) : Nat := bf t.cmd 16 8
def goldDst (t : Task) : Nat := bf t.cmd 24 8

/-- A reading map, left to right. -/
def rdMap {α β : Type} (g : α → Rdr β) : List α → Rdr (List β)
  | [] => pure []
  | i :: t => do
    let x ← g i
    let y ← rdMap g t
    pure (x :: y)

/-- The image of a task's heat, which the task keeps when the next heat seals (R82, R87). -/
def taskImg (s : State) (t : Task) : Nat := (heatInfo s t.heat).img

end Sys2Proof.Machine
end

