-- ==== Sys2Proof/Machine/Fields.lean ====
section
/-! DEFINITION. The clearance fields and the Crucible (R88, R89, R101 to R111, R115, R413, R462). -/

namespace Sys2Proof.Machine

/-- The frame a field is built in: image, origin, torus, T_HEAT, and whether Ember's geometry holds (R100, R101, R462). -/
structure Frame where
  img : Nat
  ox : Int
  oy : Int
  tx : Nat
  ty : Nat
  tHeat : Nat
  ember : Bool

/-- The frame a heat descriptor gives (R81). -/
def descFrame (d : List Nat) (img : Nat) (ember : Bool) : Frame :=
  let b := fldAt d
  { img := img, ox := sx 32 (b 24 4), oy := sx 32 (b 28 4), tx := if ember then 0 else b 32 2, ty := if ember then 0 else b 34 2,
    tHeat := b 8 8, ember := ember }

/-- The frame of the current sealed heat, as the blocks that seal and deliver it keep it. -/
def heatFrame (s : State) : Frame := descFrame (peek s (heatImg s) 64) (heatImg s) (inEmber s)

/-- The descriptor of a task's heat: read with the queue's brand, or as the task keeps it once the next heat has sealed (R87). -/
def taskDesc (s : State) (t : Task) : List Nat :=
  if t.heat = getF s CRU_HEAT_SEALED then seen s (qBrand s t.queue) (heatImg s) 64 else (heatInfo s t.heat).desc

/-- The frame of a task's heat. -/
def taskFrame (s : State) (t : Task) : Frame := descFrame (taskDesc s t) (taskImg s t) (inEmber s)
/-- STATIC_FULL of a descriptor (R81). -/
def descFull (d : List Nat) : Bool := bit (fldAt d 4 4) 2
/-- The frame of a golden image, read with the queue's brand. -/
def goldFrame (s : State) (t : Task) (img : Nat) : Frame := descFrame (seen s (qBrand s t.queue) img 64) img false

/- ### Geometry of the layers (R102, R104, R462) -/

def sCells (ember : Bool) : Nat := if ember then 512 else 2048
def sTiles (ember : Bool) : Nat := if ember then 32 else 128
def sSize (ember : Bool) : Nat := if ember then 4096 else 1024
/-- Centre of static column i in fine units. -/
def sCentre (ember : Bool) (i : Nat) : Int := if ember then 4096 * (i : Int) - 1046528 else 1024 * (i : Int) - 1048064
def dCells (ember : Bool) : Nat := if ember then 256 else 1024
def dTiles (ember : Bool) : Nat := if ember then 32 else 128
def dCentre (ember : Bool) (i : Nat) : Int := if ember then 8192 * (i : Int) - 1044480 else 2048 * (i : Int) - 1047552
/-- Cell index of a local position X in 1/1,024 m. -/
def sIndex (ember : Bool) (x : Int) : Int := if ember then Int.fdiv (10 * x) 4096 + 256 else Int.fdiv (10 * x) 1024 + 1024
def dIndex (ember : Bool) (x : Int) : Int := if ember then Int.fdiv (10 * x) 8192 + 128 else Int.fdiv (5 * x) 1024 + 512

/-- Offset of storage cell (p, q) in the static layer. -/
def sCellOff (ember : Bool) (p q : Nat) : Nat := (q / 16 * sTiles ember + p / 16) * 512 + (q % 16 * 16 + p % 16) * 2
def sBrickOff (ember : Bool) (p q : Nat) : Nat := (q / 16 * sTiles ember + p / 16) * 256
/-- Offset of cell (i, j) of slice k in the dynamic layer. -/
def dCellOff (ember : Bool) (k i j : Nat) : Nat := ((k * dTiles ember + j / 8) * dTiles ember + i / 8) * 64 + j % 8 * 8 + i % 8
/-- Offset of the dynamic brick of cell (i, j) of slice k: one per tile of 16 × 16 cells. -/
def dBrickOff (ember : Bool) (k i j : Nat) : Nat := ((k * (dCells ember / 16) + j / 16) * (dCells ember / 16) + i / 16) * 64

def coord (fine : Int) : Int := fine * 2 ^ 20
def originC (o : Int) : Int := coord (o * 10240)

/- ### The heat's entities -/

def zLo (s : State) : Int := sx 16 (getF s CRU_ZBAND_LO)
def zHi (s : State) : Int := sx 16 (getF s CRU_ZBAND_HI)

/-- The band-admitted projections of an image, in ascending ID (R96). -/
def primShapes (s : State) (g : Bytes) (img : Nat) : List (Nat × Shape) :=
  (List.range 65536).filterMap (fun id =>
    let e := primEntry g img id
    if present e ∧ inBand e (zLo s) (zHi s) then some (id, shapeIn g img e) else none)

/-- The contributions of an image's hypotheses to slice k, in ascending agent ID × 4 + hypothesis (R105). -/
def hypContribs (g : Bytes) (img tHeat k : Nat) : List (Nat × List Shape) :=
  (List.range 1024).flatMap (fun a =>
    let e := agentEntry g img a
    (List.range (min 4 (agentNh e))).filterMap (fun h =>
      match hypShapes (hypOf e h) tHeat k with | [] => none | l => some (a * 4 + h, l)))

/- ### Cell values (R103, R105; the choice within the guarantee is free, log 5) -/

/-- 1/256 m and 1/16 m as coordinates. -/
def unit256 : Int := 40 * 2 ^ 20
def unit16 : Int := 640 * 2 ^ 20

/-- An integer code within one unit of a value known to lie in [lo, lo + 2), within [a, b]. -/
def pickCode (lo u : Int) (key : List Int) (a b : Int) : Int :=
  let c0 := -(Int.fdiv (u - lo) u)
  let c1 := Int.fdiv (lo + 2 + u) u
  clampI a b (c0 + (Config.fieldPick key % ((c1 - c0).toNat + 1) : Nat))

def clampCode (s : State) : Int := getF s CRU_CFG0_CLAMP

/-- The static code at an odometry point: the signed distance to the union of the projections, cut at CLAMP (R103; log 5). -/
def staticCode (s : State) (shapes : List Shape) (p : Int × Int) : Int :=
  let cut := clampCode s * unit256
  let nearS := shapes.filter (fun sh => decide (signedDist sh p ≤ cut + unit256))
  let key := fun (l : List Shape) => clampCode s :: p.1 :: p.2 :: l.flatMap shapeKey
  let d := (nearS.map (fun sh => signedDist sh p)).foldl min cut
  let b := depthBounds shapes p
  let d := if d < 0 ∧ 2 ≤ shapes.length then -(b.1 + (Config.unionDepth (key shapes) % ((b.2 - b.1).toNat + 1) : Nat)) else d
  if d + 2 ≤ -32767 * unit256 then -32767 else pickCode d unit256 (key nearS) (-32766) 32767

/-- The dynamic code at an odometry point (R105). -/
def dynCode (shapes : List Shape) (p : Int × Int) : Int :=
  let cut := 255 * unit16
  let nearS := shapes.filter (fun sh => decide (signedDist sh p ≤ cut + unit16))
  let d := max 0 ((nearS.map (fun sh => signedDist sh p)).foldl min cut)
  pickCode d unit16 (p.1 :: p.2 :: nearS.flatMap shapeKey) 0 255

/-- The odometry point of a local fine position. -/
def odom (f : Frame) (x y : Int) : Int × Int := (originC f.ox + coord x, originC f.oy + coord y)

/-- Local column of storage column p (R101). -/
def unTorus (ember : Bool) (p t : Nat) : Nat := (p + sCells ember - t % sCells ember) % sCells ember

def storageCode (s : State) (f : Frame) (shapes : List Shape) (p q : Nat) : List Nat :=
  let c := odom f (sCentre f.ember (unTorus f.ember p f.tx)) (sCentre f.ember (unTorus f.ember q f.ty))
  leBytes 2 (toU 16 (staticCode s shapes c))

/- ### Bricks (R106) -/

/-- The local cell ranges a storage tile covers on one axis: one, or two at the torus seam. -/
def axisRanges (ember : Bool) (tile t : Nat) : List (Nat × Nat) :=
  let l := (List.range 16).map (fun k => unTorus ember (tile * 16 + k) t)
  let a := l.headD 0
  if a + 15 < sCells ember then [(a, a + 15)] else [(a, sCells ember - 1), (0, a + 15 - sCells ember)]

def rectOf (f : Frame) (x0 x1 y0 y1 : Int) : List (Int × Int) := [odom f x0 y0, odom f x1 y0, odom f x1 y1, odom f x0 y1]

def tileRects (f : Frame) (tc tr : Nat) : List (List (Int × Int)) :=
  let h : Int := sSize f.ember / 2
  (axisRanges f.ember tc f.tx).flatMap (fun a => (axisRanges f.ember tr f.ty).map (fun b =>
    rectOf f (sCentre f.ember a.1 - h) (sCentre f.ember a.2 + h) (sCentre f.ember b.1 - h) (sCentre f.ember b.2 + h)))

def reach (s : State) : Int := len1024 (getF s CRU_CFG0_REACH)

/-- A static brick and whether it overflows. -/
def staticBrick (s : State) (f : Frame) (shapes : List (Nat × Shape)) (tc tr : Nat) : List Nat × Bool :=
  let ids := (shapes.filter (fun p => (tileRects f tc tr).any (fun r => nearRect p.2 r (reach s)))).map (·.1)
  let n := min 63 ids.length
  let ovf := decide (63 < ids.length)
  ((leBytes 4 (n + 65536 * b2n ovf) ++ (ids.take 63).flatMap (leBytes 4) ++ List.replicate 256 0).take 256, ovf)

/-- A dynamic brick of the 16 × 16 cells from (i, j) and whether it overflows. -/
def dynBrick (s : State) (f : Frame) (cs : List (Nat × List Shape)) (i j : Nat) : List Nat × Bool :=
  let h : Int := if f.ember then 4096 else 1024
  let r := rectOf f (dCentre f.ember i - h) (dCentre f.ember (i + 15) + h) (dCentre f.ember j - h) (dCentre f.ember (j + 15) + h)
  let ids := (cs.filter (fun p => p.2.any (fun sh => nearRect sh r (reach s)))).map (·.1)
  let n := min 31 ids.length
  let ovf := decide (31 < ids.length)
  ((leBytes 2 (n + 64 * b2n ovf) ++ (ids.take 31).flatMap (leBytes 2) ++ List.replicate 64 0).take 64, ovf)

/- ### Building -/

def sBase (s : State) : Nat := get64 s HAM_STATIC_BASE_LO HAM_STATIC_BASE_HI
def dBase (s : State) : Nat := get64 s HAM_DYN_BASE_LO HAM_DYN_BASE_HI
def sbBase (s : State) : Nat := get64 s HAM_SBRICK_BASE_LO HAM_SBRICK_BASE_HI
def dbBase (s : State) : Nat := get64 s HAM_DBRICK_BASE_LO HAM_DBRICK_BASE_HI

/-- A whole static tile, row by row, as 512 bytes. -/
def tileBytes (s : State) (f : Frame) (shapes : List Shape) (tc tr : Nat) : List Nat :=
  (List.range 16).flatMap (fun q => (List.range 16).flatMap (fun p => storageCode s f shapes (tc * 16 + p) (tr * 16 + q)))

/-- One 8 × 8 dynamic line from cell (i, j). -/
def dynLine (f : Frame) (shapes : List Shape) (i j : Nat) : List Nat :=
  (List.range 8).flatMap (fun y => (List.range 8).map (fun x =>
    (dynCode shapes (odom f (dCentre f.ember (i + x)) (dCentre f.ember (j + y)))).toNat))

/-- Is local cell (i, j) to be rewritten by a repair: invalid after the shift, or near a changed primitive's old or new box (R101, R110)? -/
def mustRewrite (f : Frame) (shift : Int × Int) (boxes : List (List Int)) (margin : Int) (i j : Nat) : Bool :=
  let n : Int := sCells f.ember
  let inv := fun (d : Int) (a : Nat) => decide (0 < d ∧ n - 10 * d ≤ a ∨ d < 0 ∧ (a : Int) < -(10 * d))
  let p := odom f (sCentre f.ember i) (sCentre f.ember j)
  inv shift.1 i || inv shift.2 j || boxes.any (fun b => match b with
    | [x0, x1, y0, y1] => decide (x0 - margin ≤ p.1 ∧ p.1 ≤ x1 + margin ∧ y0 - margin ≤ p.2 ∧ p.2 ≤ y1 + margin)
    | _ => false)

/-- The old and new boxes of the heat's changed primitives. -/
def changedBoxes (g : Bytes) (h : HeatInfo) : List (List Int) :=
  h.chg.flatMap (fun p =>
    let e := primEntry g h.img p.1
    let b := bbox (shapeIn g h.img e)
    p.2 :: (if present e then [[b.1, b.2.1, b.2.2.1, b.2.2.2]] else []))

/-- The work of one static tile: its writes and whether its brick overflows. -/
def tileWork (s : State) (f : Frame) (shift : Int × Int) (shapes : List (Nat × Shape)) (full : Bool) (boxes : List (List Int)) (tc tr : Nat) :
    List (Nat × List Nat) × Bool :=
  let only := shapes.map (·.2)
  let margin := clampCode s * unit256 + coord 1024
  let cells := (List.range 256).filter (fun k =>
    full || mustRewrite f shift boxes margin (unTorus f.ember (tc * 16 + k % 16) f.tx) (unTorus f.ember (tr * 16 + k / 16) f.ty))
  if cells = [] then ([], false)
  else
    let b := staticBrick s f shapes tc tr
    let ws := if full then [(sBase s + sCellOff f.ember (tc * 16) (tr * 16), tileBytes s f only tc tr)]
      else cells.map (fun k => (sBase s + sCellOff f.ember (tc * 16 + k % 16) (tr * 16 + k / 16),
        storageCode s f only (tc * 16 + k % 16) (tr * 16 + k / 16)))
    (ws ++ [(sbBase s + sBrickOff f.ember (tc * 16) (tr * 16), b.1)], b.2)

def cruRows (t : Task) : List Nat := (List.range (bf t.cmd 18 2 + 1)).filter (fun r => decide (bf t.cmd 16 2 ≤ r))

/-- The lines of an image that a build reads, as its reads find them: the descriptor, the primitive table with its meshes' vertices, or the
agent table (R31, R344; log 143). -/
def imageNotes (s : State) (brand img : Nat) (dyn : Bool) : List Note :=
  let g := seen s brand
  let verts := (List.range 65536).flatMap (fun id =>
    let e := primEntry g img id
    if present e ∧ inBand e (zLo s) (zHi s) ∧ entryKind e = 3 then notesOf s brand (img + vertOff + 6 * entryVbase e) (6 * entryNv e) else [])
  notesOf s brand img 64 ++ if dyn then notesOf s brand (img + agentOff) (1024 * agentSize) else notesOf s brand (img + primOff) (65536 * 32) ++ verts

/-- The write that sets BRICK_OVF in the descriptor of a task's heat, while that heat's image still holds it (R106). -/
def ovfWrite (s : State) (t : Task) : List (Nat × List Nat) :=
  let img := taskImg s t
  let d := peek s img 8
  if fldAt d 0 4 = t.heat then [(img + 4, leBytes 4 (setBits (fldAt d 4 4) 3 1 1))] else []

/-- The work of a task's tiles or slices: what it writes, and a record for each brick that overflows. -/
def joinWork (s : State) (t : Task) (notes : List Note) (l : List (List (Nat × List Nat) × Bool)) : Work :=
  let ovf := l.filter (·.2)
  { writes := l.flatMap (·.1) ++ (if ovf = [] then [] else ovfWrite s t), notes := notes, faults := ovf.map (fun _ => (0x0A, 0x004, 0, t.punit)) }

def chgBase (s : State) : Nat := get64 s PEL_CHG_BASE_LO PEL_CHG_BASE_HI

/-- The writes that set bits of the tile change map, one byte each; Ember's layer has no Peal (R128, R461). -/
def markWrites (s : State) (ts : List Nat) : List (Nat × List Nat) :=
  if inEmber s then []
  else (ts.map (· / 8)).eraseDups.map (fun b =>
    (chgBase s + b, [(ts.filter (· / 8 == b)).foldl (fun v k => setBits v (k % 8) 1 1) (byteAt s (chgBase s + b))]))

/-- REPAIR_STATIC and BUILD_STATIC over the command's tile rows, with the change map's marks of the tiles rewritten (R110, R128). -/
def staticWork (repair : Bool) (s : State) (t : Task) : Work :=
  let f := taskFrame s t
  let h := heatInfo s t.heat
  let g := seen s (qBrand s t.queue)
  let shapes := primShapes s g f.img
  let boxes := changedBoxes g h
  let allFull := !repair || descFull (taskDesc s t) || f.ember
  let tiles := (cruRows t).flatMap (fun tr => (List.range (sTiles f.ember)).map (fun tc => (tc, tr)))
  let done := tiles.map (fun x => (x, tileWork s f h.shift shapes (allFull || h.stale.contains x.2) boxes x.1 x.2))
  let w := joinWork s t (imageNotes s (qBrand s t.queue) f.img false) (done.map (·.2))
  { w with writes := w.writes ++ markWrites s ((done.filter (fun x => x.2.1 != [])).map (fun x => x.1.2 * 128 + x.1.1)) }

/-- One slice of the dynamic layer with its bricks. -/
def sliceWork (s : State) (g : Bytes) (f : Frame) (k : Nat) : List (List (Nat × List Nat) × Bool) :=
  let cs := hypContribs g f.img f.tHeat k
  let only := cs.flatMap (·.2)
  let n := dTiles f.ember
  ((List.range (n * n)).map (fun x => ([(dBase s + dCellOff f.ember k (x % n * 8) (x / n * 8), dynLine f only (x % n * 8) (x / n * 8))], false))) ++
  ((List.range (n * n / 4)).map (fun x =>
    let i := x % (n / 2) * 16
    let j := x / (n / 2) * 16
    let b := dynBrick s f cs i j
    ([(dbBase s + dBrickOff f.ember k i j, b.1)], b.2)))

def dynWork (s : State) (t : Task) : Work :=
  let f := taskFrame s t
  joinWork s t (imageNotes s (qBrand s t.queue) f.img true) ((cruRows t).flatMap (sliceWork s (seen s (qBrand s t.queue)) f))

/- ### Crucible commands (R89, R115) -/

/-- The work of a Crucible command by its opcode. -/
def crucibleWork (s : State) (t : Task) : Work :=
  match cOpc t.cmd with | 1 => staticWork true s t | 2 => staticWork false s t | _ => dynWork s t

/-- Heat a is older than heat b: numbers run on and wrap (R82). -/
def olderHeat (a b : Nat) : Bool := a != b && decide ((b + 2 ^ 32 - a) % 2 ^ 32 < 2 ^ 31)

/-- A Hammer or Peal task of an older heat is running (R89). -/
def olderRuns (s : State) (heat : Nat) : Bool :=
  (tasks s).any (fun t => (match t.loc with | .running _ => true | _ => false) && !tGold t && (tCls t == 2 || tCls t == 4) && olderHeat t.heat heat)

/-- A Crucible task that waits no longer writes its fields (R89). -/
def crucibleRun (s : State) (unit : Nat) (t : Task) : State :=
  finishWork (setF s (CRU_U_STATUS_DRAIN_WAIT unit) 0) t (crucibleWork s t)

/-- A Crucible task runs, or waits for older Hammer and Peal tasks with DRAIN_WAIT set. -/
def runCrucible (s : State) (unit : Nat) (opc : Nat) : State :=
  match engineTask s 1 unit [opc] with
  | some t => if olderRuns s t.heat then setF s (CRU_U_STATUS_DRAIN_WAIT unit) 1 else crucibleRun s unit t
  | none => s

def execRepairStatic (unit : Nat) (s : State) : Ans := .next (runCrucible s unit 1)
def execBuildStatic (unit : Nat) (s : State) : Ans := .next (runCrucible s unit 2)
def execBuildDyn (unit : Nat) (s : State) : Ans := .next (runCrucible s unit 3)

/-- CRUCIBLE_DRAIN_END (R89): the waiting task starts its field writes. -/
def execCrucibleDrainEnd (unit : Nat) (s : State) : Ans :=
  match engineTask s 1 unit [1, 2, 3] with
  | some t =>
    .next (if flag s (CRU_U_STATUS_DRAIN_WAIT unit) ∧ !olderRuns s t.heat then crucibleRun s unit t else s)
  | none => .next s

/-- CRUCIBLE_GOLDEN (R413): one static tile with its brick, one dynamic line of slice 0 with its brick, in order at DST (log 24). -/
def crucibleGoldWork (s : State) (t : Task) : Work :=
  let brand := qBrand s t.queue
  let set := seen s brand (goldSet t) 64
  let g := seen s brand
  let f := goldFrame s t (fldAt set 0 8)
  let in0 := fldAt set 8 8
  let sh := primShapes s g f.img
  let cs := hypContribs g f.img f.tHeat 0
  let tc := bits in0 0 7
  let tr := bits in0 7 7
  let i := bits in0 14 7 * 8
  let j := bits in0 21 7 * 8
  let out := tileBytes s f (sh.map (·.2)) tc tr ++ (staticBrick s f sh tc tr).1 ++ dynLine f (cs.flatMap (·.2)) i j ++
    (dynBrick s f cs (i / 16 * 16) (j / 16 * 16)).1
  { writes := [(goldDst t, out)],
    notes := notesOf s brand (goldSet t) 64 ++ imageNotes s brand f.img false ++ imageNotes s brand f.img true }

def execCrucibleGolden (unit : Nat) (s : State) : Ans := .next (engineRow s 1 unit [0x10] crucibleGoldWork)

end Sys2Proof.Machine
end

