-- ==== Sys2Proof/Machine/Peal.lean ====
section
/-! DEFINITION. The Peal: lattices, moves, goals, banded wavefronts, repair and the selection of a lattice (R119 to R141, R413). The state
(a, b, h) of a lattice has the number (b × 512 + a) × 16 + h. -/

namespace Sys2Proof.Machine

/- ### Geometry (R119 to R121, R133) -/

def latStates : Nat := 4194304
def stA (n : Nat) : Nat := n / 16 % 512
def stB (n : Nat) : Nat := n / 8192
def stH (n : Nat) : Nat := n % 16
def stNum (a b h : Nat) : Nat := (b * 512 + a) * 16 + h
def stOff (n : Nat) : Nat := (stB n / 4 * 128 + stA n / 4) * 512 + (stB n % 4 * 4 + stA n % 4) * 32 + stH n * 2
def bufBase (s : State) (k : Nat) : Nat :=
  if k = 0 then get64 s PEL_BUF_BASE0_LO PEL_BUF_BASE0_HI else get64 s PEL_BUF_BASE1_LO PEL_BUF_BASE1_HI
/-- The cost of a state in a buffer, as `g` reads it. -/
def latAt (g : Bytes) (s : State) (k n : Nat) : Nat := leNat (g (bufBase s k + stOff n) 2)
/-- LO of an origin in whole metres. -/
def loOf (o : Int) : Int := 2 * Int.fdiv o 2
def latLoX (s : State) (k : Nat) : Int := sx 32 (getF s (PEL_LAT_LO_X k))
def latLoY (s : State) (k : Nat) : Int := sx 32 (getF s (PEL_LAT_LO_Y k))
/-- The bin of a heading. -/
def headBin (h : Nat) : Nat := (h + 2048) / 4096 % 16

/- ### Moves (R123, R124) -/

def moveWord (s : State) (h m : Nat) : Nat := s.bil.moves.getD (h * 8 + m) 0
def mvDA (w : Nat) : Int := sx 4 (bits w 0 4)
def mvDB (w : Nat) : Int := sx 4 (bits w 4 4)
def mvDH (w : Nat) : Int := sx 3 (bits w 8 3)
def mvEN (w : Nat) : Bool := bit w 11
def mvCost (w : Nat) : Nat := bits w 12 12

/-- The static cells of a move's sample points on one axis (R124). -/
def sampleCells (lo o : Int) (a : Nat) (d k : Int) : List Int :=
  (List.range (k.toNat + 1)).map (fun (j : Nat) =>
    Int.fdiv (10240 * (lo - o) + ((a : Int) - 256) * 4096 + 2048 + Int.tdiv ((j : Int) * 4096 * d) k) 1024 + 1024)

/-- The sample points' cells of a move from (a, b). -/
def moveCells (f : Frame) (a b w : Nat) : List (Int × Int) :=
  let k : Int := 2 * max (mvDA w).natAbs (mvDB w).natAbs
  List.zip (sampleCells (loOf f.ox) f.ox a (mvDA w) k) (sampleCells (loOf f.oy) f.oy b (mvDB w) k)

/-- The storage cell that holds a static cell's position, now or before the layer moved on (R101). -/
def torusCell (f : Frame) (c : Int × Int) : Nat × Nat := (((c.1 + f.tx) % 2048).toNat, ((c.2 + f.ty) % 2048).toNat)
def inLayer (c : Int × Int) : Bool := decide (0 ≤ c.1 ∧ c.1 < 2048 ∧ 0 ≤ c.2 ∧ c.2 < 2048)

/-- The lower bound at a static cell, when it can be traversed. -/
def cellBound (g : Bytes) (s : State) (f : Frame) (base : Nat) (c : Int × Int) : Option Int :=
  if !inLayer c then none
  else
    let v := sx 16 (leNat (g (base + sCellOff false (torusCell f c).1 (torusCell f c).2) 2))
    if v = -32767 ∨ v = -32768 ∨ v - 20 < getF s PEL_CFG1_RADIUS then none else some (v - 20)

def succA (a : Nat) (w : Nat) : Int := a + mvDA w
def succB (b : Nat) (w : Nat) : Int := b + mvDB w
def succH (h : Nat) (w : Nat) : Nat := ((h + mvDH w) % 16).toNat

/-- The successor of a state by a move, when it lies inside the lattice. -/
def succOf (a b h w : Nat) : Option Nat :=
  if 0 ≤ succA a w ∧ succA a w < 512 ∧ 0 ≤ succB b w ∧ succB b w < 512 then some (stNum (succA a w).toNat (succB b w).toNat (succH h w)) else none

/-- A traversable move of state n: its successor and its edge cost. -/
def edge (g : Bytes) (s : State) (f : Frame) (base n m : Nat) : Option (Nat × Nat) :=
  let w := moveWord s (stH n) m
  if !mvEN w then none
  else match succOf (stA n) (stB n) (stH n) w with
    | none => none
    | some t =>
      let lbs := (moveCells f (stA n) (stB n) w).map (cellBound g s f base)
      if lbs.any (·.isNone) then none
      else
        let lbmin := (lbs.filterMap id).foldl min 40000
        let i := ((lbmin - getF s PEL_CFG1_RADIUS) / max 1 (getF s PEL_CFG1_PEN_STEP : Nat)).toNat
        some (t, mvCost w + s.bil.pen.getD (min 15 i) 0)

def edges (g : Bytes) (s : State) (f : Frame) (base n : Nat) : List (Nat × Nat) := (List.range 8).filterMap (edge g s f base n)

/-- The states with a traversable move to n, and the move's cost. -/
def preds (g : Bytes) (s : State) (f : Frame) (base n : Nat) : List (Nat × Nat) :=
  (List.range 16).flatMap (fun h => (List.range 8).filterMap (fun m =>
    let w := moveWord s h m
    let a := (stA n : Int) - mvDA w
    let b := (stB n : Int) - mvDB w
    if mvEN w ∧ 0 ≤ a ∧ a < 512 ∧ 0 ≤ b ∧ b < 512 then
      let p := stNum a.toNat b.toNat h
      match edge g s f base p m with
      | some (t, e) => if t = n then some (p, e) else none
      | none => none
    else none))

/- ### Goals (R125) -/

/-- The seed of a state at a goal table. -/
def seed (f : Frame) (tab : List Nat) (ngoal n : Nat) : Nat :=
  let cx := 10240 * loOf f.ox + ((stA n : Int) - 256) * 4096 + 2048
  let cy := 10240 * loOf f.oy + ((stB n : Int) - 256) * 4096 + 2048
  (List.range ngoal).foldl (fun g i =>
    let v := fun o => sx 32 (fldAt tab (32 * i + o) 4)
    if 10 * v 0 ≤ cx ∧ cx ≤ 10 * v 8 ∧ 10 * v 4 ≤ cy ∧ cy ≤ 10 * v 12 ∧ bit (fldAt tab (32 * i + 16) 2) (stH n) then
      min g (fldAt tab (32 * i + 18) 2)
    else g) 0xFFFF

/- ### The parts of a heat (R127, R138) -/

/-- OPC, GOAL, NGOAL and NPART of a command. -/
def partKey (c : List Nat) : Nat × Nat × Nat × Nat := (cOpc c, bf c 16 8, bf c 24 1, bf c 26 1)
def partNo (c : List Nat) : Nat := bf c 25 1

/-- A later part that conflicts with the heat's values or repeats a PART (R138). -/
def partConflict (s : State) (c : List Nat) : Bool :=
  match s.peal.fixed with
  | none => false
  | some k => k != partKey c || s.peal.parts.contains (partNo c)

/-- A part is placed; the first one fixes the heat's values. -/
def partPlaced (s : State) (c : List Nat) : State :=
  { s with peal := { s.peal with fixed := some (s.peal.fixed.getD (partKey c)), parts := s.peal.parts ++ [partNo c] } }

/-- The fields that belong to one heat begin anew for another (R130, R138). -/
def forHeat (s : State) (h : Nat) : State :=
  if s.peal.heat = h then s
  else { s with peal := { s.peal with heat := h, fixed := none, parts := [], arrived := [], doneParts := 0, failedParts := 0 } }

/-- The running REPAIR and BUILD tasks, not yet through. -/
def pealRunning (s : State) : List Task :=
  (tasks s).filter (fun t => tCls t == 2 && !tGold t && !t.ran && (match t.loc with | .running _ => true | _ => false))
/-- The brand the parts read with. -/
def pealBrand (s : State) : Nat := match pealRunning s with | t :: _ => qBrand s t.queue | [] => 0

def npart (s : State) : Nat := match s.peal.fixed with | some k => k.2.2.2 | none => 0
def goalAddr (s : State) : Nat := match s.peal.fixed with | some k => k.2.1 | none => 0
def ngoal (s : State) : Nat := match s.peal.fixed with | some k => k.2.2.1 | none => 0
def goalTab (s : State) : List Nat := seen s (pealBrand s) (goalAddr s) (32 * ngoal s)
def goalHm (s : State) : Nat := writesHm [(goalAddr s, goalTab s)]

def partTask (s : State) (p : Nat) : Option Task := (pealRunning s).find? (fun t => partNo t.cmd == p)
/-- The part that handles a state's row. -/
def partOf (s : State) (n : Nat) : Nat := stB n * npart s / 512

/-- Write costs into the target buffer, each by the part that works on state `by_`. -/
def putCost (s : State) (by_ n c : Nat) : State :=
  match partTask s (partOf s by_) with
  | some t => (storeBrand s (qBrand s t.queue) (bufBase s s.peal.buf + stOff n) (leBytes 2 c)).1
  | none => s

def setPhase (s : State) (k : Nat) : State := (pealRunning s).foldl (fun s t => setF s (PEL_U_STATUS_PHASE t.punit) k) s

/-- The VALID buffer (R122). -/
def validBuf (s : State) : Option Nat := (List.range 2).find? (fun k => getF s (PEL_LAT_STATE k) == 2)

/-- The heat that the lattice is built for, and its frame (R120, R124). -/
def latDesc (s : State) : List Nat :=
  if s.peal.heat = getF s CRU_HEAT_SEALED then seen s (pealBrand s) (heatImg s) 64 else (heatInfo s s.peal.heat).desc
def latFrame (s : State) : Frame := descFrame (latDesc s) (heatInfo s s.peal.heat).img false
def latReads (s : State) : Bytes := seen s (pealBrand s)
/-- The cost of a state in the lattice under construction. -/
def costAt (s : State) (n : Nat) : Nat := latAt (latReads s) s s.peal.buf n

/-- Must a repair run as a full build (R129)? -/
def mustBuild (s : State) : Bool :=
  match validBuf s with
  | none => true
  | some v =>
    let f := latFrame s
    (if v = 0 then s.peal.goalHm0 else s.peal.goalHm1) != goalHm s || descFull (latDesc s) ||
      decide (206 ≤ (loOf f.ox - latLoX s v).natAbs ∨ 206 ≤ (loOf f.oy - latLoY s v).natAbs)

/-- The first part starts the lattice: the target buffer is WRITING and its record is set. -/
def startLattice (s : State) (opc : Nat) : State :=
  let k := match validBuf s with | some 0 => 1 | _ => 0
  let f := latFrame s
  let s := setF (setF s (PEL_LAT_STATE k) 1) (PEL_LAT_HEAT k) s.peal.heat
  let s := setF (setF s (PEL_LAT_LO_X k) (toU 32 (loOf f.ox))) (PEL_LAT_LO_Y k) (toU 32 (loOf f.oy))
  let hm := goalHm s
  let full := opc == 2 || mustBuild s
  { s with peal := { s.peal with buf := k, full := full, phase := 1, opens := [], affected := [], reopen := [], lo := 0, hi := 0,
                                 goalHm0 := if k = 0 then hm else s.peal.goalHm0, goalHm1 := if k = 1 then hm else s.peal.goalHm1 } }

/-- The Peal works on lattices: EN, outside Ember (R131, R461). -/
def pealOn (s : State) : Bool := getF s PEL_CFG0_EN == 1 && !inEmber s

/-- The lines of a part's stripe in a buffer (R334; log 25). -/
def stripeHm (s : State) (k p : Nat) : Nat :=
  (List.range 131072).foldl (fun h i =>
    let a := bufBase s k + 64 * i
    let b := i / 8 / 128 * 4 + i % 8 / 2
    if b * npart s / 512 = p then Nat.xor h (lineHm a (peek s a 64)) else h) 0

/-- The hallmark of a part that has run through: its stripe, and for part 0 the cleared change map (R24, R128; log 25). -/
def partHm (s : State) (t : Task) : Nat :=
  if !cHlm t.cmd then 0
  else Nat.xor (stripeHm s s.peal.buf (partNo t.cmd)) (if partNo t.cmd = 0 then writesHm [(chgBase s, List.replicate 2048 0)] else 0)

/-- The hallmark of a part cut at END_OFS: nothing is written before the first step. -/
def cutHm (s : State) (t : Task) : Nat :=
  if cHlm t.cmd ∧ s.peal.arrived.contains (partNo t.cmd) ∧ 1 < s.peal.phase then stripeHm s s.peal.buf (partNo t.cmd) else 0

/-- The lattice of the parts' heat is complete. -/
def latticeBuilt (s : State) : Bool := getF s (PEL_LAT_STATE s.peal.buf) == 2 && getF s (PEL_LAT_HEAT s.peal.buf) == s.peal.heat && s.peal.phase == 0

/-- A part that comes again after a fence starts from the beginning, and the steps with it (R312; log 151). -/
def restart (s : State) : State :=
  if s.peal.phase ≤ 1 then s else setPhase { s with peal := { s.peal with phase := 1, opens := [], affected := [], reopen := [], lo := 0, hi := 0 } } (b2n !s.peal.full)

/-- A part arrives at its unit. With EN = 0 no lattice is built and the part has nothing to do (R131). -/
def arrive (s : State) (unit opc : Nat) : State :=
  match engineTask s 2 unit [opc] with
  | none => s
  | some t =>
    if !pealOn s then taskRan s t 0 0
    else if s.peal.arrived.contains (partNo t.cmd) then s
    else if t.redisp ∧ latticeBuilt s then taskRan s t 0 (partHm s t)
    else
      let s := if s.peal.phase = 0 then startLattice s opc else restart s
      let s := { s with peal := { s.peal with arrived := s.peal.arrived ++ [partNo t.cmd] } }
      setF (setF s (PEL_U_STATUS_PART unit) (partNo t.cmd)) (PEL_U_STATUS_PHASE unit) (if s.peal.full then 0 else 1)

def execRepair (unit : Nat) (s : State) : Ans := .next (arrive s unit 1)
def execBuild (unit : Nat) (s : State) : Ans := .next (arrive s unit 2)

/- ### Wavefront steps (R127, R129) -/

/-- The next band, or none when no open state has a cost below 0xFFFF. -/
def nextBand (s : State) (lo : Nat) : Option (Nat × Nat) :=
  if s.peal.opens.any (fun n => decide (costAt s n < 0xFFFF)) then some (lo, min (lo + getF s PEL_CFG0_BAND) 0xFFFF) else none

/-- A full build starts: every state takes its seed. -/
def seedAll (s : State) : State :=
  let f := latFrame s
  let tab := goalTab s
  let g := seed f tab (ngoal s)
  let s := (List.range latStates).foldl (fun s n => putCost s n n (g n)) s
  { s with peal := { s.peal with opens := (List.range latStates).filter (fun n => decide (g n < 0xFFFF)), phase := 3, lo := 0, hi := 0 } }

/-- The state of the VALID lattice that state n is copied from. -/
def copyFrom (s : State) (v n : Nat) : Option Nat :=
  let a := (stA n : Int) + 5 * (latLoX s s.peal.buf - latLoX s v) / 2
  let b := (stB n : Int) + 5 * (latLoY s s.peal.buf - latLoY s v) / 2
  if 0 ≤ a ∧ a < 512 ∧ 0 ≤ b ∧ b < 512 then some (stNum a.toNat b.toNat (stH n)) else none

/-- Is the storage tile of a static cell's position marked (R128)? A position that has left the layer lay in the tile that its storage
cell belongs to (log 150). -/
def marked (s : State) (f : Frame) (c : Int × Int) : Bool :=
  let k := (torusCell f c).2 / 16 * 128 + (torusCell f c).1 / 16
  bit (leNat (latReads s (chgBase s + k / 8) 1)) (k % 8)

/-- The states a repair starts from (R129): new ones, those with a sample point in a marked tile or with a new successor. -/
def affectedStates (s : State) (f : Frame) (isNew : Nat → Bool) : List Nat :=
  (List.range latStates).filter (fun n => isNew n || (List.range 8).any (fun m =>
    let w := moveWord s (stH n) m
    mvEN w && ((moveCells f (stA n) (stB n) w).any (marked s f) ||
      (match succOf (stA n) (stB n) (stH n) w with | some t => isNew t | none => false))))

/-- Collect every state whose old cost rests on an affected state. -/
def raiseGo (s : State) (f : Frame) (aff : List Nat) : Nat → List Nat → List Nat → List Nat
  | 0, _, reopen => reopen
  | _, [], reopen => reopen
  | k + 1, n :: st, reopen =>
    if reopen.contains n then raiseGo s f aff k st reopen
    else
      let c := costAt s
      let up := (preds (latReads s) s f (sBase s) n).filter (fun p => !aff.contains p.1 && decide (c p.1 < 0xFFFF) && c p.1 == c n + p.2)
      raiseGo s f aff k (up.map (·.1) ++ st) (n :: reopen)

/-- The copy with shift and the raise. -/
def copyAndRaise (s : State) (v : Nat) : State :=
  let f := latFrame s
  let s := (List.range latStates).foldl (fun s n =>
    putCost s n n (match copyFrom s v n with | some p => latAt (latReads s) s v p | none => 0xFFFF)) s
  let aff := affectedStates s f (fun n => (copyFrom s v n).isNone)
  let reopen := raiseGo s f aff (latStates * 129) aff []
  setPhase { s with peal := { s.peal with affected := aff, reopen := reopen, phase := 2 } } 2

/-- Reopened states take the best of their goal and the states outside reopen. -/
def estimate (s : State) : State :=
  let f := latFrame s
  let tab := goalTab s
  let re := s.peal.reopen
  let cost := fun n => (edges (latReads s) s f (sBase s) n).foldl (fun c p =>
    if re.contains p.1 then c else min c (min (p.2 + costAt s p.1) 0xFFFF)) (seed f tab (ngoal s) n)
  let cs := re.map (fun n => (n, cost n))
  let s := cs.foldl (fun s p => putCost s p.1 p.1 p.2) s
  setPhase { s with peal := { s.peal with opens := re, phase := 3, lo := 0, hi := 0 } } 3

/-- Lower a predecessor and open it. -/
def relax (n c : Nat) (s : State) (p : Nat × Nat) : State :=
  let t := min (c + p.2) 0xFFFF
  if t < costAt s p.1 then
    let s := putCost s n p.1 t
    { s with peal := { s.peal with opens := insertNew s.peal.opens p.1 } }
  else s

/-- One wavefront step over the front. -/
def expandFront (s : State) (front : List Nat) : State :=
  let f := latFrame s
  let s := { s with peal := { s.peal with opens := s.peal.opens.filter (fun n => !front.contains n) } }
  front.foldl (fun s n => (preds (latReads s) s f (sBase s) n).foldl (relax n (costAt s n)) s) s

/-- The Peal clears the change map, part 0 writing it. -/
def clearMap (s : State) : State :=
  match partTask s 0 with
  | some t => writesFx s (qBrand s t.queue) [(chgBase s, List.replicate 2048 0)]
  | none => s

/-- The lattice is complete: its buffer becomes VALID, the other EMPTY, the change map is cleared (R122, R128, R143). -/
def latticeDone (s : State) : State :=
  let k := s.peal.buf
  let s := clearMap (setF (setF s (PEL_LAT_STATE k) 2) (PEL_LAT_STATE (1 - k)) 0)
  let s := if s.peal.full then bump s PEL_BUILDS 1 else setF (bump s PEL_REPAIRS 1) PEL_REOPEN_LAST s.peal.reopen.length
  let s := setF s PEL_DONE_NS_LAST (s.time - (heatInfo s s.peal.heat).inst)
  let s := (pealRunning s).foldl (fun s t => taskRan s t 0 (partHm s t)) s
  { s with peal := { s.peal with phase := 0, opens := [], affected := [], reopen := [] } }

/-- What the parts' reads find over their inputs: descriptor, static layer, goal table, and for a repair the VALID lattice and the change
map; each line once (R31, R344; log 143). -/
def latNotes (s : State) : List Note :=
  let b := pealBrand s
  notesOf s b (heatInfo s s.peal.heat).img 64 ++ notesOf s b (sBase s) 0x800000 ++ notesOf s b (goalAddr s) (32 * ngoal s) ++
    match validBuf s with
    | some v => if s.peal.full then [] else notesOf s b (bufBase s v) 0x800000 ++ notesOf s b (chgBase s) 2048
    | none => []

/-- The first step: every state takes its seed, or is copied and raised. -/
def firstStep (s : State) : State :=
  let s := notesFx s (latNotes s)
  match validBuf s with
  | some v => if s.peal.full then seedAll s else copyAndRaise s v
  | none => seedAll s

/-- One step between two barriers. -/
def waveStep (s : State) : State :=
  if s.peal.phase = 1 then firstStep s
  else if s.peal.phase = 2 then estimate s
  else
    let front := s.peal.opens.filter (fun n => decide (costAt s n < s.peal.hi))
    if front ≠ [] then expandFront s front
    else match nextBand s s.peal.hi with
      | some (lo, hi) => { s with peal := { s.peal with lo := lo, hi := hi } }
      | none => latticeDone s

/-- Every part of the heat stands at the barrier. -/
def allArrived (s : State) : Bool := s.peal.phase != 0 && npart s != 0 && (List.range (npart s)).all (fun p => s.peal.arrived.contains p)

/-- PEAL_BARRIER (R127): the parts wait while one is missing (R138). -/
def execPealBarrier (at_ : Nat) (s : State) : Ans :=
  let s := atTime s at_
  .next (if allArrived s then waveStep s else s)

/- ### The selection (R130 to R132) -/

/-- The age of a heat against the current one, heat number 0 being skipped (R132). -/
def latAge (n h : Nat) : Nat := (n + 2 ^ 32 - h) % 2 ^ 32 - b2n (decide (n < h))

def setFrame (s : State) (age buf none : Nat) : State :=
  setF (setF (setF (setF s PEL_FRAME_AGE age) PEL_FRAME_BUF buf) PEL_FRAME_NONE none) PEL_FRAME_SELECTED 1

/-- The VALID lattice within AGE_MAX, or NONE with PEL 0x002. -/
def selectOld (s : State) : State :=
  match validBuf s with
  | some k =>
    let age := latAge (getF s CRU_HEAT_SEALED) (getF s (PEL_LAT_HEAT k))
    if age ≤ getF s PEL_CFG0_AGE_MAX then setFrame s age k 0 else sendFault (setFrame s 255 0 1) 0x0C 0x002 0 0
  | none => sendFault (setFrame s 255 0 1) 0x0C 0x002 0 0

/-- The Peal tasks of the current heat that have not completed. -/
def pealLeft (s : State) : List Task :=
  (tasks s).filter (fun t => tCls t == 2 && !tGold t && !t.ran && t.loc != .finished && (t.heat == 0 || t.heat == getF s CRU_HEAT_SEALED))

/-- A Peal part of the current heat has completed with a status (R130). -/
def partEnded (s : State) (t : Task) (status : Nat) : State :=
  if tCls t ≠ 2 ∨ tGold t ∨ !pealOn s ∨ (t.heat ≠ getF s CRU_HEAT_SEALED ∧ t.heat ≠ 0) then s
  else
    let s := forHeat s (getF s CRU_HEAT_SEALED)
    let s := { s with peal := { s.peal with doneParts := s.peal.doneParts + b2n (status == 0), failedParts := s.peal.failedParts + b2n (status != 0) } }
    let want := if s.peal.fixed.isSome then npart s else bf t.cmd 26 1
    if flag s PEL_FRAME_SELECTED then s
    else if s.peal.doneParts = want ∧ want ≠ 0 then setFrame s 0 s.peal.buf 0
    else if inRepro s ∧ want ≤ s.peal.doneParts + s.peal.failedParts ∧ (pealLeft s).all (·.id == t.id) then selectOld s
    else s

/-- PEAL_SELECT_OFS (R130): not in REPRO mode; once per heat. -/
def execPealSelectOfs (at_ : Nat) (s : State) : Ans :=
  let s := atTime s at_
  if !pealOn s ∨ inRepro s ∨ flag s PEL_FRAME_SELECTED ∨ at_ < s.stk.inst + getF s PEL_SEL_OFS then .next s else .next (selectOld s)

/- ### END_OFS (R135) -/

/-- A Peal task completes with TIMEUP wherever it stands. -/
def timeUp (s : State) (t : Task) : State :=
  let s := partEnded s t 6
  match t.loc with
  | .running e => taskLeaves s e { t with status := 6, hm := cutHm s t }
  | _ => finishNow s t 6

/-- PEAL_END (R135): not in REPRO mode. Prefetched and held tasks end first, so that none starts. -/
def execPealEnd (at_ : Nat) (s : State) : Ans :=
  let s := atTime s at_
  if inRepro s ∨ pealLeft s = [] ∨ at_ < s.stk.inst + getF s PEL_END_OFS then .next s
  else
    let isRun := fun (t : Task) => match t.loc with | .running _ => true | _ => false
    let l := pealLeft s
    let s := (l.filter (fun t => !isRun t) ++ l.filter isRun).foldl timeUp s
    let s := if s.peal.phase ≠ 0 then setF s (PEL_LAT_STATE s.peal.buf) 0 else s
    let s := sendFault (bump s PEL_TIMEUPS 1) 0x0C 0x001 0 0
    .next { s with peal := { s.peal with phase := 0, opens := [], affected := [], reopen := [] } }

/- ### The golden window (R413) -/

/-- The states of the window of 16 × 16 cells at (a0, b0), as index (b × 16 + a) × 16 + h. -/
def winState (a0 b0 i : Nat) : Nat := stNum (a0 + i / 16 % 16) (b0 + i / 256) (i % 16)
def winIndex (a0 b0 n : Nat) : Option Nat :=
  if a0 ≤ stA n ∧ stA n < a0 + 16 ∧ b0 ≤ stB n ∧ stB n < b0 + 16 then some (((stB n - b0) * 16 + (stA n - a0)) * 16 + stH n) else none

/-- One round of R126 over the window. -/
def winRound (r : Bytes) (s : State) (f : Frame) (base a0 b0 : Nat) (g : List Nat) (c : List Nat) : List Nat :=
  (List.range 4096).map (fun i =>
    (edges r s f base (winState a0 b0 i)).foldl (fun v p =>
      match winIndex a0 b0 p.1 with | some j => min v (min (p.2 + c.getD j 0xFFFF) 0xFFFF) | none => v) (g.getD i 0xFFFF))

def winSolve (r : Bytes) (s : State) (f : Frame) (base a0 b0 : Nat) (g : List Nat) : Nat → List Nat → List Nat
  | 0, c => c
  | k + 1, c => let d := winRound r s f base a0 b0 g c; if d = c then c else winSolve r s f base a0 b0 g k d

/-- PEAL_GOLDEN: the window's costs at DST in tiles of 4 × 4 cells as in R121 (log 25). -/
def pealGoldWork (s : State) (t : Task) : Work :=
  let brand := qBrand s t.queue
  let gs := seen s brand (goldSet t) 64
  let f := goldFrame s t (fldAt gs 0 8)
  let base := fldAt gs 8 8
  let in2 := fldAt gs 24 8
  let ng := bits in2 0 6
  let a0 := bits in2 6 9
  let b0 := bits in2 15 9
  let tab := seen s brand (fldAt gs 16 8) (32 * ng)
  let inside := fun i => decide (a0 + i / 16 % 16 < 512 ∧ b0 + i / 256 < 512)
  let g := (List.range 4096).map (fun i => if inside i then seed f tab ng (winState a0 b0 i) else 0xFFFF)
  let c := winSolve (seen s brand) s f base a0 b0 g 4096 g
  let out := (List.range 16).flatMap (fun tile => (List.range 16).flatMap (fun cell => (List.range 16).flatMap (fun h =>
    leBytes 2 (c.getD (((tile / 4 * 4 + cell / 4) * 16 + (tile % 4 * 4 + cell % 4)) * 16 + h) 0xFFFF))))
  { writes := [(goldDst t, out)],
    notes := notesOf s brand (goldSet t) 64 ++ notesOf s brand f.img 64 ++ notesOf s brand base 0x800000 ++ notesOf s brand (fldAt gs 16 8) (32 * ng) }

def execPealGolden (unit : Nat) (s : State) : Ans := .next (engineRow s 2 unit [0x10] pealGoldWork)

end Sys2Proof.Machine
end

