-- ==== Sys2Proof/Machine/Motions.lean ====
section
/-! DEFINITION. Poses (R29), the sine table (R152), the random mixer (R155) and the rollout (R151, R153). -/

namespace Sys2Proof.Machine

/-- A pose: position in 1/1,024 m, heading, speed, curvature, pose time (R29). -/
structure Pose where
  x : Int := 0
  y : Int := 0
  h : Nat := 0
  s : Nat := 0
  c : Int := 0
  t : Nat := 0
deriving DecidableEq, Repr

def poseOf (b : List Nat) (o : Nat) : Pose :=
  { x := sx 32 (fldAt b o 4), y := sx 32 (fldAt b (o + 4) 4), h := fldAt b (o + 8) 2, s := fldAt b (o + 10) 2,
    c := sx 16 (fldAt b (o + 12) 2), t := fldAt b (o + 14) 2 }

def posesOf (b : List Nat) (n : Nat) : List Pose := (List.range n).map (fun q => poseOf b (16 * q))

def poseBytes (p : Pose) : List Nat :=
  leBytes 4 (toU 32 p.x) ++ leBytes 4 (toU 32 p.y) ++ leBytes 2 p.h ++ leBytes 2 p.s ++ leBytes 2 (toU 16 p.c) ++ leBytes 2 p.t

def shiftPose (dx dy : Int) (p : Pose) : Pose := { p with x := p.x + dx, y := p.y + dy }

/-- t[n] = round(2^30 × sin(2π × n / 4,096)) (R152). -/
def sineT (n : Nat) : Int := roundShift (sinFix (n % 4096 * 16)) 30
def cosT (n : Nat) : Int := sineT (n + 1024)
/-- The table index of a heading (R172). -/
def sinIdx (h : Nat) : Nat := (h + 8) / 16 % 4096

/-- The integer nearest to 2^39 / π (R151). -/
def rk : Int := 174992710548

/- ### The mixer (R155) -/

def m64 : Nat := 2 ^ 64
def mix (z : Nat) : Nat :=
  let z := Nat.xor z (z / 2 ^ 31) * 0x9C6E53A1F02BD4C7 % m64
  let z := Nat.xor z (z / 2 ^ 29) * 0xE13B7A654D892F1B % m64
  Nat.xor z (z / 2 ^ 32)

def draw (seed node stroke seedidx j : Nat) : Nat :=
  let key := mix (Nat.xor (Nat.xor seed (node * 2 ^ 56)) 0xA4D193E72B5F0C69)
  mix (Nat.xor (mix (Nat.xor key (stroke % 2 ^ 32 * 2 ^ 32 + seedidx))) j) / 2 ^ 32

/- ### Families and descriptors (R145, R149) -/

structure Fam where
  dt : Nat
  klim : Int
  alo : Int
  ahi : Int
  vmax : Nat
  noiseK : Nat
  noiseA : Nat
  en : Bool

def famOf (s : State) (f : Nat) : Fam :=
  let b := (List.range 4).flatMap (fun k => leBytes 4 (rd s (SWG_FAMILY (4 * f + k)).addr))
  { dt := fldAt b 0 2, klim := fldAt b 2 2, alo := sx 16 (fldAt b 4 2), ahi := sx 16 (fldAt b 6 2), vmax := fldAt b 8 2,
    noiseK := fldAt b 10 2, noiseA := fldAt b 12 2, en := fldAt b 14 1 == 1 }

/-- What a rollout draws its numbers from: SEED, NODE, the heat's STROKE, SEEDIDX; none without NOISE. -/
structure Noise where
  on : Bool
  seed : Nat
  node : Nat
  stroke : Nat
  idx : Nat

def noise (z : Noise) (j amp : Nat) : Int :=
  if z.on then ashr (sx 32 (draw z.seed z.node z.stroke z.idx j) * amp) 31 else 0

structure Roll where
  x : Int
  y : Int
  th : Nat
  v : Int
  k : Int
  dk : Int
  a : Int

/-- Step p of R151. -/
def rollStep (f : Fam) (z : Noise) (ks as_ : List Int) (reverse : Bool) (p : Nat) (r : Roll) : Roll :=
  let sg := p / 16
  let kt := clampI (-f.klim) f.klim (ks.getD sg 0 + noise z (2 * sg) f.noiseK) * 256
  let dk := if p % 16 = 0 then ashr (kt - r.k) 4 else r.dk
  let a := if p % 16 = 0 then clampI f.alo f.ahi (as_.getD sg 0 + noise z (2 * sg + 1) f.noiseA) else r.a
  let k := r.k + dk
  let v1 := clampI 0 ((f.vmax * 4096 : Nat) : Int) (r.v + a * (f.dt : Nat))
  let ds0 := (r.v + v1) * (f.dt : Nat)
  let ds := if reverse then -ds0 else ds0
  let dth := ashr (k * ds * rk) 65
  let mid := toU 32 ((r.th : Int) + ashr dth 1)
  let n := (mid + 2 ^ 19) % 2 ^ 32 / 2 ^ 20
  { x := r.x + ashr (ds * cosT n) 43, y := r.y + ashr (ds * sineT n) 43, th := toU 32 ((r.th : Int) + dth), v := v1, k := k, dk := dk, a := a }

/-- Emitting pose q (R153). -/
def emit (t0 dt q : Nat) (r : Roll) : Pose :=
  { x := ashr r.x 10, y := ashr r.y 10, h := r.th / 2 ^ 16, s := (ashr r.v 12).toNat, c := clampI (-32768) 32767 (ashr r.k 8),
    t := min (t0 + q * dt) 0xFFFF }

def rollGo (f : Fam) (z : Noise) (ks as_ : List Int) (reverse : Bool) (t0 : Nat) : Nat → Nat → Roll → List Pose
  | 0, _, _ => []
  | k + 1, p, r =>
    let r' := rollStep f z ks as_ reverse p r
    emit t0 f.dt (p + 1) r' :: rollGo f z ks as_ reverse t0 k (p + 1) r'

/-- A generated rollout of n poses from a local start state. -/
def rollout (f : Fam) (z : Noise) (ks as_ : List Int) (reverse : Bool) (start : Pose) (n : Nat) : List Pose :=
  start :: rollGo f z ks as_ reverse start.t (n - 1) 0
    { x := start.x * 1024, y := start.y * 1024, th := start.h * 2 ^ 16, v := (start.s * 4096 : Nat), k := start.c * 256, dk := 0, a := 0 }

end Sys2Proof.Machine
end

