-- ==== Sys2Proof/Machine/Swage.lean ====
section
/-! DEFINITION. The Swage: rollout contexts, descriptors, candidates, EXPAND and its golden task (R144 to R165, R413). -/

namespace Sys2Proof.Machine

/-- A rollout context (R147) with the frame, ego state and stroke of the heat it runs on. -/
structure Ctx where
  desc : Nat
  first : Nat
  count : Nat
  seed : Nat
  node : Nat
  foot : Nat
  npose : Nat
  nstart : Nat
  t0 : Nat
  startBase : Nat
  ox : Int
  oy : Int
  ego : Pose
  stroke : Nat

/-- A context is in range and its reserved bytes are zero (R147). -/
def ctxOk (c : List Nat) : Bool :=
  bf c 16 8 % 64 == 0 && decide (1 ≤ bf c 28 4 ∧ bf c 28 4 ≤ 1048576 ∧ bf c 24 4 + bf c 28 4 ≤ 2 ^ 32) && decide (bf c 40 1 < 16) &&
    decide (bf c 41 1 < 4) && (bf c 42 1 == 32 || bf c 42 1 == 64) && zeroAt c 46 2

/-- The ego state of an image (R98, R150); the entry reads zero without an EGO record. -/
def egoPose (g : Bytes) (img t0 : Nat) : Pose := { poseOf (g (img + egoOff + 16) 16) 0 with t := t0 }

def startBase (s : State) : Nat := get64 s SWG_START_BASE_LO SWG_START_BASE_HI

/-- The context of a command on the heat of descriptor d, read with `g`. -/
def ctxOf (s : State) (g : Bytes) (d : List Nat) (img : Nat) (c : List Nat) : Ctx :=
  let f := descFrame d img false
  { desc := bf c 16 8, first := bf c 24 4, count := bf c 28 4, seed := bf c 32 8, node := bf c 40 1, foot := bf c 41 1, npose := bf c 42 1,
    nstart := bf c 43 1, t0 := bf c 44 2, startBase := startBase s, ox := f.ox, oy := f.oy, ego := egoPose g img (bf c 44 2),
    stroke := fldAt d 16 8 }

/-- A position lies 2^30 or more from the local origin. -/
def far (p : Pose) : Bool := decide (2 ^ 30 ≤ p.x.natAbs ∨ 2 ^ 30 ≤ p.y.natAbs)

def rising : List Pose → Bool
  | a :: b :: t => decide (a.t < b.t) && rising (b :: t)
  | _ => true

/-- An explicit pose list in the local frame, or its reason (R146, R156). -/
def explicitPoses (s : State) (brand : Nat) (ox oy : Int) (npose addr : Nat) : Rdr (Except Nat (List Pose)) := do
  let r ← rdBytes s brand addr (16 * npose)
  pure (match r with
    | none => .error 7
    | some b =>
      let ps := (posesOf b npose).map (shiftPose (-1024 * ox) (-1024 * oy))
      if ps.any far then .error 5 else if !rising ps then .error 6 else .ok ps)

/-- Candidate i of a context: its poses in the local frame, or the reason it is invalid; the lowest reason is shown (R156, log 21). -/
def candidate (s : State) (brand : Nat) (c : Ctx) (i : Nat) : Rdr (Except Nat (List Pose)) := do
  let r ← rdBytes s brand (c.desc + 32 * i) 32
  match r with
  | none => pure (.error 7)
  | some d =>
    let flags := fldAt d 2 1
    let ks := (List.range 4).map (fun j => sx 16 (fldAt d (4 + 2 * j) 2))
    let as_ := (List.range 4).map (fun j => sx 16 (fldAt d (12 + 2 * j) 2))
    let lst := fldAt d 24 8
    let start := fldAt d 1 1
    if 8 ≤ flags ∨ fldAt d 3 1 ≠ 0 then pure (.error 1)
    else if bit flags 0 then
      if !(zeroAt d 0 2 && flags == 1 && zeroAt d 4 20) then pure (.error 1)
      else if lst % 64 ≠ 0 then pure (.error 4)
      else explicitPoses s brand c.ox c.oy c.npose lst
    else if lst ≠ 0 then pure (.error 1)
    else if 64 ≤ fldAt d 0 1 ∨ !(famOf s (fldAt d 0 1)).en then pure (.error 2)
    else if c.nstart < start then pure (.error 3)
    else do
      let p ← (if start = 0 then pure (some c.ego) else do
        let r ← rdBytes s brand (c.startBase + 16 * (start - 1)) 16
        pure (r.map (fun b => poseOf b 0)))
      pure (match p with
        | none => .error 7
        | some p0 =>
          let p := shiftPose (-1024 * c.ox) (-1024 * c.oy) p0
          if far p then .error 5
          else .ok (rollout (famOf s (fldAt d 0 1)) ⟨bit flags 1, c.seed, c.node, c.stroke, fldAt d 20 4⟩ ks as_ (bit flags 2) p c.npose))

def candidates (s : State) (brand : Nat) (c : Ctx) : List Nat → Rdr (List (Except Nat (List Pose)))
  | [] => pure []
  | i :: t => do
    let x ← candidate s brand c i
    let y ← candidates s brand c t
    pure (x :: y)

def reasonOf : Except Nat (List Pose) → Nat | .error k => k | .ok _ => 0

/-- The invalid candidates of a task as (reason, global index), in table order. -/
def badOf (first : Nat) (cs : List (Except Nat (List Pose))) : List (Nat × Nat) :=
  (cs.zipIdx.filter (fun p => reasonOf p.1 != 0)).map (fun p => (reasonOf p.1, first + p.2))

/-- What invalid descriptors record: counters, the most recent one, one fault per task (R157). -/
def badBumps (bad : List (Nat × Nat)) : List (Fld × Nat) := [(SWG_DESC_BAD, bad.length), (SWG_RD_ERR, (bad.filter (·.1 == 7)).length)]
def badSets (unit : Nat) (bad : List (Nat × Nat)) : List (Fld × Nat) :=
  match bad.getLast? with
  | some (r, i) => [(SWG_BAD_LAST_REASON, r), (SWG_BAD_LAST_UNIT, unit), (SWG_BAD_LAST_IDX, i)]
  | none => []
def badFaults (unit : Nat) (bad : List (Nat × Nat)) : List (Nat × Nat × Nat × Nat) :=
  if bad = [] then [] else if bad.any (·.1 == 7) then [(0x0B, 0x002, 3, unit)] else [(0x0B, 0x001, 0, unit)]

/-- One slot of EXPAND's output. -/
def expandSlot (c : Ctx) (frame : Nat) : Except Nat (List Pose) → List Nat
  | .error _ => List.replicate (16 * c.npose) 0xFF
  | .ok ps => (ps.map (fun p => if frame = 1 then shiftPose (1024 * c.ox) (1024 * c.oy) p else p)).flatMap poseBytes

/-- EXPAND over a context: slot i at dst + i × 16 × NPOSE (R157, R162). -/
def expandWork (s : State) (brand : Nat) (c : Ctx) (dst frame unit : Nat) : Work :=
  let r := (candidates s brand c (List.range c.count)).run []
  let cs : List (Except Nat (List Pose)) := r.1
  let bad := badOf c.first cs
  { writes := cs.zipIdx.map (fun p => (dst + p.2 * 16 * c.npose, expandSlot c frame p.1)), notes := r.2,
    bumps := (SWG_U_CAND unit, cs.length - bad.length) :: badBumps bad, sets := badSets unit bad, faults := badFaults unit bad,
    status := if bad = [] then 0 else 5 }

/-- The context of a task, and what the reads of its heat's descriptor and ego state find. -/
def taskCtx (s : State) (t : Task) : Ctx := ctxOf s (seen s (qBrand s t.queue)) (taskDesc s t) (taskImg s t) t.cmd
def ctxNotes (s : State) (brand img : Nat) : List Note := notesOf s brand img 96

def expandTask (s : State) (t : Task) : Work :=
  let w := expandWork s (qBrand s t.queue) (taskCtx s t) (bf t.cmd 48 8) (bf t.cmd 56 1) t.punit
  { w with notes := ctxNotes s (qBrand s t.queue) (taskImg s t) ++ w.notes }

/-- EXPAND (R162). -/
def execExpand (unit : Nat) (s : State) : Ans :=
  .next (engineRow s 3 unit [1] expandTask)

/-- SWAGE_GOLDEN (R413): 4 descriptors, NPOSE 64, NODE 0, SEED = IN2; what R413 leaves out of the context is zero, NSTART 255 (log 26). -/
def swageGoldCtx (g : Bytes) (set : List Nat) : Ctx :=
  let img := fldAt set 0 8
  let d := g img 64
  let f := descFrame d img false
  { desc := fldAt set 8 8, first := 0, count := 4, seed := fldAt set 24 8, node := 0, foot := 0, npose := 64, nstart := 255, t0 := 0,
    startBase := fldAt set 16 8, ox := f.ox, oy := f.oy, ego := egoPose g img 0, stroke := fldAt d 16 8 }

def swageGoldWork (s : State) (t : Task) : Work :=
  let brand := qBrand s t.queue
  let set := seen s brand (goldSet t) 64
  let w := expandWork s brand (swageGoldCtx (seen s brand) set) (goldDst t) 0 t.punit
  { w with notes := notesOf s brand (goldSet t) 64 ++ ctxNotes s brand (fldAt set 0 8) ++ w.notes }

def execSwageGolden (unit : Nat) (s : State) : Ans := .next (engineRow s 3 unit [0x10] swageGoldWork)

end Sys2Proof.Machine
end

