-- ==== Sys2Proof/Machine/Hammer.lean ====
section
/-! DEFINITION. The Hammers: placement, lookups, bounds, narrow phase, verdict, cost and result records (R166 to R198, R462). -/

namespace Sys2Proof.Machine

/-- A sphere of a footprint with its placement allowance (R158, R172). -/
structure Sphere where
  dx : Int
  dy : Int
  r : Nat
  place : Nat

def sphereOf (b : List Nat) : Sphere :=
  let dx := sx 16 (fldAt b 0 2)
  let dy := sx 16 (fldAt b 2 2)
  { dx := dx, dy := dy, r := fldAt b 4 2, place := cdiv (csqrt (dx * dx + dy * dy).toNat * 805) 1048576 + 2 }

def footN (s : State) (n : Nat) : Nat := bits (rd s SWG_FOOT_NSPH.addr) (8 * n) 5
def footOf (s : State) (n : Nat) : List Sphere :=
  (List.range (footN s n)).map (fun e =>
    sphereOf ((List.range 2).flatMap (fun k => leBytes 4 (rd s (SWG_FOOT (n * 32 + e * 2 + k)).addr))))

/-- What a strike reads: the heat's frame and image, the field and brick bases, the lattice, the cost set, the footprint. -/
structure Env where
  brand : Nat
  f : Frame
  sb : Nat
  db : Nat
  sbb : Nat
  dbb : Nat
  lat : Option (Nat × Int × Int)
  cost : Nat
  foot : List Sphere

/-- One side of a sphere: 0 CLEAR, 1 MARGIN, 2 CONTACT, with its lower bound and what the lookup and narrow phase met. -/
structure Side where
  st : Nat := 1
  lb : Option Int := none
  rdErr : Bool := false
  invalid : Bool := false
  narrow : Bool := false
  ovf : Bool := false
  skip : Bool := false
  slots : Nat := 0

/- ### Lookups (R172 to R175) -/

def centre (p : Pose) (e : Sphere) : Int × Int :=
  let n := sinIdx p.h
  let c := cosT n
  let t := sineT n
  (p.x + ashr (e.dx * c - e.dy * t) 30, p.y + ashr (e.dx * t + e.dy * c) 30)

def fineD (dx dy : Int) : Int := csqrt (dx * dx + dy * dy).toNat
def inCells (n : Nat) (i j : Int) : Bool := decide (0 ≤ i ∧ i < n ∧ 0 ≤ j ∧ j < n)
def marginOf (s : State) : Nat := getF s HAM_CFG0_MARGIN

/- ### Narrow phase (R176, R177) -/

/-- A lower and an upper bound, in 1/1,024 m, on the distance from an odometry point to the union of shapes (the amount of the slack is
left open: log 6). -/
def bounds (sh : List Shape) (p : Int × Int) : Int × Int :=
  let key := p.1 :: p.2 :: sh.flatMap shapeKey
  let ds := sh.map (fun x => (max 0 (signedDist x p), max 0 (signedDist x p + 1)))
  match ds with
  | [] => (0, 0)
  | d :: t =>
    (Int.fdiv ((t.map (·.1)).foldl min d.1) (10 * 2 ^ 20) - (Config.narrowLow key : Nat),
     -(Int.fdiv (-((t.map (·.2)).foldl min d.2)) (10 * 2 ^ 20)) + (Config.narrowHigh key : Nat))

/-- A primitive's projection, read with the queue's brand, with its test slots. -/
def rdPrim (s : State) (v : Env) (id : Nat) : Rdr (Option (List Shape × Nat)) := do
  let r ← rdBytes s v.brand (v.f.img + primOff + 32 * id) 32
  match r with
  | none => pure none
  | some e =>
    if entryKind e = 3 then do
      let m ← rdBytes s v.brand (v.f.img + vertOff + 6 * entryVbase e) (6 * entryNv e)
      pure (m.map (fun b =>
        ([primShape e ((List.range (entryNv e)).map (fun k => (sx 16 (fldAt b (6 * k) 2), sx 16 (fldAt b (6 * k + 2) 2))))],
         cdiv (entryNv e) 16)))
    else pure (some ([primShape e []], 1))

/-- A hypothesis's contribution to slice k, with its slot; an entry without a contribution is no test. -/
def rdHyp (s : State) (v : Env) (k ent : Nat) : Rdr (Option (List Shape × Nat)) := do
  let r ← rdBytes s v.brand (v.f.img + agentOff + agentSize * (ent / 4)) agentSize
  pure (r.map (fun a => (hypShapes (hypOf a (ent % 4)) v.f.tHeat k, 1)))

/-- The outcome of testing a brick's entries (R176, R194). -/
def narrowOut (contactOk : Bool) (m : Int) (e : Sphere) (pt : Int × Int) (ovf : Bool) (es : List (Option (List Shape × Nat))) (sd : Side) :
    Side :=
  let tests := (es.filterMap id).filter (fun x => !x.1.isEmpty)
  let bs := tests.map (fun x => bounds x.1 pt)
  let fail := es.any (·.isNone)
  let contact := contactOk && bs.any (fun b => decide (b.2 + e.place < e.r))
  let clear := !ovf && bs.all (fun b => decide (((e.r + e.place : Nat) : Int) + m ≤ b.1))
  let st := if fail then 1 else if contact then 2 else if clear then 0 else 1
  { sd with st := st, rdErr := sd.rdErr || fail, narrow := !tests.isEmpty, ovf := ovf, slots := (tests.map (·.2)).foldl (· + ·) 0 }

def pointOf (v : Env) (c : Int × Int) : Int × Int := (originC v.f.ox + len1024 c.1, originC v.f.oy + len1024 c.2)

/-- The static side of a sphere (R173 to R176, R194, R195). -/
def staticSide (s : State) (v : Env) (e : Sphere) (c : Int × Int) : Rdr Side := do
  let em := v.f.ember
  let i := sIndex em c.1
  let j := sIndex em c.2
  if !inCells (sCells em) i j then pure {}
  else
    let p := (i.toNat + v.f.tx) % sCells em
    let q := (j.toNat + v.f.ty) % sCells em
    let r ← rdBytes s v.brand (v.sb + sCellOff em p q) 2
    match r with
    | none => pure { rdErr := true }
    | some b =>
      let w := sx 16 (leNat b)
      if w = -32768 then pure { invalid := true }
      else if w = -32767 then pure { st := 2 }
      else
        let d := fineD (10 * c.1 - sCentre em i.toNat) (10 * c.2 - sCentre em j.toNat)
        let lb := 40 * w - 40 - d - 10 * ((e.r + e.place : Nat) : Int)
        let ub := 40 * w + 40 + d + 10 * (e.place : Int) - 10 * (e.r : Int)
        let sd : Side := { lb := some lb }
        if w < clampCode s - 1 ∧ ub < 0 then pure { sd with st := 2 }
        else if 10 * (marginOf s : Int) ≤ lb then pure { sd with st := 0 }
        else
          let br ← rdBytes s v.brand (v.sbb + sBrickOff em p q) 256
          match br with
          | none => pure { sd with rdErr := true }
          | some bk =>
            let n := fldAt bk 0 4
            let es ← rdMap (rdPrim s v) ((List.range (min 63 (bits n 0 16))).map (fun k => fldAt bk (4 + 4 * k) 4))
            pure (narrowOut true (marginOf s) e (pointOf v c) (bit n 16) es sd)

/-- The dynamic side of a sphere at pose time t (R173 to R176, R194). -/
def dynSide (s : State) (v : Env) (e : Sphere) (c : Int × Int) (t : Nat) : Rdr Side := do
  let em := v.f.ember
  let i := dIndex em c.1
  let j := dIndex em c.2
  if 26215 ≤ t then pure (if getF s HAM_CFG0_BEYOND = 1 then { st := 0, skip := true } else {})
  else if !inCells (dCells em) i j then pure {}
  else
    let k := 10 * t / 4096
    let r ← rdBytes s v.brand (v.db + dCellOff em k i.toNat j.toNat) 1
    match r with
    | none => pure { rdErr := true }
    | some b =>
      let d := fineD (10 * c.1 - dCentre em i.toNat) (10 * c.2 - dCentre em j.toNat)
      let lb := 640 * (leNat b : Int) - 640 - d - 10 * ((e.r + e.place : Nat) : Int)
      let sd : Side := { lb := some lb }
      if 10 * (marginOf s : Int) ≤ lb then pure { sd with st := 0 }
      else
        let br ← rdBytes s v.brand (v.dbb + dBrickOff em k i.toNat j.toNat) 64
        match br with
        | none => pure { sd with rdErr := true }
        | some bk =>
          let n := fldAt bk 0 2
          let es ← rdMap (rdHyp s v k) ((List.range (min 31 (bits n 0 6))).map (fun x => fldAt bk (2 + 2 * x) 2))
          pure (narrowOut false (marginOf s) e (pointOf v c) (bit n 6) es sd)

/- ### Poses and verdicts (R179, R184) -/

/-- A sphere at a pose: its final state, its two sides. -/
structure Hit where
  st : Nat
  a : Side
  b : Side

def sphereAt (s : State) (v : Env) (p : Pose) (e : Sphere) : Rdr Hit := do
  let c := centre p e
  let a ← staticSide s v e c
  let b ← dynSide s v e c p.t
  pure { st := if a.st = 2 then 2 else if a.st = 0 ∧ b.st = 0 then 0 else 1, a := a, b := b }

/-- The cost clearance of a sphere: max(0, its smallest lb); 0 when it has none. -/
def hitC (h : Hit) : Int :=
  match h.a.lb, h.b.lb with
  | some x, some y => max 0 (min x y)
  | some x, none => max 0 x
  | none, some y => max 0 y
  | none, none => 0

def poseC (hs : List Hit) : Int := match hs with | [] => 0 | h :: t => (t.map hitC).foldl min (hitC h)

/- ### Cost (R183 to R185) -/

def sat48 (n : Nat) : Nat := min n (2 ^ 48 - 1)

def latOf (p : Pose) : Nat := p.s * p.s * p.c.natAbs / 2 ^ 24

def jerkAt (ps : List Pose) (q : Nat) : Nat :=
  let g := fun k => ps.getD k {}
  let a := g (q - 1)
  let b := g q
  let c := g (q + 1)
  (((c.s : Int) - b.s) * ((b.t : Int) - a.t) - ((b.s : Int) - a.s) * ((c.t : Int) - b.t)).natAbs

def feature (code : Nat) (h0 : Nat) (p : Pose) (q : Nat) (cq : Int) : Int :=
  match code with
  | 0 => p.s | 1 => p.c | 2 => latOf p | 3 => p.t | 4 => q | 5 => Int.fdiv cq 40 | 6 => sx 16 (toU 16 ((p.h : Int) - h0)) | _ => 0

/-- The value of one learned table at one pose. -/
def learned (s : State) (v : Env) (hdr : List Nat) (n h0 : Nat) (x : Pose × Nat × Int) : Rdr (Option Nat) := do
  let o := 88 + 10 * n
  let idx := fun k sh of_ => (clampI 0 63 (ashr (feature (fldAt hdr k 1) h0 x.1 x.2.1 x.2.2 - sx 16 (fldAt hdr of_ 2)) (fldAt hdr sh 1))).toNat
  let ia := idx o (o + 2) (o + 4)
  let ib := idx (o + 1) (o + 3) (o + 6)
  let r ← rdBytes s v.brand (v.cost + 128 + n * 8192 + (ib * 64 + ia) * 2) 2
  pure (r.map leNat)

/-- The lattice value a pose reads (R133); the outer none is a failed read. -/
def latticeRead (s : State) (v : Env) (p : Pose) : Rdr (Option Nat) :=
  match v.lat with
  | none => pure (some 0)
  | some (base, lx, ly) =>
    let a := Int.fdiv (5 * p.x + 5120 * (v.f.ox - lx)) 2048 + 256
    let b := Int.fdiv (5 * p.y + 5120 * (v.f.oy - ly)) 2048 + 256
    if 0 ≤ a ∧ a < 512 ∧ 0 ≤ b ∧ b < 512 then do
      let r ← rdBytes s v.brand (base + stOff (stNum a.toNat b.toNat (headBin p.h))) 2
      pure (r.map leNat)
    else pure (some 0xFFFF)

/-- The cost of a candidate from its poses and cost clearances, or none when a cost-port read failed. -/
def costOf (s : State) (v : Env) (ps : List Pose) (cs : List Int) : Rdr (Option Nat) := do
  let r ← rdBytes s v.brand v.cost 128
  let last := ps.getD (ps.length - 1) {}
  let c ← latticeRead s v last
  match r, c with
  | some h, some c => do
    let p0 := ps.getD 0 {}
    let n0 := sinIdx p0.h
    let prog := ashr ((last.x - p0.x) * cosT n0 + (last.y - p0.y) * sineT n0) 30
    let ntab := min 4 (fldAt h 18 1)
    let xs := (ps.zipIdx).map (fun q => (q.1, q.2, cs.getD q.2 0))
    let tabs ← rdMap (fun n => rdMap (learned s v h n p0.h) xs) (List.range ntab)
    let step : Int := 10 * (max 1 (fldAt h 16 2) : Nat)
    let clr := cs.map (fun cq => fldAt h (24 + 4 * (min 15 (Int.fdiv (max 0 (cq - 10 * (marginOf s : Int))) step).toNat)) 4)
    let terms := [fldAt h 0 2 * (max 0 (sx 32 (fldAt h 8 4) - prog)).toNat,
      if v.lat.isNone then 0 else if c = 0xFFFF then fldAt h 12 4 else fldAt h 2 2 * c,
      fldAt h 4 2 * (ps.map latOf).foldl (· + ·) 0,
      fldAt h 6 2 * (((List.range (ps.length - 2)).map (fun q => jerkAt ps (q + 1))).foldl (· + ·) 0 / 4096),
      clr.foldl (· + ·) 0] ++
      tabs.zipIdx.map (fun t => fldAt h (88 + 10 * t.2 + 8) 2 * ((t.1.filterMap id).foldl (· + ·) 0))
    pure (if tabs.any (fun t => t.any (·.isNone)) then none
      else some (min (terms.foldl (fun a x => sat48 (a + sat48 x)) 0) 0xFFFFFFFE))
  | _, _ => pure none

/- ### Result records (R180, R186) -/

/-- One candidate's record and what it adds to the counters. -/
structure Res where
  rec_ : Nat
  verdict : Nat
  cut : Bool := false
  rdF : Bool := false
  rdC : Bool := false
  inv : Nat := 0
  slots : Nat := 0
  horizon : Bool := false
  ovf : Bool := false
  lanes : List Int := []

def recordOf (cost verdict pose narrow horizon ovf cut rderr clr : Nat) : Nat :=
  cost + verdict * 2 ^ 32 + pose * 2 ^ 34 + narrow * 2 ^ 40 + horizon * 2 ^ 41 + ovf * 2 ^ 42 + cut * 2 ^ 43 + rderr * 2 ^ 44 + clr * 2 ^ 48

def blocked : Nat := 0xFFFFFFFF
/-- The record of an invalid candidate (R157) and of cut fill (R187). -/
def voidRes : Res := { rec_ := recordOf blocked 3 0 0 0 0 0 0 0, verdict := 3 }
def cutRes : Res := { rec_ := recordOf blocked 3 0 0 0 0 1 0 0, verdict := 3, cut := true }

/-- Check one candidate's poses. -/
def strikeOne (s : State) (v : Env) (ps : List Pose) : Rdr Res := do
  let hits ← rdMap (fun p => rdMap (sphereAt s v p) v.foot) ps
  let cs := hits.map poseC
  let cost ← costOf s v ps cs
  let all := hits.flatten
  let sides := all.flatMap (fun h => [h.a, h.b])
  let worst : Nat := all.foldl (fun w h => max w h.st) 0
  let verdict : Nat := match cost with | none => 3 | some _ => worst
  let pose := (hits.findIdx? (fun hs => hs.any (fun h => h.st != 0))).getD 0
  let rdF := sides.any (·.rdErr)
  let clr := match cs with | [] => 0 | c :: t => min 65535 (Int.fdiv (t.foldl min c) 40).toNat
  let rc := recordOf (if verdict = 0 then cost.getD 0 else blocked) verdict (if verdict = 0 ∨ verdict = 3 then 0 else pose)
    (b2n (sides.any (·.narrow))) (b2n (sides.any (·.skip))) (b2n (sides.any (·.ovf))) 0 (b2n (rdF || cost.isNone)) (if verdict = 0 then clr else 0)
  pure { rec_ := rc, verdict := verdict, rdF := rdF, rdC := cost.isNone, inv := (sides.filter (·.invalid)).length,
         slots := (sides.map (·.slots)).foldl (· + ·) 0, horizon := sides.any (·.skip), ovf := sides.any (·.ovf),
         lanes := (List.range 8).map (fun l => (hits.map (fun hs =>
           match hs[l / 2]? with | some h => ((if l % 2 = 0 then h.a.lb else h.b.lb).getD 0) | none => 0)).foldl (· + ·) 0) }

def strikeRes (s : State) (v : Env) : Except Nat (List Pose) → Rdr Res
  | .error _ => pure voidRes
  | .ok ps => strikeOne s v ps

/- ### STRIKE -/

/-- The lattice that every task of a heat reads, as the heat's selection stands (R130, R133, R134). -/
def latticeOf (s : State) (heat : Nat) : Option (Nat × Int × Int) :=
  let w := (heatInfo s heat).frame
  if bit w 9 then none
  else let k := bits w 8 1; some (bufBase s k, latLoX s k, latLoY s k)

def costSetAddr (s : State) (k : Nat) : Nat := get64 s HAM_COST_BASE_LO HAM_COST_BASE_HI + k * 32896

def strikeEnv (s : State) (t : Task) : Env :=
  { brand := qBrand s t.queue, f := taskFrame s t, sb := sBase s, db := dBase s, sbb := sbBase s, dbb := dbBase s, lat := latticeOf s t.heat,
    cost := costSetAddr s (bf t.cmd 56 1), foot := footOf s (bf t.cmd 41 1) }

/-- Records as writes of 64-byte lines, the last one in part. -/
def recLines : Nat → Nat → List Nat → List (Nat × List Nat)
  | 0, _, _ => []
  | k + 1, a, rs => if rs = [] then [] else (a, (rs.take 8).flatMap (leBytes 8)) :: recLines k (a + 64) (rs.drop 8)

def countV (rs : List Res) (k : Nat) : Nat := (rs.filter (fun r => r.verdict == k)).length

/-- What the records of a task add to the Hammer's counters and faults (R187, R194 to R198). -/
def resBumps (rs : List Res) (unit : Nat) : List (Fld × Nat) :=
  [(HAM_CLEAR_CNT, countV rs 0), (HAM_MARGIN_CNT, countV rs 1), (HAM_CONTACT_CNT, countV rs 2), (HAM_UNTESTED_CNT, countV rs 3),
   (HAM_CUT_CNT, (rs.filter (·.cut)).length), (HAM_INVALID_CNT, (rs.map (·.inv)).foldl (· + ·) 0), (HAM_OVF_CNT, (rs.filter (·.ovf)).length),
   (HAM_RD_ERR, (rs.filter (fun r => r.rdF || r.rdC)).length), (HAM_HORIZON_CNT, (rs.filter (·.horizon)).length),
   (HAM_U_CAND unit, rs.length), (HAM_U_SLOTS unit, (rs.map (·.slots)).foldl (· + ·) 0)]

def resFaults (rs : List Res) (unit : Nat) : List (Nat × Nat × Nat × Nat) :=
  (if rs.any (fun r => decide (0 < r.inv)) then [(0x09, 0x002, 0, unit)] else []) ++
  (if rs.any (·.rdC) then [(0x09, 0x004, 3, unit)] else if rs.any (·.rdF) then [(0x09, 0x003, 3, unit)] else [])

/-- The first status of R169 that applies. -/
def strikeStatus (rs : List Res) (bad : List (Nat × Nat)) : Nat :=
  if rs.any (fun r => r.rdF || r.rdC) then 3 else if rs.any (·.cut) then 4 else if bad ≠ [] then 5 else 0

/-- A STRIKE of which the first `kept` candidates are checked and the rest filled (R167, R187). -/
def strikeWork (kept : Nat) (s : State) (t : Task) : Work :=
  let v := strikeEnv s t
  let c := taskCtx s t
  let n := min kept c.count
  let r := (do
    let cs ← candidates s v.brand c (List.range n)
    let rs ← rdMap (strikeRes s v) cs
    pure (cs, rs) : Rdr (List (Except Nat (List Pose)) × List Res)).run []
  let rs := r.1.2 ++ List.replicate (c.count - n) cutRes
  let bad := badOf c.first r.1.1
  let sw := match t.swage with | some e => e - 32 | none => 0
  { writes := recLines (c.count / 8 + 1) (bf t.cmd 48 8) (rs.map (·.rec_)), notes := ctxNotes s v.brand v.f.img ++ r.2,
    bumps := resBumps rs t.punit ++ badBumps bad ++ [(SWG_U_CAND sw, n - bad.length)],
    sets := badSets sw bad ++ (if n < c.count then [(HAM_U_STATUS_FILL t.punit, 1)] else []),
    faults := resFaults rs t.punit ++ badFaults sw bad, status := strikeStatus rs bad }

/-- One HAM 0x001 per cut offset per stroke at which a cut fills a record (R187). -/
def noteCut (s : State) (k : Nat) : State :=
  oncePerStroke { s with asy := { s.asy with cutSeen := true } } (0x30000 + k) 0x09 0 k

/-- Run a STRIKE with `kept` candidates before the cut. -/
def runStrike (s : State) (t : Task) (kept : Nat) : State :=
  let s := finishWork s t (strikeWork kept s t)
  if kept < bf t.cmd 28 4 then noteCut s (bf t.cmd 57 1 - 1) else s

/-- The number under which a passed cut offset is posted. -/
def cutGate (k : Nat) : Nat := 8 + k

/-- A STRIKE whose cut offset has passed for the current sealed heat is for fill only: one that waited when it passed (status CUT), and
one that comes later (DEDUCED, log 40). -/
def cutPassed (s : State) (t : Task) : Bool :=
  t.status == 4 || (!inRepro s && !tGold t && tCls t == 4 && cOpc t.cmd == 1 && bf t.cmd 57 1 != 0 &&
    s.tabX.gates.contains (cutGate (bf t.cmd 57 1 - 1)) && (t.heat == 0 || t.heat == getF s CRU_HEAT_SEALED))

/-- The task with the Swage it rolls out through: one that started while no Swage of its hearth was in service is bound once one is
(R304); none as long as there is none. -/
def withSwage (s : State) (t : Task) : Option Task :=
  match t.swage with
  | some _ => some t
  | none => (bindSwage s (classBase 4 + t.punit)).map (fun e => { t with swage := some e })

/-- STRIKE: a cut task runs for fill only, which needs no rollout. -/
def execStrike (unit : Nat) (s : State) : Ans :=
  match engineTask s 4 unit [1] with
  | some t =>
    if cutPassed s t then .next (runStrike s t 0)
    else match withSwage s t with
      | some t => .next (runStrike (noteStrike s t.swage) t (bf t.cmd 28 4))
      | none => .next s
  | none => .next s

/-- The tasks a cut at offset k reaches (R187). -/
def cutTasks (s : State) (k : Nat) : List Task :=
  (tasks s).filter (fun t => tCls t == 4 && !tGold t && cOpc t.cmd == 1 && bf t.cmd 57 1 == k + 1 && !t.ran && t.loc != .finished &&
    (t.heat == 0 || t.heat == getF s CRU_HEAT_SEALED))

/-- A running task ends with the candidates whose pose 0 has left; the others wait for fill only. -/
def cutOne (done : List (Nat × Nat)) (s : State) (t : Task) : State :=
  match t.loc with
  | .running _ => if t.status = 4 then s else runStrike s t (nget done t.punit)
  | _ => setTask s { t with status := 4, heat := getF s CRU_HEAT_SEALED }

/-- STRIKE_CUT (R187, R188): `done` gives, per physical Hammer, the candidates whose pose 0 has left. Not in REPRO mode. -/
def execStrikeCut (at_ k : Nat) (done : List (Nat × Nat)) (s : State) : Ans :=
  let s := atTime s at_
  let ofs := if k = 0 then getF s HAM_CUT_OFS0 else getF s HAM_CUT_OFS1
  if inRepro s ∨ 2 ≤ k ∨ at_ < s.stk.inst + ofs then .next s
  else .next (openGate ((cutTasks s k).foldl (cutOne done) s) (cutGate k))

/- ### Golden tasks (R191 to R193) -/

/-- Four explicit candidates over the golden set, and the line they write: records and lane sums. -/
def hammerGoldWork (s : State) (t : Task) : Work :=
  let brand := qBrand s t.queue
  let g := goldSet t
  let sw := match t.swage with | some e => e - 32 | none => 0
  let r := (do
    let h ← rdBytes s brand g 128
    match h with
    | none => pure ([], [], false)
    | some b =>
      let img := fldAt b 32 8
      rdNote (notesOf s brand img 64)
      let f := goldFrame s t img
      let v : Env := { brand := brand, f := f, sb := fldAt b 0 8, db := fldAt b 8 8, sbb := fldAt b 16 8, dbb := fldAt b 24 8,
                       lat := some (fldAt b 40 8, loOf f.ox, loOf f.oy), cost := fldAt b 48 8,
                       foot := (List.range 4).map (fun e => sphereOf ((b.drop (64 + 8 * e)).take 8)) }
      let cs ← rdMap (fun c => explicitPoses s brand f.ox f.oy 64 (g + 128 + 1024 * c)) (List.range 4)
      let rs ← rdMap (strikeRes s v) cs
      pure (cs, rs, true) : Rdr (List (Except Nat (List Pose)) × List Res × Bool)).run []
  let rs := r.1.2.1
  let bad := badOf 0 r.1.1
  let lanes := (List.range 8).map (fun l => toU 32 ((rs.map (fun x => x.lanes.getD l 0)).foldl (· + ·) 0))
  let line := (rs.map (·.rec_)).flatMap (leBytes 8) ++ lanes.flatMap (leBytes 4)
  { writes := if r.1.2.2 then [(goldDst t, line)] else [], notes := r.2,
    bumps := resBumps rs t.punit ++ badBumps bad ++ [(SWG_U_CAND sw, r.1.1.length - bad.length)], sets := badSets sw bad,
    faults := (if r.1.2.2 then [] else [(0x09, 0x003, 3, t.punit)]) ++ resFaults rs t.punit ++ badFaults sw bad,
    status := if r.1.2.2 then strikeStatus rs bad else 3 }

def execHammerGolden (unit : Nat) (s : State) : Ans :=
  match (engineTask s 4 unit [2]).bind (withSwage s) with
  | some t => .next (finishWork (noteStrike s t.swage) t (hammerGoldWork s t))
  | none => .next s

end Sys2Proof.Machine
end

