-- ==== Sys2Proof/Machine/Stroke.lean ====
section
/-! DEFINITION. The stroke (R39 to R55, R64) and the Carillon timetable (R56 to R63). -/

namespace Sys2Proof.Machine

/- ### Sources (R43, R45) -/

def source (s : State) : Nat := getF s CAR_STATUS_SOURCE
def setSource (s : State) (k : Nat) : State := setF s CAR_STATUS_SOURCE k
def gptpPrimary (s : State) : Bool := getF s CAR_SRC_CFG == 1
def gptpValid (s : State) : Bool := flag s CAR_STATUS_GPTP_VALID
def onFlywheel (s : State) : Bool := !gptpPrimary s && (source s == 1 || source s == 5)

/-- The Carillon takes strokes: from Ember ready or full service on, outside Banked, with no stroke loss (R43, R55). -/
def takesStrokes (s : State) : Bool := s.stk.takeFrom.isSome && mode s != 3 && !s.pln.strokeLoss && !s.ubf.orphan && period s != 0

/-- The stroke instant's distance from the stroke time; 200 ns until the manager fixes it (R41, R69). -/
def targetNs (s : State) : Nat := if getF s BEL_TARGET_NS = 0 then 200 else getF s BEL_TARGET_NS

/-- The first source after a reset or an admission writes CAR 0x00D (R45). -/
def takeSource (s : State) (k : Nat) : State := if source s = 6 then sendFault (setSource s k) 0x04 0x00D 0 0 else s

/-- Computed strokes begin once gPTP has been valid since the reset and the Carillon takes strokes; without valid gPTP they run from the
holdover counter at once (R43, R54; log 127). -/
def computeStarts (s : State) : State :=
  if isManager s ∧ gptpPrimary s ∧ s.stk.gptpEver ∧ takesStrokes s ∧ source s = 6 then takeSource s (if gptpValid s then 2 else 5) else s

/- ### The timetable (R56, R57) -/

def activeBank (s : State) : Nat := getF s CAR_STATUS_BANK
def bankWords (s : State) (b : Nat) (shadow : Bool) : List (Nat × Nat) :=
  if b = 0 then (if shadow then s.car.shadow0 else s.car.bank0) else (if shadow then s.car.shadow1 else s.car.bank1)

/-- Word k of entry i of a bank. -/
def ttWord (w : List (Nat × Nat)) (i k : Nat) : Nat := nget w (i * 4 + k)
def eOffset (w : List (Nat × Nat)) (i : Nat) : Nat := bits (ttWord w i 0) 0 27
def eEn (w : List (Nat × Nat)) (i : Nat) : Bool := bit (ttWord w i 0) 27
def eQueue (w : List (Nat × Nat)) (i : Nat) : Nat := bits (ttWord w i 1) 0 6
def eDiv (w : List (Nat × Nat)) (i : Nat) : Nat := bits (ttWord w i 1) 8 4
def ePhase (w : List (Nat × Nat)) (i : Nat) : Nat := bits (ttWord w i 1) 12 4
def eCount (w : List (Nat × Nat)) (i : Nat) : Nat := let c := bits (ttWord w i 1) 16 16; if c = 0 then 65536 else c
def eList (w : List (Nat × Nat)) (i : Nat) : Nat := ttWord w i 2 + 2 ^ 32 * bits (ttWord w i 3) 0 16
def eLate (w : List (Nat × Nat)) (i : Nat) : Nat := bits (ttWord w i 3) 16 16
def entryWords (w : List (Nat × Nat)) (i : Nat) : List Nat := (List.range 4).map (ttWord w i)

/-- An entry is valid (R57). -/
def entryValid (s : State) (w : List (Nat × Nat)) (i : Nat) : Bool :=
  decide (eOffset w i + eLate w i * 1000 < period s) && decide (1 ≤ eLate w i) && decide (ePhase w i ≤ eDiv w i) &&
    decide (eCount w i ≤ qSize s (eQueue w i)) && bits (ttWord w i 0) 28 4 == 0 && bits (ttWord w i 1) 6 2 == 0 &&
    eList w i % 64 == 0 && flag s (TAB_Q_CFG_EN (eQueue w i)) && getF s (TAB_Q_CFG2_PRODUCER (eQueue w i)) == 0x20

def liveWords (s : State) : List (Nat × Nat) := bankWords s (activeBank s) false

/-- The active bank as the shadow unit holds it (R23, R63). -/
def shadowWords (s : State) : List (Nat × Nat) := bankWords s (activeBank s) true

/-- Entries of a bank that launch in the current stroke by EN, DIV and PHASE (R56, R58). -/
def entriesOf (s : State) (w : List (Nat × Nat)) : List Nat :=
  (List.range 256).filter (fun i => eEn w i && s.stk.no % (eDiv w i + 1) == ePhase w i)

def strokeEntries (s : State) : List Nat := entriesOf s (liveWords s)

/-- A worker launches nothing before its own full service (R465); an orphan nothing at all (R400); Banked nothing. -/
def mayLaunch (s : State) : Bool :=
  s.stk.any && !s.ubf.orphan && mode s != 3 && !s.pln.strokeLoss && !(isWorker s && inEmber s)

/- ### Numbering (R42, R64) -/

def reproBase (s : State) : Nat := get64 s CAR_REPRO_BASE_LO CAR_REPRO_BASE_HI
def reproT0 (s : State) : Nat := get64 s CAR_REPRO_T0_LO CAR_REPRO_T0_HI
def epoch (s : State) : Nat := get64 s CAR_EPOCH_LO CAR_EPOCH_HI

/-- The number of a new stroke at stroke time t. -/
def strokeNumber (s : State) (t : Nat) : Nat :=
  match s.stk.lastStroke with
  | none => if gptpValid s then (Int.fdiv ((t : Int) - epoch s) (max 1 (period s)) % (2 ^ 64 : Int)).toNat else 0
  | some (n, t0) => (n + max 1 ((t - t0 + period s / 2) / max 1 (period s))) % 2 ^ 64

/-- The number and stroke time of the next REPRO stroke. -/
def reproStroke (s : State) : Nat × Nat :=
  let n := (s.stk.no + 1) % 2 ^ 64
  (n, (s.car.reproFrom.2 + (n + 2 ^ 64 - s.car.reproFrom.1) % 2 ^ 64 * period s) % 2 ^ 64)

/-- A launched list has posted its final completion. -/
def listDone (s : State) (p : Nat × Nat) : Bool :=
  decide (sub32 p.2 (qHead s p.1) = 0 ∨ 2 ^ 31 ≤ sub32 p.2 (qHead s p.1)) &&
    (tasks s).all (fun t => !(t.queue == p.1 && decide (sub32 p.2 t.num ≤ 2 ^ 31 ∧ sub32 p.2 t.num ≠ 0)))

/-- The previous REPRO stroke is still running: an entry has not launched, or a launched list has not ended (R64; log 41). -/
def reproBusy (s : State) : Bool :=
  s.car.copying.isSome || (mayLaunch s && (strokeEntries s).any (fun i => !s.car.settled.contains i)) ||
    s.car.launched.any (fun p => !listDone s p)

/-- A pulse on BELL_OUT, when driven: its rise, 2 ns either way, and its width within a tolerance (R65, R68, R70; log 125). -/
def bellPulse (s : State) (at_ width tol : Nat) : State :=
  let rise := at_ + Config.bellDelay at_ % 5 - 2
  let fall := rise + (width + Config.bellWidth at_ % (2 * tol + 1) - tol)
  if flag s BEL_CFG_OUT_EN then
    { s with pins := { s.pins with bellOut := s.pins.bellOut.filter (fun p => decide (s.time < p.2)) ++ [(rise, fall)] } }
  else s

/-- The manager's pulse of a stroke time (R65). -/
def strokePulse (s : State) (t : Nat) : State := bellPulse s (t + 60) 200 20

/-- The level of BELL_OUT at the present moment: none when it is tri-stated (R65). -/
def bellLevel (s : State) : Option Bool :=
  if flag s BEL_CFG_OUT_EN then some (s.pins.bellOut.any (fun p => decide (p.1 ≤ s.time ∧ s.time < p.2))) else none

/- ### The change to REPRO mode (R329) -/

/-- The manager changes the node to REPRO mode at the coming instant: it has set the stroke and is still drained. -/
def mayEnter (s : State) : Bool :=
  flag s TOP_MODE_REQ_PEND && mode s == 0 && isManager s && s.ubf.reproSet && drained s && allReady s

/-- A worker changes at the stroke the manager has set. -/
def mayFollow (s : State) : Bool := flag s TOP_MODE_REQ_PEND && mode s == 0 && isWorker s && s.ubf.reproSet && drained s

/-- A source stroke that arrives while the Carillon waits for the previous REPRO stroke (R64). -/
def dropStroke (s : State) : State := setF (bump s CAR_REPRO_DROPPED 1) CAR_STATUS_REPRO_WAIT 1

/-- The source gives a stroke at stroke time t: number, Bell pulse, stroke message, then the wait for its instant. The stroke that leaves
REPRO mode is numbered as a first stroke, and the message of the one that enters it carries REPRO_BASE and REPRO_T0 (R64, R329). -/
def beginStroke (s : State) (t : Nat) : State :=
  if inRepro s then
    if reproBusy s then dropStroke s
    else if flag s TOP_MODE_REQ_PEND then
      let n := strokeNumber { s with stk := { s.stk with lastStroke := none } } t
      let s := sendSyncAll (strokePulse s t) 0x10 n t
      { s with stk := { s.stk with awaiting := some (n, t, t + targetNs s) } }
    else
      let r := reproStroke s
      let s := sendSyncAll (strokePulse s t) 0x10 r.1 r.2
      { s with stk := { s.stk with awaiting := some (r.1, r.2, s.time + targetNs s) } }
  else
    let n := strokeNumber s t
    let m := if mayEnter s then (reproBase s, reproT0 s) else (n, t)
    let s := sendSyncAll (strokePulse s t) 0x10 m.1 m.2
    { s with stk := { s.stk with awaiting := some (m.1, m.2, t + targetNs s), lastStroke := some (n, t) } }

/- ### Flywheel and holdover (R48 to R55) -/

/-- Stroke loss (R54). -/
def strokeLoss (s : State) : State :=
  sendFault { setSource s 6 with pln := { s.pln with strokeLoss := true } } 0x04 0x006 5 0

def heldFor (s : State) : Nat := match s.stk.holdStart with | some h => s.time - h | none => 0

/-- Holdover ends; `CAR.HOLD_ELAPSED` keeps its last value (R53; log 128). -/
def endHold (s : State) : State :=
  setF { s with stk := { s.stk with holdStart := none } } CAR_HOLD_ELAPSED
    (if s.stk.holdStart.isSome then min (heldFor s / 1000) 2097151 else getF s CAR_HOLD_ELAPSED)

/-- Enter the flywheel at moment t; without valid gPTP the strokes come from the holdover counter (R48, R50, R54). -/
def enterFlywheel (s : State) (code t : Nat) : State :=
  let s := setF s CAR_STATUS_SI_USABLE 0
  let s := { s with stk := { s.stk with anchor := s.stk.lastAccepted, changeAt := t, goodFly := 0, lastGood := 0, flyBad := none } }
  let s := sendFault (setSource s (if gptpValid s then 1 else 5)) 0x04 code 3 0
  if gptpValid s then s
  else
    let s := match s.stk.holdStart with
      | some _ => s
      | none => { s with stk := { s.stk with holdStart := s.stk.lastAccepted } }
    if 1000000000 ≤ heldFor s then strokeLoss s else s

/-- An edge or pulse that is not taken: counted, and the ninth between two stroke instants makes STROKE_IN unusable (R47, R48). -/
def ignoreEdge (s : State) : State :=
  let s := bump s CAR_SI_IGNORED 1
  let s := { s with stk := { s.stk with ignored := s.stk.ignored + 1 } }
  if 9 ≤ s.stk.ignored ∧ source s = 0 then enterFlywheel { s with stk := { s.stk with unusable := true } } 0x002 s.time else s

/-- An edge becomes the last accepted edge and a stroke. -/
def acceptEdge (s : State) (t : Nat) : State :=
  beginStroke (setF { s with stk := { s.stk with lastAccepted := some t } } CAR_STATUS_SI_USABLE 1) t

/-- The STROKE_IN filter (R46, R47, R54). Without valid gPTP an accepted edge re-anchors the counter, also before gPTP has ever been valid
(log 129). -/
def filterEdge (s : State) (t highNs : Nat) : State :=
  if highNs < 50 then ignoreEdge s
  else match s.stk.lastAccepted with
    | none => acceptEdge (takeSource s 0) t
    | some last =>
      if 2 * (t - last) < period s then ignoreEdge s
      else if gptpValid s then acceptEdge (takeSource s 0) t
      else acceptEdge (takeSource { s with time := last + period s } 0) (last + period s)

/-- The slot of the flywheel grid nearest to t, and whether t lies within ±10 µs of it (R51). -/
def flySlot (s : State) (t : Nat) : Nat := (t - s.stk.anchor.getD 0 + period s / 2) / max 1 (period s)
def flyTime (s : State) (n : Nat) : Nat := s.stk.anchor.getD 0 + n * period s
def qualifies (s : State) (t : Nat) : Bool :=
  let g := flyTime s (flySlot s t)
  decide (t ≤ g + 10000 ∧ g ≤ t + 10000)

/-- The edges of slot n do not count, and the count restarts (R51). -/
def spoilSlot (s : State) (n : Nat) : State := { s with stk := { s.stk with goodFly := 0, flyBad := some n } }

/-- Requalification on the flywheel: after 8 flywheel strokes with exactly one qualifying edge each and no other candidate edge, the next
qualifying edge returns (R51). Slots without a flywheel stroke, the anchor's among them, qualify no edge; holdover that began at the anchor
ends with the flywheel (R54). -/
def requalify (s : State) (t : Nat) : State :=
  let n := flySlot s t
  if n = 0 ∨ flyTime s n < s.stk.changeAt ∨ !qualifies s t then spoilSlot (ignoreEdge s) n
  else if s.stk.flyBad = some n then s
  else if s.stk.lastGood = n then spoilSlot s n
  else if 8 ≤ s.stk.goodFly then
    let s := { s with stk := { s.stk with unusable := false, goodFly := 0, ignored := 0, flyBad := none } }
    let s := if s.stk.gptpEver then s else endHold s
    let s := sendFault (setF (setSource s 0) CAR_STATUS_SI_USABLE 1) 0x04 0x004 0 0
    if t < flyTime s n then acceptEdge s t else { s with stk := { s.stk with lastAccepted := some t } }
  else
    { s with stk := { s.stk with goodFly := if n = s.stk.lastGood + 1 then s.stk.goodFly + 1 else 1, lastGood := n } }

/-- STROKE_IN_EDGE (R46, R47, R51): an edge at `at_` that then stays high for `highNs`. A worker, and a manager that takes no stroke from the
pin, only count it (R43; log 130). -/
def execStrokeInEdge (at_ highNs : Nat) (s : State) : Ans :=
  let s := atTime s at_
  if isWorker s then .next (bump s CAR_SI_IGNORED 1)
  else if !takesStrokes s ∨ gptpPrimary s then .next (ignoreEdge s)
  else if onFlywheel s then .next (if 50 ≤ highNs then requalify s at_ else ignoreEdge s)
  else .next (filterEdge s at_ highNs)

/-- STROKE_IN_MISSING (R50): 1.5 periods after the last accepted edge. -/
def execStrokeInMissing (at_ : Nat) (s : State) : Ans :=
  let s := atTime s at_
  match s.stk.lastAccepted with
  | some last =>
    if takesStrokes s ∧ isManager s ∧ source s = 0 ∧ 3 * period s ≤ 2 * (at_ - last) then
      .next (enterFlywheel s 0x003 (last + 3 * period s / 2))
    else .next s
  | none => .next s

/-- FLYWHEEL_STROKE (R48, R52): a slot of the grid at or after the changeover. -/
def execFlywheelStroke (at_ : Nat) (s : State) : Ans :=
  let s := atTime s at_
  match s.stk.anchor with
  | some a =>
    if takesStrokes s ∧ isManager s ∧ onFlywheel s ∧ a < at_ ∧ (at_ - a) % period s = 0 ∧ s.stk.changeAt ≤ at_ then .next (beginStroke s at_)
    else .next s
  | none => .next s

/-- COMPUTED_STROKE (R43): EPOCH + k × period, at or after the moment the Carillon takes strokes. -/
def execComputedStroke (at_ : Nat) (s : State) : Ans :=
  let s := atTime s at_
  if takesStrokes s ∧ isManager s ∧ gptpPrimary s ∧ (source s = 2 ∨ source s = 5) ∧ s.stk.takeFrom.getD 0 ≤ at_ ∧ epoch s ≤ at_ ∧
      (at_ - epoch s) % period s = 0 then .next (beginStroke s at_)
  else .next s

/-- GPTP_LOST (R53, R54): `CAR.HOLD_ELAPSED` counts from 0 (log 128). -/
def execGptpLost (at_ : Nat) (s : State) : Ans :=
  let s := atTime s at_
  if !gptpValid s then .next s
  else
    let s := setF s CAR_STATUS_GPTP_VALID 0
    if s.pln.strokeLoss then .next s
    else
      let s := setF { s with stk := { s.stk with gptp := false, holdStart := some at_, holdNoted := false } } CAR_HOLD_ELAPSED 0
      .next (sendFault (if source s = 1 ∨ source s = 2 then setSource s 5 else s) 0x04 0x005 3 0)

/-- HOLDOVER_EXPIRED (R54): 1 s without gPTP. -/
def execHoldoverExpired (at_ : Nat) (s : State) : Ans :=
  let s := atTime s at_
  if gptpValid s ∨ s.stk.holdStart.isNone ∨ heldFor s < 1000000000 then .next s
  else if source s = 5 then .next (strokeLoss s)
  else if source s = 0 ∧ !s.stk.holdNoted then
    .next (sendFault { s with stk := { s.stk with holdNoted := true } } 0x04 0x00B 4 0)
  else .next s

/-- The counter follows gPTP time: it is set when it has had no time of the vehicle yet, and slewed, never stepped, otherwise (R40, R55;
log 123). -/
def followGptp (s : State) (gptp : Nat) : State :=
  if !s.stk.gptpEver ∧ !s.stk.any ∧ s.stk.lastAccepted.isNone then { s with time := gptp % 2 ^ 64, slew := 0 }
  else { s with slew := (gptp : Int) - s.time }

/-- GPTP_RESTORED (R55), gPTP time being `gptp`; also the first time gPTP is valid (R43). A stroke loss is not undone. -/
def execGptpRestored (r : GptpTime) (s : State) : Ans :=
  let s := atTime s r.at_
  if gptpValid s then .next s
  else
    let s := followGptp (endHold s) r.gptp
    let s := setF { s with stk := { s.stk with gptp := true, gptpEver := true } } CAR_STATUS_GPTP_VALID 1
    let s := if source s = 5 then sendFault (setSource s (if gptpPrimary s then 2 else 1)) 0x04 0x00E 0 0 else s
    .next (computeStarts s)

/- ### The bank swap (R62, R63) -/

/-- The first invalid live entry of a bank (R62). -/
def firstInvalid (s : State) (w : List (Nat × Nat)) : Option Nat := (List.range 256).find? (fun i => eEn w i && !entryValid s w i)

/-- The shadow Carillon's decision differs, or the two units' table copies do (R23, R63). -/
def shadowMismatch (s : State) : State := sendFault { s with asy := { s.asy with shadowBad := true } } 0x04 0x009 5 0

/-- The swap of R62, at the stroke instant. -/
def swapBank (s : State) : State :=
  if !flag s CAR_BANK_CTRL_SWAP_REQ then s
  else
    let b := 1 - activeBank s
    let s := setF s CAR_BANK_CTRL_SWAP_REQ 0
    match firstInvalid s (bankWords s b false) with
    | some i => sendFault (setF (setF s CAR_BANK_CTRL_SWAP_ERR 1) CAR_BANK_CTRL_ERR_IDX i) 0x04 0x00A 0 0
    | none =>
      let s := if bankWords s b false = bankWords s b true then s else shadowMismatch s
      setF s CAR_STATUS_BANK b

/-- The decisions of the two units are compared (R23). -/
def compareUnits (s : State) (same : Bool) : State := if same then s else shadowMismatch s

/-- The stroke's entries of one unit that have not launched. -/
def unlaunched (s : State) (w : List (Nat × Nat)) (settled : List Nat) : List Nat :=
  if mayLaunch s then (entriesOf s w).filter (fun i => !settled.contains i && !(s.car.copying.any (fun c => c.1 == i))) else []

/-- Both units begin a stroke with nothing due and nothing settled. -/
def clearDue (s : State) : State := { s with car := { s.car with due := [], settled := [], shadowDue := [], shadowSettled := [] } }

/-- Entries of the previous stroke that have not launched are abandoned (R61). -/
def abandonLaunches (s : State) : State :=
  let left := unlaunched s (liveWords s) s.car.settled
  let s := clearDue (compareUnits s (left == unlaunched s (shadowWords s) s.car.shadowSettled))
  if left = [] then s else sendFault (bump s CAR_SKIPPED left.length) 0x04 0x008 3 0

/- ### The stroke instant (R61) -/

/-- The logical Assay unit's physical index, for its fault records (R287). -/
def assayUnit (s : State) : Nat := match physE s 7 0 with | some e => e - 214 | none => 0

/-- An Assay unit that still watches leaves the watch (R288). -/
def endWatch (s : State) : State :=
  if s.asy.watching then setF { s with asy := { s.asy with watching := false } } (ASY_U_STATUS_PHASE (assayUnit s)) 0 else s

/-- What the blocks keep per stroke starts anew. -/
def perStroke (s : State) : State :=
  let s := endWatch s
  let win := s.asy.disagree.filter (fun p => decide (s.stk.no < p.1 + 100))
  let asy : Asy :=
    { loading := s.asy.loading, gridding := s.asy.gridding, ovf := s.asy.ovf, nDelta := s.asy.nDelta, deltaSeen := s.asy.deltaSeen,
      task := none, disagree := win, noUnit := s.asy.noUnit, shadowBad := s.asy.shadowBad }
  let s := { s with asy := asy, anv := { s.anv with ceSeen := [] }, ddr := { s.ddr with ueLines := [], ceSeen := [] } }
  let s := { s with tabX := { s.tabX with badHdr := [] }, spr := { s.spr with proDone := false } }
  let s := { s with ubf := { s.ubf with links := s.ubf.links.map (fun (l : Link) => { l with badSeen := false }) } }
  let s := { s with pln := { s.pln with decided := none, message := none }, stk := { s.stk with ignored := 0, planDone := false } }
  let s := { s with bell := { s.bell with ignored := 0 } }
  let s := setF s UBF_NODE_ADMIT (nodeMask ((List.range 16).filter (fun n => isAdmitted s n)))
  let s := setF (setF s ASY_STATUS_DOUBT (b2n s.asy.noUnit)) ASY_STATUS_DIS_WIN win.length
  if win.length < 3 then setF s ASY_STATUS_ARMED 0 else s

/-- The node's workers by the billet (R375). -/
def workers (s : State) : List Nat := (List.range 16).filter (fun n => n != 0 && bit (getF s UBF_NODE_CFG_EXP) n)

/-- Workers on an up link that are not admitted: the ones being calibrated (R389, R390). -/
def underCal (s : State) : List Nat :=
  (workers s).filter (fun n => !isAdmitted s n && (match linkTo (nodeId s) n with | some l => linkUp s l && !(lnk s l).refused | none => false) &&
    (match parentOf n with | some 0 => true | some p => isAdmitted s p | none => false))

/-- Who is told of a calibration window: every admitted worker and those being calibrated (R70). -/
def calNodes (s : State) : List Nat := (workers s).filter (fun n => isAdmitted s n || (underCal s).contains n)

/-- The manager announces the window of this stroke, half a period after its time, when a worker is to be calibrated (R70; log 133). -/
def announceWindow (s : State) : State :=
  if !isManager s ∨ inRepro s ∨ underCal s = [] then s
  else
    let open_ := s.stk.time + period s / 2
    (calNodes s).foldl (fun s n => sendSync s 0x13 n open_ 170000) { s with bell := { s.bell with window := some (open_, 170000) } }

/-- What the end of a stroke leaves undone (R61, R283). -/
def endStroke (s : State) : State :=
  let s := if s.stk.any ∧ !s.stk.planDone ∧ isManager s ∧ !inRepro s then sendFault (bump s ASY_NOPLAN_CNT 1) 0x0F 0x00B 3 (assayUnit s) else s
  if inRepro s then clearDue s else abandonLaunches s

/-- The numbered stroke becomes current. -/
def startStroke (s : State) (n t inst : Nat) : State :=
  let s := swapBank s
  let first := !s.stk.any
  let s := { s with stk := { s.stk with no := n, time := t, inst := inst, any := true, awaiting := none }, pln := { s.pln with stroke := (n, t) } }
  let s := { s with car := { s.car with launched := [] }, tabX := { s.tabX with gates := s.tabX.gates.filter (fun g => g != 4 && g != 5) } }
  let s := setF (perStroke s) CAR_STATUS_REPRO_WAIT 0
  let s := if first then { s with tabX := { s.tabX with goldDone := [] } } else goldenNotRun s
  announceWindow (reportDrained (commitMap (countReduce s)))

/-- A new stroke in the same mode. -/
def newStroke (s : State) (n t inst : Nat) : State := startStroke (endStroke s) n t inst

/- ### Changing between SERVICE and REPRO (R303, R329, R331) -/

def setMode (s : State) (m : Nat) : State :=
  let s := setF (setF (setF s TOP_MODE_MODE m) TOP_MODE_REQ_PEND 0) TAB_STATUS_PINNED (b2n (decide (m = 1)))
  { s with ubf := { s.ubf with ready := [], told := false, reproSet := false } }

/-- The number and time of the stroke that enters REPRO mode: the manager's REPRO_BASE and REPRO_T0; a worker takes those of the manager's
message, and its own registers' while it has none (R64, R72; log 70). -/
def entryStroke (s : State) (n t : Nat) : Nat × Nat :=
  if isWorker s ∧ !s.bell.guessed then (n, t) else (reproBase s, reproT0 s)

/-- REPRO mode begins with this stroke; pinning counts from 0, and the next stroke gets its seal whatever its number (R83). A manager whose
message of the stroke had gone out with other values sends these. -/
def enterRepro (s : State) (n t inst : Nat) : State :=
  let e := entryStroke s n t
  let s := if isManager s ∧ e ≠ (n, t) then sendSyncAll s 0x10 e.1 e.2 else s
  let s := setMode (endStroke s) 1
  let s := { s with car := { s.car with reproFrom := e, leaving := false }, wld := { s.wld with sealedFor := none } }
  startStroke (updTab s (fun x => { x with pinCount := [] })) e.1 e.2 inst

/-- SERVICE mode begins with this stroke; the manager numbers it by the first-stroke rule, a worker takes the manager's number. -/
def exitRepro (s : State) (n t inst : Nat) : State :=
  let s := endStroke s
  let t' := if isWorker s then t else inst - targetNs s
  let n' := if isWorker s then n else strokeNumber { s with stk := { s.stk with lastStroke := none } } t'
  let s := setMode { s with car := { s.car with leaving := false }, stk := { s.stk with lastStroke := some (n', t') } } 0
  startStroke s n' t' inst

/-- A SERVICE stroke at its instant. When its message promised an entry to REPRO mode that does not come about, the manager sends the
stroke's own number and time. -/
def serviceStroke (s : State) (n t inst : Nat) : State :=
  match s.stk.lastStroke with
  | some (n0, t0) =>
    if isManager s ∧ (n0, t0) ≠ (n, t) then newStroke (sendSyncAll s 0x10 n0 t0) n0 t0 inst else newStroke s n t inst
  | none => newStroke s n t inst

/-- STROKE_INSTANT (R61) of a stroke that waits for it. -/
def execStrokeInstant (at_ : Nat) (s : State) : Ans :=
  let s := atTime s at_
  match s.stk.awaiting with
  | some (n, t, inst) =>
    if at_ < inst ∨ inRepro s then .next s
    else if mayEnter s ∨ mayFollow s then .next (enterRepro s n t inst)
    else .next (serviceStroke s n t inst)
  | none => .next s

/-- REPRO_STROKE (R64): a stroke of REPRO mode executes once the previous one is done; a pending change to SERVICE takes it (R329). -/
def execReproStroke (at_ : Nat) (s : State) : Ans :=
  let s := atTime s at_
  match s.stk.awaiting with
  | some (n, t, inst) =>
    if !inRepro s ∨ reproBusy s then .next s
    else if flag s TOP_MODE_REQ_PEND then .next (exitRepro s n t inst)
    else .next (newStroke s n t (max inst at_))
  | none => .next s

/-- REPRO_ENTER (R329): the first stroke instant at which every device is drained. -/
def execReproEnter (at_ : Nat) (s : State) : Ans :=
  let s := atTime s at_
  match s.stk.awaiting with
  | some (n, t, inst) => if inst ≤ at_ ∧ (mayEnter s || mayFollow s) then .next (enterRepro s n t inst) else .next s
  | none => .next s

/-- REPRO_EXIT (R331, R329): the first stroke after the current REPRO stroke. -/
def execReproExit (at_ : Nat) (s : State) : Ans :=
  let s := atTime s at_
  match s.stk.awaiting with
  | some (n, t, inst) => if inRepro s ∧ flag s TOP_MODE_REQ_PEND ∧ !reproBusy s ∧ inst ≤ at_ then .next (exitRepro s n t inst) else .next s
  | none => .next s

/- ### Launches (R58 to R60) -/

/-- Engine clocks in 5 ns at the present throttle step: 6, 5, 4, 3 (R30, R534). -/
def clocksPer5 (s : State) : Nat := 6 - getF s CLK_ENG

/-- The first engine-clock edge at or after a moment (R58); the phase is open. -/
def clockEdge (k t : Nat) : Nat := (t * k + Config.clockPhase % 5 + 4) / 5

/-- Insert by due clock, then by entry index (R58, R59). -/
def insertDue (k : Nat) (l : List (Nat × Nat)) (p : Nat × Nat) : List (Nat × Nat) :=
  match l with
  | [] => [p]
  | q :: t =>
    if clockEdge k p.2 < clockEdge k q.2 ∨ clockEdge k p.2 = clockEdge k q.2 ∧ p.1 < q.1 then p :: q :: t else q :: insertDue k t p

/-- One unit's decision that an entry is due: the stroke matches DIV and PHASE and the time reaches stroke instant + OFFSET (R58). -/
def entryFalls (s : State) (w : List (Nat × Nat)) (due : List (Nat × Nat)) (settled : List Nat) (at_ idx : Nat) : Bool :=
  mayLaunch s && (entriesOf s w).contains idx && decide (s.stk.inst + eOffset w idx ≤ at_) && !settled.contains idx &&
    !due.any (fun p => p.1 == idx) && !s.car.copying.any (fun c => c.1 == idx)

/-- ENTRY_DUE (R58): each unit decides on its own copy, and the decisions are compared (R23). -/
def execEntryDue (at_ idx : Nat) (s : State) : Ans :=
  let s := atTime s at_
  let w := liveWords s
  let x := shadowWords s
  let p := entryFalls s w s.car.due s.car.settled at_ idx
  let q := entryFalls s x s.car.shadowDue s.car.shadowSettled at_ idx
  let s := compareUnits s (p == q && (!p || entryWords w idx == entryWords x idx))
  let k := clocksPer5 s
  .next { s with car := { s.car with
    due := if p then insertDue k s.car.due (idx, s.stk.inst + eOffset w idx) else s.car.due,
    shadowDue := if q then insertDue k s.car.shadowDue (idx, s.stk.inst + eOffset x idx) else s.car.shadowDue } }

/-- The moment from which an entry of a bank is late (R60). -/
def lateIn (s : State) (w : List (Nat × Nat)) (i : Nat) : Nat := s.stk.inst + eOffset w i + eLate w i * 1000
def lateAt (s : State) (i : Nat) : Nat := lateIn s (liveWords s) i

def settleEntry (s : State) (i : Nat) : State :=
  { s with car := { s.car with due := s.car.due.filter (fun p => p.1 != i), settled := insertNew s.car.settled i } }

/-- The shadow unit's bookkeeping of the same. -/
def settleShadow (s : State) (i : Nat) : State :=
  { s with car := { s.car with shadowDue := s.car.shadowDue.filter (fun p => p.1 != i), shadowSettled := insertNew s.car.shadowSettled i } }

/-- Read the list with brand 0x20, then write it into the ring behind TAIL. None: a read failed. -/
def copyList (s : State) (i : Nat) : State × Bool :=
  let w := liveWords s
  let q := eQueue w i
  let r := (rdBytes s 0x20 (eList w i) (eCount w i * 64)).run []
  let s := notesFx s r.2
  match r.1 with
  | none => (s, false)
  | some bs =>
    ((List.range (eCount w i)).foldl (fun s k => (storeBrand s 0x20 (slotAddr s q (qTail s q + k)) ((bs.drop (k * 64)).take 64)).1) s, true)

/-- One unit's launch decision: its first due entry, when no copy runs and the queue has room for the whole list (R59, R60). -/
def launchChoice (s : State) (w due : List (Nat × Nat)) (at_ : Nat) : Option (Nat × Nat) :=
  match due with
  | [] => none
  | p :: _ => if s.car.copying.isSome ∨ qFree s (eQueue w p.1) < eCount w p.1 ∨ (!inRepro s ∧ lateIn s w p.1 < at_) then none else some p

/-- The primary launches the list of an entry: copied whole, or abandoned on a read error, which counts in no register (R59, R60; log 131). -/
def launchEntry (s : State) (p : Nat × Nat) (at_ : Nat) : State :=
  let w := liveWords s
  let r := copyList s p.1
  let s := settleEntry r.1 p.1
  if r.2 then
    reportDrained (high { s with car := { s.car with copying := some (p.1, eQueue w p.1, eCount w p.1) } } CAR_LAUNCH_LAG (at_ - p.2))
  else sendFault s 0x04 0x00C 3 p.1

/-- LAUNCH_START (R59): both units decide, the decisions are compared, and only the primary launches (R23). -/
def execLaunchStart (at_ : Nat) (s : State) : Ans :=
  let s := atTime s at_
  let w := liveWords s
  let x := shadowWords s
  let p := launchChoice s w s.car.due at_
  let q := launchChoice s x s.car.shadowDue at_
  let s := compareUnits s (p == q && p.all (fun p => entryWords w p.1 == entryWords x p.1))
  let s := match q with | some q => settleShadow s q.1 | none => s
  match p with
  | some p => .next (launchEntry s p at_)
  | none => .next s

/-- LAUNCH_COPY_DONE (R59): the queue's doorbell rings. -/
def execLaunchCopyDone (at_ : Nat) (s : State) : Ans :=
  let s := atTime s at_
  match s.car.copying with
  | none => .next s
  | some (_, q, n) =>
    let tail := (qTail s q + n) % 2 ^ 32
    let s := (ringDoorbell s 0x20 q tail).1
    .next (reportDrained { s with car := { s.car with copying := none, launched := s.car.launched ++ [(q, tail)] } })

/-- One unit's decision that an entry has not started by its late limit; REPRO mode ignores late limits (R60, R64). -/
def entryLate (s : State) (w : List (Nat × Nat)) (settled : List Nat) (at_ idx : Nat) : Bool :=
  mayLaunch s && !inRepro s && (entriesOf s w).contains idx && !settled.contains idx && !s.car.copying.any (fun c => c.1 == idx) &&
    decide (lateIn s w idx ≤ at_)

/-- LAUNCH_LATE (R60): both units decide (R23). -/
def execLaunchLate (at_ idx : Nat) (s : State) : Ans :=
  let s := atTime s at_
  let p := entryLate s (liveWords s) s.car.settled at_ idx
  let q := entryLate s (shadowWords s) s.car.shadowSettled at_ idx
  let s := compareUnits s (p == q)
  let s := if q then settleShadow s idx else s
  .next (if p then sendFault (bump (settleEntry s idx) CAR_LATE_CNT 1) 0x04 0x007 3 idx else s)

/-- SWAP_REQ (R62): software sets `CAR.BANK_CTRL.SWAP_REQ`. -/
def execSwapReq (brand : Nat) (s : State) : Ans :=
  .next (guarded s brand 1 CAR_BANK_CTRL.addr (fun s => answer (requestSwap s) .ok))

/-- A word of the inactive bank's window, in both units' copies (R63). Its reserved bits are kept as written and read back, since the swap
checks them (R57, R62; log 122). -/
def setTtWord (s : State) (b k v : Nat) : State :=
  let v := v % 2 ^ 32
  if b = 0 then { s with car := { s.car with bank0 := nset s.car.bank0 k v, shadow0 := nset s.car.shadow0 k v } }
  else { s with car := { s.car with bank1 := nset s.car.bank1 k v, shadow1 := nset s.car.shadow1 k v } }

/-- A write into the inactive bank's window (R63): refused while SWAP_REQ is set. -/
def writeTimetable (s : State) (addr value : Nat) : State :=
  if flag s CAR_BANK_CTRL_SWAP_REQ then answer s .error
  else answer (setTtWord s (1 - activeBank s) ((addr - 0x40410000) / 4) value) .ok

end Sys2Proof.Machine
end

