-- ==== Sys2Proof/Machine/Tongs.lean ====
section
/-! DEFINITION. The Tongs: SELECT, MERGE, the inbox and the golden task (R199 to R224, R413). An entry is (key, global index). -/

namespace Sys2Proof.Machine

/- ### Order and lists (R199, R201) -/

def entryLt (a b : Nat × Nat) : Bool := decide (a.1 < b.1 ∨ a.1 = b.1 ∧ a.2 < b.2)
def entryLe (a b : Nat × Nat) : Bool := !entryLt b a
def sortEntries (l : List (Nat × Nat)) : List (Nat × Nat) := l.mergeSort entryLe
def noKey : Nat := 0xFFFFFFFF

/-- A selection list header (R201). -/
structure ListHdr where
  count : Nat := 0
  k : Nat := 0
  last : Nat := 0xFFFFFFFF
  tieTotal : Nat := 0
  tieExcess : Nat := 0
  flags : Nat := 0
  stroke : Nat := 0
  inTotal : Nat := 0
  inValid : Nat := 0
  missing : Nat := 0
  nodes : Nat := 0
  dups : Nat := 0
  ent : Nat := 0
  dupDisc : Nat := 0

def hdrBytes (h : ListHdr) : List Nat :=
  layout 64 [(0, 4, h.count), (4, 4, h.k), (8, 4, h.last), (12, 4, h.tieTotal), (16, 4, h.tieExcess), (20, 4, h.flags), (24, 8, h.stroke),
    (32, 4, h.inTotal), (36, 4, h.inValid), (40, 4, h.missing), (44, 2, h.nodes), (46, 2, min h.dups 65535), (48, 8, h.ent), (56, 4, h.dupDisc)]

def hdrOf (b : List Nat) : ListHdr :=
  { count := fldAt b 0 4, k := fldAt b 4 4, last := fldAt b 8 4, tieTotal := fldAt b 12 4, tieExcess := fldAt b 16 4, flags := fldAt b 20 4,
    stroke := fldAt b 24 8, inTotal := fldAt b 32 4, inValid := fldAt b 36 4, missing := fldAt b 40 4, nodes := fldAt b 44 2,
    dups := fldAt b 46 2, ent := fldAt b 48 8, dupDisc := fldAt b 56 4 }

/-- FLAGS from VALID, LOCAL, SPILLED, DUP_SEEN, DUP_MISMATCH, PARTIAL, SHORT, RDERR. -/
def listFlags (fs : List Bool) : Nat := (fs.zipIdx.map (fun p => b2n p.1 * 2 ^ p.2)).foldl (· + ·) 0

def entBytes (l : List (Nat × Nat)) : List Nat := l.flatMap (fun e => leBytes 4 e.1 ++ leBytes 4 e.2)
def atKey (l : List (Nat × Nat)) (k : Nat) : Nat := (l.filter (fun e => e.1 == k)).length

/-- Entry lines first, the header line last as one write (R202). -/
def listWrites (h : ListHdr) (dst : Nat) (es : List (Nat × Nat)) : List (Nat × List Nat) :=
  (if es = [] then [] else [(h.ent, entBytes es)]) ++ [(dst, hdrBytes h)]

/-- The spill share of a logical unit (R218). -/
def spillShare (s : State) : Nat := getF s TNG_SPILL_SIZE / max 1 (logical s 5)

/-- The working set that a spilling task of logical unit u keeps for n entries in its share; the rules do not give its bytes (R218;
log 154). -/
def workingSet (s : State) (lunit n : Nat) : List (Nat × List Nat) :=
  [(get64 s TNG_SPILL_BASE_LO TNG_SPILL_BASE_HI + lunit * spillShare s, (List.range (16 * n)).map (fun i => Config.spillByte s.free i % 256))]

/- ### SELECT (R203 to R207, R220) -/

structure Seg where
  addr : Nat
  map : Nat
  first : Nat
  count : Nat

def segsOf (b : List Nat) (n : Nat) : List Seg :=
  (List.range n).map (fun i => { addr := fldAt b (32 * i) 8, map := fldAt b (32 * i + 8) 8, first := fldAt b (32 * i + 16) 4,
                                 count := fldAt b (32 * i + 20) 4 })

/-- The rules of R203 on the segment entries, without distinct map indices. -/
def segsOk (mapped : Bool) (raw : List Nat) (segs : List Seg) : Bool :=
  let n := (segs.map (·.count)).foldl (· + ·) 0
  let each := fun (g : Seg) => g.addr % 8 == 0 && decide (1 ≤ g.count ∧ g.count ≤ 1048576) &&
    (if mapped then g.first == 0 else g.map == 0 && decide (g.first + g.count ≤ 2 ^ 32))
  segs.all each && (List.range segs.length).all (fun i => zeroAt raw (32 * i + 24) 8) && decide (n ≤ 2 ^ 20) &&
    (if mapped then decide (n ≤ 65536)
     else ((segs.zip (segs.drop 1)).all (fun p => decide (p.1.first + p.1.count ≤ p.2.first))))

/-- A record read: its entry when its lines were read, and the lines that failed. -/
structure RecRead where
  e : Option (Nat × Nat)
  bad : List Nat

/-- Does the read of [a, a + n) fail? Then its line. -/
def rdOne (s : State) (brand a n : Nat) : Rdr (Option (List Nat) × List Nat) := do
  let r ← rdBytes s brand a n
  pure (r, if r.isNone then [lineOf a] else [])

def rdRecs (s : State) (brand : Nat) (mapped : Bool) (g : Seg) : List Nat → Rdr (List RecRead)
  | [] => pure []
  | i :: t => do
    let x ← rdOne s brand (g.addr + 8 * i) 8
    let m ← if mapped then rdOne s brand (g.map + 4 * i) 4 else pure (some [], [])
    let rest ← rdRecs s brand mapped g t
    let e : Option (Nat × Nat) := match x.1, m.1 with
      | some b, some mb => some (fldAt b 0 4, if mapped then leNat mb else g.first + i)
      | _, _ => none
    pure ({ e := e, bad := x.2 ++ m.2 } :: rest)

def rdSegs (s : State) (brand : Nat) (mapped : Bool) : List Seg → Rdr (List RecRead)
  | [] => pure []
  | g :: t => do
    let x ← rdRecs s brand mapped g (List.range g.count)
    let y ← rdSegs s brand mapped t
    pure (x ++ y)

/-- The first `need` entries of a sorted list whose index is not among the taken ones, and how many of those met before were (R205). -/
def takeNew : Nat → List (Nat × Nat) → List (Nat × Nat) → List (Nat × Nat) × Nat
  | 0, _, _ => ([], 0)
  | _ + 1, _, [] => ([], 0)
  | need + 1, got, e :: t =>
    if got.any (fun x => x.2 == e.2) then ((takeNew (need + 1) got t).1, (takeNew (need + 1) got t).2 + 1)
    else (e :: (takeNew need (e :: got) t).1, (takeNew need (e :: got) t).2)

/-- What SELECT takes of the valid entries. -/
structure Taken where
  out : List (Nat × Nat)
  dups : Nat
  last : Nat
  tieTotal : Nat
  tieExcess : Nat

/-- Every entry when no more than k are valid (R206); else those below the key of the k-th entry and, of those with that key, as many of the
lowest indices as are needed (R204, R205, R207; log 153). -/
def selectOf (k : Nat) (valid : List (Nat × Nat)) : Taken :=
  let sorted := sortEntries valid
  if valid.length ≤ k then
    let r := takeNew valid.length [] sorted
    let last := match r.1.getLast? with | some e => e.1 | none => noKey
    { out := r.1, dups := r.2, last := last, tieTotal := if r.1 = [] then 0 else atKey r.1 last, tieExcess := 0 }
  else
    let ck := (sorted.getD (k - 1) (noKey, 0)).1
    let below := sorted.filter (fun e => decide (e.1 < ck))
    let need := k - below.length
    let low := takeNew below.length [] below
    let tied := takeNew need low.1 (sorted.filter (fun e => e.1 == ck))
    { out := low.1 ++ tied.1, dups := low.2 + tied.2, last := ck, tieTotal := atKey valid ck, tieExcess := atKey valid ck - need }

/-- The list of a SELECT: header, entries, status, counters, faults; none when it needs more than its spill share (R218). -/
def selectList (s : State) (k stroke ent : Nat) (loc : Bool) (rs : List RecRead) : Option (ListHdr × List (Nat × Nat) × Nat × List (Fld × Nat)) :=
  let badLines := (rs.flatMap (·.bad)).eraseDups
  let n := rs.length
  let rderr := badLines != []
  if 16 < badLines.length then
    some ({ k := k, stroke := stroke, ent := ent, inTotal := n, flags := listFlags [false, loc, false, false, false, false, false, true] }, [], 3,
      [(TNG_RD_RESTART, 16)])
  else
    let valid := rs.filterMap (fun r => match r.e with | some e => if e.1 = noKey then none else some e | none => none)
    let g := min k valid.length
    let spill := !loc && decide (65536 < g)
    if spill ∧ spillShare s < 16 * g then none
    else
      let o := selectOf k valid
      some ({ count := o.out.length, k := k, last := o.last, tieTotal := o.tieTotal, tieExcess := o.tieExcess,
              flags := listFlags [true, loc, spill, decide (0 < o.dups), false, false, false, rderr], stroke := stroke, inTotal := n,
              inValid := valid.length, nodes := if o.out = [] then 0 else 2 ^ nodeId s, dups := o.dups, ent := ent },
        o.out, if rderr then 3 else 0, [(TNG_RD_RESTART, badLines.length), (TNG_SPILL_CNT, b2n spill), (TNG_DUP_CNT, o.dups)])

def rdFault (unit : Nat) (st : Nat) : List (Nat × Nat × Nat × Nat) := if st = 3 then [(0x0D, 0x003, 3, unit)] else []

/-- SELECT over given segments. -/
def selectWork (s : State) (brand k stroke dst ent unit lunit : Nat) (loc mapped : Bool) (segs : List Seg) : Work :=
  let r := (rdSegs s brand mapped segs).run []
  match selectList s k stroke ent loc r.1 with
  | none => { status := 1, notes := r.2 }
  | some (h, es, st, bs) =>
    { writes := listWrites h dst es, scratch := if bit h.flags 2 then workingSet s lunit (min k h.inValid) else [], notes := r.2,
      bumps := (TNG_SELECT_CNT, 1) :: bs, faults := rdFault unit st, status := st,
      sets := [(TNG_U_STATUS_SPILL unit, bits h.flags 2 1), (TNG_U_STATUS_PASS unit, 5),
               (TNG_U_STATUS_RESTARTS unit, min 16 ((r.1.flatMap (·.bad)).eraseDups).length)] }

/-- The STROKE of the descriptor of the task's own heat (R81, R201). -/
def taskStroke (s : State) (t : Task) : Nat := fldAt (heatInfo s t.heat).desc 16 8

/-- A SELECT command: its segment table is read first; when that fails the header carries VALID = 0 (log 28). -/
def selectTask (s : State) (t : Task) : Work :=
  let c := t.cmd
  let brand := qBrand s t.queue
  let loc := bit (bf c 29 1) 0
  let mapped := bit (bf c 29 1) 1
  let r := (rdBytes s brand (bf c 16 8) (32 * bf c 28 1)).run []
  match r.1 with
  | none =>
    let h : ListHdr := { k := bf c 24 4, stroke := taskStroke s t, ent := bf c 40 8, flags := listFlags [false, loc, false, false, false, false, false, true] }
    { writes := listWrites h (bf c 32 8) [], notes := r.2, bumps := [(TNG_SELECT_CNT, 1)], faults := rdFault t.punit 3, status := 3 }
  | some b =>
    let segs := segsOf b (bf c 28 1)
    if segsOk mapped b segs ∧ (!loc ∨ (segs.map (·.count)).foldl (· + ·) 0 ≤ 65536) then
      let w := selectWork s brand (bf c 24 4) (taskStroke s t) (bf c 32 8) (bf c 40 8) t.punit t.lunit loc mapped segs
      { w with notes := r.2 ++ w.notes }
    else { status := 1, notes := r.2 }

/- ### MERGE (R208 to R211, R216) -/

def strictly : List (Nat × Nat) → Bool
  | a :: b :: t => entryLt a b && strictly (b :: t)
  | _ => true

/-- One input: its header and entries, or none and whether a read failed (R209). -/
def mergeInput (s : State) (brand k stroke : Nat) (loc : Bool) (a : Nat) : Rdr (Option (ListHdr × List (Nat × Nat)) × Bool) := do
  let r ← rdBytes s brand a 64
  match r with
  | none => pure (none, true)
  | some b =>
    let h := hdrOf b
    if !bit h.flags 0 ∨ h.stroke ≠ stroke ∨ h.k ≠ k ∨ k < h.count ∨ (bit h.flags 1 ∧ !loc) then pure (none, false)
    else do
      let r ← if h.count = 0 then pure (some []) else rdBytes s brand h.ent (8 * h.count)
      pure (match r with
        | none => (none, true)
        | some eb =>
          let es := (List.range h.count).map (fun j => (fldAt eb (8 * j) 4, fldAt eb (8 * j + 4) 4))
          let last := match es.getLast? with | some e => e.1 | none => noKey
          if es.any (fun e => e.1 == noKey) ∨ !strictly es ∨ h.last ≠ last ∨ h.tieTotal < atKey es last then (none, false)
          else (some (h, es), false))

/-- The union with duplicates merged or discarded: entries, DUPS, DUP_DISC (R210, R211). -/
def mergeUnion (es : List (Nat × Nat)) : List (Nat × Nat) × Nat × Nat :=
  let ids := (es.map (·.2)).eraseDups
  let runOf := fun i => (es.filter (fun e => e.2 == i)).map (·.1)
  let eq := fun (l : List Nat) => l.all (fun x => x == l.headD 0)
  let good := ids.filter (fun i => eq (runOf i))
  (sortEntries (good.map (fun i => ((runOf i).headD 0, i))), (good.map (fun i => (runOf i).length - 1)).foldl (· + ·) 0, ids.length - good.length)

def sum32 (l : List Nat) : Nat := l.foldl (· + ·) 0 % 2 ^ 32

/-- MERGE over inputs (present, address) in the order of MISSING's bits. -/
def mergeWork (s : State) (brand k stroke dst ent unit lunit : Nat) (loc : Bool) (ins : List (Bool × Nat)) : Work :=
  let r := ((ins.mapM (fun p => if p.1 then mergeInput s brand k stroke loc p.2 else pure (none, false)) :
    Rdr (List (Option (ListHdr × List (Nat × Nat)) × Bool)))).run []
  let got := r.1
  let acc := got.filterMap (·.1)
  let miss := ((got.zipIdx.filter (fun p => p.1.1.isNone)).map (fun p => 2 ^ p.2)).foldl (· + ·) 0
  let nMiss := (got.filter (fun p => p.1.isNone)).length
  let rderr := got.any (·.2)
  let total := (acc.map (fun a => a.2.length)).foldl (· + ·) 0
  let spill := !loc && decide (262144 < total)
  if spill ∧ spillShare s < 16 * total then { status := 1, notes := r.2 }
  else
    let u := mergeUnion (acc.flatMap (·.2))
    let out := u.1.take k
    let last := match out.getLast? with | some e => e.1 | none => noKey
    let tie := if out = [] then 0
      else atKey u.1 last + ((acc.filter (fun a => a.1.last == last)).map (fun a => a.1.tieTotal - atKey a.2 last)).foldl (· + ·) 0
    let seen := decide (0 < u.2.1 ∨ 0 < u.2.2) || acc.any (fun a => bit a.1.flags 3)
    let short := decide (out.length < k) && acc.any (fun a => a.1.count == k)
    let st := if rderr then 3 else if 0 < u.2.2 then 7 else if 0 < nMiss then 8 else 0
    let h : ListHdr :=
      { count := out.length, k := k, last := last, tieTotal := tie % 2 ^ 32, tieExcess := (tie - atKey out last) % 2 ^ 32,
        flags := listFlags [true, loc, spill, seen, decide (0 < u.2.2), decide (0 < nMiss), short, rderr], stroke := stroke,
        inTotal := sum32 (acc.map (·.1.inTotal)), inValid := sum32 (acc.map (·.1.inValid)), missing := miss,
        nodes := (acc.map (·.1.nodes)).foldl Nat.lor 0, dups := u.2.1, ent := ent, dupDisc := u.2.2 }
    { writes := listWrites h dst out, scratch := if spill then workingSet s lunit total else [], notes := r.2,
      bumps := [(TNG_MERGE_CNT, 1), (TNG_SPILL_CNT, b2n spill), (TNG_DUP_CNT, u.2.1), (TNG_DUP_DISC_CNT, u.2.2), (TNG_IN_REJECT, nMiss)],
      faults := (if 0 < nMiss then [(0x0D, 0x001, 0, unit)] else []) ++ (if 0 < u.2.2 then [(0x0D, 0x002, 3, unit)] else []) ++ rdFault unit st,
      sets := [(TNG_U_STATUS_SPILL unit, b2n spill), (TNG_U_STATUS_PASS unit, 6)], status := st }

/-- A MERGE command: header lines at INLIST, or the inbox slots of INMASK that were full at placement (R213). -/
def mergeTask (s : State) (t : Task) : Work :=
  let c := t.cmd
  let loc := bit (bf c 21 1) 0
  let ins := if loc then (List.range (bf c 28 1)).map (fun m => (true, bf c 32 8 + 64 * m))
    else (bitList 32 (bf c 24 4)).map (fun i => (bit t.slots i, inboxBase s + 64 * i))
  mergeWork s (qBrand s t.queue) (bf c 16 4) (taskStroke s t) (bf c 40 8) (bf c 48 8) t.punit t.lunit loc ins

def execSelect (unit : Nat) (s : State) : Ans := .next (engineRow s 5 unit [1] selectTask)
def execMerge (unit : Nat) (s : State) : Ans := .next (engineRow s 5 unit [2] mergeTask)

/-- The golden task's first part: the set named by the golden line, selected with K = 16 and its list written at the destination (R413). -/
def tongsGoldSelect (s : State) (t : Task) (unit : Nat) : Work :=
  let g := goldSet t
  let d := goldDst t
  let brand := qBrand s t.queue
  let set := seen s brand g 64
  let stroke := fldAt (seen s brand (fldAt set 0 8) 64) 16 8
  let w := selectWork s brand 16 stroke d (d + 0x40) unit t.lunit false false [{ addr := fldAt set 8 8, map := 0, first := 0, count := 1024 }]
  { w with notes := notesOf s brand g 64 ++ notesOf s brand (fldAt set 0 8) 64 ++ w.notes }

/-- Its second part, in the state the first left: that list merged with the one the set names. -/
def tongsGoldMerge (s s1 : State) (t : Task) (unit : Nat) : Work :=
  let d := goldDst t
  let brand := qBrand s t.queue
  let set := seen s brand (goldSet t) 64
  mergeWork s1 brand 16 (fldAt (seen s brand (fldAt set 0 8) 64) 16 8) (d + 0xC0) (d + 0x100) unit t.lunit false [(true, d), (true, fldAt set 16 8)]

/-- TONGS_GOLDEN (R413): the SELECT list at DST with its entries at DST + 0x40, then the merged list at DST + 0xC0 with its entries at
DST + 0x100 (log 28). -/
def execTongsGolden (unit : Nat) (s : State) : Ans :=
  match engineTask s 5 unit [0x10] with
  | none => .next s
  | some t =>
    let brand := qBrand s t.queue
    let w1 := tongsGoldSelect s t unit
    let s1 := applyWork s brand w1
    let w2 := tongsGoldMerge s s1 t unit
    .next (taskRan (applyWork s1 brand w2) t (if w1.status = 0 then w2.status else w1.status)
      (if cHlm t.cmd then writesHm (writtenLines s brand w1 ++ writtenLines s1 brand w2) else 0))

/- ### The inbox (R212, R213, R216) -/

/-- INBOX_WRITE: a 64-byte write to the header line of an inbox slot, by any brand that may write it. -/
def execInboxWrite (brand slot : Nat) (line : List Nat) (s : State) : Ans :=
  if 32 ≤ slot ∨ line.length ≠ 64 then .next (answer s .error)
  else
    let r := storeBrand s brand (inboxBase s + 64 * slot) line
    .next (answer r.1 (if r.2 then .ok else .error))

/-- Clear the bits of a mask in a W1C word. -/
def clearOnes (old mask hw : Nat) : Nat := Nat.lor (Nat.xor old (Nat.land old mask)) hw

/-- INBOX_CLEAR: a W1C write of `TNG.INBOX_STATUS` (R212). -/
def execInboxClear (brand mask : Nat) (s : State) : Ans :=
  .next (guarded s brand 1 TNG_INBOX_STATUS.addr (fun s => answer (setF s TNG_INBOX_STATUS (clearOnes (getF s TNG_INBOX_STATUS) mask 0)) .ok))

/-- GATHER_OFFSET (R213, R216): the TNG block posts the offset; not applied in REPRO mode (R214). -/
def execGatherOffset (at_ k : Nat) (s : State) : Ans :=
  let s := atTime s at_
  let ofs := if k = 0 then getF s TNG_GATHER_OFS0 else getF s TNG_GATHER_OFS1
  if inRepro s ∨ 2 ≤ k ∨ at_ < s.stk.inst + ofs then .next s else .next (openGate s (gateGather k))

end Sys2Proof.Machine
end

