-- ==== Sys2Proof/Machine/Assay.lean ====
section
/-! DEFINITION. The Assay: its store, its grid, the plan check, the ASSAY and golden tasks, the delta watch, disagreements, doubt and
the cascade's decision at the freeze (R257 to R275, R285 to R289). -/

namespace Sys2Proof.Machine

/- ### Reading the store (R258) -/

/-- A line as a check reads it; none on an uncorrectable error or a wrong CRC. -/
def aLine (s : State) (off : Nat) : Rdr (Option (List Nat)) := fun ns =>
  let r := portLine s (asyBase + off)
  (r.1.bind (fun bs => if crc32c bs = sget zeroCrc s.mem.crcs ((asyBase + off) / 64) then some bs else none), ns ++ r.2)

def aLines (s : State) : Nat → Nat → Rdr (Option (List Nat))
  | 0, _ => pure (some [])
  | k + 1, off => do
    let x ← aLine s off
    let y ← aLines s k (off + 64)
    pure (match x, y with | some p, some q => some (p ++ q) | _, _ => none)

def aBytes (s : State) (off n : Nat) : Rdr (Option (List Nat)) := do
  let x ← aLines s ((off % 64 + n + 63) / 64) (off / 64 * 64)
  pure (x.map (fun bs => (bs.drop (off % 64)).take n))

/-- Bytes of the plan or control area as the monitor pair takes them; zeros where they cannot be read (log 155). -/
def aGet (s : State) (off n : Nat) : List Nat := ((aBytes s off n).run []).1.getD (List.replicate n 0)
/-- What such a read finds, and whether it failed. -/
def aNotes (s : State) (off n : Nat) : List Note := ((aBytes s off n).run []).2
def aFails (s : State) (off n : Nat) : Bool := ((aBytes s off n).run []).1.isNone

def planOff : Nat := 0x7C1000
def orderOff : Nat := planOff
def orderEnt : Nat := planOff + 0x40
def tableOff : Nat := planOff + 0x100
def topkOff : Nat := planOff + 0x500
def poseSlot (k : Nat) : Nat := planOff + 0x1000 + 1024 * k
def goldWorldOff : Nat := 0x7C9000
def headsOff : Nat := 0x7CD000
def poolOff : Nat := 0x7D1000
def poolSize : Nat := 48128

/-- NPOSE of the lists the Assay checks: 32 in Ember mode, 64 otherwise (R463; log 31). -/
def asyNpose (s : State) : Nat := if inEmber s then 32 else 64

/- ### Objects (R259, R263) -/

/-- Where a check finds its world (R257, R286). -/
structure AWorld where
  desc : Nat
  prims : Nat
  verts : Nat
  agents : Nat
  nPrim : Nat
  nAgent : Nat

def heatWorld : AWorld := ⟨0, 0x1000, 0x201000, 0x481000, 65536, 1024⟩
def goldWorld (s : State) : AWorld :=
  let d := aGet s goldWorldOff 64
  ⟨goldWorldOff, goldWorldOff + 0x40, goldWorldOff + 0x2040, goldWorldOff + 0x3040, min 256 (fldAt d 36 4), min 1 (fldAt d 40 2)⟩

/-- An entity as a check tests it: kind 0 primitive, 1 hypothesis, 2 delta entry; `ok` is false when its lines could not be read. -/
structure Obj where
  id : Nat
  kind : Nat := 0
  prim : Option Shape := none
  hyps : List Hyp := []
  ok : Bool := true
  notes : List Note := []

/-- Its shapes in slice k, their radii rounded up to 1/1,048,576 m. -/
def objShapes (tHeat k : Nat) (o : Obj) : List Shape :=
  ((match o.prim with | some p => [p] | none => []) ++ o.hyps.flatMap (fun h => hypShapes h tHeat k)).map
    (fun sh => { sh with r := -(Int.fdiv (-sh.r) 10240) * 10240 })

/-- The band-admitted primitive of an entry, with its vertices' dx, dy. -/
def primObj (s : State) (id kind : Nat) (e : List Nat) (verts : List (Int × Int)) (ns : List Note) : Option Obj :=
  if present e ∧ inBand e (zLo s) (zHi s) then some { id := id, kind := kind, prim := some (primShape e verts), notes := ns } else none

def vertsAt (step : Nat) (b : List Nat) (n : Nat) : List (Int × Int) :=
  (List.range n).map (fun k => (sx 16 (fldAt b (step * k) 2), sx 16 (fldAt b (step * k + 2) 2)))

/-- Primitive `id` of a world. -/
def worldPrim (s : State) (w : AWorld) (id : Nat) : List Obj :=
  let r := (aBytes s (w.prims + 32 * id) 32).run []
  match r.1 with
  | none => [{ id := id, ok := false, notes := r.2 }]
  | some e =>
    if entryKind e = 3 ∧ present e then
      let v := (aBytes s (w.verts + 4 * entryVbase e) (4 * entryNv e)).run r.2
      match v.1 with
      | none => [{ id := id, ok := false, notes := v.2 }]
      | some b => (primObj s id 0 e (vertsAt 4 b (entryNv e)) v.2).toList
    else (primObj s id 0 e [] r.2).toList

/-- The hypotheses with PROB > 0 of agent `id` of a world. -/
def worldAgent (s : State) (w : AWorld) (id : Nat) : List Obj :=
  let r := (aBytes s (w.agents + agentSize * id) agentSize).run []
  match r.1 with
  | none => [{ id := 4 * id, kind := 1, ok := false, notes := r.2 }]
  | some a => ((List.range (agentNh a)).filter (fun h => 0 < (hypOf a h).prob)).map
      (fun h => { id := 4 * id + h, kind := 1, hyps := [hypOf a h], notes := r.2 })

def worldObjs (s : State) (w : AWorld) : List Obj :=
  (List.range w.nPrim).flatMap (worldPrim s w) ++ (List.range w.nAgent).flatMap (worldAgent s w)

/-- The delta entry of a slot: the record as received (R113, R257). -/
def deltaObj (s : State) (slot : Nat) : List Obj :=
  let r := (aBytes s (deltaOff slot) 2688).run []
  match r.1 with
  | none => [{ id := slot, kind := 2, ok := false, notes := r.2 }]
  | some d =>
    if fldAt d 0 1 = 1 then (primObj s slot 2 ((d.drop 18).take 26) (vertsAt 6 (d.drop 48) (fldAt d 19 1)) r.2).toList
    else
      let a := d.drop 16
      [{ id := slot, kind := 2, hyps := ((List.range (agentNh a)).map (hypOf a)).filter (fun h => 0 < h.prob), notes := r.2 }]

def deltaObjs (s : State) (slots : List Nat) : List Obj := slots.flatMap (deltaObj s)

/- ### The grid (R259) -/

/-- Least x, greatest x, least y, greatest y over all slices; none without a shape. -/
def objBox (tHeat : Nat) (o : Obj) : Option (Int × Int × Int × Int) :=
  let shs := if o.prim.isSome then objShapes tHeat 0 o else (List.range 64).flatMap (fun k => objShapes tHeat k o)
  match shs.map bbox with
  | [] => none
  | b :: t => some (t.foldl (fun a c => (min a.1 c.1, max a.2.1 c.2.1, min a.2.2.1 c.2.2.1, max a.2.2.2 c.2.2.2)) b)

/-- Side of a grid cell, 3.2 m, and the least coordinate of column 0 seen from the origin. -/
def cellC : Int := coord 32768
def gridLo : Int := coord (-1048576)

/-- The cells a box overlaps, and whether it extends beyond the grid. -/
def boxCells (ox oy : Int) (b : Int × Int × Int × Int) : List (Nat × Nat) × Bool :=
  let x0 := Int.fdiv (b.1 - ox - gridLo) cellC
  let x1 := Int.fdiv (b.2.1 - ox - gridLo) cellC
  let y0 := Int.fdiv (b.2.2.1 - oy - gridLo) cellC
  let y1 := Int.fdiv (b.2.2.2 - oy - gridLo) cellC
  let span := fun (lo hi : Int) => (List.range 64).filter (fun (i : Nat) => decide (lo ≤ (i : Int) ∧ (i : Int) ≤ hi))
  ((span y0 y1).flatMap (fun j => (span x0 x1).map (fun i => (i, j))), decide (x0 < 0 ∨ y0 < 0 ∨ 63 < x1 ∨ 63 < y1))

/-- An object as the grid lists it. -/
structure Listed where
  o : Obj
  cells : List (Nat × Nat)
  outside : Bool

/-- One list of the pool: its cell (none for the outside list), its first pool index, its entries, and whether it did not fit. -/
structure PoolList where
  cell : Option (Nat × Nat)
  start : Nat
  ents : List Obj
  full : Bool

structure Grid where
  listed : List Listed
  lists : List PoolList

/-- Cells in row-major order, then the outside list; a list that does not fit is left out (log 30). -/
def layGrid (ls : List Listed) : List PoolList :=
  let cells := ((List.range 64).flatMap (fun j => (List.range 64).map (fun i => some (i, j)))) ++ [none]
  (cells.foldl (fun (a : List PoolList × Nat) c =>
    let es := (ls.filter (fun l => match c with | some p => l.cells.contains p | none => l.outside)).map (·.o)
    if poolSize < a.2 + es.length then (a.1 ++ [⟨c, a.2, [], true⟩], a.2) else (a.1 ++ [⟨c, a.2, es, false⟩], a.2 + es.length)) ([], 0)).1

/-- The grid is a pure function of the heat. An object that cannot be read is listed everywhere. -/
def gridOf (s : State) : Grid :=
  let d := aGet s 0 64
  let ox := originC (sx 32 (fldAt d 24 4))
  let oy := originC (sx 32 (fldAt d 28 4))
  let ls := (worldObjs s heatWorld).filterMap (fun o =>
    if !o.ok then some { o := o, cells := [], outside := true : Listed }
    else (objBox (fldAt d 8 8) o).map (fun b => { o := o, cells := (boxCells ox oy b).1, outside := (boxCells ox oy b).2 : Listed }))
  { listed := ls, lists := layGrid ls }

def poolEntry (o : Obj) : Nat := o.id % 65536 + (if o.kind = 1 then 65536 else 0)

/-- The cells a disc reaches. -/
def discCells (ox oy : Int) (c : Int × Int) (r : Int) : List (Nat × Nat) :=
  let gap := fun (x o : Int) (i : Nat) =>
    let lo := o + gridLo + cellC * i
    if x < lo then lo - x else if lo + cellC < x then x - lo - cellC else 0
  (List.range 64).flatMap (fun j => ((List.range 64).filter (fun i =>
    decide (gap c.1 ox i * gap c.1 ox i + gap c.2 oy j * gap c.2 oy j ≤ r * r))).map (fun i => (i, j)))

/- ### Checking a plan (R263, R264) -/

/-- What a check runs over: frame, margin, grid (none: every object), objects. -/
structure ACtx where
  ox : Int
  oy : Int
  tHeat : Nat
  margin : Nat
  beyond : Bool
  grid : Option Grid
  all : List Obj
  foot : List Sphere
  notes : List Note := []
  fail : Bool := false

/-- The centre of a sphere: the true centre and an offset within 1 unit that is left open (log 7). -/
def aCentre (p : Pose) (e : Sphere) : Int × Int :=
  let u := along e.dx p.h
  let v := along e.dy (p.h + 16384)
  let k := Config.assayPick [p.x, p.y, p.h, e.dx, e.dy]
  let r : Nat := 10 * 2 ^ 20
  let a : Int := (k % (2 * r + 1) : Nat) - (r : Int)
  let b : Int := (k / (2 * r + 1) % (2 * r + 1) : Nat) - (r : Int)
  let o := if a * a + b * b ≤ r * r then (a, b) else (0, 0)
  (len1024 p.x + u.1 + v.1 + o.1, len1024 p.y + u.2 + v.2 + o.2)

/-- The outcome of one sphere at one pose. -/
structure ASph where
  heat : List Obj := []
  horizon : Bool := false
  delta : List Obj := []
  tests : Nat := 0
  fail : Bool := false
  notes : List Note := []

/-- The objects a disc is tested against, and the grid lines read for them. -/
def reached (s : State) (x : ACtx) (c : Int × Int) (r : Int) : List Obj × Bool × List Note :=
  match x.grid with
  | none => (x.all, false, [])
  | some g =>
    let cs := discCells x.ox x.oy c r
    let ls := g.lists.filter (fun l => match l.cell with | some p => cs.contains p | none => true)
    let offs := (cs.map (fun p => (headsOff + 4 * (64 * p.2 + p.1)) / 64 * 64) ++
      ls.flatMap (fun l => (List.range l.ents.length).map (fun k => (poolOff + 4 * (l.start + k)) / 64 * 64))).eraseDups
    let rs := (rdMap (aLine s) offs).run []
    let objs := if ls.any (·.full) then g.listed.map (·.o)
      else (g.listed.filter (fun l => l.outside || l.cells.any cs.contains)).map (·.o)
    (objs ++ x.all, rs.1.any (·.isNone), rs.2)

/-- Does an object block the disc? One whose lines could not be read: left open (log 7). -/
def blocks (x : ACtx) (k : Nat) (c : Int × Int) (r : Int) (o : Obj) : Bool :=
  if o.ok then (objShapes x.tHeat k o).any (fun sh => decide (signedDist sh c < r)) else Config.assayPick [o.id, o.kind, c.1, c.2] % 2 == 1

def checkSphere (s : State) (x : ACtx) (p : Pose) (e : Sphere) : ASph :=
  let c := aCentre p e
  let r := len1024 ((e.r + x.margin + 1 : Nat) : Int)
  let far := decide (26215 ≤ p.t)
  let k := 10 * p.t / 4096
  let q := reached s x c r
  let os := q.1.filter (fun o => o.prim.isSome || !o.ok || (!far && !(objShapes x.tHeat k o).isEmpty))
  let bs := os.filter (blocks x k c r)
  { heat := bs.filter (fun o => o.kind != 2), delta := bs.filter (fun o => o.kind == 2), horizon := far && !x.beyond,
    tests := os.length, fail := q.2.1 || os.any (fun o => !o.ok), notes := q.2.2 ++ os.flatMap (·.notes) }

/-- The outcome of a plan: its verdict without GIDX, the tests run, whether world or grid lines failed, what the reads found. -/
structure ACheck where
  v : Verdict
  tests : Nat := 0
  fail : Bool := false
  notes : List Note := []

def badShape (ps : List Pose) (bs : List Nat) : Bool :=
  let p0 := ps.getD 0 {}
  !rising ps || bs.all (· == 0xFF) || ps.any (fun p => decide (2 ^ 23 ≤ (p.x - p0.x).natAbs ∨ 2 ^ 23 ≤ (p.y - p0.y).natAbs))

/-- The entity recorded, when several block the sphere, is left open (log 7). -/
def pickObj (os : List Obj) : Obj := os.getD (Config.assayPick (os.map (fun o => (o.id : Int))) % max 1 os.length) { id := 0 }

/-- Check the bytes of a pose list. -/
def checkPoses (s : State) (x : ACtx) (n : Nat) (bs : List Nat) : ACheck :=
  let ps := posesOf bs n
  if badShape ps bs then { v := ⟨0, 4, 0, 0, 0, false⟩ }
  else
    let rs := ps.zipIdx.flatMap (fun p => x.foot.zipIdx.map (fun e => (p.2, e.2, checkSphere s x p.1 e.1)))
    let v : Verdict :=
      match rs.find? (fun r => r.2.2.horizon || !r.2.2.heat.isEmpty) with
      | some (q, e, a) =>
        let o := pickObj a.heat
        if a.heat.isEmpty then ⟨0, 1, q, e, Config.assayPick [q, e] % 65536, Config.assayPick [e, q] % 2 == 1⟩
        else ⟨0, 1, q, e, o.id, o.kind == 1⟩
      | none => match rs.find? (fun r => !r.2.2.delta.isEmpty) with
        | some (q, e, a) => ⟨0, 2, q, e, (pickObj a.delta).id, false⟩
        | none => ⟨0, 0, 0, 0, 0, false⟩
    { v := v, tests := (rs.map (fun r => r.2.2.tests)).foldl (· + ·) 0, fail := x.fail || rs.any (fun r => r.2.2.fail),
      notes := (x.notes ++ rs.flatMap (fun r => r.2.2.notes)).eraseDups }

/-- Check the list of a plan slot; a CRC failure there is DATA_ERR. -/
def checkSlot (s : State) (x : ACtx) (n k : Nat) : ACheck :=
  let r := (aBytes s (poseSlot k) (16 * n)).run []
  match r.1 with
  | none => { v := ⟨0, 3, 0, 0, 0, false⟩, notes := r.2 }
  | some bs => let c := checkPoses s x n bs; { c with notes := r.2 ++ c.notes }

/-- The context of the sealed heat: the grid, when asked for, and the given delta slots. -/
def heatCtx (s : State) (foot : Nat) (grid : Bool) (slots : List Nat) : ACtx :=
  let d := aGet s 0 64
  { ox := originC (sx 32 (fldAt d 24 4)), oy := originC (sx 32 (fldAt d 28 4)), tHeat := fldAt d 8 8, margin := getF s ASY_CFG0_AMARGIN,
    beyond := getF s HAM_CFG0_BEYOND == 1, grid := if grid then some (gridOf s) else none, all := deltaObjs s slots, foot := footOf s foot,
    notes := aNotes s 0 64, fail := aFails s 0 64 }

def verdictBytes (v : Verdict) : List Nat :=
  leBytes 16 (v.gidx % 2 ^ 32 + v.result % 8 * 2 ^ 32 + v.pose % 64 * 2 ^ 35 + v.sphere % 16 * 2 ^ 41 + v.entity % 65536 * 2 ^ 64 + b2n v.hyp * 2 ^ 80)

/- ### Doubt and disagreement (R269, R271, R272) -/

def asyFault (s : State) (code cls : Nat) : State := sendFault s 0x0F code cls (assayUnit s)

/-- The Assay is in doubt for the heat; the record is written once. -/
def doubt (s : State) : State := if flag s ASY_STATUS_DOUBT then s else asyFault (setF s ASY_STATUS_DOUBT 1) 0x007 3

/-- The physical Hammer that completed a re-check (R271); when its log entry is gone, its number is left open (log 2). -/
def recheckUnit (s : State) (tag : Nat) : Nat × State :=
  match loggedUnit s tag with
  | some (u, _) => (u, s)
  | none => let f := fresh s; (Config.freeValue f.1 % 144, f.2)

/-- A BLOCKED_HEAT verdict on an order entry. -/
def disagreement (s : State) (tag : Nat) : State :=
  let r := recheckUnit s tag
  let u := r.1
  let s := r.2
  let e := 56 + u
  let armed := flag s ASY_STATUS_ARMED
  let again := s.asy.disagree.any (fun p => p.2 == u)
  let win := s.asy.disagree ++ [(s.stk.no, u)]
  let s := { s with asy := { s.asy with disSeen := true, disagree := win, armedHit := s.asy.armedHit || armed } }
  let s := setF (sendFault s 0x0F 0x002 3 u) ASY_STATUS_DIS_WIN (min 255 win.length)
  let s := match servesIndex s e with | some (_, l) => wantGold s 4 l | none => s
  let s := if again then fenceUnit (sendFault s 0x0F 0x00C 2 u) e false else s
  if 3 ≤ win.length ∧ !armed then setF (asyFault s 0x006 4) ASY_STATUS_ARMED 1 else s

/- ### The carry-over (R273) -/

def carryGo (decel : Nat) (dt : Nat) : Nat → Pose → List Pose
  | 0, _ => []
  | k + 1, p =>
    let v1 := p.s - decel * dt / 4096
    let ds : Int := ((p.s + v1) * dt / 2048 : Nat)
    let n := sinIdx p.h
    let q : Pose := { x := p.x + ashr (ds * cosT n) 30, y := p.y + ashr (ds * sineT n) 30, h := p.h, s := v1, c := 0, t := p.t + dt }
    q :: carryGo decel dt k q

/-- The carry-over of a heat at tHeat from D's poses, in the odometry frame; none when it is unavailable. -/
def carryOver (s : State) (ds : List Pose) (tD tHeat : Nat) : Option (List Pose) :=
  let shift : Int := -(Int.fdiv (-(((tHeat : Int) - tD) * 4096)) (10 ^ 9))
  let kept := (ds.filter (fun p => decide (0 ≤ (p.t : Int) - shift))).map (fun p => { p with t := ((p.t : Int) - shift).toNat })
  let n := ds.length
  let dt := (ds.getD (n - 1) {}).t - (ds.getD (n - 2) {}).t
  let out := kept ++ carryGo (getF s ASY_CFG1_CO_DECEL) dt (n - kept.length) (kept.getD (kept.length - 1) {})
  if kept.length < getF s ASY_CFG0_CO_MIN ∨ kept = [] ∨ out.any (fun p => decide (0xFFFF < p.t)) then none else some out

/- ### The ASSAY task (R262, R265) -/

/-- A copy by the load channel, with the queue's brand; false when the read failed. -/
def loadCopy (s : State) (brand src off n : Nat) : State × Bool :=
  let r := (rdBytes s brand src n).run []
  let s := notesFx s r.2
  match r.1 with
  | some bs => (bump (asyStore s off bs) BLW_ALC_LINES ((n + 63) / 64), true)
  | none => (s, false)

def recordVerdict (s : State) (v : Verdict) : State :=
  let n := s.asy.verdicts.length
  asyStore { s with asy := { s.asy with verdicts := s.asy.verdicts ++ [v] } } (0x80 + 16 * n) (verdictBytes v)

/-- The counters of a verdict (R289). -/
def countVerdict (s : State) (v : Verdict) : State :=
  bump s (match v.result with | 0 => ASY_CLEAR_CNT | 1 => ASY_BLK_HEAT | 2 => ASY_BLK_DELTA | _ => ASY_DATA_ERR) 1

/-- A checked plan: what its reads found, the counters, doubt, the verdict record. -/
def noteCheck (s : State) (c : ACheck) (gidx : Nat) : State :=
  let s := countVerdict (bump (notesFx s c.notes.eraseDups) ASY_CHECKS 1) c.v
  let s := if c.fail then doubt s else s
  recordVerdict s { c.v with gidx := gidx }

/-- The carry-over's poses from D in slot 25, when D is known, readable and long enough. -/
def carryPoses (s : State) : Option (List Pose) :=
  match s.pln.delivered with
  | none => none
  | some (bs, tD) =>
    match ((aBytes s (poseSlot 25) (16 * (bs.length / 16))).run []).1 with
    | none => none
    | some b => carryOver s (posesOf b (bs.length / 16)) tD (fldAt (aGet s 0 64) 8 8)

/-- The lines of the carry-over list, which the Assay writes (R24, R273). -/
def carryWrites (s : State) : List (Nat × List Nat) :=
  match carryPoses s with
  | some ps => [(asyBase + poseSlot 24, ps.flatMap poseBytes)]
  | none => []

/-- Build and check the carry-over into slot 24. -/
def assayCarry (s : State) (foot : Nat) (slots : List Nat) : State :=
  match s.pln.delivered with
  | none => s
  | some (bs, tD) =>
    let n := bs.length / 16
    let r := (aBytes s (poseSlot 25) (16 * n)).run []
    match r.1 with
    | none =>
      let c : ACheck := { v := ⟨0, 3, 0, 0, 0, false⟩, notes := r.2 }
      { noteCheck s c 0xFFFFFFFF with asy := { (noteCheck s c 0xFFFFFFFF).asy with carry := some c.v } }
    | some b =>
      match carryOver s (posesOf b n) tD (fldAt (aGet s 0 64) 8 8) with
      | none => s
      | some ps =>
        let s := asyStore s (poseSlot 24) (ps.flatMap poseBytes)
        let c := checkSlot s (heatCtx s foot true slots) n 24
        let s := noteCheck s c 0xFFFFFFFF
        { s with asy := { s.asy with carry := some c.v } }

/-- The order entries the copied list has, by the task's NCHECK. -/
def orderCount (s : State) : Nat := match s.asy.task with
  | some c => if s.asy.orderBad then 0 else min (bf c 32 1) (fldAt (aGet s orderOff 64) 0 4)
  | none => 0

def orderKey (s : State) (k : Nat) : Nat := fldAt (aGet s (orderEnt + 8 * k) 8) 0 4
def orderGidx (s : State) (k : Nat) : Nat := fldAt (aGet s (orderEnt + 8 * k) 8) 4 4

/-- The plan table entry of a global index: RECHK_TAG and LIST. -/
def planEntry (s : State) (gidx : Nat) : Option (Nat × Nat) :=
  match s.asy.task with
  | none => none
  | some c =>
    ((List.range (bf c 33 1)).map (fun p => aGet s (tableOff + 16 * p) 16)).findSome?
      (fun b => if fldAt b 0 4 = gidx then some (fldAt b 4 4, fldAt b 8 8) else none)

/-- The consequences of an order entry's verdict (R270 to R272). -/
def orderFx (s : State) (k tag : Nat) (v : Verdict) : State :=
  match v.result with
  | 0 => { s with asy := { s.asy with chosen := some (k, s.asy.verdicts.length - 1) } }
  | 1 => disagreement s tag
  | 2 => { asyFault s 0x001 0 with asy := { (asyFault s 0x001 0).asy with urgentHit := true } }
  | _ => { asyFault s 0x003 3 with asy := { (asyFault s 0x003 3).asy with dataErr := true } }

/-- Check order entry k. -/
def orderOne (s : State) (slots : List Nat) (k : Nat) : State :=
  let g := orderGidx s k
  match planEntry s g with
  | none => asyFault s 0x00A 0
  | some (tag, _) =>
    let foot := match s.asy.task with | some c => bf c 34 1 | none => 0
    let c := checkSlot s (heatCtx s foot true slots) (asyNpose s) k
    orderFx (noteCheck s c g) k tag c.v

/-- Continue the order list from its next entry to the first CLEAR one. -/
def orderGo (slots : List Nat) : Nat → State → State
  | 0, s => s
  | f + 1, s =>
    if s.asy.chosen.isSome ∨ s.asy.armedHit ∨ orderCount s ≤ s.asy.pos then s
    else
      let k := s.asy.pos
      orderGo slots f (orderOne { s with asy := { s.asy with pos := k + 1 } } slots k)

/-- The copies of R262. -/
def copyPlans (s : State) (brand : Nat) (c : List Nat) : State :=
  let h := loadCopy s brand (bf c 16 8) orderOff 64
  let s := h.1
  let hdr := hdrOf (aGet s orderOff 64)
  let good := h.2 && bit hdr.flags 0 && bit hdr.flags 1
  let n := min (bf c 32 1) hdr.count
  let e := if good ∧ 0 < n then loadCopy s brand hdr.ent orderEnt (8 * n) else (s, true)
  let p := loadCopy e.1 brand (bf c 24 8) tableOff (16 * bf c 33 1)
  let t := loadCopy p.1 brand (bf c 48 8) topkOff 64
  let s := if t.2 then t.1 else asyStore t.1 topkOff (List.replicate 64 0)
  let bad := !(good && e.2 && p.2)
  let s := { s with asy := { s.asy with orderBad := bad } }
  let s := notesFx s (aNotes s orderOff 64 ++ aNotes s orderEnt (8 * n) ++ aNotes s tableOff (16 * bf c 33 1)).eraseDups
  let s := if bad then asyFault s 0x00A 0 else s
  (List.range (orderCount s)).foldl (fun s k =>
    match planEntry s (orderGidx s k) with
    | none => s
    | some (_, list) =>
      let r := loadCopy s brand list (poseSlot k) (16 * asyNpose s)
      if r.2 then r.1 else setErr r.1 (asyBase + poseSlot k) poison) s

/-- What an ASSAY task does from its start to its status. -/
def assayTask (s : State) (t : Task) : State :=
  let c := t.cmd
  let slots := List.range s.asy.nDelta
  let s := { s with asy := { s.asy with task := some c, verdicts := [], carry := none, chosen := none, pos := 0, deltaSeen := s.asy.nDelta,
                                        done := true } }
  let s := copyPlans s (qBrand s t.queue) c
  let s := orderGo slots 24 (assayCarry s (bf c 34 1) slots)
  let carried := if s.asy.carry.isSome then carryWrites s else []
  let hm := writesHm (s.asy.verdicts.zipIdx.map (fun v => (asyBase + 0x80 + 16 * v.2, verdictBytes v.1)) ++ carried)
  taskRan (setF s (ASY_U_STATUS_PHASE t.punit) 3) t (if s.asy.chosen.isSome then 0 else 0x0B) (if cHlm c then hm else 0)

/-- ASSAY (R261 to R265). -/
def execAssay (unit : Nat) (s : State) : Ans :=
  match engineTask s 7 unit [1] with
  | some t => .next (assayTask s t)
  | none => .next s

/- ### The golden task (R285, R286) -/

def goldLineOk (b : List Nat) : Bool :=
  fldAt b 0 8 % 64 == 0 && fldAt b 8 8 % 64 == 0 && decide (fldAt b 16 1 < 4) && (fldAt b 17 1 == 32 || fldAt b 17 1 == 64) && zeroAt b 18 46

def goldCtx (s : State) (foot : Nat) : ACtx :=
  let d := aGet s goldWorldOff 64
  { ox := 0, oy := 0, tHeat := fldAt d 8 8, margin := getF s ASY_CFG0_AMARGIN, beyond := getF s HAM_CFG0_BEYOND == 1, grid := none,
    all := worldObjs s (goldWorld s), foot := footOf s foot, notes := aNotes s goldWorldOff 64 }

def assayGoldTask (s : State) (t : Task) : State :=
  let brand := qBrand s t.queue
  let r := (rdBytes s brand (goldSet t) 64).run []
  let s := notesFx s r.2
  match r.1 with
  | none => taskRan s t 3 0
  | some b =>
    if !goldLineOk b ∨ footN s (fldAt b 16 1) = 0 then taskRan s t 1 0
    else
      let n := fldAt b 17 1
      let a := loadCopy s brand (fldAt b 0 8) (poseSlot 26) (16 * n)
      let c := loadCopy a.1 brand (fldAt b 8 8) (poseSlot 27) (16 * n)
      let s := c.1
      if !(a.2 && c.2) then taskRan s t 3 0
      else
        let x := goldCtx s (fldAt b 16 1)
        let s := setF s (ASY_U_STATUS_PHASE t.punit) 3
        let k0 := checkSlot s x n 26
        let k1 := checkSlot s x n 27
        let line := verdictBytes k0.v ++ verdictBytes { k1.v with gidx := 1 } ++ leBytes 4 k0.tests ++ leBytes 4 k1.tests ++ List.replicate 24 0
        finishWork s t { writes := [(goldDst t, line)], notes := k0.notes ++ k1.notes }

/-- ASSAY_GOLDEN (R285, R286). -/
def execAssayGolden (unit : Nat) (s : State) : Ans :=
  match engineTask s 7 unit [2] with
  | some t => .next (assayGoldTask s t)
  | none => .next s

/- ### READY (R259, R260) -/

/-- Word k of the grid heads has no stated form: its bytes are left open (log 30). -/
def headBytes (s : State) : List Nat := (List.range 4096).flatMap (fun k => leBytes 4 (Config.freeValue (s.free + k)))

/-- ASSAY_GRID_DONE: the grid stands in the store and READY sets. -/
def execAssayGridDone (at_ : Nat) (s : State) : Ans :=
  let s := atTime s at_
  if !s.asy.gridding then .next s
  else
    let g := gridOf s
    let fail := g.listed.any (fun l => !l.o.ok)
    let pool := g.lists.flatMap (fun l => l.ents.flatMap (fun o => leBytes 4 (poolEntry o)))
    let fail := fail || aFails s 0 64
    let s := notesFx s (aNotes s 0 64 ++ (worldObjs s heatWorld).flatMap (·.notes)).eraseDups
    let s := asyStore { asyStore s headsOff (headBytes s) with free := s.free + 4096 } poolOff pool
    let s := setF s ASY_GRID_FULL (g.lists.filter (fun l => l.full && l.cell.isSome)).length
    let s := setF (setF s ASY_STATUS_READY 1) ASY_LOAD_NS (s.time - s.wld.heatInst)
    let s := showAssay { s with asy := { s.asy with gridding := false } }
    .next (if fail then doubt s else s)

/- ### The watch and the freeze (R266, R267, R270) -/

/-- The plan in a slot is blocked by the next delta entry; its verdict record follows. -/
def watchSlot (s : State) (n slot idx : Nat) (foot : Nat) : State × Bool :=
  let c := checkSlot s (heatCtx s foot false [s.asy.deltaSeen]) n slot
  let s := notesFx s c.notes.eraseDups
  let s := if c.fail then doubt s else s
  if c.v.result = 0 then (s, false)
  else
    let g := ((s.asy.verdicts[idx]?).map (·.gidx)).getD 0
    let v := { c.v with gidx := g }
    let s := countVerdict { s with asy := { s.asy with verdicts := setAt s.asy.verdicts idx v } } v
    (asyStore s (0x80 + 16 * idx) (verdictBytes v), true)

/-- One delta entry is checked against the carry-over and the chosen plan; a blocked choice continues the order list. -/
def watchOne (s : State) : State :=
  match s.asy.task with
  | none => s
  | some c =>
    if s.asy.nDelta ≤ s.asy.deltaSeen then s
    else
      let foot := bf c 34 1
      let s := match s.asy.carry, s.pln.delivered with
        | some v, some (bs, _) =>
          if v.result = 0 then
            let r := watchSlot s (bs.length / 16) 24 0 foot
            if r.2 then { r.1 with asy := { r.1.asy with carry := r.1.asy.verdicts[0]? } } else r.1
          else s
        | _, _ => s
      let seen := s.asy.deltaSeen + 1
      let s := match s.asy.chosen with
        | none => { s with asy := { s.asy with deltaSeen := seen } }
        | some (k, idx) =>
          let r := watchSlot s (asyNpose s) k idx foot
          let s := { r.1 with asy := { r.1.asy with deltaSeen := seen } }
          if !r.2 then s
          else
            let v := (s.asy.verdicts[idx]?).getD ⟨0, 2, 0, 0, 0, false⟩
            let s := { s with asy := { s.asy with chosen := none } }
            let s := orderFx s k 0 (if v.result = 1 then { v with result := 2 } else v)
            orderGo (List.range seen) 24 s
      s

/-- DELTA_WATCH_CHECK (R266). -/
def execDeltaWatchCheck (s : State) : Ans := if s.asy.watching ∧ !s.asy.frozen then .next (watchOne s) else .next s

def watchAll : Nat → State → State
  | 0, s => s
  | k + 1, s => watchAll k (watchOne s)

/-- The Assay golden check of the stroke at the freeze (R269, R285). -/
def goldenAtFreeze (s : State) : State :=
  if s.asy.goldenPass then s
  else
    let s := doubt s
    match inService s 7 0 with
    | some e => if s.tabX.goldDone.contains (goldTag 7 0) then s else goldenFail s e
    | none => s

/-- The first row of R270 that applies, cases 3 to 7. -/
def cascade (s : State) : Nat :=
  if flag s ASY_STATUS_DOUBT then 3
  else if flag s CRU_FIELD_STATUS_INCONSISTENT ∨ s.asy.shadowBad ∨ flag s THM_STATUS_CRIT ∨ s.asy.spareOutFence ∨ s.asy.armedHit ∨
      flag s FLT_STATUS_SAFE then 4
  else if s.asy.chosen.isSome then 5
  else match s.asy.carry with
    | some v => if v.result = 0 then 6 else 7
    | none => 7

/-- What the choice of a case is made of: the list of the chosen order entry, or the carry-over's (R270). -/
def chosenBytes (s : State) (case : Nat) : List Nat :=
  if case = 5 then
    match s.asy.chosen with
    | some (k, _) => aGet s (poseSlot k) (16 * asyNpose s)
    | none => []
  else if case = 6 then
    match s.pln.delivered with
    | some d => aGet s (poseSlot 24) (16 * (d.1.length / 16))
    | none => []
  else []

/-- No strike of the heat has run, because a layer has not been READY (R112; log 156). -/
def noStrikes (s : State) : Bool := !(flag s CRU_FIELD_STATUS_STATIC_READY && flag s CRU_FIELD_STATUS_DYN_READY)

/-- The node's selection is not there: the TOPK header that was copied is not of this heat's stroke (R219; log 156). -/
def lateSelection (s : State) : Bool :=
  let top := hdrOf (aGet s topkOff 64)
  !bit top.flags 0 || top.stroke != sealedStroke s

/-- A deadline miss reaches cases 5 to 7 (R112, R219, R270); REPRO mode has none (R284). -/
def deadline (s : State) (case : Nat) : Bool :=
  !inRepro s && decide (5 ≤ case) && (s.asy.cutSeen || s.asy.orderBad || !s.asy.done || noStrikes s || lateSelection s)

/-- The FLAGS bits that the choice fixes (R278). -/
def choiceFlags (s : State) (case : Nat) (ps : List Pose) : Nat :=
  let top := hdrOf (aGet s topkOff 64)
  let own := decide (case = 5 ∨ case = 6)
  let src0 := decide (case = 5)
  let pos := match s.asy.chosen with | some p => p.1 | none => 0
  listFlags [src0 && decide (pos ≠ 0), decide (case = 6), decide (case = 1 ∨ case = 4 ∨ case = 7), decide (case = 3), s.asy.disSeen, false,
    s.asy.urgentHit, false, s.asy.dataErr, deadline s case, false, own && bit top.flags 5, own && (bit top.flags 3 || bit top.flags 4), false,
    src0 && flag s HAM_CFG0_BEYOND && ps.any (fun p => decide (26215 ≤ p.t))]

/-- A logged hallmark of the heat's strokes under a CMDTAG (R335); only entries logged since the seal belong to this heat. -/
def heatHm (s : State) (tag : Nat) : Nat :=
  let n := getF s HLM_LOG_SIZE
  let wr := getF s HLM_LOG_WR
  let k := min n (sub32 wr s.wld.hlmSeal)
  match ((List.range k).map (fun i => hlogBase s + sub32 wr (1 + i) % max 1 n * 16)).find? (fun a => leNat (peek s a 4) == tag) with
  | some a => leNat (peek s (a + 8) 8)
  | none => 0

/-- The fields of a SOURCE 0 or 1 message taken from the selection and the hallmark log; zero for SOURCE 2 (R276). -/
def sourceFields (s : State) (case : Nat) : List (Nat × Nat × Nat) :=
  if case = 5 ∨ case = 6 then
    let top := hdrOf (aGet s topkOff 64)
    let c := s.asy.task.getD []
    let hms := (List.range (bf c 40 4)).foldl (fun h i => Nat.xor h (heatHm s ((bf c 36 4 + i) % 2 ^ 32))) 0
    let chosen := match s.asy.chosen with
      | some (k, _) => if case = 5 then [(69, 1, k), (76, 4, orderGidx s k), (80, 4, orderKey s k)] else [(69, 1, 0xFF), (76, 4, noKey), (80, 4, noKey)]
      | none => [(69, 1, 0xFF), (76, 4, noKey), (80, 4, noKey)]
    chosen ++ [(72, 4, top.inTotal), (84, 4, top.tieExcess), (88, 2, top.nodes), (100, 8, hms), (108, 8, heatHm s (bf c 44 4))]
  else []

/-- What is decided in a case: nothing the Assay does later changes it (R266). -/
def decisionOf (s : State) (case : Nat) : Decided :=
  let bs := chosenBytes s case
  { case := case, seen := s.asy.deltaSeen, poses := bs, fields := sourceFields s case, flags := choiceFlags s case (posesOf bs (bs.length / 16)) }

/-- The decision. During a takeover of a safety island role no plan is decided (R438). -/
def decideCase (s : State) : State :=
  let s := { s with asy := { s.asy with frozen := true, nFrozen := s.asy.nDelta } }
  if s.flt.takeover.isSome ∨ islandDown s then s
  else { s with pln := { s.pln with decided := some (decisionOf s (cascade s)) } }

/-- ASSAY_FREEZE (R266, R270): not in REPRO mode (R267). -/
def execAssayFreeze (at_ : Nat) (s : State) : Ans :=
  let s := atTime s at_
  if !s.stk.any ∨ inRepro s ∨ !isManager s ∨ s.asy.frozen ∨ s.pln.strokeLoss ∨ at_ < s.stk.inst + getF s ASY_FREEZE_OFS then .next s
  else
    let s := endWatch (if s.asy.watching then watchAll (s.asy.nDelta - s.asy.deltaSeen) s else s)
    .next (decideCase (goldenAtFreeze s))

end Sys2Proof.Machine
end

