-- ==== Sys2Proof/Machine/Quench.lean ====
section
/-! DEFINITION. The Quench: numbers, programs, kernels, refinement, deadline and outputs (R225 to R256). -/

namespace Sys2Proof.Machine

/- ### Numbers (R226, R227). The state of a computation is the system's OVF flag. -/

abbrev Fix := StateM Bool

def satTo (lo hi x : Int) : Fix Int := fun o => if x < lo then (lo, true) else if hi < x then (hi, true) else (x, o)
def sat32 (x : Int) : Fix Int := satTo (-(2 ^ 31)) (2 ^ 31 - 1) x
def sat64 (x : Int) : Fix Int := satTo (-(2 ^ 63)) (2 ^ 63 - 1) x
def rnd (acc : Int) (s : Nat) : Int := if s = 0 then acc else Int.fdiv (acc + 2 ^ (s - 1)) (2 ^ s)

/-- recip(d) as (m, p, sign is negative). -/
def recip (fm : Nat) (d : Int) : Nat × Nat × Bool :=
  let a := d.natAbs
  let z := a.log2
  (2 ^ (31 + z) / a, 31 + z - fm, decide (d < 0))

def mulr (x : Int) (r : Nat × Nat × Bool) : Fix Int :=
  let v := rnd (x * (r.1 : Nat)) r.2.1
  sat32 (if r.2.2 then -v else v)

/-- acc ± Σ of products, each step held to 64 bits. -/
def accSum (neg : Bool) (acc : Int) : List (Int × Int) → Fix Int
  | [] => pure acc
  | p :: t => do
    let a ← sat64 (if neg then acc - p.1 * p.2 else acc + p.1 * p.2)
    accSum neg a t

/- ### Programs (R228, R229) -/

def pN (p : QProg) : Nat := fldAt p.hdr 0 1
def pM (p : QProg) : Nat := fldAt p.hdr 1 1
def pKernel (p : QProg) : Nat := fldAt p.hdr 2 1
def pNormal (p : QProg) : Bool := bit (fldAt p.hdr 3 1) 0
def pFM (p : QProg) : Nat := fldAt p.hdr 4 1
def pFV (p : QProg) : Nat := fldAt p.hdr 5 1
def pRSH (p : QProg) : Nat := fldAt p.hdr 6 1
def pStride (p : QProg) : Nat := fldAt p.hdr 7 1
def pAccept (p : QProg) : Nat := fldAt p.hdr 8 4
def pAsm (p : QProg) : List Nat := p.instrs.take (fldAt p.hdr 12 2)
def pOut (p : QProg) : List Nat := (p.instrs.drop (fldAt p.hdr 12 2)).take (fldAt p.hdr 14 2)
def pSrc (p : QProg) (j : Nat) : Nat := fldAt p.hdr (32 + j) 1
def pDelta (p : QProg) (j : Nat) : Int := (p.cols.getD j (1, 0, 0, 0)).1
def pLambda (p : QProg) (j : Nat) : Int := (p.cols.getD j (1, 0, 0, 0)).2.1
def pLo (p : QProg) (j : Nat) : Int := (p.cols.getD j (1, 0, 0, 0)).2.2.1
def pHi (p : QProg) (j : Nat) : Int := (p.cols.getD j (1, 0, 0, 0)).2.2.2

/-- What a system's instructions read: ego words, reference poses, the iterate. -/
structure QIn where
  ego : List Int
  ref : List Pose
  z : List Int

/-- The interpreter's state: accumulators, temporaries, matrix, vector and pose stores, loop, OVF. -/
structure QSt where
  acc : List Int := [0, 0, 0, 0]
  t : List Int := List.replicate 16 0
  mat : List ((Nat × Nat) × Int) := []
  vec : List (Nat × Int) := []
  poses : List Pose := []
  q : Nat := 0
  l : Nat := 0
  loop : Option (Nat × Nat × Nat) := none
  ovf : Bool := false

def poseField (p : Pose) : Nat → Int
  | 0 => p.x | 1 => p.y | 2 => p.h | 3 => p.s | 4 => p.c | _ => p.t

/-- An operand (R229). -/
def qOperand (p : QProg) (i : QIn) (st : QSt) (o : Nat) : Int :=
  let idx := o % 512
  match o / 512 with
  | 0 => st.t.getD (idx % 16) 0
  | 1 => i.ego.getD idx 0
  | 2 => poseField (i.ref.getD (clampI 0 63 ((st.q : Int) + sx 6 (idx / 8))).toNat {}) (idx % 8)
  | 3 => i.z.getD idx 0
  | 4 => p.coefs.getD (idx + st.l * pStride p) 0
  | 5 => p.coefs.getD idx 0
  | 6 => sx 9 idx
  | _ => if idx = 0 then st.q else st.l

def qAcc (st : QSt) (k : Nat) (v : Int) : QSt :=
  let r := (sat64 v).run st.ovf
  { st with acc := st.acc.set k r.1, ovf := r.2 }

/-- STP: HEADING modulo 2^16, every other field saturates with OVF (R244). -/
def storePose (st : QSt) (f : Nat) (v : Int) : QSt :=
  let p := st.poses.getD st.q {}
  let put := fun (p : Pose) (o : Bool) => { st with poses := st.poses.set st.q p, ovf := o }
  let r := fun (lo hi : Int) => (satTo lo hi v).run st.ovf
  match f with
  | 0 => put { p with x := v } st.ovf
  | 1 => put { p with y := v } st.ovf
  | 2 => put { p with h := toU 16 v } st.ovf
  | 3 => put { p with s := (r 0 65535).1.toNat } (r 0 65535).2
  | 4 => put { p with c := (r (-32768) 32767).1 } (r (-32768) 32767).2
  | _ => put { p with t := (r 0 65535).1.toNat } (r 0 65535).2

/-- One instruction other than LOOP, ENDL and END (R230). -/
def qInstr (p : QProg) (i : QIn) (st : QSt) (w : Nat) : QSt :=
  let k := bits w 6 2
  let td := bits w 8 4
  let a := qOperand p i st (bits w 12 12)
  let b := qOperand p i st (bits w 24 12)
  let sh := bits w 36 6
  let dest := bits w 42 16
  let ak := st.acc.getD k 0
  let tv := st.t.getD td 0
  let row := bits dest 0 7 + (if bit w 58 then st.l else 0)
  let setT := fun (v : Int) => { st with t := st.t.set td v }
  let n := ((toU 16 a) + 8) / 16 % 4096
  match bits w 0 6 with
  | 0x01 => { st with acc := st.acc.set k 0 }
  | 0x02 => qAcc st k (ak + a * b)
  | 0x03 => qAcc st k (ak - a * b)
  | 0x04 => qAcc st k (ak + a * 2 ^ sh)
  | 0x05 => let r := (sat32 (rnd ak sh)).run st.ovf; { st with t := st.t.set td r.1, ovf := r.2 }
  | 0x06 => setT ((a - b + 2 ^ 15) % 2 ^ 16 - 2 ^ 15)
  | 0x07 => setT (sineT n)
  | 0x08 => setT (cosT n)
  | 0x09 => setT a
  | 0x10 => { st with mat := ((row, bits dest 7 6), tv) :: st.mat.filter (fun e => e.1 != (row, bits dest 7 6)) }
  | 0x11 => { st with vec := (row, tv) :: st.vec.filter (fun e => e.1 != row) }
  | 0x12 => storePose st (bits dest 0 3) tv
  | _ => st

/-- Run a section from instruction pc with loops, until END. -/
def qRun (p : QProg) (i : QIn) (prog : List Nat) : Nat → Nat → QSt → QSt
  | 0, _, st => st
  | k + 1, pc, st =>
    match prog[pc]? with
    | none => st
    | some w =>
      match bits w 0 6 with
      | 0x1F => st
      | 0x18 => qRun p i prog k (pc + 1) { st with l := 0, q := bits w 42 6, loop := some (pc, bits w 36 6, bits w 42 16) }
      | 0x19 =>
        match st.loop with
        | some (start, n, d) =>
          if st.l < n then qRun p i prog k (start + 1) { st with l := st.l + 1, q := bits d 0 6 + (st.l + 1) * bits d 6 6 }
          else qRun p i prog k (pc + 1) { st with l := 0, q := 0, loop := none }
        | none => qRun p i prog k (pc + 1) st
      | _ => qRun p i prog k (pc + 1) (qInstr p i st w)

/-- The n-th section run of a system. Temporaries and accumulators hold values the rules leave open; the matrix and the vector are zero. -/
def runSection (p : QProg) (i : QIn) (n : Nat) (prog : List Nat) (poses : List Pose) : QSt :=
  qRun p i prog 65536 0
    { poses := poses, acc := (List.range 4).map (fun k => (Config.quenchAcc n k).toInt),
      t := (List.range 16).map (fun k => (Config.quenchTemp n k).toInt) }

/- ### Linear algebra (R234 to R240); matrices are lists of rows -/

abbrev Mat := List (List Int)
def mg (m : Mat) (i j : Nat) : Int := (m.getD i []).getD j 0
def ms (m : Mat) (i j : Nat) (v : Int) : Mat := m.set i ((m.getD i []).set j v)
def zeroMat (n : Nat) : Mat := List.replicate n (List.replicate n 0)
def lg (l : List Int) (i : Nat) : Int := l.getD i 0
def ups (n : Nat) : List Nat := List.range n
/-- j + 1, …, n − 1. -/
def above (n j : Nat) : List Nat := (List.range n).filter (fun i => decide (j < i))

/-- A mapped computation, left to right. -/
def fixMap {α β : Type} (f : α → Fix β) : List α → Fix (List β)
  | [] => pure []
  | a :: t => do
    let x ← f a
    let y ← fixMap f t
    pure (x :: y)

/-- Pivot flags: ZERO, TINY, NEG. -/
structure Piv where
  zero : Bool := false
  tiny : Bool := false
  neg : Bool := false

def pivot (lu : Bool) (delta d : Int) (f : Piv) : Int × Piv :=
  if d = 0 then (delta, { f with zero := true })
  else if d < 0 ∧ !lu then (delta, { f with neg := true })
  else if d.natAbs < delta.natAbs then (if d < 0 then -delta else delta, { f with tiny := true })
  else (d, f)

/-- The pivot rule, unless an OVF has stopped the lane (R239 to R241). -/
def pivotFx (lu : Bool) (delta d : Int) (f : Piv) : Fix (Int × Piv) := fun o => (if o then (delta, f) else pivot lu delta d f, o)

/-- rnd((x << fm) − Σ, fm), saturated. -/
def elim (fm : Nat) (x : Int) (ps : List (Int × Int)) : Fix Int := do
  let a ← accSum true (x * 2 ^ fm) ps
  sat32 (rnd a fm)

/-- A factorisation: l, w or u, the reciprocals, the pivots, the right-hand side (rows swapped by LU), the matrix, flags. -/
structure Fac where
  l : Mat
  w : Mat
  rc : List (Nat × Nat × Bool)
  g : List Int
  h : Mat
  piv : Piv

def setCol (m : Mat) (j : Nat) (rows : List Nat) (vs : List Int) : Mat := (rows.zip vs).foldl (fun m p => ms m p.1 j p.2) m

def ldltCol (p : QProg) (n : Nat) (a : Fac) (j : Nat) : Fix Fac := do
  let fm := pFM p
  let d ← elim fm (mg a.h j j) ((ups j).map (fun k => (mg a.w j k, mg a.l j k)))
  let pv ← pivotFx false (pDelta p j) d a.piv
  let rc := recip fm pv.1
  let ws ← fixMap (fun i => elim fm (mg a.h i j) ((ups j).map (fun k => (mg a.w i k, mg a.l j k)))) (above n j)
  let ls ← fixMap (fun w => mulr w rc) ws
  pure { a with w := setCol a.w j (above n j) ws, l := setCol a.l j (above n j) ls, rc := a.rc ++ [rc], piv := pv.2 }

def cholCol (p : QProg) (n : Nat) (a : Fac) (j : Nat) : Fix Fac := do
  let fm := pFM p
  let d ← elim fm (mg a.h j j) ((ups j).map (fun k => (mg a.l j k, mg a.l j k)))
  let pv ← pivotFx false (pDelta p j) d a.piv
  let ljj : Int := isqrt (pv.1 * 2 ^ fm).toNat
  let rc := recip fm ljj
  let ls ← fixMap (fun i => do
    let x ← elim fm (mg a.h i j) ((ups j).map (fun k => (mg a.l i k, mg a.l j k)))
    mulr x rc) (above n j)
  pure { a with l := setCol (ms a.l j j ljj) j (above n j) ls, rc := a.rc ++ [rc], piv := pv.2 }

def swapL {α : Type} (l : List α) (i j : Nat) : List α :=
  match l[i]?, l[j]? with
  | some x, some y => (l.set i y).set j x
  | _, _ => l

/-- The upper entries of column j, in ascending row. -/
def luUpper (p : QProg) (a : Fac) (j : Nat) : Nat → Nat → Mat → Fix Mat
  | 0, _, u => pure u
  | c + 1, i, u => do
    let x ← elim (pFM p) (mg a.h i j) ((ups i).map (fun k => (mg a.l i k, mg u k j)))
    luUpper p a j c (i + 1) (ms u i j x)

def luCol (p : QProg) (n : Nat) (a : Fac) (j : Nat) : Fix Fac := do
  let fm := pFM p
  let u ← luUpper p a j j 0 a.w
  let rows := (ups n).filter (fun i => decide (j ≤ i))
  let vs ← fixMap (fun i => elim fm (mg a.h i j) ((ups j).map (fun k => (mg a.l i k, mg u k j)))) rows
  let best := (rows.zip vs).foldl (fun (b : Nat × Int) e => if b.2.natAbs < e.2.natAbs then e else b) (j, lg vs 0)
  let v := swapL (List.replicate j 0 ++ vs) best.1 j
  let pv ← pivotFx true (pDelta p j) (lg v j) a.piv
  let rc := recip fm pv.1
  let ls ← fixMap (fun i => mulr (lg v i) rc) (above n j)
  pure { l := setCol (swapL a.l best.1 j) j (above n j) ls, w := ms u j j pv.1, rc := a.rc ++ [rc], g := swapL a.g best.1 j,
         h := swapL a.h best.1 j, piv := pv.2 }

def facGo (f : Fac → Nat → Fix Fac) : List Nat → Fac → Fix Fac
  | [], a => pure a
  | j :: t, a => do
    let b ← f a j
    facGo f t b

def factorise (p : QProg) (h : Mat) (g : List Int) (piv : Piv) : Fix Fac :=
  let n := pN p
  let a : Fac := { l := zeroMat n, w := zeroMat n, rc := [], g := g, h := h, piv := piv }
  facGo (match pKernel p with | 0 => cholCol p n | 1 => ldltCol p n | _ => luCol p n) (ups n) a

/-- The forward pass in ascending i: y. -/
def fwdGo (p : QProg) (a : Fac) : List Nat → List Int → Fix (List Int)
  | [], y => pure y
  | i :: t, y => do
    let x ← elim (pFM p) (lg a.g i) ((ups i).map (fun k => (mg a.l i k, lg y k)))
    let v ← if pKernel p = 0 then mulr x (a.rc.getD i (0, 0, false)) else pure x
    fwdGo p a t (y ++ [v])

/-- The back pass in descending i: d, filled from the end. -/
def backGo (p : QProg) (a : Fac) (w : List Int) : List Nat → List Int → Fix (List Int)
  | [], d => pure d
  | i :: t, d => do
    let coef := fun k => if pKernel p = 2 then mg a.w i k else mg a.l k i
    let x ← elim (pFM p) (lg w i) ((above (pN p) i).map (fun k => (coef k, lg d (k - i - 1))))
    let v ← if pKernel p = 1 then pure x else mulr x (a.rc.getD i (0, 0, false))
    backGo p a w t (v :: d)

def solve (p : QProg) (a : Fac) : Fix (List Int) := do
  let y ← fwdGo p a (ups (pN p)) []
  let w ← if pKernel p = 1 then fixMap (fun i => mulr (lg y i) (a.rc.getD i (0, 0, false))) (ups (pN p)) else pure y
  backGo p a w (ups (pN p)).reverse []

/- ### The refinement (R234, R235, R242) -/

def matOf (st : QSt) (rows cols : Nat) : Mat :=
  (ups rows).map (fun i => (ups cols).map (fun j => ((st.mat.find? (fun e => e.1 == (i, j))).map (·.2)).getD 0))
def vecOf (st : QSt) (n : Nat) : List Int := (ups n).map (fun i => ((st.vec.find? (fun e => e.1 == i)).map (·.2)).getD 0)

/-- ρ: the residual, floor of the held sum over 2^RSH, at most 2^32 − 1. -/
def residual (p : QProg) (r : List Int) : Nat :=
  min (2 ^ 32 - 1) (min (2 ^ 63 - 1) ((r.map (fun x => (x * x).toNat)).foldl (· + ·) 0) / 2 ^ pRSH p)

/-- The normal equations. -/
def normalEq (p : QProg) (J : Mat) (r : List Int) : Fix (Mat × List Int) := do
  let n := pN p
  let rows := ups (pM p)
  let h ← fixMap (fun i => fixMap (fun j => do
    let a ← accSum false 0 (rows.map (fun m => (mg J m i, mg J m j)))
    sat32 (rnd a (pFM p) + (if i = j then pLambda p i else 0))) (ups n)) (ups n)
  let g ← fixMap (fun i => do
    let a ← accSum false 0 (rows.map (fun m => (mg J m i, lg r m)))
    sat32 (-(rnd a (pFM p)))) (ups n)
  pure (h, g)

/-- A system's run: iterates with their residuals in order, the iteration it reached, flags, OVF. -/
structure QRun where
  k : Nat := 0
  its : List (List Int × Nat) := []
  piv : Piv := {}
  ovf : Bool := false

/-- Does the deadline fall before phase ph of iteration k ends? Phases: 0 load, 1 ASM, 2 normal, 3 factorise, 4 solve, 5 project. -/
def cutsAt (stop : Option (Nat × Nat)) (k ph : Nat) : Bool :=
  match stop with
  | some (sk, sp) => decide (sk < k ∨ sk = k ∧ sp ≤ ph)
  | none => false

/-- Iterations k to ITER from zk; the fuel is ITER − k + 1. -/
def iterate (p : QProg) (i : QIn) (stop : Option (Nat × Nat)) (iter : Nat) : Nat → Nat → List Int → QRun → QRun
  | 0, _, _, r => r
  | c + 1, k, z, r =>
    let r := { r with k := k }
    if cutsAt stop k 1 then r
    else
      let st := runSection p { i with z := z } k (pAsm p) []
      if st.ovf then { r with ovf := true }
      else
        let n := pN p
        let m := if pNormal p then pM p else n
        let v := vecOf st m
        let r := { r with its := r.its ++ [(z, residual p v)] }
        if k = iter ∨ (pNormal p ∧ cutsAt stop k 2) then r
        else
          let hg := if pNormal p then (normalEq p (matOf st m n) v).run false else ((matOf st n n, v), false)
          if hg.2 then { r with ovf := true }
          else if cutsAt stop k 3 then r
          else
            let f := (factorise p hg.1.1 hg.1.2 r.piv).run false
            let r := { r with piv := f.1.piv }
            if f.2 then { r with ovf := true }
            else if cutsAt stop k 4 then r
            else
              let d := (solve p f.1).run false
              if d.2 then { r with ovf := true }
              else if cutsAt stop k 5 then r
              else iterate p i stop iter c (k + 1) ((ups n).map (fun j => clampI (pLo p j) (pHi p j) (lg z j + lg d.1 j))) r

/-- The chosen solution: z, OUTCOME, ITERS, RESID, whether the deadline chose, DLMID. -/
structure Choice where
  z : List Int
  outcome : Nat
  iters : Nat := 0
  resid : Nat := 0xFFFFFFFF
  dl : Bool := false
  dlmid : Bool := false

def fallBack (z0 : List Int) (nowarm dl dlmid : Bool) : Choice := { z := z0, outcome := if nowarm then 3 else 2, dl := dl, dlmid := dlmid }

/-- The table of R242. -/
def choose (p : QProg) (z0 : List Int) (nowarm : Bool) (stop : Option (Nat × Nat)) (iter : Nat) (r : QRun) : Choice :=
  let take := fun (k : Nat) (out : Nat) (dl : Bool) =>
    match r.its[k]? with
    | some (z, rho) => if rho < pAccept p then ({ z := z, outcome := out, iters := k, resid := rho, dl := dl } : Choice) else fallBack z0 nowarm dl false
    | none => fallBack z0 nowarm dl false
  if r.ovf then { z := z0, outcome := 3 }
  else match stop with
    | none => take iter 0 false
    | some (k, ph) =>
      if 6 ≤ ph ∨ iter < k ∨ (iter = k ∧ 2 ≤ ph) then take iter 0 false
      else if ph = 0 ∨ (k = 0 ∧ ph = 1) then fallBack z0 nowarm true false
      else if ph = 1 then take (k - 1) 1 true
      else if ph = 5 then take k 1 true
      else fallBack z0 nowarm true true

/- ### Systems and outputs (R244, R247 to R249) -/

/-- A batch entry. -/
structure Batch where
  ref : Nat
  warm : Nat
  gidx : Nat

def batchOf (b : List Nat) : Batch := { ref := fldAt b 0 8, warm := fldAt b 8 8, gidx := fldAt b 16 4 }

/-- One system's result. -/
structure QRes where
  gidx : Nat
  c : Choice
  reached : Nat := 0
  poses : List Nat
  piv : Piv := {}
  ovf : Bool := false
  range : Bool := false
  shape : Bool := false
  rderr : Bool := false
  nowarm : Bool := false

/-- The ego words of an image (R233). -/
def egoWords (g : Bytes) (f : Frame) : List Int :=
  let e := g (f.img + egoOff + 16) 16
  let p := shiftPose (-1024 * f.ox) (-1024 * f.oy) (poseOf e 0)
  [p.x, p.y, p.h, p.s, p.c, sx 16 (fldAt e 14 2)]

/-- Every ego word and reference field lies within its bound (R233). -/
def inBounds (p : QProg) (ego : List Int) (ref : List Pose) : Bool :=
  let ok := fun (k : Nat) (v : Int) => match p.bounds[k]? with | some (lo, hi) => decide (lo ≤ v ∧ v ≤ hi) | none => true
  (List.range 6).all (fun k => ok k (lg ego k)) && ref.all (fun r => (List.range 6).all (fun k => ok (6 + k) (poseField r k)))

/-- The solution words of a system that chose no iterate (R241, R244). -/
def unchosen (z0 : List Int) : List Int := (List.range 48).map (fun j => (Config.quenchUnchosen z0 j).toInt)

/-- LOST: the reference list, or the batch entry that names it, cannot be read. -/
def lostRes (gidx : Nat) (nowarm : Bool) : QRes :=
  { gidx := gidx, c := { z := unchosen [], outcome := 4 }, poses := List.replicate 1024 0xFF, rderr := true, nowarm := nowarm }

/-- OUT for the chosen z, the shape check and the fallbacks (R244). -/
def outPoses (p : QProg) (i : QIn) (c : Choice) : List Pose × Choice × Bool × Bool :=
  if c.outcome = 3 then (i.ref, c, false, false)
  else
    let st := runSection p { i with z := c.z } 16 (pOut p) i.ref
    let badShape := !rising st.poses || st.poses.any far
    if st.ovf ∨ badShape then (i.ref, { c with outcome := 3, iters := 0, resid := 0xFFFFFFFF }, st.ovf, !st.ovf && badShape)
    else (st.poses, c, false, false)

/-- Refine one system; `late` systems only load and run OUT for z0 (R242). -/
def refineOne (s : State) (brand : Nat) (p : QProg) (f : Frame) (iter : Nat) (late : Bool) (stop : Option (Nat × Nat)) (addr : Nat) : Rdr QRes := do
  let rb ← rdBytes s brand addr 32
  match rb with
  | none => pure (lostRes (Config.quenchUnchosen [] 48).toNat false)
  | some bb =>
    let b := batchOf bb
    let rr ← rdBytes s brand b.ref 1024
    let rw ← if b.warm = 0 then pure (some (List.replicate 256 0)) else rdBytes s brand b.warm 256
    let w := rw.getD (List.replicate 256 0)
    let nowarm := rw.isNone || b.warm == 0 || fldAt w 196 1 == 0 || fldAt w 197 1 != pN p
    match rr with
    | none => pure (lostRes b.gidx nowarm)
    | some rbytes =>
      let ref := posesOf rbytes 64
      let z0 := (ups (pN p)).map (fun j =>
        if nowarm ∨ pSrc p j = 0xFF then 0 else sx 32 (fldAt w (4 * pSrc p j) 4))
      let ego := egoWords (seen s brand) f
      let i : QIn := { ego := ego, ref := ref, z := z0 }
      let range := !inBounds p ego ref
      let run := if range ∨ late then ({} : QRun) else iterate p i stop iter (iter + 1) 0 z0 {}
      let c := if range then fallBack z0 nowarm false false else if late then fallBack z0 nowarm true false
        else choose p z0 nowarm stop iter run
      let o := outPoses p i c
      let z := if run.ovf then unchosen z0 else o.2.1.z
      pure { gidx := b.gidx, c := { o.2.1 with z := z }, poses := (o.1.map (shiftPose (1024 * f.ox) (1024 * f.oy))).flatMap poseBytes,
             reached := run.k, piv := run.piv, ovf := run.ovf || o.2.2.1, range := range, shape := o.2.2.2, rderr := rw.isNone, nowarm := nowarm }

def solutionBytes (n : Nat) (r : QRes) : List Nat :=
  (List.range 48).flatMap (fun j => leBytes 4 (if j < n then toU 32 (lg r.c.z j) else 0)) ++ leBytes 4 r.gidx ++ [b2n (decide (r.c.outcome < 3)), n] ++ List.replicate 58 0

def statusBytes (r : QRes) : List Nat :=
  let o := r.c.outcome
  layout 16 [(0, 4, r.gidx), (4, 4, o + r.c.iters * 2 ^ 4 + b2n r.piv.zero * 2 ^ 8 + b2n r.piv.tiny * 2 ^ 9 + b2n r.piv.neg * 2 ^ 10 +
    b2n r.ovf * 2 ^ 11 + b2n r.range * 2 ^ 12 + b2n r.shape * 2 ^ 13 + b2n r.rderr * 2 ^ 14 + b2n r.nowarm * 2 ^ 15 + b2n r.c.dlmid * 2 ^ 16),
    (8, 4, r.c.resid)]

def progOf (s : State) (k : Nat) : QProg := ((s.bil.progs.find? (fun p => p.1 == k)).map (·.2)).getD {}

def countQ (rs : List QRes) (f : QRes → Bool) : Nat := (rs.filter f).length

/-- The work of a REFINE body over a frame; outputs of system s in the order pose list, solution entry, status record. `setBad` says that
the line that held the body could not be read. -/
def refineWork (s : State) (brand : Nat) (body : List Nat) (f : Frame) (dst stat zout unit : Nat) (late : Bool) (stop : Option (Nat × Nat))
    (setBad : Bool) : Work :=
  let p := progOf s (bf body 25 1)
  let n := bf body 24 1
  let r := (rdMap (fun k => refineOne s brand p f (bf body 26 1) late stop (bf body 16 8 + 32 * k)) (List.range n)).run []
  let rs : List QRes := r.1
  let dl := countQ rs (·.c.dl)
  let image := (rdBytes s brand f.img 96).run []
  let rd := rs.any (·.rderr) || image.1.isNone || setBad
  { writes := rs.zipIdx.flatMap (fun x => [(dst + x.2 * 1024, x.1.poses), (zout + x.2 * 256, solutionBytes (pN p) x.1), (stat + x.2 * 16, statusBytes x.1)]),
    notes := image.2 ++ r.2,
    bumps := [(QNC_U_SYS unit, n), (QNC_REFINED_CNT, countQ rs (·.c.outcome == 0)), (QNC_EARLY_CNT, countQ rs (·.c.outcome == 1)),
      (QNC_WARM_CNT, countQ rs (·.c.outcome == 2)), (QNC_UNREF_CNT, countQ rs (·.c.outcome == 3)), (QNC_LOST_CNT, countQ rs (·.c.outcome == 4)),
      (QNC_PIV_ZERO_CNT, countQ rs (·.piv.zero)), (QNC_PIV_TINY_CNT, countQ rs (·.piv.tiny)), (QNC_PIV_NEG_CNT, countQ rs (·.piv.neg)),
      (QNC_OVF_CNT, countQ rs (·.ovf)), (QNC_RANGE_CNT, countQ rs (·.range)), (QNC_DL_CNT, dl)],
    sets := [(QNC_U_STATUS_PHASE unit, 6), (QNC_U_STATUS_ITER unit, (rs.map (·.reached)).foldl max 0)],
    faults := (if rs.any (·.range) then [(0x0E, 0x001, 0, unit)] else []) ++
      (rs.filter (fun x => x.ovf && !x.range)).map (fun _ => (0x0E, 0x002, 3, unit)) ++ (if rd then [(0x0E, 0x003, 3, unit)] else []),
    status := if rd then 3 else if 0 < dl then 9 else if rs.any (fun x => decide (3 ≤ x.c.outcome)) then 10 else 0 }

/-- Once per stroke in which the deadline chose a solution (R242). -/
def noteDeadline (s : State) (chose : Bool) (unit : Nat) : State := if chose then onceCode s 0x40000 0x0E 0x004 0 unit else s

/-- The gate number under which the deadline of the current heat stands as passed. -/
def deadlineGate : Nat := 6

/-- The deadline of the task's heat has passed (R242, R243). -/
def pastDeadline (s : State) (t : Task) : Bool :=
  !inRepro s && !tGold t && (s.tabX.gates.contains deadlineGate || t.heat != getF s CRU_HEAT_SEALED)

def runRefine (s : State) (t : Task) (late : Bool) (stop : Option (Nat × Nat)) : State :=
  let c := t.cmd
  let w := refineWork s (qBrand s t.queue) c (taskFrame s t) (bf c 32 8) (bf c 40 8) (bf c 48 8) t.punit late stop false
  noteDeadline (finishWork s t w) (w.bumps.any (fun b => b.1 == QNC_DL_CNT && decide (0 < b.2))) t.punit

/-- REFINE (R234, R247). -/
def execRefine (unit : Nat) (s : State) : Ans :=
  match engineTask s 6 unit [1] with
  | some t => .next (runRefine s t (pastDeadline s t) none)
  | none => .next s

/-- The iteration and phase a unit stands in at the deadline; 0 and load when it is not named. -/
def phaseAt (phases : List (Nat × Nat × Nat)) (unit : Nat) : Nat × Nat :=
  match phases.find? (fun p => p.1 == unit) with | some p => p.2 | none => (0, 0)

/-- QUENCH_DEADLINE (R242): `phases` gives, per physical unit, the iteration and phase the deadline falls in. Not in REPRO mode (R243). -/
def execQuenchDeadline (at_ : Nat) (phases : List (Nat × Nat × Nat)) (s : State) : Ans :=
  let s := atTime s at_
  if inRepro s ∨ at_ < s.stk.inst + getF s QNC_DL_OFS then .next s
  else
    let hit := (List.range 9).filterMap (fun u => (engineTask s 6 u [1]).bind (fun t => if t.heat = getF s CRU_HEAT_SEALED then some t else none))
    .next (hit.foldl (fun s t => runRefine s t false (some (phaseAt phases t.punit))) (openGate s deadlineGate))

/-- QUENCH_GOLDEN (R253): outputs at DST, pose lists first, then solution entries, then status records; the image address lies at bytes
0–7 of the set as in R412 (log 29). -/
def quenchGoldWork (s : State) (t : Task) : Work :=
  let brand := qBrand s t.queue
  let body := seen s brand (goldSet t) 64
  let n := bf body 24 1
  let d := goldDst t
  let w := refineWork s brand body (goldFrame s t (leNat (body.take 8))) d (d + n * 1280) (d + n * 1024) t.punit false none
    (((rdBytes s brand (goldSet t) 64).run []).1.isNone)
  { w with notes := notesOf s brand (goldSet t) 64 ++ w.notes }

def execQuenchGolden (unit : Nat) (s : State) : Ans := .next (engineRow s 6 unit [2] quenchGoldWork)

end Sys2Proof.Machine
end

