-- ==== Sys2Proof/Machine/Sm4.lean ====
section
/-! DEFINITION. SM4 in CTR mode and the unwrapping of its keys, for the ENC sections of a billet (R502; GB/T 32907, which the spec names
and does not restate: PRESUMED, log 8). -/

namespace Sys2Proof.Machine

/- ### The block cipher -/

def sm4Sbox : List Nat :=
  [0xD6, 0x90, 0xE9, 0xFE, 0xCC, 0xE1, 0x3D, 0xB7, 0x16, 0xB6, 0x14, 0xC2, 0x28, 0xFB, 0x2C, 0x05,
   0x2B, 0x67, 0x9A, 0x76, 0x2A, 0xBE, 0x04, 0xC3, 0xAA, 0x44, 0x13, 0x26, 0x49, 0x86, 0x06, 0x99,
   0x9C, 0x42, 0x50, 0xF4, 0x91, 0xEF, 0x98, 0x7A, 0x33, 0x54, 0x0B, 0x43, 0xED, 0xCF, 0xAC, 0x62,
   0xE4, 0xB3, 0x1C, 0xA9, 0xC9, 0x08, 0xE8, 0x95, 0x80, 0xDF, 0x94, 0xFA, 0x75, 0x8F, 0x3F, 0xA6] ++
  [0x47, 0x07, 0xA7, 0xFC, 0xF3, 0x73, 0x17, 0xBA, 0x83, 0x59, 0x3C, 0x19, 0xE6, 0x85, 0x4F, 0xA8,
   0x68, 0x6B, 0x81, 0xB2, 0x71, 0x64, 0xDA, 0x8B, 0xF8, 0xEB, 0x0F, 0x4B, 0x70, 0x56, 0x9D, 0x35,
   0x1E, 0x24, 0x0E, 0x5E, 0x63, 0x58, 0xD1, 0xA2, 0x25, 0x22, 0x7C, 0x3B, 0x01, 0x21, 0x78, 0x87,
   0xD4, 0x00, 0x46, 0x57, 0x9F, 0xD3, 0x27, 0x52, 0x4C, 0x36, 0x02, 0xE7, 0xA0, 0xC4, 0xC8, 0x9E] ++
  [0xEA, 0xBF, 0x8A, 0xD2, 0x40, 0xC7, 0x38, 0xB5, 0xA3, 0xF7, 0xF2, 0xCE, 0xF9, 0x61, 0x15, 0xA1,
   0xE0, 0xAE, 0x5D, 0xA4, 0x9B, 0x34, 0x1A, 0x55, 0xAD, 0x93, 0x32, 0x30, 0xF5, 0x8C, 0xB1, 0xE3,
   0x1D, 0xF6, 0xE2, 0x2E, 0x82, 0x66, 0xCA, 0x60, 0xC0, 0x29, 0x23, 0xAB, 0x0D, 0x53, 0x4E, 0x6F,
   0xD5, 0xDB, 0x37, 0x45, 0xDE, 0xFD, 0x8E, 0x2F, 0x03, 0xFF, 0x6A, 0x72, 0x6D, 0x6C, 0x5B, 0x51] ++
  [0x8D, 0x1B, 0xAF, 0x92, 0xBB, 0xDD, 0xBC, 0x7F, 0x11, 0xD9, 0x5C, 0x41, 0x1F, 0x10, 0x5A, 0xD8,
   0x0A, 0xC1, 0x31, 0x88, 0xA5, 0xCD, 0x7B, 0xBD, 0x2D, 0x74, 0xD0, 0x12, 0xB8, 0xE5, 0xB4, 0xB0,
   0x89, 0x69, 0x97, 0x4A, 0x0C, 0x96, 0x77, 0x7E, 0x65, 0xB9, 0xF1, 0x09, 0xC5, 0x6E, 0xC6, 0x84,
   0x18, 0xF0, 0x7D, 0xEC, 0x3A, 0xDC, 0x4D, 0x20, 0x79, 0xEE, 0x5F, 0x3E, 0xD7, 0xCB, 0x39, 0x48]

/-- The S-box on each byte of a word. -/
def sm4Tau (x : Nat) : Nat := beWord ((beBytes 4 x).map (fun b => sm4Sbox.getD b 0))

/-- The round transformation of the data. -/
def sm4Mix (x : Nat) : Nat :=
  let b := sm4Tau x
  Nat.xor b (Nat.xor (rol32 b 2) (Nat.xor (rol32 b 10) (Nat.xor (rol32 b 18) (rol32 b 24))))

/-- The round transformation of the key. -/
def sm4KeyMix (x : Nat) : Nat :=
  let b := sm4Tau x
  Nat.xor b (Nat.xor (rol32 b 13) (rol32 b 23))

/-- Word i of the fixed key schedule parameters. -/
def sm4Ck (i : Nat) : Nat := beWord ((List.range 4).map (fun j => (4 * i + j) * 7 % 256))

/-- One step of either schedule over four words: the new word follows, the oldest leaves. -/
def sm4Step (f : Nat → Nat) (w : List Nat) (k : Nat) : List Nat :=
  w.drop 1 ++ [Nat.xor (w.getD 0 0) (f (Nat.xor (w.getD 1 0) (Nat.xor (w.getD 2 0) (Nat.xor (w.getD 3 0) k))))]

/-- The round keys from four words on. -/
def sm4KeysGo : Nat → Nat → List Nat → List Nat
  | 0, _, _ => []
  | n + 1, i, w => let w' := sm4Step sm4KeyMix w (sm4Ck i); w'.getD 3 0 :: sm4KeysGo n (i + 1) w'

/-- The 32 round keys of a 16-byte key. -/
def sm4Keys (key : List Nat) : List Nat :=
  sm4KeysGo 32 0 (List.zipWith Nat.xor (words16 4 key) [0xA3B1BAC6, 0x56AA3350, 0x677D9197, 0xB27022DC])

/-- One block under round keys. -/
def sm4Block (keys block : List Nat) : List Nat := ((keys.foldl (sm4Step sm4Mix) (words16 4 block)).reverse).flatMap (beBytes 4)

/- ### Counter mode (R502) -/

/-- The counter block of block i: the low 32 bits count big-endian per block. -/
def counterBlock (first : List Nat) (i : Nat) : List Nat := first.take 12 ++ beBytes 4 ((beWord (first.drop 12) + i) % 2 ^ 32)

/-- The plaintext of a stored section: a 16-byte initial counter block, then the ciphertext. -/
def sm4Ctr (key stored : List Nat) : List Nat :=
  let keys := sm4Keys key
  let text := stored.drop 16
  let pad := (List.range ((text.length + 15) / 16)).flatMap (fun i => sm4Block keys (counterBlock (stored.take 16) i))
  List.zipWith Nat.xor text pad

/- ### Wrapped keys (R502) -/

/-- A wrap entry for a section type: TYPE, zeros, then C1 ‖ C3 ‖ C2. -/
def wrapFor (ty : Nat) (w : List Nat) : Bool := w.length == 128 && beWord ((w.take 2).reverse) == ty && (w.drop 2).take 14 == List.replicate 14 0

/-- The 16-byte key of a wrap entry under the device key; none when its C3 check fails. -/
def unwrap (d : Nat) (w : List Nat) : Option (List Nat) := sm2Decrypt d (w.drop 16)

end Sys2Proof.Machine
end

