-- ==== Sys2Proof/Machine/Memory.lean ====
section
/-! DEFINITION. The Anvil's banks and the DDR channels: scrubbing, spare banks, refresh, patrol and channel resets (R344 to R370). -/

namespace Sys2Proof.Machine

/- ### Banks (R348, R350) -/

/-- The logical bank a physical bank serves. -/
def logicalBank (s : State) (pb : Nat) : Option Nat := (List.range 1024).find? (fun l => getF s (ANV_MAP l) == pb)

def bankRetired (s : State) (pb : Nat) : Bool := flag s (ANV_BANK_CE_RETIRED pb)

/-- Free spares: no logical bank uses them and they are not retired. -/
def freeSpares (s : State) : List Nat :=
  (List.range 1088).filter (fun pb => !bankRetired s pb && !flag s (ANV_BANK_CE_IN_USE pb))

/-- The line a bank's pointer stands at; a free spare holds no line of the address space. -/
def scrubLine (s : State) (bank : Nat) (assay : Bool) : Option Nat :=
  if assay then some (asyBase + bank * 0x40000 + nget s.anv.asyPtr bank * 64)
  else (logicalBank s bank).map (fun l => lineAt l (nget s.anv.scrubPtr bank))

/-- The corrected codeword goes back to its line; a line that is uncorrectable stays as it is (R344, R350). -/
def writeBack (s : State) (line : Nat) : State :=
  let s' := dropWriteback s line
  match lineCheck (errAt s line) with
  | .corrected fix => setErr (poke s' line (xorBytes (peek s line 64) (patternBytes (xorPattern (errAt s line) fix)))) line []
  | _ => s'

/-- ANVIL_WRITEBACK (R344): of a line that a check corrected and no write has replaced since. -/
def execAnvilWriteback (line : Nat) (s : State) : Ans :=
  if s.mem.writeback.contains line then .next (writeBack s line) else .next s

/-- The passes the Anvil has completed as a whole: the fewest of any bank that is not retired (R350). -/
def wholePasses (s : State) : Nat :=
  ((List.range 1088).filter (fun pb => !bankRetired s pb)).foldl (fun m pb => min m (nget s.anv.passes pb)) (nget s.anv.passes 0 + 2 ^ 32)

/-- At a pass's end a count that has not reached CE_THRESH over the last 16 passes restarts at zero (R352; log 32). -/
def countEnd (s : State) (pb : Nat) : State :=
  if getF s (ANV_BANK_CE_COUNT pb) < getF s ANV_CFG ∧ 16 ≤ sub32 (getF s ANV_SCRUB_PASS + 1) (nget s.anv.ceFrom pb) then
    setF { s with anv := { s.anv with ceFrom := nset s.anv.ceFrom pb 0 } } (ANV_BANK_CE_COUNT pb) 0
  else s

/-- The end of a pass (R350, R352). -/
def passEnd (s : State) : State :=
  let n := wholePasses s
  if n % 2 ^ 32 = getF s ANV_SCRUB_PASS ∨ (List.range 1088).all (bankRetired s) then s
  else
    let s := setF s ANV_SCRUB_PASS n
    ((List.range 1088).filter (fun pb => getF s (ANV_BANK_CE_COUNT pb) != 0)).foldl countEnd s

/-- The pointer advances by 1 modulo 4,096. -/
def scrubNext (s : State) (bank : Nat) (assay : Bool) : State :=
  if assay then { s with anv := { s.anv with asyPtr := nset s.anv.asyPtr bank ((nget s.anv.asyPtr bank + 1) % 4096) } }
  else
    let p := (nget s.anv.scrubPtr bank + 1) % 4096
    let s := { s with anv := { s.anv with scrubPtr := nset s.anv.scrubPtr bank p } }
    if p = 0 then passEnd { s with anv := { s.anv with passes := nset s.anv.passes bank (nget s.anv.passes bank + 1) } } else s

/-- The scrub of a free spare bank's line: it serves no address, and its correction is written back at once (R350, R370; log 160). -/
def scrubSpare (s : State) (pb : Nat) : State :=
  let k := pb * 4096 + nget s.anv.scrubPtr pb
  let e := sget noErr s.mem.spareErrs k
  match (if e = [] then .clean else lineCheck e) with
  | .clean => s
  | .corrected _ =>
    let s := oncePerStroke (countCe s pb) pb 0x08 1 (pb / 8)
    { s with mem := { s.mem with spareErrs := sset noErr s.mem.spareErrs k [] } }
  | .bad =>
    let s := setF (bump s ANV_UE_TOTAL 1) ANV_UE_INFO_PBANK pb
    let s := setF (setF (setF (setF s ANV_UE_INFO_SCRUB 1) ANV_UE_INFO_FABRIC 0) ANV_UE_INFO_POISON (b2n (e == poison))) ANV_UE_INFO_ASY 0
    sendFault s 0x08 0x003 3 (pb / 8)

/-- One scrub: read, check, count, advance (R350, R352, R356). -/
def scrubOne (s : State) (bank : Nat) (assay : Bool) : State :=
  let s' := match scrubLine s bank assay with
    | some line => (readLine s line).2.foldl (noteFx true) s
    | none => scrubSpare s bank
  scrubNext s' bank assay

def scrubKey (bank : Nat) (assay : Bool) : Nat := if assay then 2000 + bank else bank

/-- The slot of 15,625 ns whose scrub is next for a bank, when one is due by time t (R350). -/
def scrubSlot (s : State) (bank : Nat) (assay : Bool) (t : Nat) : Option Nat :=
  let last := nget s.anv.late (scrubKey bank assay)
  if last = 0 then some (t / 15625) else if last ≤ t / 15625 then some last else none

def scrubs (s : State) (bank : Nat) (assay : Bool) : Bool :=
  if assay then decide (bank < 32) else decide (bank < 1088) && !bankRetired s bank

/-- The scrub due next runs; one still not done when the next fell due is late (R351). -/
def scrubAt (s : State) (bank : Nat) (assay : Bool) (forced : Bool) : State :=
  if !scrubs s bank assay then s
  else match scrubSlot s bank assay s.time with
    | none => s
    | some k =>
      let s := if k < s.time / 15625 then sendFault s 0x08 0x006 0 (if assay then 0xC0 + bank else bank / 8) else s
      let s := if forced then bump s ANV_FORCED 1 else s
      scrubOne { s with anv := { s.anv with late := nset s.anv.late (scrubKey bank assay) (k + 1) } } bank assay

/-- SCRUB (R350). -/
def execScrub (at_ bank : Nat) (assay : Bool) (s : State) : Ans := .next (scrubAt (atTime s at_) bank assay false)

/-- SCRUB_FORCED (R351): the waiting scrub takes the bank's next cycle. -/
def execScrubForced (bank : Nat) (assay : Bool) (s : State) : Ans := .next (scrubAt s bank assay true)

/- ### Spare banks (R352 to R355) -/

/-- The due bank of the lowest logical index. -/
def nextDue (s : State) : Option (Nat × Nat) :=
  (List.range 1024).findSome? (fun l => if s.anv.due.contains (getF s (ANV_MAP l)) then some (l, getF s (ANV_MAP l)) else none)

/-- No spare remains: the bank stays, recorded once per bank (R355). -/
def noSpareBank (s : State) (pb : Nat) : State :=
  let s := setF { s with anv := { s.anv with due := s.anv.due.filter (· != pb) } } ANV_STATUS_NO_SPARE 1
  if s.anv.noSpareSeen.contains pb then s
  else sendFault { s with anv := { s.anv with noSpareSeen := s.anv.noSpareSeen ++ [pb] } } 0x08 0x005 4 (pb / 8)

/-- BANK_RETIRE (R353, R355): one retirement at a time. -/
def execBankRetire (s : State) : Ans :=
  if s.anv.copyOf.isSome then .next s
  else match nextDue s with
    | none => .next s
    | some (l, pb) =>
      match freeSpares s with
      | [] => .next (noSpareBank s pb)
      | n :: _ =>
        let s := setF (setF (setF s ANV_STATUS_REMAP_BUSY 1) ANV_STATUS_REMAP_FROM pb) ANV_STATUS_REMAP_TO n
        .next { s with anv := { s.anv with due := s.anv.due.filter (· != pb), copyOf := some (l, pb, n), copied := none } }

/-- BANK_COPY_DONE (R353). -/
def execBankCopyDone (s : State) : Ans :=
  if s.anv.copyOf.isSome ∧ s.anv.copied.isNone then .next { s with anv := { s.anv with copied := some s.time } } else .next s

/-- What the copy made of a line with an error: corrected, or poison (R353). -/
def copiedLine (s : State) (line : Nat) : State :=
  match lineCheck (errAt s line) with
  | .clean => s
  | .corrected _ => writeBack s line
  | .bad => putPoison s line (peek s line 64)

/-- The map entry goes to the spare and the old bank leaves service (R353, R354). -/
def switchBank (s : State) (l pb n : Nat) : State :=
  let bad := (s.mem.errs.map (·.1)).filter (fun a => a < anvilEnd ∧ bankOf a = l)
  let s := bad.foldl copiedLine s
  let s := setF (setF (setF s (ANV_MAP l) n) (ANV_BANK_CE_RETIRED pb) 1) (ANV_BANK_CE_IN_USE pb) 0
  let s := setF (setF s (ANV_BANK_CE_IN_USE n) 1) ANV_STATUS_SPARES_FREE (getF s ANV_STATUS_SPARES_FREE - 1)
  let s := { s with mem := { s.mem with spareErrs := s.mem.spareErrs.filter (fun e => e.1 / 4096 != n) },
                    spr := { s.spr with wearBanks := insertNew s.spr.wearBanks pb } }
  let s := setF { s with anv := { s.anv with copyOf := none, copied := none } } ANV_STATUS_REMAP_BUSY 0
  sendFault s 0x08 0x004 2 (pb / 8)

/-- BANK_SWITCH (R353): at the first stroke instant after the copy. -/
def execBankSwitch (at_ : Nat) (s : State) : Ans :=
  let s := atTime s at_
  match s.anv.copyOf, s.anv.copied with
  | some (l, pb, n), some t => if t ≤ s.stk.inst ∧ s.stk.inst ≤ at_ then .next (switchBank s l pb n) else .next s
  | _, _ => .next s

/- ### DDR (R362 to R369) -/

/-- An MR4 value that asks for twice the refresh rate: OP[2:0] of 3 and above, by JESD79-5 (PRESUMED, log 33). -/
def mr4Hot (v : Nat) : Bool := decide (3 ≤ v % 8)

/-- MR4_POLL (R364). -/
def execMr4Poll (ch rank value : Nat) (s : State) : Ans :=
  if 6 ≤ ch ∨ 2 ≤ rank ∨ getF s (DDR_CH_STATUS_TRAINED ch) = 0 then .next s
  else
    let s := setF s (if rank = 0 then DDR_CH_MR4_MR4 ch else DDR_CH_MR4_MR4_R1 ch) value
    .next (setF s (DDR_CH_STATUS_HOT ch) (b2n (mr4Hot (getF s (DDR_CH_MR4_MR4 ch)) || mr4Hot (getF s (DDR_CH_MR4_MR4_R1 ch)))))

/-- DDR_REFRESH (R364): a refresh delays requests and changes no bit. -/
def execDdrRefresh (ch : Nat) (s : State) : Ans :=
  if 6 ≤ ch ∨ getF s (DDR_CH_STATUS_TRAINED ch) = 0 then .next s
  else .next { s with ddr := { s.ddr with refreshes := s.ddr.refreshes + 1 } }

/-- PATROL_SCRUB (R365): the next line in index order; a line whose TAG mismatches is not written back. -/
def patrolStep (s : State) : State :=
  let line := ddrBase + s.ddr.patrol * 64
  let ns := (readLine s line).2
  let s := ns.foldl (noteFx true) s
  let s := if ns.contains (.tag line) then dropWriteback s line else s
  let p := s.ddr.patrol + 1
  if ddrSize s ≤ p * 64 then tick { s with ddr := { s.ddr with patrol := 0 } } DDR_PATROL_PASS
  else { s with ddr := { s.ddr with patrol := p } }

def execPatrolScrub (s : State) : Ans :=
  if getF s DDR_CFG_SCRUB_H = 0 ∨ !s.start.swept ∨ ddrSize s = 0 then .next s else .next (patrolStep s)

/-- DDR_SR_TIMEOUT (R366): 10 µs into a warm episode; `inSelfRefresh` is the mask of channels that got there. -/
def execDdrSrTimeout (at_ inSelfRefresh : Nat) (s : State) : Ans :=
  let s := atTime s at_
  if s.rst.reach ≠ 3 ∨ s.aonTime < s.rst.warmAt + 10000 then .next s
  else
    let out := (activeChs s).filter (fun c => !bit inSelfRefresh c)
    let s := (activeChs s).foldl (fun s c => setF s (DDR_CH_STATUS_SELF_REFRESH c) (b2n (bit inSelfRefresh c))) s
    .next { s with ddr := { s.ddr with contentLost := out.foldl insertNew s.ddr.contentLost } }

/-- A write of the selected region's version (R362). -/
def setVersion (s : State) (value : Nat) : State :=
  { s with ddr := { s.ddr with ver := nset s.ddr.ver (getF s DDR_VER_SEL) (value % 256) } }

/-- DDR_CHANNEL_LOST (R369). -/
def loseChannel (s : State) (ch : Nat) : State :=
  if getF s (DDR_CH_STATUS_LOST ch) = 1 then s else sendFault (setF s (DDR_CH_STATUS_LOST ch) 1) 0x15 0x005 4 (ch * 2)

/-- Clear a bit of `RST.SUB_CTRL` at completion (R473). -/
def subDone (s : State) (i : Nat) : State := wr s RST_SUB_CTRL.addr (setBits (rd s RST_SUB_CTRL.addr) i 1 0)

/-- SUB_RESET_DDR (R368, R369): asked for through `RST.SUB_CTRL` or started by the channel itself (R444). -/
def execSubResetDdr (ch : Nat) (ok : Bool) (s : State) : Ans :=
  if 6 ≤ ch ∨ getF s (DDR_CH_STATUS_TRAINED ch) = 0 then .next s
  else
    let s := subDone (sendFault (bump s (DDR_CH_RETRAIN ch) 1) 0x15 0x004 0 (ch * 2)) ch
    .next (if ok then s else loseChannel s ch)

/-- SUB_RESET_ETH (R473): the MAC's reset completes. -/
def execSubResetEth (mac : Nat) (s : State) : Ans := if 4 ≤ mac then .next s else .next (subDone s (6 + mac))

/-- SUB_RESET_PCIE (R473). -/
def execSubResetPcie (s : State) : Ans := .next (subDone s 10)

end Sys2Proof.Machine
end

