-- ==== Sys2Proof/Machine/Reset.lean ====
section
/-! DEFINITION. Reset episodes, the reset of each reach, pins, clocks and release (R444 to R453). -/

namespace Sys2Proof.Machine

/- ### What each reach keeps (R444, R443, R452) -/

/-- Registers a cold reset keeps: the always-on domain's (R443, R473). -/
def coldKeeps (a : Nat) : Bool :=
  a == 0x40100000 || a == 0x40100004 || a == 0x40100008 || (decide (0x41E01000 ≤ a) && decide (a < 0x41E02000)) || a == 0x41E02000

/-- Registers a warm reset keeps besides: two-hand groups 4 and 5, the safety island's, the clock sets outside its reach, the Bell line's
fixed delays and the DDR block's (R429, R443, R444, R69, R372). -/
def warmKeeps (a : Nat) : Bool :=
  coldKeeps a || a == 0x40100010 || a == 0x40100014 || (decide (0x41E00000 ≤ a) && decide (a < 0x41F00000)) ||
    (decide (0x40202000 ≤ a) && decide (a < 0x40203000)) || a == 0x40280004 || a == 0x40500004 || a == 0x40500008 || a == 0x4050000C ||
    (decide (0x41500000 ≤ a) && decide (a < 0x41600000)) || a == 0x41680000

def keepRegs (s : State) (f : Nat → Bool) : List (Nat × Word) := s.regs.filter (fun p => f p.1)

/-- What lies in the flash, the fuses, the eMMC and the key buffer outlives every reset (R466, R480, R494, R499, R507). -/
def keptStart (s : State) (cold : Bool) : Start :=
  { journal := s.start.journal, aonCopy := s.start.aonCopy, slotA := s.start.slotA, slotB := s.start.slotB, minVer := s.start.minVer,
    banked := s.start.banked && !cold }

/-- The retirements that a reset interrupts or keeps from starting are applied by the next start (R354; log 161). -/
def openRetirements (s : State) : List Nat := s.anv.due ++ (match s.anv.copyOf with | some c => [c.2.1] | none => [])

def keptSpr (s : State) : Spr :=
  { heatHours := s.spr.heatHours, wearFences := s.spr.wearFences, wearRetired := s.spr.wearRetired,
    wearBanks := (openRetirements s).foldl insertNew s.spr.wearBanks,
    records := s.spr.records, wearSeq := s.spr.wearSeq, wearValid := s.spr.wearValid }

/-- FAULT_N released, BELL_OUT without a pulse, the boundary scan as after a reset; levels held as R452 gives. -/
def heldPins (s : State) (safe : Bool) (ddrReset : Bool) : Pins :=
  { planLive := s.pins.planLive, safeState := safe, faultN := false, faultHeld := s.pins.faultHeld, ddrResetN := ddrReset, extest := s.pins.extest, ir := s.pins.ir }

/-- Every domain but the always-on one returns to its reset state, the vehicle time counter with them (R444, R443, R75). -/
def coldState (s : State) : State :=
  let s' : State :=
    { regs := keepRegs s coldKeeps, aonTime := s.aonTime, flt := { first := s.flt.first }, rst := s.rst, start := keptStart s true, spr := keptSpr s,
      sec := keptSec s, pins := heldPins s true false, resp := s.resp, free := s.free, pending := s.pending }
  setF (setF (setF s' FLT_STATUS_RING_WR 16) FLT_STATUS_SAFE 0) FLT_STATUS_SERVICE 0

/-- DDR contents, their TAGs and the version table stay through a warm reset (R362, R366). -/
def ddrMem (m : Mem) : Mem :=
  { cells := m.cells.filter (fun c => decide (ddrBase ≤ c.1)), errs := m.errs.filter (fun c => decide (ddrBase ≤ c.1)), tags := m.tags }

/-- Channels a pending subsystem reset overlaps are content-lost (R366). -/
def warmDdr (s : State) : Ddr :=
  { ver := s.ddr.ver, sweepVer := s.ddr.sweepVer, mapBefore := getF s DDR_MAP_ACTIVE, invalid := s.ddr.invalid || !s.start.swept,
    contentLost := bitList 6 (getF s RST_SUB_CTRL_DDR), refreshes := s.ddr.refreshes }

/-- The domains of warm reach return to their reset state (R444, R429, R452, R437). -/
def warmState (s : State) : State :=
  let flt : Flt := { s.flt with warmPending := false, coldPending := false, warmCauses := 0, coldCauses := 0, serviceIrq := false }
  let pln : Pln := { sent := s.pln.sent, canTx0 := s.pln.canTx0, canTx1 := s.pln.canTx1, eth := s.pln.eth, cfg := s.pln.cfg, seq := s.pln.seq,
                     stroke := s.pln.stroke }
  let s' : State :=
    { regs := keepRegs s warmKeeps, mem := ddrMem s.mem, aonTime := s.aonTime, bell := { targetFixed := s.bell.targetFixed }, pln := pln,
      ddr := warmDdr s, flt := flt, rst := s.rst, start := keptStart s false, spr := keptSpr s,
      sec := keptSec s, pins := heldPins s s.pins.safeState true, resp := s.resp, free := s.free, pending := s.pending }
  let s' := (bitList 6 (getF s DDR_MAP_ACTIVE)).foldl (fun s c => setF s (DDR_CH_STATUS_SELF_REFRESH c) 1) s'
  setF (setF (setF (setF s' UBF_NODE_CFG_EXP 0) BEL_CFG_MANAGER (getF s BEL_CFG_MANAGER)) FLT_STATUS_SAFE 0) FLT_STATUS_SERVICE 0

def resetTo (s : State) (reach : Nat) : State := if reach = 4 then coldState s else warmState s

/- ### Episodes (R445) -/

/-- More than WARM_LIMIT warm episodes within WARM_WIN, this one counted (R472, R473). -/
def warmExcess (s : State) : Bool :=
  let lim := getF s RST_POLICY_WARM_LIMIT
  let recent := s.rst.warmTimes.filter (fun t => decide (s.aonTime ≤ t + getF s RST_POLICY_WARM_WIN * 1000000000))
  decide (0 < lim ∧ lim < recent.length + 1)

/-- A source of reach 3 or 4 counts as asserted: it begins an episode, joins one, raises its reach, or restarts its release. -/
def assertSource (s : State) (cause reach : Nat) : State :=
  let new := s.rst.reach = 0
  let r' := max s.rst.reach reach
  let s := if new ∧ r' = 3 then { s with rst := { s.rst with warmTimes := s.rst.warmTimes ++ [s.aonTime], warmAt := s.aonTime } } else s
  let again := new ∨ s.rst.released ∨ s.rst.reach < r'
  let rst : Rst := { s.rst with reach := r', causes := setBits (if new then 0 else s.rst.causes) cause 1 1, released := false,
                                counted := if new then 0 else s.rst.counted }
  let s := { s with rst := rst }
  if again then resetTo s r' else s

/-- The warm escalation; past WARM_LIMIT it becomes cold and writes RST 0x004 (R472). -/
def warmEscalate (s : State) (cause : Nat) : State :=
  if warmExcess s then assertSource (sendFault s 0x01 0x004 7 0) cause 4 else assertSource s cause 3

def holdSource (s : State) (cause : Nat) : State := { s with rst := { s.rst with held := insertNew s.rst.held cause } }
def freeSource (s : State) (cause : Nat) : State := { s with rst := { s.rst with held := s.rst.held.filter (· != cause) } }

/-- Pin 0 is COLD_RST_N (cause bit 4, reach 4), pin 1 WARM_RST_N (cause bit 8, reach 3). -/
def pinCause (pin : Nat) : Nat := if pin = 0 then 4 else 8

/-- RESET_PIN_ASSERT (R446): the low level has lasted 28 cycles. -/
def execResetPinAssert (pin : Nat) (s : State) : Ans :=
  if 2 ≤ pin ∨ !s.rst.pwrGood ∨ s.rst.held.contains (pinCause pin) then .next s
  else
    let s := if pin = 1 ∧ s.rst.reach = 0 ∧ warmExcess s then sendFault s 0x01 0x004 7 0 else s
    .next (assertSource (holdSource s (pinCause pin)) (pinCause pin) (if pin = 0 then 4 else 3))

/-- The boundary scan ends with the hold (R509). -/
def endScan (s : State) : State := { s with pins := { s.pins with extest := false } }

/-- RESET_PIN_RELEASE (R446): the pin reads high; a pulse that ended before it counted is ignored. -/
def execResetPinRelease (pin : Nat) (s : State) : Ans :=
  if 2 ≤ pin ∨ !s.rst.pwrGood then .next s
  else if s.rst.held.contains (pinCause pin) then .next (freeSource (if pin = 0 then endScan s else s) (pinCause pin))
  else .next (sendFault (bump s (if pin = 0 then RST_PIN_SHORT_COLD else RST_PIN_SHORT_WARM) 1) 0x01 0x001 0 pin)

/-- PWR_GOOD_FALL (R447): every domain, the always-on one included; the key is erased (R494). -/
def execPwrGoodFall (s : State) : Ans :=
  let rst : Rst := { held := [3], reach := 4, causes := 8, pwrGood := false }
  let s' := coldState s
  .next { s' with regs := [], time := 0, flt := {}, rst := rst, start := { s'.start with aonCopy := [] }, sec := { s'.sec with keyPresent := false, secret := [] } }

/-- PWR_GOOD_RISE (R447): released after 250 cycles; the log and the counts are clear and a cold episode has begun. -/
def execPwrGoodRise (s : State) : Ans :=
  if s.rst.pwrGood then .next s
  else .next { (endScan s) with regs := [], flt := {}, rst := { held := s.rst.held.filter (· != 3), reach := 4, causes := 8, pwrGood := true } }

/- ### Release and clocks (R445, R448 to R451) -/

/-- An episode is counted once, under the reach it has. -/
def countEpisode (s : State) : State :=
  let r := s.rst.reach
  if s.rst.counted = r then s
  else
    let s := if s.rst.counted = 3 then setF s RST_EPISODES_WARM (getF s RST_EPISODES_WARM - 1) else s
    let s := bump s (if r = 4 then RST_EPISODES_COLD else RST_EPISODES_WARM) 1
    { s with rst := { s.rst with counted := r } }

/-- Content-lost channels show after release (R366, R370). -/
def showLost (s : State) : State :=
  s.ddr.contentLost.foldl (fun s c => sendFault (setF s (DDR_CH_STATUS_CONTENT_LOST c) 1) 0x15 0x006 0 (c * 2)) s

/-- The straps are latched at the release of a cold reset: `UBF.NODE_CFG`, and MANAGER of `BEL.CFG` (R20, R76, R374). -/
def latchStraps (s : State) (role node : Nat) : State :=
  setF (setF (setF s UBF_NODE_CFG_ROLE role) UBF_NODE_CFG_NODE_ID node) BEL_CFG_MANAGER (b2n (role % 4 == 1))

/-- A new `DBG.NONCE` at a reset release (R511; log 2). -/
def newNonce (s : State) : State :=
  let r := fresh s
  setF r.2 DBG_NONCE (Config.freeValue r.1)

/-- RELEASE_BEGIN (R445, R448, R456): every source is released; a cold release latches the straps (R374); a new
`DBG.NONCE` (R511). -/
def execReleaseBegin (roleStrap nodeStrap : Nat) (s : State) : Ans :=
  if s.rst.reach = 0 ∨ s.rst.released ∨ s.rst.held ≠ [] ∨ !s.rst.pwrGood then .next s
  else
    let s := countEpisode { s with rst := { s.rst with released := true } }
    let s := newNonce (setF (setF s RST_CAUSE s.rst.causes) RST_CAUSE_REACH s.rst.reach)
    if s.rst.reach = 4 then .next (latchStraps s roleStrap nodeStrap)
    else .next (showLost (setF s RST_START_WARM 1))

/-- The domains an episode releases (R444, R448). -/
def reachDomains (reach : Nat) : List Nat := if reach = 4 then [1, 2, 3, 4, 5, 6, 7, 8] else [1, 3, 4, 5, 6, 7, 8]

def domainDone (s : State) (d : Nat) : Bool := flag s (CLK_D_STATUS_QUALIFIED d) || flag s (CLK_D_STATUS_FAILED d)

/-- The release sequence ends when every domain of the reach is released or failed (R445). -/
def endEpisode (s : State) : State :=
  if s.rst.released ∧ (reachDomains s.rst.reach).all (domainDone s) then { s with rst := { s.rst with reach := 0, released := false } } else s

/-- The boot ROMs run once their domains are released: PHASE 1 and the PUF key (R454, R494). -/
def bootRuns (s : State) : State :=
  if flag s (CLK_D_STATUS_QUALIFIED 1) ∧ flag s (CLK_D_STATUS_QUALIFIED 2) ∧ getF s RST_START_PHASE = 0 then
    { setF s RST_START_PHASE 1 with sec := { s.sec with keyPresent := true, secret := if s.sec.keyPresent then s.sec.secret else Config.pufSecret } }
  else s

/-- The engine and the application-core domains qualified after the commits (R454). -/
def phase5 (s : State) : State :=
  if getF s RST_START_PHASE = 4 ∧ flag s (CLK_D_STATUS_QUALIFIED 3) ∧ flag s (CLK_D_STATUS_QUALIFIED 4) then setF s RST_START_PHASE 5 else s

/-- DOMAIN_QUALIFIED (R449); in service, a domain back within ±2 % leaves OUT_TOL (R474). -/
def execDomainQualified (domain khz : Nat) (s : State) : Ans :=
  if domain = 0 ∨ 9 ≤ domain then .next s
  else if flag s (CLK_D_STATUS_QUALIFIED domain) then .next (setF (setF s (CLK_D_FREQ domain) khz) (CLK_D_STATUS_OUT_TOL domain) 0)
  else if !s.rst.released ∨ flag s (CLK_D_STATUS_FAILED domain) then .next s
  else
    let s := setF (setF (setF s (CLK_D_STATUS_LOCKED domain) 1) (CLK_D_STATUS_QUALIFIED domain) 1) (CLK_D_FREQ domain) khz
    .next (endEpisode (phase5 (bootRuns (setF s CLK_REF_PRESENT 1))))

/-- CLOCK_FAIL_RETRY (R450): the cold release again, with the straps as they are. -/
def execClockFailRetry (s : State) : Ans :=
  if !s.start.retryDue then .next s
  else
    let t := coldState s
    .next (latchStraps (newNonce { t with rst := { t.rst with reach := 4, released := true } }) (role s) (nodeId s))

/-- CLOCK_OUT_OF_TOL (R451). -/
def execClockOutOfTol (domain khz : Nat) (s : State) : Ans :=
  if domain = 0 ∨ 9 ≤ domain ∨ !flag s (CLK_D_STATUS_QUALIFIED domain) then .next s
  else
    let s := setF s (CLK_D_FREQ domain) khz
    if flag s (CLK_D_STATUS_OUT_TOL domain) then .next s
    else
      let s := bump (setF s (CLK_D_STATUS_OUT_TOL domain) 1) (CLK_D_OOT domain) 1
      .next (if domain ≤ 2 then sendFault s 0x02 0x002 7 domain else sendFault s 0x02 0x001 6 domain)

/-- REFCLK_LOST (R451). -/
def execRefclkLost (s : State) : Ans := .next (sendFault (setF (setF s CLK_REF_PRESENT 0) CLK_REF_LOST_SEEN 1) 0x02 0x003 7 0)

/-- COLD_ESCALATE (R434): the cold reset of a COLD reaction; after a failed start its cause shows START_FAIL (R444). -/
def execColdEscalate (s : State) : Ans :=
  if !s.flt.coldPending then .next s
  else
    let c := s.flt.coldCauses
    .next (assertSource s (if bit c 7 && !bit c 6 then 7 else 6) 4)

end Sys2Proof.Machine
end

