-- ==== Sys2Proof/Machine/Plan.lean ====
section
/-! DEFINITION. The plan of a stroke: the stop plan (R274), the plan message (R276 to R280) and its delivery (R270, R281 to R284). -/

namespace Sys2Proof.Machine

/- ### Messages (R276, R277) -/

def sx24 (n : Nat) : Int := sx 24 n

/-- The poses of a plan message, in the odometry frame. -/
def messagePoses (m : List Nat) : List Pose :=
  let x0 := sx 32 (fldAt m 56 4)
  let y0 := sx 32 (fldAt m 60 4)
  (List.range (fldAt m 66 1)).map (fun q =>
    let o := 124 + 14 * q
    { x := x0 + sx24 (fldAt m o 3), y := y0 + sx24 (fldAt m (o + 3) 3), h := fldAt m (o + 6) 2, s := fldAt m (o + 8) 2,
      c := sx 16 (fldAt m (o + 10) 2), t := fldAt m (o + 12) 2 })

def poseMsg (p0 p : Pose) : List Nat :=
  leBytes 3 (toU 24 (p.x - p0.x)) ++ leBytes 3 (toU 24 (p.y - p0.y)) ++ leBytes 2 p.h ++ leBytes 2 p.s ++ leBytes 2 (toU 16 p.c) ++ leBytes 2 p.t

/-- The 1,024 bytes from the header fields and the poses, with the CRC over bytes 0 to 1,019. -/
def withCrc (b : List Nat) : List Nat := b.take 1020 ++ leBytes 4 (crc32c (b.take 1020))

def buildMessage (fs : List (Nat × Nat × Nat)) (ps : List Pose) : List Nat :=
  let p0 := ps.headD {}
  let hdr := layout 124 ([(0, 2, 1), (2, 2, 1024), (56, 4, toU 32 p0.x), (60, 4, toU 32 p0.y), (66, 1, ps.length)] ++ fs)
  withCrc (hdr ++ ((ps.flatMap (poseMsg p0) ++ List.replicate 896 0).take 896))

/- ### The stop plan (R274) -/

/-- The point of the polyline at arc length d from its first pose; past the last pose, straight along its heading. -/
def pathPoint : List Pose → Nat → Pose
  | [], _ => {}
  | [p], d =>
    let n := sinIdx p.h
    { p with x := p.x + Int.tdiv ((d : Int) * cosT n) (2 ^ 30), y := p.y + Int.tdiv ((d : Int) * sineT n) (2 ^ 30) }
  | p :: q :: t, d =>
    let dx := q.x - p.x
    let dy := q.y - p.y
    let len := isqrt (dx * dx + dy * dy).toNat
    if d < len then { p with x := p.x + Int.tdiv (dx * d) len, y := p.y + Int.tdiv (dy * d) len }
    else pathPoint (q :: t) (d - len)

/-- Pose times of a stop plan: the smallest multiple of 256 that stops within 63 steps, at most 1,024. -/
def stopDt (a v : Nat) : Nat := if v * 4096 ≤ 63 * a * 256 then 256 else if v * 4096 ≤ 63 * a * 512 then 512 else if v * 4096 ≤ 63 * a * 768 then 768 else 1024

/-- Poses j to 63, with the arc length and speed before them. -/
def stopGo (path : List Pose) (a v dt : Nat) : Nat → Nat → Nat → Nat → List Pose
  | 0, _, _, _ => []
  | k + 1, j, d, vPrev =>
    let vj := v - a * j * dt / 4096
    let d := if j = 0 then d else d + (vPrev + vj) * dt / 2048
    let p := pathPoint path d
    { p with s := vj, t := j * dt } :: stopGo path a v dt k (j + 1) d vj

/-- The stop plan from the copy of the last message sent, at stroke time t; no poses when none was sent. -/
def stopPlan (sent : Option (List Nat)) (a t : Nat) : List Pose :=
  match sent with
  | none => []
  | some m =>
    let ps := messagePoses m
    let base := fldAt m 24 8
    let later := ps.dropWhile (fun p => decide (base * 4096 + p.t * 10 ^ 9 < t * 4096))
    let path := if later = [] then ps.drop (ps.length - 1) else later
    match path with
    | [] => []
    | p :: _ => stopGo path a p.s (stopDt a p.s) 64 0 0 p.s

/- ### The message's fields (R276, R278) -/

/-- The node's logical Hammers in service: this device's, and those of its workers, which no message tells it. In REPRO mode every device
runs its billet's whole count, so that their number hangs on the node alone (R327, R330; log 35). -/
def nodeHammers (s : State) : Nat × State :=
  let own := ((List.range (logical s 4)).filter (fun l => (physE s 4 l).isSome)).length
  let others := (List.range 16).filter (fun n => n != nodeId s && isAdmitted s n)
  if inRepro s then (own + (others.map (fun n => Config.workerHammers n % 2048)).foldl (· + ·) 0, s)
  else if others = [] then (own, s)
  else
    let r := fresh s
    (own + Config.freeValue r.1 % 2048, r.2)

def degraded (s : State) : Bool := (List.range 8).any (fun c => decide (logical s c < gradeCount s.bil.grade c))

def spareOut (s : State) : Nat := Nat.lor (getF s SPR_OUT % 256) (getF s ANV_STATUS_NO_SPARE)

/-- The FLAGS bits that the moment of sending gives (R278). -/
def sendFlags (s : State) (case : Nat) (ps : List Pose) : Nat :=
  let own := decide (case = 5 ∨ case = 6)
  listFlags [false, false, false, false, false, flag s CRU_FIELD_STATUS_SUPERSEDED_URGENT, false, s.asy.urgentLate, false, false, s.asy.cutSeen,
    false, false, inRepro s, false, degraded s, flag s ASY_STATUS_ARMED,
    !own && ps.any (fun p => decide (p.t = 63 * stopDt s.pln.cfg.decel (ps.headD {}).s) && decide (0 < p.s))]

def peakAge (s : State) : Nat := if flag s PEL_FRAME_NONE then 255 else getF s PEL_FRAME_AGE

def planSource (case : Nat) : Nat := if case = 5 then 0 else if case = 6 then 1 else 2

/-- The fields of every message of a decision, valid from `from_`. -/
def commonFields (s : State) (d : Decided) (from_ hammers : Nat) (ps : List Pose) : List (Nat × Nat × Nat) :=
  let src := planSource d.case
  [(4, 4, (s.pln.seq + 1) % 2 ^ 32), (8, 8, s.pln.stroke.1), (16, 8, s.pln.stroke.2), (24, 8, if src = 2 then s.pln.stroke.2 else tHeat s),
   (32, 8, from_), (40, 8, from_ + s.pln.cfg.validity * 1000), (48, 4, getF s CRU_HEAT_SEALED), (52, 4, Nat.lor d.flags (sendFlags s d.case ps)),
   (64, 1, src), (65, 1, if src = 2 then 3 else 0), (67, 1, peakAge s), (68, 1, mode s), (70, 2, hammers), (90, 2, if src = 2 then 0 else d.seen),
   (92, 8, heatByte s 48 8), (116, 4, spareOut s)]

/-- The poses delivered: the chosen order entry's or the carry-over's, else the stop plan's. -/
def planPoses (s : State) (d : Decided) : List Pose :=
  if planSource d.case = 2 then stopPlan s.pln.sent s.pln.cfg.decel s.pln.stroke.2 else posesOf d.poses (d.poses.length / 16)

/- ### Sending (R279 to R283) -/

/-- The 16 CAN FD frames of a message (R279, R280). -/
def canFrames (c : PlanCfg) (m : List Nat) : List CanFrame :=
  (List.range 16).map (fun f => { id := c.canId + f, ext := c.ext, nbr := c.nbr, dbr := c.dbr, data := (m.drop (64 * f)).take 64 })

/-- Controller 1 repeats every frame of controller 0 with DUAL (R280). -/
def sendCan (s : State) (dual : Nat) (fs : List CanFrame) : State :=
  { s with pln := { s.pln with canTx0 := s.pln.canTx0 ++ fs, canTx1 := if dual = 1 then s.pln.canTx1 ++ fs else s.pln.canTx1 } }

/-- The datagrams of a message: port 0, and port 1 with replication (R279). -/
def datagrams (c : PlanCfg) (m : List Nat) : List EthOut := ⟨0, c.net, m⟩ :: (if c.twoPorts then [⟨1, c.net, m⟩] else [])

/-- A message is handed to the reserved queue: SEQ, the copy of the fallback pair, CAN FD for SOURCE 2 (R279). -/
def handOver (s : State) (m : List Nat) : State :=
  let src := fldAt m 64 1
  let s := setF (setF s ASY_SEQ (fldAt m 4 4)) ASY_STATUS_SOURCE src
  let s := { s with pln := { s.pln with message := some m, sent := some m, eth := s.pln.eth ++ datagrams s.pln.cfg m, seq := fldAt m 4 4 } }
  if src = 2 then sendCan (bump s ASY_STOP_CNT 1) s.pln.cfg.dual (canFrames s.pln.cfg m) else s

/-- DELIVERED_COPY (R273): the delivered poses go to slot 25 with T_HEAT. -/
def keepDelivered (s : State) (ps : List Pose) : State :=
  let bs := ps.flatMap poseBytes
  { asyStore s (poseSlot 25) bs with pln := { s.pln with delivered := some (bs, tHeat s) } }

/-- WARM reaction: the warm source counts as asserted once a stop plan has been handed over (R434, R444). -/
def warmDue (s : State) : State :=
  if !s.flt.warmPending then s
  else
    let cs := (List.range 12).filter (bit s.flt.warmCauses)
    let c := cs.headD 9
    let s := warmEscalate s c
    { s with rst := { s.rst with causes := cs.foldl (fun m b => setBits m b 1 1) s.rst.causes } }

/-- The pins at a PLAN_DUE (R281 to R283, R437); PLAN_LIVE holds in REPRO mode. -/
def planPins (s : State) (src : Nat) : State :=
  let latched := flag s FLT_STATUS_SAFE
  let pins := if src = 2 then { s.pins with safeState := true }
    else if latched ∨ islandDown s then s.pins
    else { s.pins with planLive := if inRepro s then s.pins.planLive else !s.pins.planLive, safeState := false, faultN := !monitorOut s,
                       faultHeld := monitorOut s }
  showPins { s with pins := pins }

/-- The case's faults and counts (R270). -/
def caseFx (s : State) (case : Nat) : State :=
  if case = 6 then bump (asyFault s 0x004 3) ASY_CARRY_CNT 1 else if case = 7 then asyFault s 0x005 3 else s

/-- The message of a decision. -/
def planMessage (s : State) (d : Decided) (from_ hammers : Nat) : List Nat :=
  let ps := planPoses s d
  buildMessage (commonFields s d from_ hammers ps ++ d.fields) ps

/-- Build and send the message of a decision, valid from `from_`. -/
def sendPlan (s : State) (d : Decided) (from_ : Nat) : State :=
  let late := decide (s.asy.nFrozen < s.asy.nDelta)
  let s := if late then bump { s with asy := { s.asy with urgentLate := true } } ASY_URG_LATE 1 else s
  let h := nodeHammers s
  let s := h.2
  let ps := planPoses s d
  let m := planMessage s d from_ h.1
  let s := handOver (caseFx s d.case) m
  if planSource d.case = 2 then s
  else keepDelivered { s with flt := { s.flt with stopRepeat := s.flt.stopRepeat && s.flt.warmPending } } ps

/-- The pins of a message that stands at its PLAN_DUE, and the warm reset that waits for a stop plan (R282, R434). -/
def settlePlan (s : State) (src : Nat) : State := if src = 2 then warmDue (planPins s src) else planPins s src

/-- The SOURCE of the message sent in this stroke. -/
def sentSource (s : State) : Option Nat := s.pln.message.map (fun m => fldAt m 64 1)

/-- PLAN_DUE (R270, R276 to R283). A worker sends nothing; it takes a pending warm reset here (R375, R434). In REPRO mode the message went
out when it was decided, and the pins follow here (R282 to R284). -/
def execPlanDue (at_ : Nat) (s : State) : Ans :=
  let s := atTime s at_
  if !isManager s then .next (warmDue s)
  else if !s.stk.any ∨ s.stk.planDone ∨ s.pln.strokeLoss ∨ at_ < s.stk.inst + getF s CAR_PLAN_DUE then .next s
  else
    let s := { s with stk := { s.stk with planDone := true } }
    if inRepro s then
      match sentSource s with
      | some src => .next (settlePlan s src)
      | none => .next s
    else match s.pln.decided with
      | none => .next (asyFault (bump s ASY_NOPLAN_CNT 1) 0x00B 3)
      | some d =>
        .next (settlePlan (sendPlan s d (s.stk.inst + getF s CAR_PLAN_DUE)) (planSource d.case))

/-- In REPRO mode the message is sent at the decision; one sent after the stroke's PLAN_DUE shows at the pins at once (R284; log 157). -/
def sendNow (s : State) (d : Decided) : State :=
  let s := sendPlan s d s.time
  if s.stk.planDone then settlePlan s (planSource d.case) else s

/- ### Stop plans outside the strokes (R270 case 1, R434, R437) -/

/-- The decision of case 1. -/
def lossDecision (s : State) : Decided := { case := 1, flags := choiceFlags s 1 [] }

/-- STOP_PLAN_REPEAT: each period under stroke loss, or through a warm reaction's reset, a stop plan computed anew (R274; log 36). -/
def execStopPlanRepeat (at_ : Nat) (s : State) : Ans :=
  let s := atTime s at_
  if !isManager s ∨ mode s = 3 ∨ !(s.pln.strokeLoss || (s.flt.stopRepeat && !s.stk.any)) then .next s
  else
    let h := nodeHammers s
    .next (settlePlan (handOver h.2 (planMessage h.2 (lossDecision h.2) s.time h.1)) 2)

/-- CAN_FRAME_SENT (R280): the frame at the head leaves, or is sent again. -/
def execCanFrameSent (ctrl : Nat) (ok : Bool) (s : State) : Ans :=
  if !ok then .next s
  else if ctrl = 0 then .next { s with pln := { s.pln with canTx0 := s.pln.canTx0.drop 1 } }
  else if ctrl = 1 then .next { s with pln := { s.pln with canTx1 := s.pln.canTx1.drop 1 } }
  else .next s

end Sys2Proof.Machine
end

