-- ==== Sys2Proof/Machine/Faults.lean ====
section
/-! DEFINITION. The fault collector (R431 to R436), the first-fault area (R432) and the safety island's pairs (R438). -/

namespace Sys2Proof.Machine

/- ### Reactions (R434) -/

/-- The class whose physical unit a record's UNIT names, by block and code; none where the code names no engine unit (R434). -/
def fenceClass (r : FaultRec) : Option Nat :=
  if r.block = 0x07 then (if 1 ≤ r.code then some 0 else none)
  else if r.block = 0x0A then (if r.code = 0x004 ∨ r.code = 0x010 then some 1 else none)
  else if r.block = 0x0C then (if r.code = 0x003 ∨ r.code = 0x005 then some 2 else none)
  else if r.block = 0x0B then (if 1 ≤ r.code then some 3 else none)
  else if r.block = 0x09 then (if 2 ≤ r.code then some 4 else none)
  else if r.block = 0x0D then (if 1 ≤ r.code ∧ r.code ≠ 0x004 then some 5 else none)
  else if r.block = 0x0E then (if 1 ≤ r.code then some 6 else none)
  else if r.block = 0x0F then (if r.code = 0x002 ∨ r.code = 0x00C then some 4 else if 1 ≤ r.code then some 7 else none)
  else if r.block = 0x10 then (if 1 ≤ r.code then some 8 else none)
  else none

/-- FENCE: the physical unit of the record, or LOG (R434). -/
def reactFence (s : State) (r : FaultRec) : State :=
  match fenceClass r with
  | some c => if r.unit < physCount c then fenceUnit s (classBase c + r.unit) false else s
  | none => s

/-- The cause bit of a WARM reaction: watchdog, software request or the safety island's own (R473). -/
def warmCauseOf (r : FaultRec) : Nat := if r.block = 1 ∧ r.code = 2 then 10 else if r.block = 1 ∧ r.code = 3 then 11 else 9

/-- The cause bit of a COLD reaction: a failed start or the safety island's own (R473). -/
def coldCauseOf (r : FaultRec) : Nat := if r.block = 1 ∧ r.code = 6 then 7 else 6

/-- A WARM reaction never weakens a pending COLD one (R436). -/
def reactWarm (s : State) (r : FaultRec) : State :=
  let t := reactPlain s 5
  if s.flt.coldPending then { t with flt := { t.flt with warmPending := false } }
  else { t with flt := { t.flt with warmCauses := setBits t.flt.warmCauses (warmCauseOf r) 1 1 } }

/-- A COLD reaction replaces a pending WARM one (R436). -/
def reactCold (s : State) (r : FaultRec) : State :=
  let t := reactPlain s 6
  { t with flt := { t.flt with warmPending := false, coldCauses := setBits t.flt.coldCauses (coldCauseOf r) 1 1 } }

/-- Apply a reaction to its record (R434). -/
def react (s : State) (r : FaultRec) (k : Nat) : State :=
  if k = 1 then reactFence s r else if k = 5 then reactWarm s r else if k = 6 then reactCold s r else reactPlain s k

/-- FAULT_RECORD (R431, R432): a block sends a record of the present moment. -/
def execFaultRecord (block code cls unit : Nat) (s : State) : Ans := .next (sendFault s block code cls unit)

/-- The collector takes the record at its FIFO's front: it is logged and its reaction applies (R432 to R436). -/
def acceptFault (s : State) : State :=
  match s.flt.fifo with
  | [] => s
  | r :: rest => react (logRec { s with flt := { s.flt with fifo := rest } } r) r (reactionOf s r)

/-- FAULT_ACCEPT. -/
def execFaultAccept (s : State) : Ans := .next (acceptFault s)

/-- CLR_FIRST (R432, R443): only brands 0x01 to 0x04. -/
def clearFirst (s : State) (brand : Nat) : State :=
  if 1 ≤ brand ∧ brand ≤ 4 then answer (setF { s with flt := { s.flt with first := [] } } FLT_STATUS_FIRST 0) .ok else answer s .error

def execClrFirst (brand : Nat) (s : State) : Ans := .next (guarded s brand 1 FLT_CTRL.addr (fun s => clearFirst s brand))

/- ### Safety island pairs (R36, R438): role 0 is the monitor, role 1 the fallback pair; pair p has brand 2 + p -/

/-- The role a pair holds or is taking over. -/
def roleOfPair (s : State) (p : Nat) : Option Nat :=
  match s.flt.takeover with
  | some (r, q) => if q = p then some r else (s.flt.roles.find? (fun x => x.2 == p && x.1 != r)).map (·.1)
  | none => (s.flt.roles.find? (fun x => x.2 == p)).map (·.1)

/-- A pair without a role that has not failed. -/
def sparePair (s : State) : Option Nat :=
  [0, 1, 2].find? (fun p => !s.flt.deadPairs.contains p && !(s.flt.roles.any (fun x => x.2 == p)) &&
    (match s.flt.takeover with | some (_, q) => q != p | none => true))

/-- FAULT_N released; its level is remembered for the end of a takeover (R283). -/
def dropFaultN (s : State) : State :=
  showPins { s with pins := { s.pins with faultHeld := s.pins.faultHeld || s.pins.faultN, faultN := false } }

/-- Every group in STAGING or CLOSED ends ABORTED when a hand loses its role (R429). -/
def abortOpen (s : State) : State :=
  (List.range 9).foldl (fun s g => if getF s (FWL_TH_STATUS_STATE g) ≠ 0 then thEnd s g 6 else s) s

/-- A pair loses its role: the spare takes it over, or none is left and the always-on domain escalates (R438). -/
def loseRole (s : State) (r : Nat) : State :=
  let s := if r = 0 then dropFaultN (abortOpen s) else s
  match sparePair s with
  | some q => sendFault { s with flt := { s.flt with takeover := some (r, q) } } 0x13 0x001 2 0
  | none =>
    let t := dropFaultN s
    let roles := t.flt.roles.filter (fun x => x.1 != r)
    sendFault { t with flt := { t.flt with roles := roles, takeover := t.flt.takeover.filter (fun x => x.1 != r), coldPending := true } } 0x13 0x002 7 0

/-- LOCKSTEP_MISMATCH (R438). -/
def execLockstepMismatch (pair : Nat) (s : State) : Ans :=
  if 3 ≤ pair ∨ s.flt.deadPairs.contains pair then .next s
  else
    let r := roleOfPair s pair
    let s := { s with flt := { s.flt with deadPairs := s.flt.deadPairs ++ [pair] } }
    .next (match r with | some r => loseRole s r | none => s)

/-- PAIR_TAKEOVER_DONE (R438): the spare starts the role; FAULT_N is driven again when it was and no other ground holds (R283). -/
def execPairTakeoverDone (s : State) : Ans :=
  match s.flt.takeover with
  | none => .next s
  | some (r, q) =>
    let roles := s.flt.roles.filter (fun x => x.1 != r) ++ [(r, q)]
    let s := { s with flt := { s.flt with roles := roles, takeover := none } }
    let high := s.pins.faultN || (s.pins.faultHeld && r == 0 && !flag s FLT_STATUS_SAFE)
    .next (showPins { s with pins := { s.pins with faultN := high, faultHeld := false } })

end Sys2Proof.Machine
end

