-- ==== Sys2Proof/Machine/TwoHand.lean ====
section
/-! DEFINITION. Two-hand commit: the groups, their images, the digest and the commands (R425 to R429, R441). -/

namespace Sys2Proof.Machine

/- ### Groups and images (R425) -/

/-- Bits of access 2H in word k of a firewall region (R420). -/
def regionMask (k : Nat) : Nat := if k = 10 then 0xF else if k = 11 then 0 else 0xFFFFFFFF

/-- The 2H fields of a group in ascending offset: word addresses with the mask of their 2H bits. -/
def groupWords (g : Nat) : List (Nat × Nat) :=
  if g ≤ 3 then (List.range 768).map (fun i => (0x41200000 + g * 0x1000 + 4 * i, regionMask (i % 12)))
  else if g = 4 then (List.range 512).map (fun i => (0x41E01000 + 4 * i, if i % 2 = 0 then 0x07FFFFFF else 0x7))
  else if g = 5 then [(0x40100010, 0xFFF3), (0x40100014, 0xFFFF)]
  else if g = 6 then
    (0x41100000, 0x1F) :: (List.range 11).flatMap (fun c => (List.range (physCount c)).map (fun l => (0x41110000 + c * 0x400 + 4 * l, 0x1FF)))
  else if g = 7 then [(0x41D00010, 0x7)]
  else if g = 8 then [(0x40800008, 0x7FF)]
  else []

/-- The group of a 2H word. -/
def groupOf (a : Nat) : Option Nat := (List.range 9).find? (fun g => (groupWords g).any (fun p => p.1 == a))

/-- The committed word, or the staged one (R427). -/
def stagedWord (s : State) (g : Nat) (p : Nat × Nat) : Nat :=
  match s.fwl.staged.find? (fun q => q.1 == g && q.2.1 == p.1) with
  | some q => q.2.2
  | none => Nat.land (rd s p.1) p.2

def imageWords (s : State) (g : Nat) : List (Nat × Nat) := (groupWords g).map (fun p => (p.1, stagedWord s g p))

def leWords (ws : List Nat) : List Nat := ws.flatMap (leBytes 4)

/-- The digest over group number, SEQ + 1 and image (R428). -/
def groupDigest (s : State) (g : Nat) : List Nat :=
  sm3 (g :: (leBytes 4 (getF s (FWL_TH_SEQ g) + 1) ++ leWords ((imageWords s g).map (·.2))))

/-- The digest words the committer wrote: word 0 holds digest bytes 0 to 3 (R441). -/
def writtenDigest (s : State) (g : Nat) : List Nat :=
  leWords ((List.range 8).map (fun k =>
    match s.fwl.digest.find? (fun q => q.1 == g && q.2.1 == k) with | some q => q.2.2 | none => 0))

/- ### Hands (R426) -/

/-- The brand of the pair that holds the monitor role. -/
def monitorBrand (s : State) : Option Nat :=
  if s.flt.takeover.map (·.1) = some 0 then none else (s.flt.roles.find? (fun x => x.1 == 0)).map (fun x => 2 + x.2)

def isHand (s : State) (b : Nat) : Bool := b == 1 || monitorBrand s == some b
/-- May the brand stage the group? -/
def mayStage (s : State) (g b : Nat) : Bool := isHand s b || (g == 8 && decide (0x10 ≤ b) && decide (b ≤ 0x19))

def thState (s : State) (g : Nat) : Nat := getF s (FWL_TH_STATUS_STATE g)
def thStager (s : State) (g : Nat) : Nat := getF s (FWL_TH_STATUS_STAGER g)
def thResult (s : State) (g res : Nat) : State := setF s (FWL_TH_STATUS_RESULT g) res

/-- An operation by a brand that may not take it (R426). -/
def thForeign (s : State) : State := answer (sendFault s 0x12 0x004 0 0) .error

/- ### Operations (R427, R429) -/

/-- OPEN; when both hands write in one cycle, brand 0x01 opens. -/
def openGroup (s : State) (brand g : Nat) (both : Bool) : State :=
  if !mayStage s g brand then thForeign s
  else if thState s g ≠ 0 then answer (thResult s g 5) .error
  else
    let s := { s with fwl := { s.fwl with staged := s.fwl.staged.filter (fun p => p.1 != g) } }
    let s := setF (setF s (FWL_TH_STATUS_STATE g) 1) (FWL_TH_STATUS_STAGER g) (if both then 1 else brand)
    if both then answer (thResult s g 5) (if brand = 1 then .ok else .error) else answer s .ok

/-- A write of a 2H field changes only the staging copy. -/
def stageWord (s : State) (brand addr value : Nat) : State :=
  match groupOf addr with
  | none => answer s .error
  | some g =>
    if !mayStage s g brand then thForeign s
    else if thState s g ≠ 1 ∨ thStager s g ≠ brand then answer s .error
    else
      let m := ((groupWords g).find? (fun p => p.1 == addr)).map (·.2) |>.getD 0
      let rest := s.fwl.staged.filter (fun p => !(p.1 == g && p.2.1 == addr))
      answer { s with fwl := { s.fwl with staged := rest ++ [(g, addr, Nat.land value m)] } } .ok

/-- CLOSE by the stager; the 1 ms timer starts. -/
def closeGroup (s : State) (brand g : Nat) : State :=
  if !mayStage s g brand then thForeign s
  else if thState s g ≠ 1 ∨ thStager s g ≠ brand then answer s .error
  else answer (setF s (FWL_TH_STATUS_STATE g) 2) .ok

/-- ABORT by the stager. -/
def abortGroup (s : State) (brand g : Nat) : State :=
  if !mayStage s g brand then thForeign s
  else if thState s g = 0 ∨ thStager s g ≠ brand then answer s .error
  else answer (thEnd s g 6) .ok

/-- What a committed group does beside holding its words (R425, R353, R486, R510). -/
def groupTakes (s : State) (g : Nat) (ws : List (Nat × Nat)) : State :=
  if g = 6 then { s with fwl := { s.fwl with mapPending := some ws } }
  else
    let s := ws.foldl (fun s p => wr s p.1 p.2) s
    if g = 7 then
      let v := (ws.headD (0, 0)).2
      if v = 0 then setF s DBG_STATE_SCOPE 0 else sendFault (setF (setF s DBG_STATE_SCOPE v) DBG_STATE_PENDING 0) 0x1D 0x002 5 0
    else if g = 8 then
      (if getF s ANV_REMAP_REQ_GO = 1 then bankDue s (getF s (ANV_MAP (getF s ANV_REMAP_REQ_LBANK))) else s)
    else s

/-- The staging copy becomes the committed content: SEQ + 1, RESULT OK, IDLE. -/
def commitGroup (s : State) (g : Nat) : State :=
  let ws := imageWords s g
  let s := groupTakes s g ws
  thEnd (setF s (FWL_TH_SEQ g) (getF s (FWL_TH_SEQ g) + 1)) g 1

/-- COMMIT by the other hand, against the digest it wrote (R427 to R429). -/
def commitBy (s : State) (brand g : Nat) : State :=
  if !mayStage s g brand then thForeign s
  else if thState s g ≠ 2 then answer s .error
  else if thStager s g = brand then answer (thResult s g 4) .error
  else if !isHand s brand then thForeign s
  else if groupDigest s g = writtenDigest s g then answer (commitGroup s g) .ok
  else answer (sendFault (thEnd s g 2) 0x12 0x002 4 0) .ok

/-- One of the committer's digest words. -/
def digestWord (s : State) (brand g k value : Nat) : State :=
  if !isHand s brand then thForeign s
  else
    let rest := s.fwl.digest.filter (fun q => !(q.1 == g && q.2.1 == k))
    answer { s with fwl := { s.fwl with digest := rest ++ [(g, k, value % 2 ^ 32)] } } .ok

/-- A write of `FWL.TH_CTRL`: the lowest bit that is set acts. -/
def ctrlWrite (s : State) (brand g value : Nat) : State :=
  if bit value 0 then openGroup s brand g false
  else if bit value 1 then closeGroup s brand g
  else if bit value 2 then commitBy s brand g
  else if bit value 3 then abortGroup s brand g
  else if mayStage s g brand then answer s .ok else thForeign s

/- ### Commands -/

/-- A write of a group's control register under the firewall of the register space (R420). -/
def thCtrl (s : State) (brand g : Nat) (k : State → State) : State :=
  if 9 ≤ g then answer s .error else guarded s brand 1 (FWL_TH_CTRL g).addr k

/-- TH_OPEN. -/
def execThOpen (brand group : Nat) (both : Bool) (s : State) : Ans := .next (thCtrl s brand group (fun s => openGroup s brand group both))

/-- TH_CLOSE. -/
def execThClose (brand group : Nat) (s : State) : Ans := .next (thCtrl s brand group (fun s => closeGroup s brand group))

/-- TH_COMMIT. -/
def execThCommit (brand group : Nat) (s : State) : Ans := .next (thCtrl s brand group (fun s => commitBy s brand group))

/-- TH_ABORT. -/
def execThAbort (brand group : Nat) (s : State) : Ans := .next (thCtrl s brand group (fun s => abortGroup s brand group))

/-- TH_TIMEOUT: 1 ms after CLOSE without a COMMIT. -/
def execThTimeout (group : Nat) (s : State) : Ans :=
  if 9 ≤ group ∨ thState s group ≠ 2 then .next s else .next (sendFault (thEnd s group 3) 0x12 0x003 0 0)

end Sys2Proof.Machine
end

