-- ==== Sys2Proof/Machine/Billet.lean ====
section
/-! DEFINITION. The content checks of a billet (R504 step 6), certificates and signed objects (R496, R497), a slot's bytes (R498 to R502)
and its verification (R504). -/

namespace Sys2Proof.Machine

/- ### Reading the billet's register words -/

/-- The values a register word takes that the billet does not give, where the spec states a default (R44, R84, R99, R103, R107, R143, R289,
R352, R364, R365, R403; log 146). -/
def defaultWords (b : Billet) : List (Nat × Nat) :=
  [(CAR_SEAL_OFS.addr, 200000), (CAR_PLAN_DUE.addr, 6000000), (CRU_CFG1_SEAL_MAX.addr, 50 + 50000 * 2 ^ CRU_CFG1_EGO_MAX_AGE.lo),
    (CRU_CFG0_CLAMP.addr, 4096 * 2 ^ CRU_CFG0_CLAMP.lo + 2048 * 2 ^ CRU_CFG0_REACH.lo),
    (PEL_CFG0_AGE_MAX.addr, 16 * 2 ^ PEL_CFG0_AGE_MAX.lo + 256 * 2 ^ PEL_CFG0_BAND.lo),
    (ASY_CFG0.addr, 8 * 2 ^ ASY_CFG0_CO_MIN.lo), (ASY_CFG1.addr, 768 * 2 ^ ASY_CFG1_STOP_DECEL.lo), (ASY_VALIDITY.addr, 2 * nget b.regs CAR_PERIOD.addr), (ASY_CAN_CFG_NBR.addr, 2 + 2 ^ ASY_CAN_CFG_DBR.lo), (ANV_CFG.addr, 64),
    (DDR_CFG_SCRUB_H.addr, 4 * 2 ^ DDR_CFG_SCRUB_H.lo), (UBF_CFG.addr, 1000),
    (THM_CFG_T_THROTTLE.addr, 112 + 105 * 2 ^ THM_CFG_T_RELEASE.lo + 120 * 2 ^ THM_CFG_T_CRIT.lo)]

/-- The words of the defaults that stand in for words the billet does not give. -/
def missingWords (b : Billet) : List (Nat × Nat) := (defaultWords b).filter (fun p => !b.regs.any (·.1 == p.1))

def bw (b : Billet) (a : Nat) : Nat := nget (b.regs ++ missingWords b) a
def bF (b : Billet) (f : Fld) : Nat := bits (bw b f.addr) f.lo f.w
def b64 (b : Billet) (lo hi : Fld) : Nat := bF b lo + 2 ^ 32 * bF b hi
/-- A list of words as a sparse map from its indices. -/
def sparse (ws : List Nat) : List (Nat × Nat) := (ws.zipIdx.filter (fun p => p.1 != 0)).map (fun p => (p.2, p.1))
def within (lo hi v : Nat) : Bool := decide (lo ≤ v) && decide (v ≤ hi)
def bPeriod (b : Billet) : Nat := bF b CAR_PERIOD * 1000

/- ### Offsets and configuration (R43, R44, R96, R103, R136, R188, R215, R251, R267, R279, R289, R542, R545) -/

def offsetsOk (b : Billet) : Bool :=
  let p := bPeriod b
  let sealAt := bF b CAR_SEAL_OFS
  let due := bF b CAR_PLAN_DUE
  within 5000 100000 (bF b CAR_PERIOD) && decide (sealAt < due) && decide (due * 100 ≤ 95 * p) &&
    decide (sealAt < bF b PEL_SEL_OFS) && decide (bF b PEL_SEL_OFS ≤ bF b PEL_END_OFS) && decide (bF b PEL_END_OFS < p) &&
    decide (sealAt < bF b HAM_CUT_OFS0) && decide (bF b HAM_CUT_OFS0 < p) && decide (sealAt < bF b HAM_CUT_OFS1) && decide (bF b HAM_CUT_OFS1 < p) &&
    decide (sealAt < bF b TNG_GATHER_OFS0) && decide (bF b TNG_GATHER_OFS0 ≤ bF b TNG_GATHER_OFS1) && decide (bF b TNG_GATHER_OFS1 < p) &&
    decide (sealAt < bF b QNC_DL_OFS) && decide (bF b QNC_DL_OFS < due) &&
    decide (sealAt < bF b ASY_FREEZE_OFS) && decide (bF b ASY_FREEZE_OFS + 50000 ≤ due) && (b.role != 1 || decide (bF b CAR_SRC_CFG ≤ 1))

/-- The words without a default, which every billet must give (R96, R289). -/
def mustGive : List Nat := [CRU_ZBAND_LO.addr, CRU_ZBAND_HI.addr, ASY_CFG0.addr, ASY_CFG1.addr, ASY_CAN_ID_ID.addr]

def limitsOk (b : Billet) : Bool :=
  mustGive.all (fun a => b.regs.any (·.1 == a)) &&
  decide (sx 16 (bF b CRU_ZBAND_LO) ≤ sx 16 (bF b CRU_ZBAND_HI)) && within 256 32767 (bF b CRU_CFG0_CLAMP) &&
    decide (bF b ASY_CFG0_AMARGIN + 2 ≤ bF b HAM_CFG0_MARGIN) && within 2 63 (bF b ASY_CFG0_CO_MIN) &&
    within 128 2560 (bF b ASY_CFG1_CO_DECEL) && within 128 2560 (bF b ASY_CFG1_STOP_DECEL) && within 1 200000 (bF b ASY_VALIDITY) &&
    decide (bF b ASY_CAN_CFG_DBR ≤ 4) &&
    decide (bF b ASY_CAN_ID_ID + 15 ≤ (if bF b ASY_CAN_ID_EXT = 1 then 0x1FFFFFFF else 0x7FF)) &&
    decide (bF b THM_CFG_T_RELEASE + 5 ≤ bF b THM_CFG_T_THROTTLE) && decide (bF b THM_CFG_T_THROTTLE < bF b THM_CFG_T_CRIT) &&
    decide (bF b THM_CFG_T_CRIT ≤ 122) && decide (b.sections.length ≤ 16)

/-- The SPARE section's ranges, when the billet has one (R545). -/
def spareOk (b : Billet) : Bool :=
  !(b.sections.any (fun x => x.1 == 8)) ||
    (within 1 15 (bF b SPR_POLICY_FENCE_LIFE) && within 1 65535 (bF b SPR_THRESH0_AGE_PPM) && within 1 65535 (bF b SPR_THRESH0_HOT_H) &&
      within 1 65535 (bF b SPR_THRESH1))

/- ### Motions, footprints, moves, costs (R123, R124, R149, R158, R178, R183) -/

def famOk (b : Billet) (f : Nat) : Bool :=
  let e := (List.range 4).flatMap (fun k => leBytes 4 (bw b (SWG_FAMILY (4 * f + k)).addr))
  if fldAt e 14 1 = 0 then zeroAt e 0 16
  else fldAt e 14 1 == 1 && fldAt e 15 1 == 0 && within 1 1024 (fldAt e 0 2) && within 1 32767 (fldAt e 2 2) &&
    decide (sx 16 (fldAt e 4 2) ≤ sx 16 (fldAt e 6 2)) && decide (1 ≤ fldAt e 8 2) && decide (fldAt e 10 2 ≤ fldAt e 2 2) &&
    decide (fldAt e 12 2 ≤ 32767)

def footNsph (b : Billet) (n : Nat) : Nat := bits (bF b SWG_FOOT_NSPH) (8 * n) 5
def footBytes (b : Billet) (n e : Nat) : List Nat := (List.range 2).flatMap (fun k => leBytes 4 (bw b (SWG_FOOT (n * 32 + e * 2 + k)).addr))

def footOk (b : Billet) (n : Nat) : Bool :=
  decide (footNsph b n ≤ 16) && (List.range 16).all (fun e =>
    let w := footBytes b n e
    let sp := sphereOf w
    if e < footNsph b n then within 1 32767 sp.r && zeroAt w 6 2 && decide (sp.r + sp.place + bF b HAM_CFG0_MARGIN ≤ bF b CRU_CFG0_REACH)
    else zeroAt w 0 8)

def moveOk (w : Nat) : Bool :=
  let da := sx 4 (bits w 0 4)
  let db := sx 4 (bits w 4 4)
  let dh := sx 3 (bits w 8 3)
  if bit w 11 then
    decide (-3 ≤ da ∧ da ≤ 3) && decide (-3 ≤ db ∧ db ≤ 3) && decide (-2 ≤ dh ∧ dh ≤ 2) && decide (da ≠ 0 ∨ db ≠ 0) &&
      decide (1 ≤ bits w 12 12) && decide (w < 2 ^ 24)
  else w == 0

def costOk (c : List Nat) : Bool :=
  if fldAt c 19 1 = 0 then true
  else
    let nt := fldAt c 18 1
    fldAt c 19 1 == 1 && decide (1 ≤ fldAt c 16 2) && decide (nt ≤ 4) && zeroAt c 20 4 && (List.range 4).all (fun n =>
      if n < nt then decide (fldAt c (88 + 10 * n) 1 ≤ 6) && decide (fldAt c (89 + 10 * n) 1 ≤ 6) &&
        decide (fldAt c (90 + 10 * n) 1 ≤ 31) && decide (fldAt c (91 + 10 * n) 1 ≤ 31)
      else zeroAt c (128 + 8192 * n) 8192)

def motionOk (b : Billet) : Bool :=
  (List.range 64).all (famOk b) && decide (1 ≤ footNsph b 0) && (List.range 4).all (footOk b) &&
    (List.range 128).all (fun i => moveOk (b.moves.getD i 0)) && b.pen.all (fun v => decide (v < 4096)) && decide (b.pen.length ≤ 16) &&
    decide (b.costSets.length ≤ 4) && b.costSets.all costOk

/- ### Quench programs (R228, R229, R231, R232) -/

def operandOk (p : QProg) (lmax o : Nat) : Bool :=
  let idx := o % 512
  match o / 512 with
  | 0 => decide (idx ≤ 15)
  | 1 => decide (idx ≤ 5)
  | 2 => decide (idx % 8 ≤ 5)
  | 3 => decide (idx < pN p)
  | 4 => decide (idx + lmax * pStride p < fldAt p.hdr 16 2)
  | 5 => decide (idx < fldAt p.hdr 16 2)
  | 6 => true
  | _ => decide (idx ≤ 1)

/-- One instruction within its ranges; `lmax` is the largest loop counter where it stands. -/
def instrOk (p : QProg) (isAsm : Bool) (lmax w : Nat) : Bool :=
  let op := bits w 0 6
  let dest := bits w 42 16
  let row := bits dest 0 7 + (if bit w 58 then lmax else 0)
  let rows := if pNormal p then pM p else pN p
  operandOk p lmax (bits w 12 12) && operandOk p lmax (bits w 24 12) && decide (w < 2 ^ 59) &&
    (if op ≤ 9 ∨ op = 0x19 ∨ op = 0x1F then true
     else if op = 0x10 then isAsm && decide (row < rows) && decide (bits dest 7 6 < pN p)
     else if op = 0x11 then isAsm && decide (row < rows)
     else if op = 0x12 then !isAsm && decide (bits dest 0 3 ≤ 5)
     else op == 0x18 && decide (bits dest 0 6 + bits w 36 6 * bits dest 6 6 ≤ 63))

/-- Walk a section: no nested loop, END last; answers the instructions it executes. -/
def sectionGo (p : QProg) (isAsm : Bool) : List Nat → Option Nat → Nat → Option Nat
  | [], _, _ => none
  | w :: t, loop, n =>
    let lmax := loop.getD 0
    let n' := n + lmax + 1
    if !instrOk p isAsm lmax w then none
    else if bits w 0 6 = 0x18 then (if loop.isSome then none else sectionGo p isAsm t (some (bits w 36 6)) (n + 1))
    else if bits w 0 6 = 0x19 then (if loop.isNone then none else sectionGo p isAsm t none n')
    else if bits w 0 6 = 0x1F then (if loop.isSome ∨ t ≠ [] then none else some (n + 1))
    else sectionGo p isAsm t loop n'

def sectionOk (p : QProg) (isAsm : Bool) (ws : List Nat) : Bool :=
  match sectionGo p isAsm ws none 0 with | some n => decide (n ≤ 65535) | none => false

def progOk (p : QProg) : Bool :=
  let h := p.hdr
  let asm := fldAt h 12 2
  let out := fldAt h 14 2
  within 1 48 (pN p) && (!pNormal p || within 1 96 (pM p)) && decide (pKernel p ≤ 2) && decide (fldAt h 3 1 ≤ 1) && decide (pFM p ≤ 30) &&
    decide (pFV p ≤ 30) && decide (pRSH p ≤ 63) && within 1 1024 asm && within 1 1024 out && decide (fldAt h 16 2 ≤ 4096) && zeroAt h 18 14 &&
    (List.range 48).all (fun j => decide (pSrc p j ≤ 47) || pSrc p j == 0xFF) && p.instrs.length == asm + out &&
    p.coefs.length == fldAt h 16 2 && !(pNormal p && pKernel p == 2) && sectionOk p true (pAsm p) && sectionOk p false (pOut p) &&
    p.cols.length == pN p && p.cols.all (fun c => decide (1 ≤ c.1) && decide (0 ≤ c.2.1) && decide (c.2.2.1 ≤ c.2.2.2)) &&
    p.bounds.length == 12 && p.bounds.all (fun x => decide (x.1 ≤ x.2))

def progsOk (b : Billet) : Bool :=
  b.progs.all (fun q => decide (q.1 < 16) && progOk q.2) && decide ((b.progs.map (·.1)).Nodup) &&
    decide ((b.progs.map (fun q => q.2.coefs.length)).sum ≤ 16384) && decide ((b.progs.map (fun q => q.2.instrs.length)).sum ≤ 16384)

/- ### Queues and timetables (R57, R293 to R295, R411) -/

def qDesc (b : Billet) (q : Nat) : List Nat := b.queues.getD q []
def ddrBytes (b : Billet) : Nat := (bitList 6 (bF b DDR_CFG_POP)).length * 2 ^ 33 * (1 + bF b DDR_CFG_RANK2)
def ringAt (b : Billet) (a n : Nat) : Bool :=
  a % 64 == 0 && (decide (a + n ≤ anvilEnd) || (decide (ddrBase ≤ a) && decide (a + n ≤ ddrBase + ddrBytes b)))

def queueOk (b : Billet) (q : Nat) : Bool :=
  let d := qDesc b q
  let prod := fldAt d 14 1
  d.length == 32 && within 4 16 (fldAt d 8 1) && (if q = 63 then fldAt d 9 1 == 7 else decide (fldAt d 9 1 ≤ 6)) &&
    within 0x30 0x3F (fldAt d 10 1) && decide (fldAt d 11 1 < 4) && decide (fldAt d 12 2 < 1024) &&
    (prod == 0x20 || within 0x01 0x19 prod) && (decide (fldAt d 15 1 ≤ 63) || fldAt d 15 1 == 0xFF) && within 4 16 (fldAt d 24 1) &&
    zeroAt d 25 7 && ringAt b (fldAt d 0 8) (64 * 2 ^ fldAt d 8 1) && ringAt b (fldAt d 16 8) (16 * 2 ^ fldAt d 24 1)

/-- A region of a firewall target: base, limit, the three masks, control (R420). -/
def bReg (b : Billet) (g r k : Nat) : Nat := bw b (0x41200000 + g * 0x1000 + r * 48 + k * 4)
def bBase (b : Billet) (g r : Nat) : Nat := bReg b g r 0 + 2 ^ 32 * bReg b g r 1
def bLimit (b : Billet) (g r : Nat) : Nat := bReg b g r 2 + 2 ^ 32 * bReg b g r 3
def bMask (b : Billet) (g r kind : Nat) : Nat := bReg b g r (4 + 2 * kind) + 2 ^ 32 * bReg b g r (5 + 2 * kind)
def bEn (b : Billet) (g r : Nat) : Bool := bit (bReg b g r 10) 0
def bGolden (b : Billet) (g r : Nat) : Bool := bEn b g r && bit (bReg b g r 10) 3

/-- The golden region of the Anvil that holds [a, a + n). -/
def inGolden (b : Billet) (a n : Nat) : Bool :=
  (List.range 64).any (fun r => bGolden b 0 r && decide (bBase b 0 r ≤ a) && decide (a + n ≤ bLimit b 0 r + 1))

def golden63 (b : Billet) : Bool :=
  let d := qDesc b 63
  fldAt d 14 1 == 0x20 && fldAt d 10 1 == 0x3F && inGolden b (fldAt d 0 8) (64 * 2 ^ fldAt d 8 1) && inGolden b (fldAt d 16 8) (16 * 2 ^ fldAt d 24 1)

def billetEntryOk (b : Billet) (w : List (Nat × Nat)) (i : Nat) : Bool :=
  if !eEn w i then (entryWords w i).all (· == 0)
  else
    let d := qDesc b (eQueue w i)
    decide (eOffset w i + eLate w i * 1000 < bPeriod b) && decide (1 ≤ eLate w i) && decide (ePhase w i ≤ eDiv w i) &&
      decide (eCount w i ≤ 2 ^ fldAt d 8 1) && bits (ttWord w i 0) 28 4 == 0 && bits (ttWord w i 1) 6 2 == 0 && eList w i % 64 == 0 &&
      bit (fldAt d 11 1) 1 && fldAt d 14 1 == 0x20

/-- A command of the golden lists, found in the billet's golden data. -/
def goldenCmd (b : Billet) (a : Nat) : List Nat :=
  match b.golden.find? (fun p => decide (p.1 ≤ a) && decide (a + 64 ≤ p.1 + p.2.length)) with
  | some p => (p.2.drop (a - p.1)).take 64
  | none => []

/-- The golden commands that launch into queue 63 in every stroke (R411). -/
def goldenLaunches (b : Billet) (w : List (Nat × Nat)) : List (List Nat) :=
  ((List.range 256).filter (fun i => eEn w i && eQueue w i == 63 && eDiv w i == 0)).flatMap (fun i =>
    (List.range (eCount w i)).map (fun k => goldenCmd b (eList w i + 64 * k)))

def goldenOnce (b : Billet) : Bool :=
  let cs := goldenLaunches b (sparse b.timetable)
  (List.range 7).all (fun c => (List.range (gradeCount b.grade c)).all (fun l =>
    ((cs.filter (fun m => cTag m == goldTag c l)).map (fun m => cCls m == c && fldAt m 6 2 == l && cHlm m && cGold m)) == [true]))

def queuesOk (b : Billet) : Bool :=
  b.queues.length == 64 && (List.range 64).all (queueOk b) && golden63 b && (List.range 256).all (billetEntryOk b (sparse b.timetable)) &&
    (List.range 256).all (billetEntryOk b (sparse b.ember)) && goldenOnce b

/- ### Firewalls and reactions (R217, R422, R424, R435) -/

def goldenSlots : List Nat := [1, 2, 3, 14, 15, 31]

def regionOk (b : Billet) (g r : Nat) : Bool :=
  if !bEn b g r then true
  else
    bits (bReg b g r 10) 1 2 != 3 && (!bGolden b g r || (g == 0 && decide (bLimit b g r < anvilEnd) &&
      (List.range 64).all (fun k => !bit (bMask b g r 1) k || goldenSlots.contains k))) &&
      (bGolden b g r || !bit (bMask b g r 1) 31) && (List.range 3).all (fun k => !bit (bMask b g r k) 50)

/-- The LOCAL region; the first region that holds a byte decides, and its grants change only at region edges (R217, R421). -/
def localClosed (b : Billet) : Bool :=
  let lo := b64 b TNG_LOCAL_BASE_LO TNG_LOCAL_BASE_HI
  let hi := lo + bF b TNG_LOCAL_SIZE
  let pts := (lo :: (List.range 64).flatMap (fun r => [bBase b 0 r, bLimit b 0 r + 1])).filter (fun a => decide (lo ≤ a) && decide (a < hi))
  pts.all (fun a =>
    match (List.range 64).find? (fun r => bEn b 0 r && decide (bBase b 0 r ≤ a) && decide (a ≤ bLimit b 0 r)) with
    | none => true
    | some r => (List.range 3).all (fun k => (List.range 16).all (fun n => !bit (bMask b 0 r k) (34 + n))))

def reactWords (b : Billet) (i : Nat) : Nat × Nat := (bw b (FLT_REACT (2 * i)).addr, bw b (FLT_REACT (2 * i + 1)).addr)
/-- Entry x takes every record that entry y takes. -/
def reactCovers (x y : Nat) : Bool :=
  bit x 26 && bits x 8 4 == bits y 8 4 && (bit x 24 || (!bit y 24 && bits x 0 8 == bits y 0 8)) &&
    (bit x 25 || (!bit y 25 && bits x 12 12 == bits y 12 12))

def reactOk (b : Billet) : Bool :=
  (List.range 256).all (fun i =>
    let w := (reactWords b i).1
    let c := bits w 8 4
    !bit w 26 || !([2, 5, 6, 7].contains c) || decide (classDefault c ≤ bits (reactWords b i).2 0 3) ||
      (List.range i).any (fun j => reactCovers (reactWords b j).1 w))

def firewallOk (b : Billet) : Bool :=
  (List.range 4).all (fun g => (List.range 64).all (regionOk b g)) && (List.range 64).any (bGolden b 0) && localClosed b && reactOk b

/- ### Sections, node and DDR (R357, R374 to R376, R500, R501) -/

def sectionsOk (b : Billet) : Bool :=
  [1, 2, 3, 4, 0xA].all (fun t => b.sections.any (fun x => x.1 == t)) && decide ((b.sections.map (·.1)).Nodup) &&
    b.sections.all (fun x => within 1 0xB x.1) && b.reservedOk

/-- The expected nodes: bit 0 set, and each node's parent expected too (R376). -/
def expOk (m : Nat) : Bool :=
  bit m 0 && (List.range 16).all (fun n => !bit m n || (match parentOf n with | some p => bit m p | none => true))

def roleOk (s : State) (b : Billet) : Bool :=
  (role s == 1 || role s == 2) && role s == b.role && (if role s = 1 then nodeId s == 0 && expOk b.exp else nodeId s != 0)

def ddrConfigOk (b : Billet) : Bool :=
  let n := (bitList 6 (bF b DDR_CFG_POP)).length
  (n == 6 || n == 4) && !(n == 6 && bF b DDR_CFG_RANK2 == 1) && decide (bF b DDR_CFG_RATE ≤ 2)

def gradeOk (b : Billet) : Bool := [48, 36, 24].contains b.grade && decide (b.grade ≤ b.gradeRec)

def contentOk (b : Billet) : Bool :=
  sectionsOk b && offsetsOk b && limitsOk b && spareOk b && motionOk b && progsOk b && queuesOk b && firewallOk b && !(b.role == 2 && b.planStream)

/- ### Certificates and signed objects (R496, R497) -/

def certBytes (chain : List Nat) (i : Nat) : List Nat := (chain.drop (160 * i)).take 160

/-- Certificate i of a chain under its issuer's key and usage (R496). -/
def certOk (issuer : List Nat) (usage : Nat) (c : List Nat) : Bool :=
  fldAt c 0 4 == 0x54434A48 && fldAt c 4 2 == 1 && within 1 3 (fldAt c 6 1) && Nat.land (fldAt c 7 1) usage == fldAt c 7 1 &&
    (c.drop 16).take 8 == keyId issuer && zeroAt c 88 8 && sm2Verify issuer (c.take 96) (c.drop 96)

/-- The leaf's key and usage when the chain of n certificates is valid from an issuer on. -/
def chainLeaf (chain : List Nat) : Nat → Nat → List Nat → Nat → Option (List Nat × Nat)
  | 0, _, key, usage => some (key, usage)
  | n + 1, i, key, usage =>
    let c := certBytes chain i
    if certOk key usage c then chainLeaf chain n (i + 1) ((c.drop 24).take 64) (fldAt c 7 1) else none

/-- A message signed by the leaf of a chain of 1 to 3 certificates from the vendor root on; the leaf carries a usage bit. -/
def signedBy (root chain : List Nat) (n usage : Nat) (msg sig : List Nat) : Bool :=
  within 1 3 n && (match chainLeaf chain n 0 root 15 with
    | some (key, u) => bit u usage && sm2Verify key msg sig
    | none => false)

/-- A signed object whose body has `body` bytes and whose leaf must carry a usage bit (R497). -/
def objectOk (root obj : List Nat) (body usage : Nat) : Bool :=
  let n := fldAt obj body 1
  zeroAt obj (body + 1) 3 && obj.length == body + 4 + 160 * n + 64 &&
    signedBy root ((obj.drop (body + 4)).take (160 * n)) n usage (obj.take (obj.length - 64)) (obj.drop (obj.length - 64))

/- ### A slot's bytes (R498 to R502) -/

/-- A section of a slot: its TYPE, its ENC flag, its stored bytes and the DIGEST of its table entry (R500, R502). -/
structure Section where
  ty : Nat := 0
  enc : Bool := false
  stored : List Nat := []
  digest : List Nat := []
deriving DecidableEq, Repr

def slotPart (x : SlotImage) (o n : Nat) : List Nat := (x.raw.drop o).take n
def slotNsec (x : SlotImage) : Nat := fldAt x.raw 6 2
def slotTotal (x : SlotImage) : Nat := fldAt x.raw 12 4
/-- Bytes of the header that SIG signs and the billet digest covers (R499). -/
def headLen (x : SlotImage) : Nat := 64 + 48 * slotNsec x
/-- The billet digest (R499). -/
def slotDigest (x : SlotImage) : List Nat := sm3 (x.raw.take (headLen x))
/-- The section table's entries. -/
def slotEntries (x : SlotImage) : List (List Nat) := (List.range (slotNsec x)).map (fun s => slotPart x (64 + 48 * s) 48)
def sectionOf (x : SlotImage) (e : List Nat) : Section :=
  { ty := fldAt e 0 2, enc := bit (fldAt e 2 2) 0, stored := slotPart x (fldAt e 8 4) (fldAt e 12 4), digest := (e.drop 16).take 32 }
def slotSections (x : SlotImage) : List Section := (slotEntries x).map (sectionOf x)

/-- The device area, and the device record with its signed-object tail (R498, R499). -/
def deviceArea (x : SlotImage) : List Nat := slotPart x (fldAt x.raw 24 4) (fldAt x.raw 28 4)
def recordLen (x : SlotImage) : Nat := 1404 + 160 * fldAt (deviceArea x) 1336 1
def deviceRecord (x : SlotImage) : List Nat := (deviceArea x).take (recordLen x)
/-- The wrap entries, one per ENC section, after the device record (R502). -/
def slotWraps (x : SlotImage) : List (List Nat) :=
  (List.range ((slotSections x).countP (·.enc))).map (fun i => ((deviceArea x).drop (recordLen x + 128 * i)).take 128)

/-- The bytes of a section: as stored, or decrypted with the key of its wrap entry; none when no wrap entry unwraps (R502). -/
def plainOf (d : Nat) (wraps : List (List Nat)) (x : Section) : Option (List Nat) :=
  if !x.enc then some x.stored
  else match wraps.find? (wrapFor x.ty) with
    | none => none
    | some w => (unwrap d w).map (fun key => sm4Ctr key x.stored)

/-- The set bits of n bits from a byte offset. -/
def markedBits (bs : List Nat) (off n : Nat) : List Nat := (List.range n).filter (fun i => bit (bs.getD (off + i / 8) 0) (i % 8))

/-- The billet a slot holds: header, device record and DEVICE section as R498 to R501 lay them out, the rest as decoded (log 51). -/
def billetOf (k : Sec) (x : SlotImage) : Billet :=
  let ss := slotSections x
  let plain := ss.map (fun e => (e.ty, (plainOf (deviceKey k) (slotWraps x) e).getD []))
  let dev := match plain.find? (fun p => p.1 == 1) with | some p => p.2 | none => []
  let r := deviceRecord x
  { x.content with
    version := fldAt x.raw 8 4, digest := slotDigest x, sections := ss.map (fun e => (e.ty, e.digest)), plain := plain,
    grade := fldAt dev 0 1, role := fldAt dev 1 1, advance := bit (fldAt dev 2 2) 0, noRpmb := bit (fldAt dev 2 2) 1, exp := fldAt dev 4 2,
    port3 := { ip := fldAt dev 8 4, mask := fldAt dev 12 4, udp := fldAt dev 16 2, vlan := fldAt dev 18 2 }, canId := fldAt dev 20 4,
    reservedOk := x.content.reservedOk && decide (32 ≤ dev.length) && decide (fldAt dev 2 2 < 4) && zeroAt dev 6 2 && zeroAt dev 24 8 &&
      (slotEntries x).all (fun e => fldAt e 8 4 % 64 == 0),
    stepping := fldAt r 6 1, gradeRec := fldAt r 7 1, pubKey := (r.drop 16).take 64, retired := markedBits r 1104 234,
    banks := markedBits r 1136 1088, age0 := (List.range 8).map (fun h => fldAt r (1272 + 4 * h) 4), drec := r }

/- ### The verification of a slot (R504) -/

/-- Step 1. -/
def headerOk (x : SlotImage) : Bool :=
  let inside := fun (o n : Nat) => decide (o + n ≤ slotTotal x)
  fldAt x.raw 0 4 == 0x42564A48 && fldAt x.raw 4 2 == 1 && within 1 16 (slotNsec x) && decide (slotTotal x ≤ 0x1000000) &&
    inside (fldAt x.raw 16 4) (160 * fldAt x.raw 20 1) && inside (fldAt x.raw 24 4) (fldAt x.raw 28 4) && zeroAt x.raw 21 3 && zeroAt x.raw 32 32 &&
    (slotEntries x).all (fun e => inside (fldAt e 8 4) (fldAt e 12 4) && decide (fldAt e 2 2 < 2) && zeroAt e 4 4)

/-- Step 2: the OEM chain, its leaf of usage billet, and SIG. -/
def chainOk (k : Sec) (x : SlotImage) : Bool :=
  let n := fldAt x.raw 20 1
  signedBy k.root (slotPart x (fldAt x.raw 16 4) (160 * n)) n 0 (x.raw.take (headLen x)) (slotPart x (headLen x) 64)

/-- Step 3: the device record's chain and signature, of usage 3, the stepping, and R495. -/
def recordOk (k : Sec) (x : SlotImage) : Bool :=
  let r := deviceRecord x
  fldAt r 0 4 == 0x52444A48 && fldAt r 4 2 == 1 && zeroAt r 8 8 && zeroAt r 1134 2 && objectOk k.root r 1336 3 &&
    fldAt r 6 1 == k.stepping && (r.drop 16).take 64 == devicePublic k

/-- Step 4: every digest over the stored bytes first, then unwrapping and decryption (R502). -/
def sectionsStand (k : Sec) (x : SlotImage) : Bool :=
  (slotSections x).all (fun e => sm3 e.stored == e.digest) && (slotSections x).all (fun e => (plainOf (deviceKey k) (slotWraps x) e).isSome)

/-- Steps 1 to 4. -/
def authentic (k : Sec) (x : SlotImage) : Bool := headerOk x && chainOk k x && recordOk k x && sectionsStand k x

/-- Step 6: 0, or the cause. A refused DDR configuration has the cause of R458. -/
def contentCause (s : State) (b : Billet) : Nat :=
  if !gradeOk b then 4 else if !roleOk s b then 5 else if !contentOk b then 6 else if !ddrConfigOk b then 10 else 0

/-- The cause of a slot's failure so far: 1 when it is not authentic. -/
def slotCause (s : State) (x : SlotImage) : Nat := if authentic s.sec x then contentCause s (billetOf s.sec x) else 1

end Sys2Proof.Machine
end

