-- ==== Sys2Proof/Machine/RegTable.lean ====
section
/-! DEFINITION. The spec's register tables as data: where each register lies, and which of its bits have which access code (R17).
A bit in no mask is reserved and reads zero (R18). -/

namespace Sys2Proof.Machine

/-- One register (or array of registers) of the spec's tables: block ID, offset, count and stride, and the bits of each access code. -/
structure RegRow where
  blk : Nat
  off : Nat
  count : Nat
  stride : Nat
  ro : Nat
  rw : Nat
  w1c : Nat
  w1s : Nat
  rc : Nat
  wo : Nat
  h2 : Nat
  billet : Nat
deriving DecidableEq, Repr

def rowsTOP : List RegRow := [
  ⟨0x0, 0x100, 1, 0x0, 0x7, 0x0, 0x0, 0x0, 0x0, 0x0, 0x0, 0x0⟩,  -- TOP.MODE R338
  ⟨0x0, 0x104, 1, 0x0, 0x0, 0x0, 0x0, 0x0, 0x0, 0x3, 0x0, 0x0⟩,  -- TOP.MODE_REQ R338
  ⟨0x0, 0x108, 1, 0x0, 0xff0f, 0x0, 0x0, 0x0, 0x0, 0x0, 0x0, 0x0⟩,  -- TOP.MODE_WHY R338
  ⟨0x0, 0x200, 1, 0x0, 0xffffffff, 0x0, 0x0, 0x0, 0x0, 0x0, 0x0, 0x0⟩,  -- TOP.PPS_LO R543
  ⟨0x0, 0x204, 1, 0x0, 0xffffffff, 0x0, 0x0, 0x0, 0x0, 0x0, 0x0, 0x0⟩,  -- TOP.PPS_HI R543
  ⟨0x0, 0x208, 1, 0x0, 0x0, 0x0, 0x0, 0x0, 0xffffffff, 0x0, 0x0, 0x0⟩  -- TOP.PPS_CNT R543
  ]

def rowsRST : List RegRow := [
  ⟨0x1, 0x0, 1, 0x0, 0xfff, 0x0, 0x0, 0x0, 0x0, 0x0, 0x0, 0x0⟩,  -- RST.CAUSE R473
  ⟨0x1, 0x4, 1, 0x0, 0x0, 0x0, 0x0, 0x0, 0xffffffff, 0x0, 0x0, 0x0⟩,  -- RST.PIN_SHORT R473
  ⟨0x1, 0x8, 1, 0x0, 0xffffffff, 0x0, 0x0, 0x0, 0x0, 0x0, 0x0, 0x0⟩,  -- RST.EPISODES R473
  ⟨0x1, 0x10, 1, 0x0, 0x0, 0x0, 0x0, 0x0, 0x0, 0x0, 0xfff3, 0xfff3⟩,  -- RST.POLICY R473
  ⟨0x1, 0x14, 1, 0x0, 0x0, 0x0, 0x0, 0x0, 0x0, 0x0, 0xffff, 0xffff⟩,  -- RST.WDOG_CFG R473
  ⟨0x1, 0x18, 1, 0x0, 0x0, 0x0, 0x0, 0x0, 0x0, 0xffffffff, 0x0, 0x0⟩,  -- RST.WDOG_KICK R473
  ⟨0x1, 0x1c, 1, 0x0, 0x0, 0x0, 0x0, 0x0, 0x0, 0xffffffff, 0x0, 0x0⟩,  -- RST.SW_REQ R473
  ⟨0x1, 0x20, 1, 0x0, 0x0, 0x0, 0x0, 0x7ff, 0x0, 0x0, 0x0, 0x0⟩,  -- RST.SUB_CTRL R473
  ⟨0x1, 0x30, 1, 0x0, 0xff7f, 0x0, 0x0, 0x80, 0x0, 0x0, 0x0, 0x0⟩,  -- RST.START R473
  ⟨0x1, 0x34, 1, 0x0, 0xffffffff, 0x0, 0x0, 0x0, 0x0, 0x0, 0x0, 0x0⟩,  -- RST.START_MS R473
  ⟨0x1, 0x38, 1, 0x0, 0xffff, 0x0, 0x0, 0x0, 0x0, 0x0, 0x0, 0x0⟩  -- RST.JOURNAL R473
  ]

def rowsCLK : List RegRow := [
  ⟨0x2, 0x0, 9, 0x1000, 0xf, 0x0, 0x0, 0x0, 0x0, 0x0, 0x0, 0x0⟩,  -- CLK.D_STATUS R474
  ⟨0x2, 0x4, 9, 0x1000, 0xffffff, 0x0, 0x0, 0x0, 0x0, 0x0, 0x0, 0x0⟩,  -- CLK.D_FREQ R474
  ⟨0x2, 0x8, 9, 0x1000, 0x0, 0x0, 0x0, 0x0, 0xffffffff, 0x0, 0x0, 0x0⟩,  -- CLK.D_OOT R474
  ⟨0x2, 0x80000, 1, 0x0, 0x3, 0x0, 0x0, 0x0, 0x0, 0x0, 0x0, 0x0⟩,  -- CLK.ENG R475
  ⟨0x2, 0x80004, 1, 0x0, 0x1, 0x0, 0x2, 0x0, 0x0, 0x0, 0x0, 0x0⟩  -- CLK.REF R475
  ]

def rowsTHM : List RegRow := [
  ⟨0x3, 0x0, 1, 0x0, 0x3ffffff, 0x0, 0x0, 0x0, 0x0, 0x0, 0x0, 0x3ffffff⟩,  -- THM.CFG R542
  ⟨0x3, 0x4, 1, 0x0, 0xffff01ff, 0x0, 0x0, 0x0, 0x0, 0x0, 0x0, 0x0⟩,  -- THM.STATUS R542
  ⟨0x3, 0x8, 1, 0x0, 0xffff, 0x0, 0x0, 0x0, 0x0, 0x0, 0x0, 0x0⟩,  -- THM.MAX_SEEN R542
  ⟨0x3, 0x10, 1, 0x0, 0x0, 0x0, 0x0, 0x0, 0xffffffff, 0x0, 0x0, 0x0⟩,  -- THM.STEP_DOWN R542
  ⟨0x3, 0x14, 1, 0x0, 0x0, 0x0, 0x0, 0x0, 0xffffffff, 0x0, 0x0, 0x0⟩,  -- THM.STEP_UP R542
  ⟨0x3, 0x18, 1, 0x0, 0x0, 0x0, 0x0, 0x0, 0xffffffff, 0x0, 0x0, 0x0⟩,  -- THM.MS_THROTTLED R542
  ⟨0x3, 0x1c, 1, 0x0, 0x0, 0x0, 0x0, 0x0, 0xffffffff, 0x0, 0x0, 0x0⟩,  -- THM.EXCLUDED R542
  ⟨0x3, 0x100, 64, 0x4, 0x1fffff, 0x0, 0x0, 0x0, 0x0, 0x0, 0x0, 0x0⟩  -- THM.SENSOR R542
  ]

def rowsCAR : List RegRow := [
  ⟨0x4, 0x0, 1, 0x0, 0x3, 0x0, 0x0, 0x0, 0x0, 0x0, 0x0, 0x3⟩,  -- CAR.SRC_CFG R75
  ⟨0x4, 0x4, 1, 0x0, 0x1ffff, 0x0, 0x0, 0x0, 0x0, 0x0, 0x0, 0x1ffff⟩,  -- CAR.PERIOD R75
  ⟨0x4, 0x8, 1, 0x0, 0xffffffff, 0x0, 0x0, 0x0, 0x0, 0x0, 0x0, 0xffffffff⟩,  -- CAR.EPOCH_LO R75
  ⟨0x4, 0xc, 1, 0x0, 0xffffffff, 0x0, 0x0, 0x0, 0x0, 0x0, 0x0, 0xffffffff⟩,  -- CAR.EPOCH_HI R75
  ⟨0x4, 0x10, 1, 0x0, 0x7ffffff, 0x0, 0x0, 0x0, 0x0, 0x0, 0x0, 0x7ffffff⟩,  -- CAR.SEAL_OFS R75
  ⟨0x4, 0x14, 1, 0x0, 0x7ffffff, 0x0, 0x0, 0x0, 0x0, 0x0, 0x0, 0x7ffffff⟩,  -- CAR.PLAN_DUE R75
  ⟨0x4, 0x20, 1, 0x0, 0x7f, 0x0, 0x0, 0x0, 0x0, 0x0, 0x0, 0x0⟩,  -- CAR.STATUS R75
  ⟨0x4, 0x24, 1, 0x0, 0xffffffff, 0x0, 0x0, 0x0, 0x0, 0x0, 0x0, 0x0⟩,  -- CAR.STROKE_LO R75
  ⟨0x4, 0x28, 1, 0x0, 0xffffffff, 0x0, 0x0, 0x0, 0x0, 0x0, 0x0, 0x0⟩,  -- CAR.STROKE_HI R75
  ⟨0x4, 0x2c, 1, 0x0, 0xffffffff, 0x0, 0x0, 0x0, 0x0, 0x0, 0x0, 0x0⟩,  -- CAR.STROKE_TAI_LO R75
  ⟨0x4, 0x30, 1, 0x0, 0xffffffff, 0x0, 0x0, 0x0, 0x0, 0x0, 0x0, 0x0⟩,  -- CAR.STROKE_TAI_HI R75
  ⟨0x4, 0x34, 1, 0x0, 0xffffffff, 0x0, 0x0, 0x0, 0x0, 0x0, 0x0, 0x0⟩,  -- CAR.TIME_LO R75
  ⟨0x4, 0x38, 1, 0x0, 0xffffffff, 0x0, 0x0, 0x0, 0x0, 0x0, 0x0, 0x0⟩,  -- CAR.TIME_HI R75
  ⟨0x4, 0x3c, 1, 0x0, 0x1fffff, 0x0, 0x0, 0x0, 0x0, 0x0, 0x0, 0x0⟩,  -- CAR.HOLD_ELAPSED R75
  ⟨0x4, 0x40, 1, 0x0, 0x0, 0x0, 0x0, 0x0, 0xffffffff, 0x0, 0x0, 0x0⟩,  -- CAR.SI_IGNORED R75
  ⟨0x4, 0x44, 1, 0x0, 0x0, 0x0, 0x0, 0x0, 0xffffffff, 0x0, 0x0, 0x0⟩,  -- CAR.LATE_CNT R75
  ⟨0x4, 0x48, 1, 0x0, 0x0, 0x0, 0x0, 0x0, 0xffffffff, 0x0, 0x0, 0x0⟩,  -- CAR.SKIPPED R75
  ⟨0x4, 0x4c, 1, 0x0, 0x0, 0x0, 0x0, 0x0, 0xffffffff, 0x0, 0x0, 0x0⟩,  -- CAR.REPRO_DROPPED R75
  ⟨0x4, 0x50, 1, 0x0, 0x0, 0x0, 0x0, 0x0, 0xffffffff, 0x0, 0x0, 0x0⟩,  -- CAR.LAUNCH_LAG R75
  ⟨0x4, 0x54, 1, 0x0, 0xff00, 0x0, 0x2, 0x1, 0x0, 0x0, 0x0, 0x0⟩,  -- CAR.BANK_CTRL R75
  ⟨0x4, 0x58, 1, 0x0, 0x0, 0xffffffff, 0x0, 0x0, 0x0, 0x0, 0x0, 0x0⟩,  -- CAR.REPRO_BASE_LO R75
  ⟨0x4, 0x5c, 1, 0x0, 0x0, 0xffffffff, 0x0, 0x0, 0x0, 0x0, 0x0, 0x0⟩,  -- CAR.REPRO_BASE_HI R75
  ⟨0x4, 0x60, 1, 0x0, 0x0, 0xffffffff, 0x0, 0x0, 0x0, 0x0, 0x0, 0x0⟩,  -- CAR.REPRO_T0_LO R75
  ⟨0x4, 0x64, 1, 0x0, 0x0, 0xffffffff, 0x0, 0x0, 0x0, 0x0, 0x0, 0x0⟩,  -- CAR.REPRO_T0_HI R75
  ⟨0x4, 0x10000, 1024, 0x4, 0x0, 0xffffffff, 0x0, 0x0, 0x0, 0x0, 0x0, 0x0⟩,  -- CAR.INACTIVE R75
  ⟨0x4, 0x11000, 1024, 0x4, 0xffffffff, 0x0, 0x0, 0x0, 0x0, 0x0, 0x0, 0x0⟩  -- CAR.ACTIVE R75
  ]

def rowsBEL : List RegRow := [
  ⟨0x5, 0x0, 1, 0x0, 0x3, 0x0, 0x0, 0x0, 0x0, 0x0, 0x0, 0x3⟩,  -- BEL.CFG R76
  ⟨0x5, 0x4, 1, 0x0, 0xfff, 0x0, 0x0, 0x0, 0x0, 0x0, 0x0, 0x0⟩,  -- BEL.TARGET_NS R76
  ⟨0x5, 0x8, 1, 0x0, 0xfff, 0x0, 0x0, 0x0, 0x0, 0x0, 0x0, 0x0⟩,  -- BEL.OWN_DELAY R76
  ⟨0x5, 0xc, 1, 0x0, 0xfff, 0x0, 0x0, 0x0, 0x0, 0x0, 0x0, 0x0⟩,  -- BEL.COMP R76
  ⟨0x5, 0x10, 1, 0x0, 0x7, 0x0, 0x0, 0x0, 0x0, 0x0, 0x0, 0x0⟩,  -- BEL.STATUS R76
  ⟨0x5, 0x14, 1, 0x0, 0x0, 0x0, 0x0, 0x0, 0xffffffff, 0x0, 0x0, 0x0⟩,  -- BEL.EDGE_IGNORED R76
  ⟨0x5, 0x18, 1, 0x0, 0x0, 0x0, 0x0, 0x0, 0xffffffff, 0x0, 0x0, 0x0⟩,  -- BEL.NUM_MISMATCH R76
  ⟨0x5, 0x1c, 1, 0x0, 0xffff, 0x0, 0x0, 0x0, 0x0, 0x0, 0x0, 0x0⟩  -- BEL.SKEW_LAST R76
  ]

def rowsTAB0 : List RegRow := [
  ⟨0x6, 0x0, 64, 0x1000, 0xffffffff, 0x0, 0x0, 0x0, 0x0, 0x0, 0x0, 0xffffffff⟩,  -- TAB.Q_BASE_LO R319
  ⟨0x6, 0x4, 64, 0x1000, 0xffffffff, 0x0, 0x0, 0x0, 0x0, 0x0, 0x0, 0xffffffff⟩,  -- TAB.Q_BASE_HI R319
  ⟨0x6, 0x8, 64, 0x1000, 0xffffffff, 0x0, 0x0, 0x0, 0x0, 0x0, 0x0, 0xffffffff⟩,  -- TAB.Q_CQBASE_LO R319
  ⟨0x6, 0xc, 64, 0x1000, 0xffffffff, 0x0, 0x0, 0x0, 0x0, 0x0, 0x0, 0xffffffff⟩,  -- TAB.Q_CQBASE_HI R319
  ⟨0x6, 0x10, 64, 0x1000, 0x7fffff, 0x0, 0x0, 0x0, 0x0, 0x0, 0x0, 0x7fffff⟩,  -- TAB.Q_CFG R319
  ⟨0x6, 0x14, 64, 0x1000, 0xffff03ff, 0x0, 0x0, 0x0, 0x0, 0x0, 0x0, 0xffff03ff⟩,  -- TAB.Q_CFG2 R319
  ⟨0x6, 0x20, 64, 0x1000, 0x0, 0xffffffff, 0x0, 0x0, 0x0, 0x0, 0x0, 0x0⟩,  -- TAB.Q_TAIL R319
  ⟨0x6, 0x24, 64, 0x1000, 0xffffffff, 0x0, 0x0, 0x0, 0x0, 0x0, 0x0, 0x0⟩,  -- TAB.Q_HEAD R319
  ⟨0x6, 0x28, 64, 0x1000, 0xffffffff, 0x0, 0x0, 0x0, 0x0, 0x0, 0x0, 0x0⟩,  -- TAB.Q_CQ_WR R319
  ⟨0x6, 0x2c, 64, 0x1000, 0x0, 0xffffffff, 0x0, 0x0, 0x0, 0x0, 0x0, 0x0⟩,  -- TAB.Q_CQ_HEAD R319
  ⟨0x6, 0x30, 64, 0x1000, 0x3ffff, 0x0, 0x0, 0x0, 0x0, 0x0, 0x0, 0x0⟩,  -- TAB.Q_DEPTH R319
  ⟨0x6, 0x34, 64, 0x1000, 0x0, 0x0, 0x0, 0x0, 0xffffffff, 0x0, 0x0, 0x0⟩,  -- TAB.Q_DEPTH_MAX R319
  ⟨0x6, 0x38, 64, 0x1000, 0x0, 0x0, 0x0, 0x0, 0xffffffff, 0x0, 0x0, 0x0⟩,  -- TAB.Q_BUSY R319
  ⟨0x6, 0x3c, 64, 0x1000, 0x7, 0x0, 0x8, 0x0, 0x0, 0x0, 0x0, 0x0⟩,  -- TAB.Q_STATUS R319
  ⟨0x6, 0x80000, 1, 0x0, 0x3ff, 0x0, 0x0, 0x0, 0x0, 0x0, 0x0, 0x3ff⟩,  -- TAB.CLS_POLICY R320
  ⟨0x6, 0x80004, 1, 0x0, 0x1ffff, 0x0, 0x0, 0x0, 0x0, 0x0, 0x0, 0x0⟩,  -- TAB.TASKS R320
  ⟨0x6, 0x80008, 1, 0x0, 0x2, 0x0, 0x1, 0x0, 0x0, 0x0, 0x0, 0x0⟩,  -- TAB.STATUS R320
  ⟨0x6, 0x80010, 1, 0x0, 0xffffffff, 0x0, 0x0, 0x0, 0x0, 0x0, 0x0, 0xffffffff⟩,  -- TAB.CLOG_BASE_LO R320
  ⟨0x6, 0x80014, 1, 0x0, 0xffffffff, 0x0, 0x0, 0x0, 0x0, 0x0, 0x0, 0xffffffff⟩,  -- TAB.CLOG_BASE_HI R320
  ⟨0x6, 0x80018, 1, 0x0, 0xffffffff, 0x0, 0x0, 0x0, 0x0, 0x0, 0x0, 0xffffffff⟩,  -- TAB.CLOG_SIZE R320
  ⟨0x6, 0x8001c, 1, 0x0, 0xffffffff, 0x0, 0x0, 0x0, 0x0, 0x0, 0x0, 0x0⟩,  -- TAB.CLOG_WR R320
  ⟨0x6, 0x80020, 1, 0x0, 0x0, 0x0, 0x0, 0x0, 0x0, 0xff, 0x0, 0x0⟩,  -- TAB.FLOW_SKIP R320
  ⟨0x6, 0x80024, 1, 0x0, 0x0, 0xff, 0x0, 0x0, 0x0, 0x0, 0x0, 0x0⟩,  -- TAB.FLOW_SEL R320
  ⟨0x6, 0x80028, 1, 0x0, 0xfffffff, 0x0, 0x0, 0x0, 0x0, 0x0, 0x0, 0x0⟩,  -- TAB.FLOW_STATE R320
  ⟨0x6, 0x80030, 1, 0x0, 0x0, 0x0, 0x0, 0x0, 0xffffffff, 0x0, 0x0, 0x0⟩,  -- TAB.REDISP R320
  ⟨0x6, 0x80034, 1, 0x0, 0x0, 0x0, 0x0, 0x0, 0xffffffff, 0x0, 0x0, 0x0⟩,  -- TAB.DISPLACED R320
  ⟨0x6, 0x80038, 1, 0x0, 0x0, 0x0, 0x0, 0x0, 0xffffffff, 0x0, 0x0, 0x0⟩,  -- TAB.BAD_HDR R320
  ⟨0x6, 0x8003c, 1, 0x0, 0x0, 0x0, 0x0, 0x0, 0xffffffff, 0x0, 0x0, 0x0⟩,  -- TAB.TASKS_MAX R320
  ⟨0x6, 0x80100, 16, 0x4, 0x0, 0x0, 0x0, 0x0, 0x0, 0xffffffff, 0x0, 0x0⟩,  -- TAB.GINJ R320
  ⟨0x6, 0x80140, 1, 0x0, 0x1, 0x0, 0x0, 0x0, 0x0, 0x0, 0x0, 0x0⟩  -- TAB.GINJ_STATUS R320
  ]

def rowsTAB1 : List RegRow := [
  ⟨0x6, 0x90000, 1280, 0x4, 0x0, 0x0, 0x0, 0x0, 0xffffffff, 0x0, 0x0, 0x0⟩,  -- TAB.HIST R320
  ⟨0x6, 0xa0000, 224, 0x10, 0x0, 0x0, 0x0, 0x0, 0xffffffff, 0x0, 0x0, 0x0⟩,  -- TAB.ENG_BUSY R320
  ⟨0x6, 0xa0004, 224, 0x10, 0x0, 0x0, 0x0, 0x0, 0xffffffff, 0x0, 0x0, 0x0⟩,  -- TAB.ENG_DONE R320
  ⟨0x6, 0xa0008, 224, 0x10, 0x0, 0x0, 0x0, 0x0, 0xffffffff, 0x0, 0x0, 0x0⟩,  -- TAB.ENG_STALL R320
  ⟨0x6, 0xa000c, 224, 0x10, 0x0, 0x0, 0x0, 0x0, 0x0, 0x0, 0x0, 0x0⟩  -- reserved engine-counter word R320
  ]

def rowsBLW : List RegRow := [
  ⟨0x7, 0x0, 18, 0x1000, 0x3ff, 0x0, 0x0, 0x0, 0x0, 0x0, 0x0, 0x0⟩,  -- BLW.U_STATUS R321
  ⟨0x7, 0x4, 18, 0x1000, 0x0, 0x0, 0x0, 0x0, 0xffffffff, 0x0, 0x0, 0x0⟩,  -- BLW.U_LINES R321
  ⟨0x7, 0x80000, 1, 0x0, 0x1, 0x0, 0x0, 0x0, 0x0, 0x0, 0x0, 0x0⟩,  -- BLW.ALC_STATUS R322
  ⟨0x7, 0x80010, 1, 0x0, 0xffffffff, 0x0, 0x0, 0x0, 0x0, 0x0, 0x0, 0x0⟩,  -- BLW.ERR_ADDR_LO R322
  ⟨0x7, 0x80014, 1, 0x0, 0xffffffff, 0x0, 0x0, 0x0, 0x0, 0x0, 0x0, 0x0⟩,  -- BLW.ERR_ADDR_HI R322
  ⟨0x7, 0x80004, 1, 0x0, 0x0, 0x0, 0x0, 0x0, 0xffffffff, 0x0, 0x0, 0x0⟩,  -- BLW.ALC_LINES R322
  ⟨0x7, 0x80080, 1, 0x0, 0x0, 0x0, 0x0, 0x0, 0xffffffff, 0x0, 0x0, 0x0⟩,  -- BLW.RD_ERR R322
  ⟨0x7, 0x80084, 1, 0x0, 0x0, 0x0, 0x0, 0x0, 0xffffffff, 0x0, 0x0, 0x0⟩,  -- BLW.WR_ERR R322
  ⟨0x7, 0x80088, 1, 0x0, 0x0, 0x0, 0x0, 0x0, 0xffffffff, 0x0, 0x0, 0x0⟩  -- BLW.LOCAL_REFUSED R322
  ]

def rowsANV : List RegRow := [
  ⟨0x8, 0x0, 1, 0x0, 0xffff, 0x0, 0x0, 0x0, 0x0, 0x0, 0x0, 0xffff⟩,  -- ANV.CFG R371
  ⟨0x8, 0x4, 1, 0x0, 0x7fffffff, 0x0, 0x0, 0x0, 0x0, 0x0, 0x0, 0x7f⟩,  -- ANV.STATUS R371
  ⟨0x8, 0x8, 1, 0x0, 0x0, 0x0, 0x0, 0x0, 0x0, 0x0, 0x7ff, 0x0⟩,  -- ANV.REMAP_REQ R371
  ⟨0x8, 0xc, 1, 0x0, 0xffffffff, 0x0, 0x0, 0x0, 0x0, 0x0, 0x0, 0x0⟩,  -- ANV.SCRUB_PASS R371
  ⟨0x8, 0x10, 1, 0x0, 0x0, 0x0, 0x0, 0x0, 0xffffffff, 0x0, 0x0, 0x0⟩,  -- ANV.FORCED R371
  ⟨0x8, 0x14, 1, 0x0, 0x0, 0x0, 0x0, 0x0, 0xffffffff, 0x0, 0x0, 0x0⟩,  -- ANV.CE_TOTAL R371
  ⟨0x8, 0x18, 1, 0x0, 0x0, 0x0, 0x0, 0x0, 0xffffffff, 0x0, 0x0, 0x0⟩,  -- ANV.UE_TOTAL R371
  ⟨0x8, 0x1c, 1, 0x0, 0x0, 0x0, 0x0, 0x0, 0xffffffff, 0x0, 0x0, 0x0⟩,  -- ANV.FAB_CE R371
  ⟨0x8, 0x20, 1, 0x0, 0x0, 0x0, 0x0, 0x0, 0xffffffff, 0x0, 0x0, 0x0⟩,  -- ANV.FAB_UE R371
  ⟨0x8, 0x24, 1, 0x0, 0x0, 0x0, 0x0, 0x0, 0xffffffff, 0x0, 0x0, 0x0⟩,  -- ANV.POISON_W R371
  ⟨0x8, 0x28, 1, 0x0, 0x0, 0x0, 0x0, 0x0, 0xffffffff, 0x0, 0x0, 0x0⟩,  -- ANV.ASY_CE R371
  ⟨0x8, 0x2c, 1, 0x0, 0x0, 0x0, 0x0, 0x0, 0xffffffff, 0x0, 0x0, 0x0⟩,  -- ANV.ASY_UE R371
  ⟨0x8, 0x30, 1, 0x0, 0xffffffff, 0x0, 0x0, 0x0, 0x0, 0x0, 0x0, 0x0⟩,  -- ANV.UE_ADDR_LO R371
  ⟨0x8, 0x34, 1, 0x0, 0xffffffff, 0x0, 0x0, 0x0, 0x0, 0x0, 0x0, 0x0⟩,  -- ANV.UE_ADDR_HI R371
  ⟨0x8, 0x38, 1, 0x0, 0x7fff, 0x0, 0x0, 0x0, 0x0, 0x0, 0x0, 0x0⟩,  -- ANV.UE_INFO R371
  ⟨0x8, 0x10000, 1024, 0x4, 0x7ff, 0x0, 0x0, 0x0, 0x0, 0x0, 0x0, 0x7ff⟩,  -- ANV.MAP R371
  ⟨0x8, 0x20000, 1088, 0x4, 0x3ffff, 0x0, 0x0, 0x0, 0x0, 0x0, 0x0, 0x0⟩  -- ANV.BANK_CE R371
  ]

def rowsHAM : List RegRow := [
  ⟨0x9, 0x0, 144, 0x1000, 0xfff, 0x0, 0x0, 0x0, 0x0, 0x0, 0x0, 0x0⟩,  -- HAM.U_STATUS R197
  ⟨0x9, 0x4, 144, 0x1000, 0x0, 0x0, 0x0, 0x0, 0xffffffff, 0x0, 0x0, 0x0⟩,  -- HAM.U_CAND R197
  ⟨0x9, 0x8, 144, 0x1000, 0x0, 0x0, 0x0, 0x0, 0xffffffff, 0x0, 0x0, 0x0⟩,  -- HAM.U_SLOTS R197
  ⟨0x9, 0xa0000, 1, 0x0, 0x1ffff, 0x0, 0x0, 0x0, 0x0, 0x0, 0x0, 0x1ffff⟩,  -- HAM.CFG0 R198
  ⟨0x9, 0xa0004, 1, 0x0, 0x7ffffff, 0x0, 0x0, 0x0, 0x0, 0x0, 0x0, 0x7ffffff⟩,  -- HAM.CUT_OFS0 R198
  ⟨0x9, 0xa0008, 1, 0x0, 0x7ffffff, 0x0, 0x0, 0x0, 0x0, 0x0, 0x0, 0x7ffffff⟩,  -- HAM.CUT_OFS1 R198
  ⟨0x9, 0xa000c, 1, 0x0, 0xf, 0x0, 0x0, 0x0, 0x0, 0x0, 0x0, 0xf⟩,  -- HAM.CSET_EN R198
  ⟨0x9, 0xa0010, 1, 0x0, 0xffffffff, 0x0, 0x0, 0x0, 0x0, 0x0, 0x0, 0xffffffff⟩,  -- HAM.COST_BASE_LO R198
  ⟨0x9, 0xa0014, 1, 0x0, 0xffffffff, 0x0, 0x0, 0x0, 0x0, 0x0, 0x0, 0xffffffff⟩,  -- HAM.COST_BASE_HI R198
  ⟨0x9, 0xa0018, 1, 0x0, 0xffffffff, 0x0, 0x0, 0x0, 0x0, 0x0, 0x0, 0xffffffff⟩,  -- HAM.STATIC_BASE_LO R198
  ⟨0x9, 0xa001c, 1, 0x0, 0xffffffff, 0x0, 0x0, 0x0, 0x0, 0x0, 0x0, 0xffffffff⟩,  -- HAM.STATIC_BASE_HI R198
  ⟨0x9, 0xa0020, 1, 0x0, 0xffffffff, 0x0, 0x0, 0x0, 0x0, 0x0, 0x0, 0xffffffff⟩,  -- HAM.DYN_BASE_LO R198
  ⟨0x9, 0xa0024, 1, 0x0, 0xffffffff, 0x0, 0x0, 0x0, 0x0, 0x0, 0x0, 0xffffffff⟩,  -- HAM.DYN_BASE_HI R198
  ⟨0x9, 0xa0028, 1, 0x0, 0xffffffff, 0x0, 0x0, 0x0, 0x0, 0x0, 0x0, 0xffffffff⟩,  -- HAM.SBRICK_BASE_LO R198
  ⟨0x9, 0xa002c, 1, 0x0, 0xffffffff, 0x0, 0x0, 0x0, 0x0, 0x0, 0x0, 0xffffffff⟩,  -- HAM.SBRICK_BASE_HI R198
  ⟨0x9, 0xa0030, 1, 0x0, 0xffffffff, 0x0, 0x0, 0x0, 0x0, 0x0, 0x0, 0xffffffff⟩,  -- HAM.DBRICK_BASE_LO R198
  ⟨0x9, 0xa0034, 1, 0x0, 0xffffffff, 0x0, 0x0, 0x0, 0x0, 0x0, 0x0, 0xffffffff⟩,  -- HAM.DBRICK_BASE_HI R198
  ⟨0x9, 0xa0038, 1, 0x0, 0xffffffff, 0x0, 0x0, 0x0, 0x0, 0x0, 0x0, 0x0⟩,  -- HAM.HEAT_IMG_LO R198
  ⟨0x9, 0xa003c, 1, 0x0, 0xffffffff, 0x0, 0x0, 0x0, 0x0, 0x0, 0x0, 0x0⟩,  -- HAM.HEAT_IMG_HI R198
  ⟨0x9, 0xa0080, 1, 0x0, 0x0, 0x0, 0x0, 0x0, 0xffffffff, 0x0, 0x0, 0x0⟩,  -- HAM.CLEAR_CNT R198
  ⟨0x9, 0xa0084, 1, 0x0, 0x0, 0x0, 0x0, 0x0, 0xffffffff, 0x0, 0x0, 0x0⟩,  -- HAM.MARGIN_CNT R198
  ⟨0x9, 0xa0088, 1, 0x0, 0x0, 0x0, 0x0, 0x0, 0xffffffff, 0x0, 0x0, 0x0⟩,  -- HAM.CONTACT_CNT R198
  ⟨0x9, 0xa008c, 1, 0x0, 0x0, 0x0, 0x0, 0x0, 0xffffffff, 0x0, 0x0, 0x0⟩,  -- HAM.UNTESTED_CNT R198
  ⟨0x9, 0xa0090, 1, 0x0, 0x0, 0x0, 0x0, 0x0, 0xffffffff, 0x0, 0x0, 0x0⟩,  -- HAM.CUT_CNT R198
  ⟨0x9, 0xa0094, 1, 0x0, 0x0, 0x0, 0x0, 0x0, 0xffffffff, 0x0, 0x0, 0x0⟩,  -- HAM.INVALID_CNT R198
  ⟨0x9, 0xa0098, 1, 0x0, 0x0, 0x0, 0x0, 0x0, 0xffffffff, 0x0, 0x0, 0x0⟩,  -- HAM.OVF_CNT R198
  ⟨0x9, 0xa009c, 1, 0x0, 0x0, 0x0, 0x0, 0x0, 0xffffffff, 0x0, 0x0, 0x0⟩,  -- HAM.RD_ERR R198
  ⟨0x9, 0xa00a0, 1, 0x0, 0x0, 0x0, 0x0, 0x0, 0xffffffff, 0x0, 0x0, 0x0⟩  -- HAM.HORIZON_CNT R198
  ]

def rowsCRU : List RegRow := [
  ⟨0xa, 0x0, 9, 0x1000, 0x3ff, 0x0, 0x0, 0x0, 0x0, 0x0, 0x0, 0x0⟩,  -- CRU.U_STATUS R117
  ⟨0xa, 0x80000, 1, 0x0, 0xffffffff, 0x0, 0x0, 0x0, 0x0, 0x0, 0x0, 0xffffffff⟩,  -- CRU.CFG0 R118
  ⟨0xa, 0x80004, 1, 0x0, 0xffffffff, 0x0, 0x0, 0x0, 0x0, 0x0, 0x0, 0xffffffff⟩,  -- CRU.CFG1 R118
  ⟨0xa, 0x80008, 1, 0x0, 0xffff, 0x0, 0x0, 0x0, 0x0, 0x0, 0x0, 0xffff⟩,  -- CRU.ZBAND_LO R118
  ⟨0xa, 0x8000c, 1, 0x0, 0xffff, 0x0, 0x0, 0x0, 0x0, 0x0, 0x0, 0xffff⟩,  -- CRU.ZBAND_HI R118
  ⟨0xa, 0x80020, 2, 0x20, 0xffffffff, 0x0, 0x0, 0x0, 0x0, 0x0, 0x0, 0xffffffff⟩,  -- CRU.RING_BASE_LO R118
  ⟨0xa, 0x80024, 2, 0x20, 0xffffffff, 0x0, 0x0, 0x0, 0x0, 0x0, 0x0, 0xffffffff⟩,  -- CRU.RING_BASE_HI R118
  ⟨0xa, 0x80028, 2, 0x20, 0xffffffff, 0x0, 0x0, 0x0, 0x0, 0x0, 0x0, 0xffffffff⟩,  -- CRU.RING_SIZE R118
  ⟨0xa, 0x8002c, 2, 0x20, 0x0, 0xffffffff, 0x0, 0x0, 0x0, 0x0, 0x0, 0x0⟩,  -- CRU.RING_WP R118
  ⟨0xa, 0x80030, 2, 0x20, 0xffffffff, 0x0, 0x0, 0x0, 0x0, 0x0, 0x0, 0x0⟩,  -- CRU.RING_RP R118
  ⟨0xa, 0x80060, 1, 0x0, 0xffffffff, 0x0, 0x0, 0x0, 0x0, 0x0, 0x0, 0x0⟩,  -- CRU.HEAT_SEALED R118
  ⟨0xa, 0x80064, 1, 0x0, 0xffffffff, 0x0, 0x0, 0x0, 0x0, 0x0, 0x0, 0x0⟩,  -- CRU.HEAT_STAGING R118
  ⟨0xa, 0x80068, 1, 0x0, 0x7ffff, 0x0, 0x0, 0x0, 0x0, 0x0, 0x0, 0x0⟩,  -- CRU.FIELD_STATUS R118
  ⟨0xa, 0x8006c, 1, 0x0, 0xffffffff, 0x0, 0x0, 0x0, 0x0, 0x0, 0x0, 0x0⟩,  -- CRU.ORIGIN_X R118
  ⟨0xa, 0x80070, 1, 0x0, 0xffffffff, 0x0, 0x0, 0x0, 0x0, 0x0, 0x0, 0x0⟩,  -- CRU.ORIGIN_Y R118
  ⟨0xa, 0x80074, 1, 0x0, 0x7ff07ff, 0x0, 0x0, 0x0, 0x0, 0x0, 0x0, 0x0⟩,  -- CRU.TORUS R118
  ⟨0xa, 0x80080, 1, 0x0, 0x0, 0x0, 0x0, 0x0, 0xffffffff, 0x0, 0x0, 0x0⟩,  -- CRU.REC_ACCEPT R118
  ⟨0xa, 0x80084, 1, 0x0, 0x0, 0x0, 0x0, 0x0, 0xffffffff, 0x0, 0x0, 0x0⟩,  -- CRU.REC_REJECT R118
  ⟨0xa, 0x80088, 1, 0x0, 0x0, 0x0, 0x0, 0x0, 0xffffffff, 0x0, 0x0, 0x0⟩,  -- CRU.SEQ_GAP R118
  ⟨0xa, 0x8008c, 1, 0x0, 0x0, 0x0, 0x0, 0x0, 0xffffffff, 0x0, 0x0, 0x0⟩,  -- CRU.DEFERRED R118
  ⟨0xa, 0x80090, 1, 0x0, 0x0, 0x0, 0x0, 0x0, 0xffffffff, 0x0, 0x0, 0x0⟩,  -- CRU.MARK_IGNORED R118
  ⟨0xa, 0x80094, 1, 0x0, 0x0, 0x0, 0x0, 0x0, 0xffffffff, 0x0, 0x0, 0x0⟩,  -- CRU.URG_CNT R118
  ⟨0xa, 0x80098, 1, 0x0, 0x0, 0x0, 0x0, 0x0, 0xffffffff, 0x0, 0x0, 0x0⟩,  -- CRU.WP_REFUSED R118
  ⟨0xa, 0x800a0, 1, 0x0, 0x0, 0x0, 0x0, 0x0, 0xffffffff, 0x0, 0x0, 0x0⟩,  -- CRU.SEAL_LAG R118
  ⟨0xa, 0x800a4, 1, 0x0, 0xff1f, 0x0, 0x0, 0x0, 0x0, 0x0, 0x0, 0x0⟩  -- CRU.REJ_LAST R118
  ]

def rowsSWG : List RegRow := [
  ⟨0xb, 0x0, 24, 0x1000, 0x7ff, 0x0, 0x0, 0x0, 0x0, 0x0, 0x0, 0x0⟩,  -- SWG.U_STATUS R164
  ⟨0xb, 0x4, 24, 0x1000, 0x0, 0x0, 0x0, 0x0, 0xffffffff, 0x0, 0x0, 0x0⟩,  -- SWG.U_CAND R164
  ⟨0xb, 0x80000, 1, 0x0, 0xffffffff, 0x0, 0x0, 0x0, 0x0, 0x0, 0x0, 0xffffffff⟩,  -- SWG.FAM_EN_LO R165
  ⟨0xb, 0x80004, 1, 0x0, 0xffffffff, 0x0, 0x0, 0x0, 0x0, 0x0, 0x0, 0xffffffff⟩,  -- SWG.FAM_EN_HI R165
  ⟨0xb, 0x80008, 1, 0x0, 0xfffffff0, 0x0, 0x0, 0x0, 0x0, 0x0, 0x0, 0xfffffff0⟩,  -- SWG.START_BASE_LO R165
  ⟨0xb, 0x8000c, 1, 0x0, 0xffffffff, 0x0, 0x0, 0x0, 0x0, 0x0, 0x0, 0xffffffff⟩,  -- SWG.START_BASE_HI R165
  ⟨0xb, 0x80010, 1, 0x0, 0x1f1f1f1f, 0x0, 0x0, 0x0, 0x0, 0x0, 0x0, 0x1f1f1f1f⟩,  -- SWG.FOOT_NSPH R165
  ⟨0xb, 0x80020, 1, 0x0, 0x0, 0x0, 0x0, 0x0, 0xffffffff, 0x0, 0x0, 0x0⟩,  -- SWG.DESC_BAD R165
  ⟨0xb, 0x80024, 1, 0x0, 0x0, 0x0, 0x0, 0x0, 0xffffffff, 0x0, 0x0, 0x0⟩,  -- SWG.RD_ERR R165
  ⟨0xb, 0x80028, 1, 0x0, 0x1ff, 0x0, 0x0, 0x0, 0x0, 0x0, 0x0, 0x0⟩,  -- SWG.BAD_LAST R165
  ⟨0xb, 0x8002c, 1, 0x0, 0xffffffff, 0x0, 0x0, 0x0, 0x0, 0x0, 0x0, 0x0⟩,  -- SWG.BAD_LAST_IDX R165
  ⟨0xb, 0x90000, 256, 0x4, 0xffffffff, 0x0, 0x0, 0x0, 0x0, 0x0, 0x0, 0xffffffff⟩,  -- SWG.FAMILY R163
  ⟨0xb, 0x91000, 128, 0x4, 0xffffffff, 0x0, 0x0, 0x0, 0x0, 0x0, 0x0, 0xffffffff⟩  -- SWG.FOOT R163
  ]

def rowsPEL : List RegRow := [
  ⟨0xc, 0x0, 5, 0x1000, 0x3f, 0x0, 0x0, 0x0, 0x0, 0x0, 0x0, 0x0⟩,  -- PEL.U_STATUS R142
  ⟨0xc, 0x80000, 1, 0x0, 0xffffff01, 0x0, 0x0, 0x0, 0x0, 0x0, 0x0, 0xffffff01⟩,  -- PEL.CFG0 R143
  ⟨0xc, 0x80004, 1, 0x0, 0xffffffff, 0x0, 0x0, 0x0, 0x0, 0x0, 0x0, 0xffffffff⟩,  -- PEL.CFG1 R143
  ⟨0xc, 0x80008, 1, 0x0, 0x7ffffff, 0x0, 0x0, 0x0, 0x0, 0x0, 0x0, 0x7ffffff⟩,  -- PEL.SEL_OFS R143
  ⟨0xc, 0x8000c, 1, 0x0, 0x7ffffff, 0x0, 0x0, 0x0, 0x0, 0x0, 0x0, 0x7ffffff⟩,  -- PEL.END_OFS R143
  ⟨0xc, 0x80010, 1, 0x0, 0xffffffff, 0x0, 0x0, 0x0, 0x0, 0x0, 0x0, 0xffffffff⟩,  -- PEL.BUF_BASE0_LO R143
  ⟨0xc, 0x80014, 1, 0x0, 0xffffffff, 0x0, 0x0, 0x0, 0x0, 0x0, 0x0, 0xffffffff⟩,  -- PEL.BUF_BASE0_HI R143
  ⟨0xc, 0x80018, 1, 0x0, 0xffffffff, 0x0, 0x0, 0x0, 0x0, 0x0, 0x0, 0xffffffff⟩,  -- PEL.BUF_BASE1_LO R143
  ⟨0xc, 0x8001c, 1, 0x0, 0xffffffff, 0x0, 0x0, 0x0, 0x0, 0x0, 0x0, 0xffffffff⟩,  -- PEL.BUF_BASE1_HI R143
  ⟨0xc, 0x80020, 1, 0x0, 0xffffffff, 0x0, 0x0, 0x0, 0x0, 0x0, 0x0, 0xffffffff⟩,  -- PEL.CHG_BASE_LO R143
  ⟨0xc, 0x80024, 1, 0x0, 0xffffffff, 0x0, 0x0, 0x0, 0x0, 0x0, 0x0, 0xffffffff⟩,  -- PEL.CHG_BASE_HI R143
  ⟨0xc, 0x80040, 2, 0x10, 0xffffffff, 0x0, 0x0, 0x0, 0x0, 0x0, 0x0, 0x0⟩,  -- PEL.LAT_HEAT R143
  ⟨0xc, 0x80044, 2, 0x10, 0xffffffff, 0x0, 0x0, 0x0, 0x0, 0x0, 0x0, 0x0⟩,  -- PEL.LAT_LO_X R143
  ⟨0xc, 0x80048, 2, 0x10, 0xffffffff, 0x0, 0x0, 0x0, 0x0, 0x0, 0x0, 0x0⟩,  -- PEL.LAT_LO_Y R143
  ⟨0xc, 0x8004c, 2, 0x10, 0x3, 0x0, 0x0, 0x0, 0x0, 0x0, 0x0, 0x0⟩,  -- PEL.LAT_STATE R143
  ⟨0xc, 0x80060, 1, 0x0, 0x7ff, 0x0, 0x0, 0x0, 0x0, 0x0, 0x0, 0x0⟩,  -- PEL.FRAME R143
  ⟨0xc, 0x80080, 1, 0x0, 0x0, 0x0, 0x0, 0x0, 0xffffffff, 0x0, 0x0, 0x0⟩,  -- PEL.BUILDS R143
  ⟨0xc, 0x80084, 1, 0x0, 0x0, 0x0, 0x0, 0x0, 0xffffffff, 0x0, 0x0, 0x0⟩,  -- PEL.REPAIRS R143
  ⟨0xc, 0x80088, 1, 0x0, 0x0, 0x0, 0x0, 0x0, 0xffffffff, 0x0, 0x0, 0x0⟩,  -- PEL.TIMEUPS R143
  ⟨0xc, 0x800a0, 1, 0x0, 0xffffffff, 0x0, 0x0, 0x0, 0x0, 0x0, 0x0, 0x0⟩,  -- PEL.REOPEN_LAST R143
  ⟨0xc, 0x800a4, 1, 0x0, 0xffffffff, 0x0, 0x0, 0x0, 0x0, 0x0, 0x0, 0x0⟩  -- PEL.DONE_NS_LAST R143
  ]

def rowsTNG : List RegRow := [
  ⟨0xd, 0x0, 5, 0x1000, 0x3ffff, 0x0, 0x0, 0x0, 0x0, 0x0, 0x0, 0x0⟩,  -- TNG.U_STATUS R223
  ⟨0xd, 0x80000, 1, 0x0, 0x7ffffff, 0x0, 0x0, 0x0, 0x0, 0x0, 0x0, 0x7ffffff⟩,  -- TNG.GATHER_OFS0 R224
  ⟨0xd, 0x80004, 1, 0x0, 0x7ffffff, 0x0, 0x0, 0x0, 0x0, 0x0, 0x0, 0x7ffffff⟩,  -- TNG.GATHER_OFS1 R224
  ⟨0xd, 0x80008, 1, 0x0, 0xffffffff, 0x0, 0x0, 0x0, 0x0, 0x0, 0x0, 0xffffffff⟩,  -- TNG.INBOX_BASE_LO R224
  ⟨0xd, 0x8000c, 1, 0x0, 0xffffffff, 0x0, 0x0, 0x0, 0x0, 0x0, 0x0, 0xffffffff⟩,  -- TNG.INBOX_BASE_HI R224
  ⟨0xd, 0x80010, 1, 0x0, 0xffffffff, 0x0, 0x0, 0x0, 0x0, 0x0, 0x0, 0xffffffff⟩,  -- TNG.SPILL_BASE_LO R224
  ⟨0xd, 0x80014, 1, 0x0, 0xffffffff, 0x0, 0x0, 0x0, 0x0, 0x0, 0x0, 0xffffffff⟩,  -- TNG.SPILL_BASE_HI R224
  ⟨0xd, 0x80018, 1, 0x0, 0xffffffff, 0x0, 0x0, 0x0, 0x0, 0x0, 0x0, 0xffffffff⟩,  -- TNG.LOCAL_BASE_LO R224
  ⟨0xd, 0x8001c, 1, 0x0, 0xffffffff, 0x0, 0x0, 0x0, 0x0, 0x0, 0x0, 0xffffffff⟩,  -- TNG.LOCAL_BASE_HI R224
  ⟨0xd, 0x80020, 1, 0x0, 0xffffffff, 0x0, 0x0, 0x0, 0x0, 0x0, 0x0, 0xffffffff⟩,  -- TNG.SPILL_SIZE R224
  ⟨0xd, 0x80024, 1, 0x0, 0xffffffff, 0x0, 0x0, 0x0, 0x0, 0x0, 0x0, 0xffffffff⟩,  -- TNG.LOCAL_SIZE R224
  ⟨0xd, 0x80040, 1, 0x0, 0x0, 0x0, 0xffffffff, 0x0, 0x0, 0x0, 0x0, 0x0⟩,  -- TNG.INBOX_STATUS R224
  ⟨0xd, 0x80044, 1, 0x0, 0x0, 0x0, 0x0, 0x0, 0xffffffff, 0x0, 0x0, 0x0⟩,  -- TNG.INBOX_STALE R224
  ⟨0xd, 0x80080, 1, 0x0, 0x0, 0x0, 0x0, 0x0, 0xffffffff, 0x0, 0x0, 0x0⟩,  -- TNG.SELECT_CNT R224
  ⟨0xd, 0x80084, 1, 0x0, 0x0, 0x0, 0x0, 0x0, 0xffffffff, 0x0, 0x0, 0x0⟩,  -- TNG.MERGE_CNT R224
  ⟨0xd, 0x80088, 1, 0x0, 0x0, 0x0, 0x0, 0x0, 0xffffffff, 0x0, 0x0, 0x0⟩,  -- TNG.SPILL_CNT R224
  ⟨0xd, 0x8008c, 1, 0x0, 0x0, 0x0, 0x0, 0x0, 0xffffffff, 0x0, 0x0, 0x0⟩,  -- TNG.DUP_CNT R224
  ⟨0xd, 0x80090, 1, 0x0, 0x0, 0x0, 0x0, 0x0, 0xffffffff, 0x0, 0x0, 0x0⟩,  -- TNG.DUP_DISC_CNT R224
  ⟨0xd, 0x80094, 1, 0x0, 0x0, 0x0, 0x0, 0x0, 0xffffffff, 0x0, 0x0, 0x0⟩,  -- TNG.IN_REJECT R224
  ⟨0xd, 0x80098, 1, 0x0, 0x0, 0x0, 0x0, 0x0, 0xffffffff, 0x0, 0x0, 0x0⟩  -- TNG.RD_RESTART R224
  ]

def rowsQNC : List RegRow := [
  ⟨0xe, 0x0, 9, 0x1000, 0x1ffff, 0x0, 0x0, 0x0, 0x0, 0x0, 0x0, 0x0⟩,  -- QNC.U_STATUS R255
  ⟨0xe, 0x4, 9, 0x1000, 0x0, 0x0, 0x0, 0x0, 0xffffffff, 0x0, 0x0, 0x0⟩,  -- QNC.U_SYS R255
  ⟨0xe, 0x80000, 1, 0x0, 0x7ffffff, 0x0, 0x0, 0x0, 0x0, 0x0, 0x0, 0x7ffffff⟩,  -- QNC.DL_OFS R256
  ⟨0xe, 0x80004, 1, 0x0, 0xffff, 0x0, 0x0, 0x0, 0x0, 0x0, 0x0, 0xffff⟩,  -- QNC.PROG_EN R256
  ⟨0xe, 0x80080, 1, 0x0, 0x0, 0x0, 0x0, 0x0, 0xffffffff, 0x0, 0x0, 0x0⟩,  -- QNC.REFINED_CNT R256
  ⟨0xe, 0x80084, 1, 0x0, 0x0, 0x0, 0x0, 0x0, 0xffffffff, 0x0, 0x0, 0x0⟩,  -- QNC.EARLY_CNT R256
  ⟨0xe, 0x80088, 1, 0x0, 0x0, 0x0, 0x0, 0x0, 0xffffffff, 0x0, 0x0, 0x0⟩,  -- QNC.WARM_CNT R256
  ⟨0xe, 0x8008c, 1, 0x0, 0x0, 0x0, 0x0, 0x0, 0xffffffff, 0x0, 0x0, 0x0⟩,  -- QNC.UNREF_CNT R256
  ⟨0xe, 0x80090, 1, 0x0, 0x0, 0x0, 0x0, 0x0, 0xffffffff, 0x0, 0x0, 0x0⟩,  -- QNC.LOST_CNT R256
  ⟨0xe, 0x80094, 1, 0x0, 0x0, 0x0, 0x0, 0x0, 0xffffffff, 0x0, 0x0, 0x0⟩,  -- QNC.PIV_ZERO_CNT R256
  ⟨0xe, 0x80098, 1, 0x0, 0x0, 0x0, 0x0, 0x0, 0xffffffff, 0x0, 0x0, 0x0⟩,  -- QNC.PIV_TINY_CNT R256
  ⟨0xe, 0x8009c, 1, 0x0, 0x0, 0x0, 0x0, 0x0, 0xffffffff, 0x0, 0x0, 0x0⟩,  -- QNC.PIV_NEG_CNT R256
  ⟨0xe, 0x800a0, 1, 0x0, 0x0, 0x0, 0x0, 0x0, 0xffffffff, 0x0, 0x0, 0x0⟩,  -- QNC.OVF_CNT R256
  ⟨0xe, 0x800a4, 1, 0x0, 0x0, 0x0, 0x0, 0x0, 0xffffffff, 0x0, 0x0, 0x0⟩,  -- QNC.RANGE_CNT R256
  ⟨0xe, 0x800a8, 1, 0x0, 0x0, 0x0, 0x0, 0x0, 0xffffffff, 0x0, 0x0, 0x0⟩  -- QNC.DL_CNT R256
  ]

def rowsASY : List RegRow := [
  ⟨0xf, 0x0, 2, 0x1000, 0x1fff, 0x0, 0x0, 0x0, 0x0, 0x0, 0x0, 0x0⟩,  -- ASY.U_STATUS R288
  ⟨0xf, 0x80000, 1, 0x0, 0x3fffff, 0x0, 0x0, 0x0, 0x0, 0x0, 0x0, 0x3fffff⟩,  -- ASY.CFG0 R289
  ⟨0xf, 0x80004, 1, 0x0, 0xffffffff, 0x0, 0x0, 0x0, 0x0, 0x0, 0x0, 0xffffffff⟩,  -- ASY.CFG1 R289
  ⟨0xf, 0x80008, 1, 0x0, 0x7ffffff, 0x0, 0x0, 0x0, 0x0, 0x0, 0x0, 0x7ffffff⟩,  -- ASY.FREEZE_OFS R289
  ⟨0xf, 0x8000c, 1, 0x0, 0x3ffff, 0x0, 0x0, 0x0, 0x0, 0x0, 0x0, 0x3ffff⟩,  -- ASY.VALIDITY R289
  ⟨0xf, 0x80010, 1, 0x0, 0x3fffffff, 0x0, 0x0, 0x0, 0x0, 0x0, 0x0, 0x3fffffff⟩,  -- ASY.CAN_ID R289
  ⟨0xf, 0x80014, 1, 0x0, 0x3f, 0x0, 0x0, 0x0, 0x0, 0x0, 0x0, 0x3f⟩,  -- ASY.CAN_CFG R289
  ⟨0xf, 0x80020, 1, 0x0, 0xffff, 0x0, 0x0, 0x0, 0x0, 0x0, 0x0, 0x0⟩,  -- ASY.STATUS R289
  ⟨0xf, 0x80024, 1, 0x0, 0xffffffff, 0x0, 0x0, 0x0, 0x0, 0x0, 0x0, 0x0⟩,  -- ASY.HEAT R289
  ⟨0xf, 0x80028, 1, 0x0, 0xffffffff, 0x0, 0x0, 0x0, 0x0, 0x0, 0x0, 0x0⟩,  -- ASY.LOAD_NS R289
  ⟨0xf, 0x8002c, 1, 0x0, 0xffffffff, 0x0, 0x0, 0x0, 0x0, 0x0, 0x0, 0x0⟩,  -- ASY.GRID_FULL R289
  ⟨0xf, 0x80030, 1, 0x0, 0xffffffff, 0x0, 0x0, 0x0, 0x0, 0x0, 0x0, 0x0⟩,  -- ASY.SEQ R289
  ⟨0xf, 0x80080, 1, 0x0, 0x0, 0x0, 0x0, 0x0, 0xffffffff, 0x0, 0x0, 0x0⟩,  -- ASY.CHECKS R289
  ⟨0xf, 0x80084, 1, 0x0, 0x0, 0x0, 0x0, 0x0, 0xffffffff, 0x0, 0x0, 0x0⟩,  -- ASY.CLEAR_CNT R289
  ⟨0xf, 0x80088, 1, 0x0, 0x0, 0x0, 0x0, 0x0, 0xffffffff, 0x0, 0x0, 0x0⟩,  -- ASY.BLK_HEAT R289
  ⟨0xf, 0x8008c, 1, 0x0, 0x0, 0x0, 0x0, 0x0, 0xffffffff, 0x0, 0x0, 0x0⟩,  -- ASY.BLK_DELTA R289
  ⟨0xf, 0x80090, 1, 0x0, 0x0, 0x0, 0x0, 0x0, 0xffffffff, 0x0, 0x0, 0x0⟩,  -- ASY.DATA_ERR R289
  ⟨0xf, 0x80094, 1, 0x0, 0x0, 0x0, 0x0, 0x0, 0xffffffff, 0x0, 0x0, 0x0⟩,  -- ASY.CARRY_CNT R289
  ⟨0xf, 0x80098, 1, 0x0, 0x0, 0x0, 0x0, 0x0, 0xffffffff, 0x0, 0x0, 0x0⟩,  -- ASY.STOP_CNT R289
  ⟨0xf, 0x8009c, 1, 0x0, 0x0, 0x0, 0x0, 0x0, 0xffffffff, 0x0, 0x0, 0x0⟩,  -- ASY.NOPLAN_CNT R289
  ⟨0xf, 0x800a0, 1, 0x0, 0x0, 0x0, 0x0, 0x0, 0xffffffff, 0x0, 0x0, 0x0⟩  -- ASY.URG_LATE R289
  ]

def rowsHLM : List RegRow := [
  ⟨0x10, 0x0, 8, 0x1000, 0x1ff, 0x0, 0x0, 0x0, 0x0, 0x0, 0x0, 0x0⟩,  -- HLM.U_STATUS R339
  ⟨0x10, 0x80000, 1, 0x0, 0xffffffc0, 0x0, 0x0, 0x0, 0x0, 0x0, 0x0, 0xffffffc0⟩,  -- HLM.LOG_BASE_LO R340
  ⟨0x10, 0x80004, 1, 0x0, 0xffffffff, 0x0, 0x0, 0x0, 0x0, 0x0, 0x0, 0xffffffff⟩,  -- HLM.LOG_BASE_HI R340
  ⟨0x10, 0x80008, 1, 0x0, 0xffffffff, 0x0, 0x0, 0x0, 0x0, 0x0, 0x0, 0xffffffff⟩,  -- HLM.LOG_SIZE R340
  ⟨0x10, 0x8000c, 1, 0x0, 0xffffffff, 0x0, 0x0, 0x0, 0x0, 0x0, 0x0, 0x0⟩,  -- HLM.LOG_WR R340
  ⟨0x10, 0x80080, 1, 0x0, 0x0, 0x0, 0x0, 0x0, 0xffffffff, 0x0, 0x0, 0x0⟩,  -- HLM.DIGEST_CNT R340
  ⟨0x10, 0x80084, 1, 0x0, 0x0, 0x0, 0x0, 0x0, 0xffffffff, 0x0, 0x0, 0x0⟩  -- HLM.RD_ERR R340
  ]

def rowsSPR : List RegRow := [
  ⟨0x11, 0x0, 1, 0x0, 0x0, 0x0, 0x0, 0x0, 0x0, 0x0, 0x1f, 0x1f⟩,  -- SPR.POLICY R492
  ⟨0x11, 0x10, 1, 0x0, 0xffffffff, 0x0, 0x0, 0x0, 0x0, 0x0, 0x0, 0xffffffff⟩,  -- SPR.THRESH0 R492
  ⟨0x11, 0x14, 1, 0x0, 0xffff, 0x0, 0x0, 0x0, 0x0, 0x0, 0x0, 0xffff⟩,  -- SPR.THRESH1 R492
  ⟨0x11, 0x40, 1, 0x0, 0x7ff, 0x0, 0x0, 0x0, 0x0, 0x0, 0x0, 0x0⟩,  -- SPR.OUT R492
  ⟨0x11, 0x50, 1, 0x0, 0xffffffff, 0x0, 0x0, 0x0, 0x0, 0x0, 0x0, 0x0⟩,  -- SPR.SWAP_LAST R492
  ⟨0x11, 0x54, 1, 0x0, 0x0, 0x0, 0x0, 0x0, 0xffffffff, 0x0, 0x0, 0x0⟩,  -- SPR.SWAP_MAX R492
  ⟨0x11, 0x60, 1, 0x0, 0x0, 0x0, 0x0, 0x0, 0xffffffff, 0x0, 0x0, 0x0⟩,  -- SPR.LIVE_CNT R492
  ⟨0x11, 0x64, 1, 0x0, 0x0, 0x0, 0x0, 0x0, 0xffffffff, 0x0, 0x0, 0x0⟩,  -- SPR.PRO_CNT R492
  ⟨0x11, 0x80, 8, 0x4, 0xffffff, 0x0, 0x0, 0x0, 0x0, 0x0, 0x0, 0x0⟩,  -- SPR.HEARTH_AGE R492
  ⟨0x11, 0x100, 11, 0x4, 0xffffff, 0x0, 0x0, 0x0, 0x0, 0x0, 0x0, 0xffffff⟩,  -- SPR.COUNT R492
  ⟨0x11, 0x10000, 18, 0x4, 0x0, 0x0, 0x0, 0x0, 0x0, 0x0, 0x1ff, 0x1ff⟩,  -- SPR.MAP0 R492
  ⟨0x11, 0x10400, 9, 0x4, 0x0, 0x0, 0x0, 0x0, 0x0, 0x0, 0x1ff, 0x1ff⟩,  -- SPR.MAP1 R492
  ⟨0x11, 0x10800, 5, 0x4, 0x0, 0x0, 0x0, 0x0, 0x0, 0x0, 0x1ff, 0x1ff⟩,  -- SPR.MAP2 R492
  ⟨0x11, 0x10c00, 24, 0x4, 0x0, 0x0, 0x0, 0x0, 0x0, 0x0, 0x1ff, 0x1ff⟩,  -- SPR.MAP3 R492
  ⟨0x11, 0x11000, 144, 0x4, 0x0, 0x0, 0x0, 0x0, 0x0, 0x0, 0x1ff, 0x1ff⟩,  -- SPR.MAP4 R492
  ⟨0x11, 0x11400, 5, 0x4, 0x0, 0x0, 0x0, 0x0, 0x0, 0x0, 0x1ff, 0x1ff⟩,  -- SPR.MAP5 R492
  ⟨0x11, 0x11800, 9, 0x4, 0x0, 0x0, 0x0, 0x0, 0x0, 0x0, 0x1ff, 0x1ff⟩,  -- SPR.MAP6 R492
  ⟨0x11, 0x11c00, 2, 0x4, 0x0, 0x0, 0x0, 0x0, 0x0, 0x0, 0x1ff, 0x1ff⟩,  -- SPR.MAP7 R492
  ⟨0x11, 0x12000, 8, 0x4, 0x0, 0x0, 0x0, 0x0, 0x0, 0x0, 0x1ff, 0x1ff⟩,  -- SPR.MAP8 R492
  ⟨0x11, 0x12800, 10, 0x4, 0x0, 0x0, 0x0, 0x0, 0x0, 0x0, 0x1ff, 0x1ff⟩,  -- SPR.MAP10 R492
  ⟨0x11, 0x20000, 234, 0x4, 0xffff, 0x0, 0x0, 0x0, 0x0, 0x0, 0x0, 0x7fff⟩  -- SPR.U_STATE R492
  ]

def rowsFWL : List RegRow := [
  ⟨0x12, 0x80000, 9, 0x40, 0x0, 0x0, 0x0, 0x0, 0x0, 0xf, 0x0, 0x0⟩,  -- FWL.TH_CTRL R441
  ⟨0x12, 0x80004, 9, 0x40, 0xff1f, 0x0, 0x0, 0x0, 0x0, 0x0, 0x0, 0x0⟩,  -- FWL.TH_STATUS R441
  ⟨0x12, 0x80008, 9, 0x40, 0xffffffff, 0x0, 0x0, 0x0, 0x0, 0x0, 0x0, 0x0⟩,  -- FWL.TH_SEQ R441
  ⟨0x12, 0x80010, 9, 0x40, 0x0, 0x0, 0x0, 0x0, 0x0, 0xffffffff, 0x0, 0x0⟩,  -- FWL.TH_DIGEST0 R441
  ⟨0x12, 0x80014, 9, 0x40, 0x0, 0x0, 0x0, 0x0, 0x0, 0xffffffff, 0x0, 0x0⟩,  -- FWL.TH_DIGEST1 R441
  ⟨0x12, 0x80018, 9, 0x40, 0x0, 0x0, 0x0, 0x0, 0x0, 0xffffffff, 0x0, 0x0⟩,  -- FWL.TH_DIGEST2 R441
  ⟨0x12, 0x8001c, 9, 0x40, 0x0, 0x0, 0x0, 0x0, 0x0, 0xffffffff, 0x0, 0x0⟩,  -- FWL.TH_DIGEST3 R441
  ⟨0x12, 0x80020, 9, 0x40, 0x0, 0x0, 0x0, 0x0, 0x0, 0xffffffff, 0x0, 0x0⟩,  -- FWL.TH_DIGEST4 R441
  ⟨0x12, 0x80024, 9, 0x40, 0x0, 0x0, 0x0, 0x0, 0x0, 0xffffffff, 0x0, 0x0⟩,  -- FWL.TH_DIGEST5 R441
  ⟨0x12, 0x80028, 9, 0x40, 0x0, 0x0, 0x0, 0x0, 0x0, 0xffffffff, 0x0, 0x0⟩,  -- FWL.TH_DIGEST6 R441
  ⟨0x12, 0x8002c, 9, 0x40, 0x0, 0x0, 0x0, 0x0, 0x0, 0xffffffff, 0x0, 0x0⟩,  -- FWL.TH_DIGEST7 R441
  ⟨0x12, 0x80400, 1, 0x0, 0xffffffff, 0x0, 0x0, 0x0, 0x0, 0x0, 0x0, 0x0⟩,  -- FWL.DENY_LAST_LO R442
  ⟨0x12, 0x80404, 1, 0x0, 0xffffffff, 0x0, 0x0, 0x0, 0x0, 0x0, 0x0, 0x0⟩,  -- FWL.DENY_LAST_HI R442
  ⟨0x12, 0x80408, 1, 0x0, 0xfff, 0x0, 0x0, 0x0, 0x0, 0x0, 0x0, 0x0⟩  -- FWL.DENY_INFO R442
  ]

def rowsSEC : List RegRow := [
  ⟨0x14, 0x0, 1, 0x0, 0x2, 0x0, 0x4, 0x1, 0x0, 0x0, 0x0, 0x0⟩,  -- SEC.ATT_CTRL R515
  ⟨0x14, 0x8, 1, 0x0, 0x0, 0xffffffff, 0x0, 0x0, 0x0, 0x0, 0x0, 0x0⟩,  -- SEC.ATT_DST_LO R515
  ⟨0x14, 0xc, 1, 0x0, 0x0, 0xffffffff, 0x0, 0x0, 0x0, 0x0, 0x0, 0x0⟩,  -- SEC.ATT_DST_HI R515
  ⟨0x14, 0x10, 8, 0x4, 0x0, 0xffffffff, 0x0, 0x0, 0x0, 0x0, 0x0, 0x0⟩,  -- SEC.ATT_NONCE R515
  ⟨0x14, 0x40, 1, 0x0, 0xffffffff, 0x0, 0x0, 0x0, 0x0, 0x0, 0x0, 0x0⟩,  -- SEC.BILLET R515
  ⟨0x14, 0x10000, 1024, 0x4, 0xffffffff, 0x0, 0x0, 0x0, 0x0, 0x0, 0x0, 0xffffffff⟩  -- SEC.DREC R514
  ]

def rowsDDR : List RegRow := [
  ⟨0x15, 0x0, 6, 0x1000, 0x73f, 0x0, 0x0, 0x0, 0x0, 0x0, 0x0, 0x0⟩,  -- DDR.CH_STATUS R372
  ⟨0x15, 0x4, 6, 0x1000, 0x0, 0x0, 0x0, 0x0, 0xffffffff, 0x0, 0x0, 0x0⟩,  -- DDR.CH_CE R372
  ⟨0x15, 0x8, 6, 0x1000, 0x0, 0x0, 0x0, 0x0, 0xffffffff, 0x0, 0x0, 0x0⟩,  -- DDR.CH_UE R372
  ⟨0x15, 0xc, 6, 0x1000, 0x0, 0x0, 0x0, 0x0, 0xffffffff, 0x0, 0x0, 0x0⟩,  -- DDR.CH_TAG R372
  ⟨0x15, 0x10, 6, 0x1000, 0x0, 0x0, 0x0, 0x0, 0xffffffff, 0x0, 0x0, 0x0⟩,  -- DDR.CH_RETRAIN R372
  ⟨0x15, 0x14, 6, 0x1000, 0x0, 0x0, 0x0, 0x0, 0xffffffff, 0x0, 0x0, 0x0⟩,  -- DDR.CH_RETRY R372
  ⟨0x15, 0x18, 6, 0x1000, 0xffff, 0x0, 0x0, 0x0, 0x0, 0x0, 0x0, 0x0⟩,  -- DDR.CH_MR4 R372
  ⟨0x15, 0x80000, 1, 0x0, 0x1ff01ff, 0x0, 0x0, 0x0, 0x0, 0x0, 0x0, 0x1ff01ff⟩,  -- DDR.CFG R373
  ⟨0x15, 0x80004, 1, 0x0, 0x7fff, 0x0, 0x0, 0x0, 0x0, 0x0, 0x0, 0x0⟩,  -- DDR.MAP R373
  ⟨0x15, 0x80008, 1, 0x0, 0xffffffff, 0x0, 0x0, 0x0, 0x0, 0x0, 0x0, 0x0⟩,  -- DDR.SIZE_LO R373
  ⟨0x15, 0x8000c, 1, 0x0, 0xffffffff, 0x0, 0x0, 0x0, 0x0, 0x0, 0x0, 0x0⟩,  -- DDR.SIZE_HI R373
  ⟨0x15, 0x80010, 1, 0x0, 0x0, 0xfff, 0x0, 0x0, 0x0, 0x0, 0x0, 0x0⟩,  -- DDR.VER_SEL R373
  ⟨0x15, 0x80014, 1, 0x0, 0x0, 0xff, 0x0, 0x0, 0x0, 0x0, 0x0, 0x0⟩,  -- DDR.VER R373
  ⟨0x15, 0x80018, 1, 0x0, 0xffffffff, 0x0, 0x0, 0x0, 0x0, 0x0, 0x0, 0x0⟩,  -- DDR.ERR_ADDR_LO R373
  ⟨0x15, 0x8001c, 1, 0x0, 0xffffffff, 0x0, 0x0, 0x0, 0x0, 0x0, 0x0, 0x0⟩,  -- DDR.ERR_ADDR_HI R373
  ⟨0x15, 0x80020, 1, 0x0, 0x7f, 0x0, 0x0, 0x0, 0x0, 0x0, 0x0, 0x0⟩,  -- DDR.ERR_INFO R373
  ⟨0x15, 0x80024, 1, 0x0, 0xffffffff, 0x0, 0x0, 0x0, 0x0, 0x0, 0x0, 0x0⟩  -- DDR.PATROL_PASS R373
  ]

def rowsUBF : List RegRow := [
  ⟨0x16, 0x0, 4, 0x1000, 0x7fff, 0x0, 0x0, 0x0, 0x0, 0x0, 0x0, 0x0⟩,  -- UBF.L_STATUS R403
  ⟨0x16, 0x4, 4, 0x1000, 0x0, 0x0, 0x0, 0x1, 0x0, 0x0, 0x0, 0x0⟩,  -- UBF.L_CTRL R403
  ⟨0x16, 0x8, 4, 0x1000, 0xffff, 0x0, 0x0, 0x0, 0x0, 0x0, 0x0, 0x0⟩,  -- UBF.L_DELAY R403
  ⟨0x16, 0x10, 4, 0x1000, 0x0, 0x0, 0x0, 0x0, 0xffffffff, 0x0, 0x0, 0x0⟩,  -- UBF.L_BAD R403
  ⟨0x16, 0x14, 4, 0x1000, 0x0, 0x0, 0x0, 0x0, 0xffffffff, 0x0, 0x0, 0x0⟩,  -- UBF.L_NAK R403
  ⟨0x16, 0x18, 4, 0x1000, 0x0, 0x0, 0x0, 0x0, 0xffffffff, 0x0, 0x0, 0x0⟩,  -- UBF.L_REPLAY_TO R403
  ⟨0x16, 0x1c, 4, 0x1000, 0x0, 0x0, 0x0, 0x0, 0xffffffff, 0x0, 0x0, 0x0⟩,  -- UBF.L_RETRAIN R403
  ⟨0x16, 0x20, 4, 0x1000, 0x0, 0x0, 0x0, 0x0, 0xffffffff, 0x0, 0x0, 0x0⟩,  -- UBF.L_LANE_ERR R403
  ⟨0x16, 0x80000, 1, 0x0, 0xffff003f, 0x0, 0x0, 0x0, 0x0, 0x0, 0x0, 0xffff003f⟩,  -- UBF.NODE_CFG R404
  ⟨0x16, 0x80004, 1, 0x0, 0xffff, 0x0, 0x0, 0x0, 0x0, 0x0, 0x0, 0x0⟩,  -- UBF.NODE_ADMIT R404
  ⟨0x16, 0x80008, 1, 0x0, 0x0, 0x0, 0xffffffff, 0x0, 0x0, 0x0, 0x0, 0x0⟩,  -- UBF.NODE_LOST R404
  ⟨0x16, 0x8000c, 1, 0x0, 0xffff, 0x0, 0x0, 0x0, 0x0, 0x0, 0x0, 0xffff⟩,  -- UBF.CFG R404
  ⟨0x16, 0x80020, 4, 0x4, 0xffffffff, 0x0, 0x0, 0x0, 0x0, 0x0, 0x0, 0xffffffff⟩  -- UBF.LINK_SLOTS R404
  ]

def rowsDBG : List RegRow := [
  ⟨0x1d, 0x0, 1, 0x0, 0xf, 0x0, 0x0, 0x0, 0x0, 0x0, 0x0, 0x0⟩,  -- DBG.STATE R516
  ⟨0x1d, 0x4, 1, 0x0, 0xffffffff, 0x0, 0x0, 0x0, 0x0, 0x0, 0x0, 0x0⟩,  -- DBG.NONCE R516
  ⟨0x1d, 0x8, 1, 0x0, 0x0, 0x0, 0x0, 0x0, 0x0, 0x1, 0x0, 0x0⟩,  -- DBG.CTRL R516
  ⟨0x1d, 0x1000, 512, 0x4, 0x0, 0xffffffff, 0x0, 0x0, 0x0, 0x0, 0x0, 0x0⟩,  -- DBG.TOKEN R516
  ⟨0x1d, 0x10, 1, 0x0, 0x0, 0x0, 0x0, 0x0, 0x0, 0x0, 0x7, 0x0⟩  -- DBG.UNLOCK R516
  ]

def rowsFLT : List RegRow := [
  ⟨0x1e, 0x2000, 1, 0x0, 0x1ffd, 0x0, 0x2, 0x0, 0x0, 0x0, 0x0, 0x0⟩,  -- FLT.STATUS R443
  ⟨0x1e, 0x2004, 1, 0x0, 0x0, 0x0, 0x0, 0x0, 0x0, 0x1, 0x0, 0x0⟩,  -- FLT.CTRL R443
  ⟨0x1e, 0x2008, 1, 0x0, 0x0, 0x0, 0x0, 0x0, 0xffffffff, 0x0, 0x0, 0x0⟩,  -- FLT.DROPPED R443
  ⟨0x1e, 0x0, 256, 0x4, 0xffffffff, 0x0, 0x0, 0x0, 0x0, 0x0, 0x0, 0x0⟩  -- FLT.LOG R442
  ]

/-- The rows of one block (R15). The 2H windows of FWL and FLT.REACT have masks that depend on the word (R420, R433) and are read by
`windowRow`. -/
def rowsOf (blk : Nat) : List RegRow :=
  match blk with
  | 0 => rowsTOP
  | 1 => rowsRST
  | 2 => rowsCLK
  | 3 => rowsTHM
  | 4 => rowsCAR
  | 5 => rowsBEL
  | 6 => rowsTAB0 ++ rowsTAB1
  | 7 => rowsBLW
  | 8 => rowsANV
  | 9 => rowsHAM
  | 10 => rowsCRU
  | 11 => rowsSWG
  | 12 => rowsPEL
  | 13 => rowsTNG
  | 14 => rowsQNC
  | 15 => rowsASY
  | 16 => rowsHLM
  | 17 => rowsSPR
  | 18 => rowsFWL
  | 20 => rowsSEC
  | 21 => rowsDDR
  | 22 => rowsUBF
  | 29 => rowsDBG
  | 30 => rowsFLT
  | _ => []

end Sys2Proof.Machine
end

