-- ==== Sys2Proof/Machine/Registers.lean ====
section
/-! DEFINITION. The register space by address: the row of a register, and its bits by access code (R13 to R19, R420, R433). -/

namespace Sys2Proof.Machine

def regBase : Nat := 0x40000000
/-- The block of a register address (R15). -/
def blockOf (a : Nat) : Nat := (a - regBase) / 0x100000
def offOf (a : Nat) : Nat := (a - regBase) % 0x100000

/-- Does an offset fall on an element of the row? -/
def rowHas (r : RegRow) (off : Nat) : Bool :=
  if r.count ≤ 1 ∨ r.stride = 0 then off == r.off
  else decide (r.off ≤ off) && (off - r.off) % r.stride == 0 && decide ((off - r.off) / r.stride < r.count)

/-- The 2H windows of the firewalls and the reaction table, whose masks depend on the word. -/
def windowRow (a : Nat) : Option RegRow :=
  let off := offOf a
  if blockOf a = 0x12 ∧ off < 0x4000 ∧ off % 0x1000 < 3072 ∧ off % 4 = 0 then
    some ⟨0x12, off, 1, 0, 0, 0, 0, 0, 0, 0, regionMask (off % 0x1000 / 4 % 12), regionMask (off % 0x1000 / 4 % 12)⟩
  else if blockOf a = 0x1E ∧ 0x1000 ≤ off ∧ off < 0x1800 ∧ off % 4 = 0 then
    let m := if off % 8 = 0 then 0x07FFFFFF else 0x7
    some ⟨0x1E, off, 1, 0, 0, 0, 0, 0, 0, 0, m, m⟩
  else none

/-- The register at an address. -/
def rowAt (a : Nat) : Option RegRow :=
  if a < regBase ∨ 0x44000000 ≤ a then none
  else match windowRow a with
    | some r => some r
    | none => (rowsOf (blockOf a)).find? (fun r => rowHas r (offOf a))

/-- The bits of a register a read shows (R17, R18). -/
def readMask (r : RegRow) : Nat := [r.rw, r.w1c, r.w1s, r.rc, r.h2, r.billet].foldl Nat.lor r.ro
/-- The bits software may write. -/
def writeMask (r : RegRow) : Nat := [r.w1c, r.w1s, r.wo].foldl Nat.lor r.rw

/-- The bits a billet's word sets: not those only a two-hand commit writes, nor MANAGER, a strap (R20, R76). -/
def billetMask (a : Nat) : Nat :=
  if a = BEL_CFG_OUT_EN.addr then 2
  else match rowAt a with
  | some r => Nat.land r.billet (Nat.xor 0xFFFFFFFF r.h2)
  | none => 0

end Sys2Proof.Machine
end

