-- ==== Sys2Proof/Machine/Start.lean ====
section
/-! DEFINITION. The start sequence up to the commits: the journal (R466 to R468), failed starts (R458, R459), Banked entry (R469), the
billet's verification and load (R504 to R508), the start commits (R430). -/

namespace Sys2Proof.Machine

def phase (s : State) : Nat := getF s RST_START_PHASE
def raisePhase (s : State) (p : Nat) : State := if phase s < p then setF s RST_START_PHASE p else s
def isWarmStart (s : State) : Bool := flag s RST_START_WARM
def startReach (s : State) : Nat := getF s RST_CAUSE_REACH

/- ### The journal (R466, R467) -/

/-- A record's 64 bytes. -/
def recBytes (r : JRec) : List Nat :=
  let b := layout 60 [(0, 4, 0x4A534A48), (4, 1, r.typ), (5, 1, r.reach), (6, 1, r.slot), (7, 1, r.cause), (8, 4, r.rseq), (12, 2, r.emberMs),
    (14, 2, r.fullMs), (16, 32, leNat r.digest), (48, 8, r.time)]
  b ++ leBytes 4 (crc32c b)

def newestSeq (s : State) : Nat := ((s.start.journal ++ s.start.aonCopy).map (·.rseq)).foldl max 0

/-- Records in ascending order; a sector is erased before its first record is written. Record 1 has index 0 (log 37). -/
def putRec (j : List JRec) (r : JRec) : List JRec :=
  (if (r.rseq - 1) % 64 = 0 then j.filter (fun x => decide (r.rseq ≤ x.rseq + 4032)) else j) ++ [r]

/-- The always-on copy keeps the newest 8. -/
def copyRec (c : List JRec) (r : JRec) : List JRec := (c ++ [r]).drop (c.length + 1 - 8)

/-- The vehicle time, or 0 while it is unknown. -/
def knownTime (s : State) : Nat := if s.stk.any || s.stk.gptpEver then s.time else 0

/-- Write a record to the journal and to its copy. -/
def writeRec (s : State) (r : JRec) : State :=
  let r := { r with rseq := newestSeq s + 1, time := knownTime s }
  setF { s with start := { s.start with journal := putRec s.start.journal r, aonCopy := copyRec s.start.aonCopy r } } RST_JOURNAL_NEXT (r.rseq % 4096)

/-- A record of this start. -/
def thisRec (s : State) (typ cause : Nat) : JRec :=
  { typ := typ, reach := startReach s, slot := s.start.chosenSlot, cause := cause, rseq := 0, emberMs := getF s RST_START_MS_EMBER_MS,
    fullMs := getF s RST_START_MS_FULL_MS, digest := s.start.digest }

/-- Records of the copy that the flash could not take are written back (R450, R466). -/
def mergeCopy (s : State) : State :=
  let last := (s.start.journal.map (·.rseq)).foldl max 0
  let news := s.start.aonCopy.filter (fun r => decide (last < r.rseq))
  setF { s with start := { s.start with journal := news.foldl putRec s.start.journal } } RST_JOURNAL_NEXT (newestSeq s % 4096)

/-- The records after the newest that satisfies p; all of them when none does. -/
def recsAfter (j : List JRec) (p : JRec → Bool) : List JRec := (j.reverse.takeWhile (fun r => !p r)).reverse
def newestRec (j : List JRec) (p : JRec → Bool) : Option JRec := j.reverse.find? p

/-- The newest ATTEMPT when neither SUCCESS nor FAIL follows it. -/
def openAttempt (j : List JRec) : Option JRec :=
  if (recsAfter j (fun r => r.typ == 1)).any (fun r => r.typ == 2 || r.typ == 3) then none else newestRec j (fun r => r.typ == 1)

def closeAttempt (s : State) : State :=
  match openAttempt s.start.journal with
  | some a => writeRec s { a with typ := 3, cause := 0x0C, emberMs := 0xFFFF, fullMs := 0xFFFF }
  | none => s

/-- The newest BANKED record with no SUCCESS record after it. -/
def openBanked (j : List JRec) : Option JRec :=
  if (recsAfter j (fun r => r.typ == 4)).any (fun r => r.typ == 2) then none else newestRec j (fun r => r.typ == 4)

def failCauses (j : List JRec) (n : Nat) : List Nat := ((j.reverse.filter (fun r => r.typ == 3)).map (·.cause)).take n

/-- Failed attempts counted by R468. -/
def failedAttempts (j : List JRec) : Nat := ((recsAfter j (fun r => r.typ == 2 || r.typ == 5)).filter (fun r => r.typ == 1)).length

/- ### A failed start (R459) -/

def starting (s : State) : Bool := decide (1 ≤ phase s) && decide (phase s < 12)

/-- A FAIL record and RST 0x006; a ROLE failure writes UBF 0x00A too (R374). -/
def startFails (s : State) (cause : Nat) : State :=
  let s := writeRec s (thisRec s 3 cause)
  let s := setF (setF s RST_START_CAUSE cause) RST_START_PHASE 14
  let s := if cause = 5 then sendFault s 0x16 0x00A 7 0 else s
  sendFault s 0x01 0x006 7 0

/-- START_FAIL: the start fails with a cause of R458. -/
def execStartFail (cause : Nat) (s : State) : Ans :=
  if starting s ∧ 1 ≤ cause ∧ cause ≤ 0x0C then .next (startFails s cause) else .next s

/-- START_TIMEOUT (R458, R43): full service not reached within 2,000 ms of release. -/
def execStartTimeout (s : State) : Ans := if starting s then .next (startFails s 0x0B) else .next s

/-- DOMAIN_QUAL_TIMEOUT (R449, R450): a domain has not qualified 5 ms after its PLL was enabled. -/
def execDomainQualTimeout (domain : Nat) (s : State) : Ans :=
  if domain = 0 ∨ 9 ≤ domain ∨ !s.rst.released ∨ domainDone s domain then .next s
  else
    let s := setF s (CLK_D_STATUS_FAILED domain) 1
    if domain ≤ 2 then
      let r := { thisRec s 3 8 with rseq := newestSeq s + 1, slot := 0xFF }
      .next { s with start := { s.start with aonCopy := copyRec s.start.aonCopy r, retryDue := true } }
    else .next (endEpisode (if starting s then startFails s 8 else s))

/- ### Banked (R469) -/

/-- The device comes up Banked: no stroke, no plan; SAFE_STATE high, FAULT_N released. -/
def comeUpBanked (s : State) : State :=
  let s := setF (setF s TOP_MODE_MODE 3) RST_START_PHASE 13
  showPins { s with start := { s.start with banked := true }, pins := { s.pins with safeState := true, faultN := false } }

/- ### Verification (R504) -/

/-- Slot B serves: SEC 0x001 and `RST.START.SLOT`. -/
def useSlot (s : State) (x : SlotImage) (slot : Nat) : State :=
  let s := { s with start := { s.start with chosen := some x, chosenSlot := slot, digest := slotDigest x } }
  if slot = 1 then sendFault (setF s RST_START_SLOT 1) 0x14 0x001 0 0 else s

/-- A slot as it stands in flash: the image read, with the bytes that maintenance wrote since (R471, R499). -/
def slotRead (x : SlotImage) (written : List (Nat × Nat)) : SlotImage :=
  { x with raw := written.foldl (fun r p => (r ++ List.replicate (p.1 + 1 - r.length) 0xFF).set p.1 p.2) x.raw }

/-- BILLET_VERIFY: slot A, then slot B. What step 5 decides is left to the version check (R454, R506). -/
def execBilletVerify (slotA slotB : SlotImage) (s : State) : Ans :=
  if phase s ≠ 1 ∨ s.start.known then .next s
  else
    let slotA := slotRead slotA s.start.slotA
    let slotB := slotRead slotB s.start.slotB
    let a := slotCause s slotA
    let b := slotCause s slotB
    let s := { s with start := { s.start with known := true, failCause := if authentic s.sec slotA then a else if authentic s.sec slotB then b else 1 } }
    if a = 0 then .next (useSlot { s with start := { s.start with other := some slotB } } slotA 0)
    else if b = 0 then .next (useSlot s slotB 1)
    else
      let d := if authentic s.sec slotA then slotA else if authentic s.sec slotB then slotB else if headerOk slotA then slotA else if headerOk slotB then slotB
        else slotA
      .next { s with start := { s.start with digest := slotDigest d } }

/- ### The decision (R468) -/

/-- The version read goes out with a fresh 16-byte nonce (R506; log 2). -/
def askVersion (s : State) : State :=
  let f := fresh s
  { f.2 with sec := { s.sec with rpmbNonce := beBytes 16 (Config.freeValue f.1) } }

/-- `start:` an ATTEMPT record, then the sequence, or its failure when no slot passed. -/
def beginAttempt (s : State) : State :=
  let s := writeRec s { thisRec s 1 0 with emberMs := 0xFFFF, fullMs := 0xFFFF }
  if s.start.chosen.isSome then askVersion (setF s RST_START_PHASE 2) else startFails s s.start.failCause

/-- The cold decision. -/
def decideCold (s : State) : State :=
  let j := s.start.journal
  let n := failedAttempts j
  let s := setF (setF s RST_JOURNAL_FAILS (min n 3)) RST_JOURNAL_BANKED (b2n (openBanked j).isSome)
  match openBanked j with
  | some b =>
    let after := recsAfter j (fun r => r.typ == 4)
    let cleared := after.any (fun r => r.typ == 5)
    let tried := if cleared then (recsAfter after (fun r => r.typ == 5)).any (fun r => r.typ == 1)
      else after.any (fun r => r.typ == 1 && r.digest == s.start.digest)
    if (cleared || b.digest != s.start.digest) && !tried then beginAttempt (setF s RST_JOURNAL_FRESH 1) else comeUpBanked s
  | none =>
    if 3 ≤ n then comeUpBanked (setF (writeRec s (thisRec s 4 ((failCauses j 1).headD 0))) RST_JOURNAL_BANKED 1) else beginAttempt s

/-- JOURNAL_DECIDE; a warm start only closes an open attempt and writes its own, and restarts Banked (R456). -/
def execJournalDecide (s : State) : Ans :=
  if phase s ≠ 1 ∨ !s.start.known then .next s
  else
    let s := closeAttempt (mergeCopy s)
    if isWarmStart s then .next (if s.start.banked then comeUpBanked s else beginAttempt s) else .next (decideCold s)

/- ### Loading the billet (R20, R254, R293, R348, R477, R480) -/

/-- A queue's registers from its descriptor (R293, R319). -/
def loadQueue (s : State) (q : Nat) : State :=
  let d := qDesc s.bil q
  let s := set64 (set64 s (TAB_Q_BASE_LO q) (TAB_Q_BASE_HI q) (fldAt d 0 8)) (TAB_Q_CQBASE_LO q) (TAB_Q_CQBASE_HI q) (fldAt d 16 8)
  let s := setF (setF (setF s (TAB_Q_CFG_LOG2SIZE q) (fldAt d 8 1)) (TAB_Q_CFG_DEFPRI q) (fldAt d 9 1)) (TAB_Q_CFG_BRAND q) (fldAt d 10 1)
  let s := setF (setF (setF s (TAB_Q_CFG_SERIAL q) (fldAt d 11 1)) (TAB_Q_CFG_EN q) (fldAt d 11 1 / 2)) (TAB_Q_CFG_LOG2CQ q) (fldAt d 24 1)
  setF (setF (setF s (TAB_Q_CFG2_CLSMASK q) (fldAt d 12 2)) (TAB_Q_CFG2_PRODUCER q) (fldAt d 14 1)) (TAB_Q_CFG2_EVTLINE q) (fldAt d 15 1)

/-- Words the register tables mark 'billet'. -/
def loadWord (s : State) (p : Nat × Nat) : State :=
  let m := billetMask p.1
  if m = 0 then s else wr s p.1 (Nat.lor (Nat.land (rd s p.1) (Nat.xor 0xFFFFFFFF m)) (Nat.land p.2 m))

/-- What the billet's sections show as present: cost sets, families, programs (R149, R183, R228). -/
def loadPresent (s : State) : State :=
  let fam := fun (f : Nat) => decide (bits (bw s.bil (SWG_FAMILY (4 * f + 3)).addr) 16 8 = 1)
  let s := setF s HAM_CSET_EN ((s.bil.costSets.zipIdx.filter (fun p => fldAt p.1 19 1 == 1)).foldl (fun m p => m + 2 ^ p.2) 0)
  let s := setF s SWG_FAM_EN_LO (((List.range 32).filter fam).foldl (fun m f => m + 2 ^ f) 0)
  let s := setF s SWG_FAM_EN_HI (((List.range 32).filter (fun f => fam (f + 32))).foldl (fun m f => m + 2 ^ f) 0)
  setF s QNC_PROG_EN (s.bil.progs.foldl (fun m p => m + 2 ^ p.1) 0)

def hasSpareSection (b : Billet) : Bool := b.sections.any (fun x => x.1 == 8)

/-- `SPR.THRESH` and its defaults (R545). -/
def loadThresh (s : State) : State :=
  if hasSpareSection s.bil then s
  else setF (setF (setF s SPR_THRESH0_AGE_PPM 40000) SPR_THRESH0_HOT_H 4000) SPR_THRESH1 16

/-- Heat hours of the newest wear record, in seconds (R480). -/
def recordHours (s : State) : List (Nat × Nat) :=
  match s.spr.records.find? (fun p => p.1 == s.spr.wearSeq % 16) with
  | some p => (List.range 9).foldl (fun m r => nset m r (fldAt p.2 (296 + 4 * r) 4 * 3600)) []
  | none => []

/-- The newest wear record, or the factory map and zero heat hours with SPR 0x008 (R480). -/
def loadWear (s : State) : State :=
  if s.spr.wearValid then { s with spr := { s.spr with heatHours := recordHours s } }
  else sendFault { s with spr := { s.spr with heatHours := [], wearFences := [], wearRetired := [], wearBanks := [] } } 0x11 0x008 0 0

/-- Each unit before its test: RETIRED by the factory map or the wear record, else SPARE; its lifetime fences (R477). -/
def loadUnit (s : State) (e : Nat) : State :=
  let gone := s.bil.retired.contains e || s.spr.wearRetired.contains e
  setF (setF s (SPR_U_STATE_STATE e) (if gone then 5 else 1)) (SPR_U_STATE_FENCES e) (nget s.spr.wearFences e)

def loadUnits (s : State) : State :=
  let s := { s with start := { s.start with retired := s.bil.retired ++ s.spr.wearRetired } }
  let s := (List.range 234).foldl loadUnit s
  (List.range 11).foldl (fun s c => recount (setF s (SPR_COUNT_LOGICAL c) (gradeCount s.bil.grade c)) c) s

/-- One logical bank of the map at start; the spares left (R348). -/
def mapBank (ret : List Nat) (a : List Nat × State) (l : Nat) : List Nat × State :=
  let pb := if ret.contains l then a.1.headD l else l
  (if ret.contains l then a.1.drop 1 else a.1, setF (setF a.2 (ANV_MAP l) pb) (ANV_BANK_CE_IN_USE pb) 1)

def formMap (s : State) : State :=
  let ret := s.bil.banks ++ s.spr.wearBanks
  let s := (List.range 1088).foldl (fun s pb => if ret.contains pb then setF s (ANV_BANK_CE_RETIRED pb) 1 else s) s
  let r := (List.range 1024).foldl (mapBank ret) (((List.range 64).map (· + 1024)).filter (fun pb => !ret.contains pb), s)
  setF r.2 ANV_STATUS_SPARES_FREE r.1.length

/-- Zero over [a, a + n), with fresh codes. -/
def clearRange (s : State) (a n : Nat) : State :=
  let keep := fun (x : Nat) => !(decide (a ≤ x) && decide (x < a + n))
  { s with mem := { s.mem with cells := s.mem.cells.filter (fun c => keep c.1), errs := s.mem.errs.filter (fun c => keep c.1),
                               writeback := s.mem.writeback.filter keep } }

/-- A completion ring reads zero; in DDR its lines take their TAGs with the write (R297, R362). -/
def zeroRing (s : State) (q : Nat) : State :=
  (linesOf (qCqBase s q) (16 * cqSize s q)).foldl tagWrite (clearRange s (qCqBase s q) (16 * cqSize s q))

/-- The completion rings in the Anvil, or in DDR, are zeroed: the first when the billet loads, the others once DDR answers again with its
contents kept (R297; log 149). -/
def zeroRings (ddr : Bool) (s : State) : State :=
  (List.range 64).foldl (fun s q => if decide (ddrBase ≤ qCqBase s q) = ddr then zeroRing s q else s) s

/-- The links a Zasel 24 does not have (R5, R403). -/
def gradeLinks (s : State) : State :=
  if s.bil.grade = 24 then setF (setF s (UBF_L_STATUS_STATE 2) 3) (UBF_L_STATUS_STATE 3) 3 else s

/-- Every register that resets from the billet, but for the 2H ones. -/
def loadBillet (s : State) (b : Billet) : State :=
  let s := (b.regs ++ missingWords b).foldl loadWord { s with bil := b }
  let s := loadThresh (loadPresent ((List.range 64).foldl loadQueue s))
  let s := setF (setF s UBF_NODE_CFG_EXP b.exp) SEC_BILLET b.version
  let cfg : PlanCfg := { validity := bF b ASY_VALIDITY, decel := bF b ASY_CFG1_STOP_DECEL, canId := bF b ASY_CAN_ID_ID, ext := bF b ASY_CAN_ID_EXT,
                         nbr := bF b ASY_CAN_CFG_NBR, dbr := bF b ASY_CAN_CFG_DBR, dual := bF b ASY_CAN_CFG_DUAL, net := b.planNet, twoPorts := b.planTwoPorts }
  let s := { s with pln := { s.pln with cfg := cfg } }
  formMap (loadUnits (loadWear (gradeLinks (zeroRings false s))))

/- ### The version check (R504 step 5, R506, R508) -/

def versionOk (s : State) (b : Billet) : Bool := b.noRpmb || decide (s.start.minVer ≤ b.version)

/-- The billet is accepted. -/
def accept (s : State) (x : SlotImage) : State := loadBillet (setF s RST_START_PHASE 3) (billetOf s.sec x)

/-- Slot B is tried when slot A's version is too old; the cause is that of the first slot that passed step 4. -/
def tryOther (s : State) : State :=
  match s.start.other with
  | some b =>
    if slotCause s b = 0 ∧ versionOk s (billetOf s.sec b) then accept (useSlot { s with start := { s.start with other := none } } b 1) b else startFails s 2
  | none => startFails s (if s.start.failCause = 0 then 2 else s.start.failCause)

/-- The read is accepted: MAC, nonce, result code, magic and DEVICE_ID match (R505, R506). -/
def rpmbOk (k : Sec) (a : RpmbAnswer) : Bool :=
  hmac sha256 (rpmbKey k) a.frame == a.mac && (a.frame.drop 256).take 16 == k.rpmbNonce && zeroAt a.frame 280 2 && fldAt a.frame 0 4 == 0x42524A48 &&
    (a.frame.drop 8).take 8 == deviceId k

/-- MIN_VER of the half-sector (R505). -/
def rpmbMin (a : RpmbAnswer) : Nat := fldAt a.frame 4 4

/-- RPMB_CHECK: an eMMC without a key is keyed with MIN_VER 0. -/
def execRpmbCheck (answer : RpmbAnswer) (s : State) : Ans :=
  if phase s ≠ 2 then .next s
  else match s.start.chosen with
    | none => .next s
    | some x =>
      if (billetOf s.sec x).noRpmb then .next (accept s x)
      else if !answer.inTime ∨ (answer.keyed ∧ !rpmbOk s.sec answer) then .next (startFails s 3)
      else
        let s := { s with start := { s.start with minVer := if answer.keyed then rpmbMin answer else 0 } }
        if versionOk s (billetOf s.sec x) then .next (accept s x) else .next (tryOther s)

/- ### The commits (R430, R456, R512) -/

/-- A group's words from the verified billet; group 7 is locked; the map is made after the self-test (R477, R545). -/
def startWord (b : Billet) (g : Nat) (p : Nat × Nat) : Nat :=
  if g = 7 then 0
  else if g = 6 then (if p.1 = SPR_POLICY.addr then (if hasSpareSection b then Nat.land (bw b p.1) p.2 else 0x12) else 0)
  else Nat.land (bw b p.1) p.2

def startGroup (s : State) (g : Nat) : State :=
  let s := (groupWords g).foldl (fun s p => wr s p.1 (startWord s.bil g p)) s
  let s := setF (setF s (FWL_TH_SEQ g) (getF s (FWL_TH_SEQ g) + 1)) (FWL_TH_STATUS_STAGER g) 1
  thResult s g 1

/-- A warm start keeps groups 4 and 5. -/
def startGroups (s : State) : List Nat := if isWarmStart s then [0, 1, 2, 3, 6, 7] else [0, 1, 2, 3, 4, 5, 6, 7]

/-- START_COMMIT; `monitorAgrees`: the monitor pair's own digests of the sections match. -/
def execStartCommit (monitorAgrees : Bool) (s : State) : Ans :=
  if phase s ≠ 3 then .next s
  else if monitorAgrees then .next (phase5 (setF ((startGroups s).foldl startGroup s) RST_START_PHASE 4))
  else .next (startFails (sendFault (thResult s 0 2) 0x12 0x002 4 0) 7)

end Sys2Proof.Machine
end

