-- ==== Sys2Proof/Machine/Banked.lean ====
section
/-! DEFINITION. Banked and its maintenance commands (R469 to R471), the watchdog and the software warm
request (R444, R457, R472, R473). -/

namespace Sys2Proof.Machine

/- ### Maintenance commands (R471, R497) -/

/-- A maintenance command: its body's length is what its chain leaves. -/
def commandOk (root obj : List Nat) : Bool :=
  [1, 2, 3].any (fun n => fldAt obj (obj.length - 68 - 160 * n) 1 == n && objectOk root obj (obj.length - 68 - 160 * n) 1)

/- ### Reports (R470) -/

/-- The identifier of Banked's frames: of the billet that verified, or 0x7F0 (R280, R469). -/
def bankedId (s : State) : Nat := match s.start.chosen with | some x => (billetOf s.sec x).canId | none => 0x7F0

/-- The CAN FD settings of Banked: those of the billet that verified, or NBR 2 and DBR 1 (R280). -/
def bankedCan (s : State) : PlanCfg :=
  match s.start.chosen with
  | some x => { canId := bankedId s, ext := bF (billetOf s.sec x) ASY_CAN_ID_EXT, nbr := bF (billetOf s.sec x) ASY_CAN_CFG_NBR, dbr := bF (billetOf s.sec x) ASY_CAN_CFG_DBR,
                dual := bF (billetOf s.sec x) ASY_CAN_CFG_DUAL }
  | none => { canId := bankedId s }

/-- The port 3 settings of Banked: those of the billet that verified, or untagged link-local addressing and UDP port 47,600 (R469). -/
def bankedPort (s : State) : PortSettings := match s.start.chosen with | some x => { (billetOf s.sec x).port3 with linkLocal := false } | none => {}

/-- The 2 frames of a report. -/
def reportFrames (c : PlanCfg) (r : List Nat) : List CanFrame :=
  [{ id := c.canId, ext := c.ext, nbr := c.nbr, dbr := c.dbr, data := r.take 64 }, { id := c.canId, ext := c.ext, nbr := c.nbr, dbr := c.dbr, data := r.drop 64 }]

/-- A report under a nonce, signed with the random number of counter c. -/
def reportBytes (s : State) (nonce c : Nat) : List Nat :=
  let cs := failCauses s.start.journal 3
  let b := layout 64 [(0, 4, 0x4B424A48), (4, 2, 1), (6, 2, 128), (8, 8, leNat (deviceId s.sec)), (16, 4, nonce), (20, 1, getF s RST_JOURNAL_FAILS),
    (21, 1, cs.getD 0 0), (22, 1, cs.getD 1 0), (23, 1, cs.getD 2 0), (24, 32, leNat s.start.digest), (56, 4, newestSeq s)]
  b ++ signature s.sec c b

def isBanked (s : State) : Bool := mode s == 3

/-- BANKED_REPORT: on port 3 and as 2 CAN FD frames; the nonces of the last 2 reports stay valid. -/
def execBankedReport (at_ : Nat) (s : State) : Ans :=
  let s := atTime s at_
  if !isBanked s then .next s
  else
    let f := fresh s
    let nonce := Config.freeValue f.1 % 2 ^ 32
    let g := fresh f.2
    let s := g.2
    let r := reportBytes s nonce g.1
    let s := { s with start := { s.start with reports := s.start.reports ++ [(bankedPort s, r)], nonces := (s.start.nonces ++ [nonce]).drop (s.start.nonces.length - 1) } }
    .next (sendCan s (bankedCan s).dual (reportFrames (bankedCan s) r))

/- ### Maintenance commands (R471) -/

/-- Carries the nonce of one of the last 2 reports and a valid signature. -/
def maintained (s : State) (obj : List Nat) (nonce : Nat) : Bool := isBanked s && s.start.nonces.contains nonce && commandOk s.sec.root obj

/-- READ_JOURNAL: up to 16 records from an RSEQ. -/
def execReadJournal (obj : List Nat) (nonce fromSeq : Nat) (s : State) : Ans :=
  if !maintained s obj nonce then .next s
  else
    let rs := (s.start.journal.filter (fun r => decide (fromSeq ≤ r.rseq))).take 16
    .next { s with start := { s.start with answers := s.start.answers ++ [rs.flatMap recBytes] } }

/-- CLEAR_JOURNAL: a CLEAR record, then a cold reset 100 ms later. -/
def execClearJournal (obj : List Nat) (nonce : Nat) (s : State) : Ans :=
  if !maintained s obj nonce then .next s
  else
    let s := writeRec s (thisRec s 5 0)
    .next { s with start := { s.start with coldDue := true } }

/-- Bytes of a slot. -/
def slotWrite (m : List (Nat × Nat)) (off : Nat) (bs : List Nat) : List (Nat × Nat) :=
  bs.zipIdx.foldl (fun m p => sset (fun _ => 0xFF) m (off + p.2) p.1) m

/-- WRITE_SLOT: a chunk of slot A or B, within its 16 MiB. -/
def execWriteSlot (obj : List Nat) (nonce slot offset : Nat) (bytes : List Nat) (s : State) : Ans :=
  if !maintained s obj nonce ∨ 2 ≤ slot ∨ 0x1000000 < offset + bytes.length then .next s
  else if slot = 0 then .next { s with start := { s.start with slotA := slotWrite s.start.slotA offset bytes } }
  else .next { s with start := { s.start with slotB := slotWrite s.start.slotB offset bytes } }

/-- RESTART: a cold reset 100 ms later. -/
def execRestart (obj : List Nat) (nonce : Nat) (s : State) : Ans :=
  if !maintained s obj nonce then .next s else .next { s with start := { s.start with coldDue := true } }

/-- MAINTENANCE_COLD_RESET: the safety island's cold escalation carries it out (log 38). -/
def execMaintenanceColdReset (s : State) : Ans := if isBanked s ∧ s.start.coldDue then .next (assertSource s 6 4) else .next s

/- ### Watchdog and warm request -/

/-- Brands that may write `RST.WDOG_KICK` and `RST.SW_REQ` (R473). -/
def mayKick (b : Nat) : Bool := (decide (1 ≤ b) && decide (b ≤ 4)) || (decide (0x10 ≤ b) && decide (b ≤ 0x19))

def kick (s : State) (brand value : Nat) : State :=
  if mayKick brand ∧ value = 0x4B49434B then answer { s with start := { s.start with wdogAt := s.time } } .ok else answer s .error

/-- WDOG_KICK: the key restarts the watchdog; any other value gets an error response. -/
def execWdogKick (brand value : Nat) (s : State) : Ans := .next (guarded s brand 1 RST_WDOG_KICK.addr (fun s => kick s brand value))

def warmRequest (s : State) (brand value : Nat) : State :=
  if mayKick brand ∧ value = 0x5741524D ∧ flag s RST_POLICY_SWREQ_EN then answer (sendFault s 0x01 0x003 6 0) .ok else answer s .error

/-- SW_WARM_REQ: accepted only with SWREQ_EN (R473). -/
def execSwWarmReq (brand value : Nat) (s : State) : Ans := .next (guarded s brand 1 RST_SW_REQ.addr (fun s => warmRequest s brand value))

/-- WDOG_EXPIRE (R472): the armed watchdog was not restarted within TIMEOUT_MS. -/
def execWdogExpire (s : State) : Ans := if s.start.wdogArmed then .next (sendFault s 0x01 0x002 6 0) else .next s

end Sys2Proof.Machine
end

