-- ==== Sys2Proof/Machine/Bell.lean ====
section
/-! DEFINITION. The Bell line, its calibration and the worker's strokes (R65 to R73, R395). -/

namespace Sys2Proof.Machine

def ownDelay (s : State) : Nat := getF s BEL_OWN_DELAY

/-- A moment inside the announced calibration window (R70). -/
def inCalWindow (s : State) (t : Nat) : Bool :=
  match s.bell.window with | some (a, n) => decide (a ≤ t ∧ t < a + n) | none => false

/-- The skew check of R71, in every mode against the stroke time of the message; a difference that the field cannot hold shows a free value
(log 126). -/
def skewCheck (s : State) (edge t : Nat) : State :=
  let d : Int := (edge : Int) - (t + ownDelay s : Nat)
  let s := setF s BEL_SKEW_LAST (if d < -32768 ∨ 32767 < d then Config.skewWord d else toU 16 d)
  if d < -25 ∨ 25 < d then sendFault s 0x05 0x004 0 0 else s

/-- Switch to sync-VC strokes (R73); as the first source after an admission also CAR 0x00D (R45). -/
def loseBell (s : State) : State :=
  let s := takeSource s 4
  let s := setF (setSource s 4) BEL_STATUS_EDGE_OK 0
  sendFault { s with bell := { s.bell with missing := true, goodEdges := 0, edgeAt := none } } 0x05 0x002 3 0

/-- A pulse the worker's Bell filter ignores; the ninth between two stroke instants makes the line unusable (R48, R67). -/
def ignoreBell (s : State) : State :=
  let s := bump s BEL_EDGE_IGNORED 1
  let s := { s with bell := { s.bell with ignored := s.bell.ignored + 1 } }
  if 9 ≤ s.bell.ignored ∧ source s = 3 then loseBell { s with bell := { s.bell with unusable := true } } else s

/-- The number a worker takes without a message: the previous number + 1, or what a late message set (R72). -/
def guessNumber (s : State) : Nat := ((match s.bell.adopt with | some n => n | none => s.stk.no) + 1) % 2 ^ 64

def near (a b d : Nat) : Bool := decide (a ≤ b + d ∧ b ≤ a + d)

/-- Without a message the worker runs its previous number + 1; the time is its edge's, in REPRO mode the next of R64. -/
def guessStroke (s : State) (t : Nat) : Nat × Nat := (guessNumber s, if inRepro s then (reproStroke s).2 else t - ownDelay s)

/-- A message that came before the edge t, by less than half a period (R72). -/
def earlyMessage (s : State) (t : Nat) : Option (Nat × Nat) :=
  match s.bell.message with
  | some (n, t0, at_) => if t ≤ at_ + period s / 2 then some (n, t0) else none
  | none => none

/-- A worker whose REPRO stroke still runs discards the source's stroke (R64). -/
def waitsRepro (s : State) : Bool := inRepro s && reproBusy s

/-- An accepted Bell edge is the worker's stroke edge; the message, when it came first, gives number and time (R41, R68, R72). -/
def bellStroke (s : State) (t : Nat) : State :=
  let s := { s with bell := { s.bell with lastAccepted := some t, edgeAt := some t, late := false } }
  let s := setF (takeSource s 3) BEL_STATUS_EDGE_OK 1
  let inst := t + getF s BEL_COMP
  if waitsRepro s then dropStroke { s with bell := { s.bell with message := none, guessed := false } }
  else match earlyMessage s t with
  | some (n, t0) =>
    let s := setF (skewCheck s t t0) BEL_STATUS_NUM_OK 1
    { s with stk := { s.stk with awaiting := some (n, t0, inst) }, bell := { s.bell with message := none, guessed := false, adopt := none } }
  | none =>
    let g := guessStroke s t
    { setF s BEL_STATUS_NUM_OK 0 with stk := { s.stk with awaiting := some (g.1, g.2, inst) },
                                      bell := { s.bell with message := none, guessed := true, adopt := none } }

/-- On sync-VC strokes: every stroke with an edge takes the skew check; an edge within ±100 ns of the expected crossing counts, and after 8
in a row the worker returns (R71, R73). -/
def returnCheck (s : State) (edge t : Nat) : State :=
  let s := skewCheck s edge t
  let good := if near edge (t + ownDelay s) 100 then s.bell.goodEdges + 1 else 0
  let s := { s with bell := { s.bell with goodEdges := good, edgeAt := none, message := none } }
  if 8 ≤ good then
    let b := { s.bell with missing := false, unusable := false, ignored := 0, goodEdges := 0, lastAccepted := some edge }
    sendFault (setF { setSource s 3 with bell := b } BEL_STATUS_EDGE_OK 1) 0x05 0x006 0 0
  else s

/-- BELL_EDGE (R65, R67, R70, R73): a rising BELL_IN edge at `at_` that stays high for `highNs`; an admitted worker repeats it. -/
def execBellEdge (at_ highNs : Nat) (s : State) : Ans :=
  let s := atTime s at_
  if !isWorker s ∨ !s.bell.admitted ∨ s.ubf.orphan then .next s
  else
    let s := if 20 ≤ highNs then bellPulse s (at_ + 35) highNs 5 else s
    if inCalWindow s at_ then .next s
    else if source s = 4 then
      if highNs < 20 then .next (ignoreBell s)
      else match earlyMessage s at_ with
        | some (_, t) => .next (returnCheck s at_ t)
        | none => .next { s with bell := { s.bell with edgeAt := some at_, message := none } }
    else
      let far : Bool := match s.bell.lastAccepted with | none => true | some last => decide (period s ≤ 2 * (at_ - last))
      .next (if 20 ≤ highNs ∧ far then bellStroke s at_ else ignoreBell s)

/-- The moment from which an admitted worker misses a Bell edge: the last accepted one, or its admission (R67, R73). -/
def bellSince (s : State) : Nat := max (s.bell.lastAccepted.getD 0) s.bell.admittedAt

/-- BELL_MISSING (R67, R73): no accepted edge for 1.5 periods, also of a line that has been dead since the admission. -/
def execBellMissing (at_ : Nat) (s : State) : Ans :=
  let s := atTime s at_
  if isWorker s ∧ s.bell.admitted ∧ !s.ubf.orphan ∧ (source s = 3 ∨ source s = 6) ∧ 3 * period s ≤ 2 * (at_ - bellSince s) then
    .next (loseBell s)
  else .next s

/-- The manager's message gives the current or coming stroke its number and time; in REPRO mode the numbering goes on from it (R64, R72). -/
def takeMessage (s : State) (n t : Nat) : State :=
  let s := setF { s with bell := { s.bell with guessed := false, message := none } } BEL_STATUS_NUM_OK 1
  let s := if inRepro s then { s with car := { s.car with reproFrom := (n, t) } } else s
  match s.stk.awaiting with
  | some (_, _, inst) => { s with stk := { s.stk with awaiting := some (n, t, inst) } }
  | none => { s with stk := { s.stk with no := n, time := t } }

/-- No message within 100 µs of the edge: the worker runs its previous number + 1, BEL 0x003 (R72). -/
def messageLate (s : State) : State := sendFault (bump { s with bell := { s.bell with late := true } } BEL_NUM_MISMATCH 1) 0x05 0x003 3 0

/-- The number of the stroke that runs or waits for its instant. -/
def runningNo (s : State) : Nat := match s.stk.awaiting with | some (n, _, _) => n | none => s.stk.no

/-- A message of the last edge's stroke (R71, R72): in time it gives number and time; a late one with another number is adopted from the next
stroke on. -/
def edgeMessage (s : State) (at_ e n t : Nat) : State :=
  if !s.bell.late ∧ at_ ≤ e + 100000 then skewCheck (takeMessage s n t) e t
  else
    let s := skewCheck (if s.bell.late then s else messageLate s) e t
    if n ≠ runningNo s then sendFault { s with bell := { s.bell with adopt := some n, guessed := false } } 0x05 0x003 3 0
    else { s with bell := { s.bell with guessed := false } }

/-- The message's stroke on sync-VC strokes: its instant follows from the stroke time, in REPRO mode from the moment it is taken (R64, R73). -/
def syncStroke (s : State) (n t : Nat) : State :=
  if waitsRepro s then dropStroke s
  else { s with stk := { s.stk with awaiting := some (n, t, (if inRepro s then s.time else t) + targetNs s) } }

/-- A STROKE message at a worker (R72, R73). It belongs to the last edge when it comes within half a period of it, and else to the edge that
comes next (log 132). -/
def strokeMessage (s : State) (at_ n t : Nat) : State :=
  if source s = 4 then
    let s := syncStroke s n t
    match s.bell.edgeAt with
    | some e =>
      if at_ ≤ e + period s / 2 then returnCheck s e t
      else { s with bell := { s.bell with goodEdges := 0, edgeAt := none, message := some (n, t, at_) } }
    | none => { s with bell := { s.bell with goodEdges := if s.bell.message.isSome then 0 else s.bell.goodEdges, message := some (n, t, at_) } }
  else
    match s.bell.edgeAt with
    | some e =>
      if s.bell.guessed ∧ at_ ≤ e + period s / 2 then edgeMessage s at_ e n t
      else { s with bell := { s.bell with message := some (n, t, at_) } }
    | none => { s with bell := { s.bell with message := some (n, t, at_) } }

/-- STROKE (R395): passed on toward its target; at the target, the worker's stroke number and time. -/
def execStroke (at_ : Nat) (hdr : List Nat) (s : State) : Ans :=
  let s := syncDown (atTime s at_) hdr
  if hTarget hdr ≠ nodeId s then .next (forward s hdr [])
  else if isWorker s ∧ s.bell.admitted ∧ !s.ubf.orphan then .next (strokeMessage s at_ (hAddr hdr) (hBody hdr))
  else .next s

/-- STROKE_MESSAGE_LATE (R72): no message within 100 µs of the Bell edge. -/
def execStrokeMessageLate (at_ : Nat) (s : State) : Ans :=
  let s := atTime s at_
  match s.bell.edgeAt with
  | some e =>
    if isWorker s ∧ s.bell.guessed ∧ !s.bell.late ∧ e + 100000 ≤ at_ then
      .next (messageLate s)
    else .next s
  | none => .next s

/-- CAL_WINDOW_OPEN (R68, R70): the window that the manager announced at the stroke opens; 16 pulses of 50 ns, 10 µs apart, each with its CAL
message; the burst's place in the window is left open (log 17). -/
def execCalWindowOpen (at_ : Nat) (s : State) : Ans :=
  let s := atTime s at_
  if !isManager s ∨ s.bell.window ≠ some (at_, 170000) then .next s
  else
    let nodes := calNodes s
    let r := fresh { s with bell := { s.bell with window := none } }
    let t0 := at_ + Config.freeValue r.1 % 19000
    .next ((List.range 16).foldl (fun s k =>
      nodes.foldl (fun s n => sendSync s 0x13 n 0 (t0 + k * 10000)) (bellPulse s (t0 + k * 10000 + 60) 50 10)) r.2)

/-- With 16 crossings and 16 messages the mean difference is the worker's own delay; the rounding of the mean is open (R68). -/
def calibrate (s : State) : State :=
  if s.bell.calTimes.length < 16 ∨ s.bell.calEdges.length < 16 then s
  else
    let sum := (List.zipWith (fun (e t : Nat) => (e : Int) - t) (s.bell.calEdges.take 16) (s.bell.calTimes.take 16)).foldl (· + ·) 0
    let r := fresh s
    let s := { r.2 with bell := { r.2.bell with calTimes := [], calEdges := [] } }
    let d := (Int.fdiv (sum + (Config.freeValue r.1 % 16 : Nat)) 16).toNat
    let s := setF s BEL_OWN_DELAY (min d 4095)
    if 1900 < d then sendFault s 0x05 0x005 4 0 else s

/-- CAL_PULSE (R68, R70): a worker under calibration timestamps the crossing of a pulse of 20 ns and more; an admitted one repeats it. -/
def execCalPulse (at_ highNs : Nat) (s : State) : Ans :=
  let s := atTime s at_
  if !isWorker s ∨ highNs < 20 then .next s
  else if s.bell.admitted then .next (bellPulse s (at_ + 35) highNs 5)
  else .next (calibrate { s with bell := { s.bell with calEdges := s.bell.calEdges ++ [at_] } })

/-- CAL (R395): a window message or a pulse's stroke-equivalent time. -/
def execCal (at_ : Nat) (hdr : List Nat) (s : State) : Ans :=
  let s := syncDown (atTime s at_) hdr
  if hTarget hdr ≠ nodeId s then .next (forward s hdr [])
  else if !isWorker s then .next s
  else if hAddr hdr ≠ 0 then .next { s with bell := { s.bell with window := some (hAddr hdr, hBody hdr) } }
  else if s.bell.admitted then .next s
  else .next (calibrate { s with bell := { s.bell with calTimes := s.bell.calTimes ++ [hBody hdr] } })

/-- The target of the calibrated delays; a worker of more than 1,900 ns is not admitted and does not count (R68 step 4). -/
def targetOfDelays (delays : List Nat) : Nat :=
  max 200 ((delays.filter (fun d => decide (d ≤ 1900))).foldl (fun m d => max m ((d + 100 + 9) / 10 * 10)) 0)

/-- TARGET_FIX (R68 step 4, R69): fixed once from the calibrated delays, and sent to every worker: to an admitted one with the stroke's number,
to the others with the number that admits nobody (log 34). -/
def execTargetFix (delays : List Nat) (s : State) : Ans :=
  if !isManager s ∨ s.bell.targetFixed then .next s
  else
    let m := targetOfDelays delays
    let s := setF { s with bell := { s.bell with targetFixed := true } } BEL_TARGET_NS m
    let others := (workers s).filter (fun n => !isAdmitted s n)
    .next (others.foldl (fun s n => sendSync s 0x17 n m noAdmit) (sendSyncAll s 0x17 m s.stk.no))

end Sys2Proof.Machine
end

