-- ==== Sys2Proof/Machine/Bellows.lean ====
section
/-! DEFINITION. The Bellows: COPY, FILL, LIST_PUSH and its golden task (R31, R217, R316, R317, R413), remote windows (R392 to R394), and
the Hallmark units' DIGEST (R336). -/

namespace Sys2Proof.Machine

/- ### Remote requests (R384, R392 to R394) -/

/-- A node this device may reach: the manager and a worker's children by the admitted mask; everything else lies behind a worker's
upstream link, open once the worker itself is admitted. -/
def reachable (s : State) (n : Nat) : Bool :=
  let me := nodeId s
  if linkTo me n = some 0 ∧ me ≠ 0 then isAdmitted s me && !s.ubf.orphan && !s.ubf.lost.contains n else isAdmitted s n

/-- A remote access that fails at the origin (R392). -/
def remoteFail (s : State) (n : Nat) : State := sendFault s 0x16 0x008 0 ((linkTo (nodeId s) n).getD 0)

/-- Send a request of a task and keep it outstanding; false when its node cannot be reached. -/
def remoteSend (s : State) (typ vc addr arg : Nat) (flits : List (List Nat)) (r : Remote) : State × Bool :=
  if !reachable s r.node then (remoteFail s r.node, false)
  else
    let tag := s.ubf.nextTag
    let s := { s with ubf := { s.ubf with nextTag := (tag + 1) % 2 ^ 32, pending := s.ubf.pending ++ [{ r with tag := tag, src := addr }] } }
    (sendTo s r.node (mkHdr typ vc flits.length (nodeId s) r.node tag ((addr - remoteBase) % 2 ^ 40) arg 0) flits, true)

/- ### Moving lines (R316, R317) -/

/-- A transfer under way: the state, what it wrote, its status, the address of the line that failed. -/
structure Move where
  s : State
  ws : List (Nat × List Nat) := []
  st : Nat := 0
  bad : Nat := 0
deriving DecidableEq, Repr

/-- Who moves: brand, engine, task, virtual channel. -/
structure Mover where
  brand : Nat
  e : Nat
  task : Nat
  vc : Nat

/-- Pieces of 64 bytes, whole lines from a line start, read in order up to the first that fails. -/
def readGo (brand : Nat) : Nat → Nat → Nat → State → List (List Nat) × Bool × State
  | 0, _, _, s => ([], true, s)
  | k + 1, a, n, s =>
    let r := (rdBytes s brand a (if a % 64 = 0 then 64 else min n 64)).run []
    let s := notesFx s r.2
    match r.1 with
    | none => ([], false, s)
    | some b => let x := readGo brand k (a + 64) (n - 64) s; (b :: x.1, x.2.1, x.2.2)

/-- Lines written in order up to the first denied one; the last one holds what is left of n bytes. -/
def writeGo (w : Mover) : List (List Nat) → Nat → Nat → Move → Move
  | [], _, _, m => m
  | b :: t, a, n, m =>
    let bs := b.take n
    let r := storeBrand m.s w.brand a bs
    if r.2 then
      writeGo w t (a + 64) (n - 64) { m with s := bump r.1 (BLW_U_LINES (w.e - classBase 0)) 1, ws := m.ws ++ [(a, bs)] }
    else { m with s := r.1, st := 0x0C, bad := a }

/-- What a remote write that was sent, or could not be, leaves of the transfer. -/
def wroteTo (w : Mover) (ls : List (List Nat)) (a n : Nat) (m : Move) (r : State × Bool) : Move :=
  if r.2 then { m with s := bump r.1 (BLW_U_LINES (w.e - classBase 0)) ls.length, ws := m.ws ++ [(a, ls.flatten.take n)] }
  else { m with s := r.1, st := 0x0C, bad := a }

/-- Put lines at a: locally, or as one remote write of whole lines. -/
def putLines (w : Mover) (ls : List (List Nat)) (a n : Nat) (m : Move) : Move :=
  if ls = [] then m
  else if remoteBase ≤ a then
    wroteTo w ls a n m (remoteSend m.s 1 w.vc a 0 (lineFlits ls)
      { tag := 0, node := remoteNode a, kind := 0, unit := w.e, task := w.task, brand := w.brand, dst := a })
  else writeGo w ls a n m

/-- What a remote read that was sent, or could not be, leaves of the transfer. -/
def askedFor (src : Nat) (m : Move) (r : State × Bool) : Move :=
  if r.2 then { m with s := r.1 } else { m with s := r.1, st := 3, bad := src }

/-- Put what was read, and end at the first piece that could not be. -/
def putRead (w : Mover) (src dst n : Nat) (m : Move) (r : List (List Nat) × Bool × State) : Move :=
  let m := putLines w r.1 dst n { m with s := r.2.2 }
  if m.st = 0 ∧ !r.2.1 then { m with st := 3, bad := src + 64 * r.1.length } else m

/-- Up to 64 lines (4 KiB) from src to dst. -/
def moveChunk (w : Mover) (src dst n : Nat) (m : Move) : Move :=
  let k := (n + 63) / 64
  if remoteBase ≤ src then
    askedFor src m (remoteSend m.s 3 w.vc src (64 * k) []
      { tag := 0, node := remoteNode src, kind := 1, unit := w.e, task := w.task, brand := w.brand, dst := dst, len := n })
  else putRead w src dst n m (readGo w.brand k src n m.s)

def moveGo (w : Mover) : Nat → Nat → Nat → Nat → Move → Move
  | 0, _, _, _, m => m
  | k + 1, src, dst, n, m =>
    if n = 0 ∨ m.st ≠ 0 then m else moveGo w k (src + 4096) (dst + 4096) (n - 4096) (moveChunk w src dst (min n 4096) m)

def moveLines (w : Mover) (src dst n : Nat) (m : Move) : Move := moveGo w (n / 4096 + 1) src dst n m

def fillGo (w : Mover) (line : List Nat) : Nat → Nat → Nat → Move → Move
  | 0, _, _, m => m
  | k + 1, dst, n, m =>
    if n = 0 ∨ m.st ≠ 0 then m
    else let c := min n 4096; fillGo w line k (dst + 4096) (n - 4096) (putLines w (List.replicate (c / 64) line) dst c m)

def patternLine (c : List Nat) : List Nat := (List.replicate 8 c).flatten

/- ### Ending a transfer -/

/-- The fault of a failed transfer (R317, R318). -/
def bellowsFault (s : State) (e st bad : Nat) : State :=
  let s := set64 s BLW_ERR_ADDR_LO BLW_ERR_ADDR_HI bad
  if st = 3 then sendFault (bump s BLW_RD_ERR 1) 0x07 0x001 3 (e - classBase 0) else sendFault (bump s BLW_WR_ERR 1) 0x07 0x002 3 (e - classBase 0)

/-- Keep the outcome of what ran so far: status, and the hallmark of the lines written. -/
def endMove (t : Task) (m : Move) : State :=
  let s := if m.st = 3 ∨ m.st = 0x0C then bellowsFault m.s (classBase 0 + t.punit) m.st m.bad else m.s
  taskRan s t m.st (if cHlm t.cmd then writesHm m.ws else 0)

/-- A transfer refused under R217. -/
def refuseLocal (s : State) (t : Task) : State :=
  taskRan (sendFault (bump s BLW_LOCAL_REFUSED 1) 0x07 0x002 3 t.punit) t 0x0C 0

def localBase (s : State) : Nat := get64 s TNG_LOCAL_BASE_LO TNG_LOCAL_BASE_HI
def localSize (s : State) : Nat := getF s TNG_LOCAL_SIZE
/-- A source touches the LOCAL region and a destination lies in a remote window (R217). -/
def leaksLocal (s : State) (src n dst : Nat) : Bool := decide (remoteBase ≤ dst) && overlaps src n (localBase s) (localSize s)

def moverOf (s : State) (t : Task) (vc : Nat) : Mover := { brand := qBrand s t.queue, e := classBase 0 + t.punit, task := t.id, vc := vc }

/- ### COPY and FILL -/

def copyTask (s : State) (t : Task) : State :=
  let src := bf t.cmd 16 8
  let dst := bf t.cmd 24 8
  let n := bf t.cmd 32 4
  if leaksLocal s src n dst then refuseLocal s t else endMove t (moveLines (moverOf s t 1) src dst n { s := s })

/-- COPY (R316). -/
def execCopy (unit : Nat) (s : State) : Ans :=
  match engineTask s 0 unit [1] with
  | some t => .next (copyTask s t)
  | none => .next s

/-- FILL (R316). -/
def execFill (unit : Nat) (s : State) : Ans :=
  match engineTask s 0 unit [2] with
  | some t =>
    let n := bf t.cmd 32 4
    .next (endMove t (fillGo (moverOf s t 1) (patternLine ((t.cmd.drop 40).take 8)) (n / 4096 + 1) (bf t.cmd 24 8) n { s := s }))
  | none => .next s

/- ### LIST_PUSH -/

/-- A range lies in one target the Bellows may address (R544). -/
def inBellows (s : State) (a n : Nat) : Bool := inMemory s a n || inRemote s a n

/-- Write the header last, once nothing of the entries is outstanding; it waits for remote entries otherwise (R202, R316). -/
def pushHeader (w : Mover) (dst : Nat) (line : List Nat) (m : Move) : Move :=
  if m.st ≠ 0 then m
  else if m.s.ubf.pending.any (fun r => r.task == w.task && r.unit == w.e) then
    { m with s := { m.s with ubf := { m.s.ubf with heads := m.s.ubf.heads ++ [(w.task, dst, line)] } } }
  else putLines w [line] dst 64 m

/-- From the header on: the entry checks of R316, the LOCAL check, the entries, the header. None: BAD_ARG. -/
def pushEntries (w : Mover) (src dst aux : Nat) (hdr : List Nat) (m : Move) : Option (Option Move) :=
  let h := hdrOf hdr
  let n := 8 * h.count
  if !bit h.flags 0 then (if leaksLocal m.s src 64 dst then some none else some (some (pushHeader w dst hdr m)))
  else if 0 < n ∧ ((h.ent % 64 ≠ 0 ∧ remoteBase ≤ h.ent) || !inBellows m.s h.ent n || !inBellows m.s aux n || overlaps h.ent n aux n ||
      overlaps h.ent n src 64 || overlaps h.ent n dst 64 || overlaps aux n src 64 || overlaps aux n dst 64) then none
  else if leaksLocal m.s src 64 dst || leaksLocal m.s h.ent n dst || leaksLocal m.s src 64 aux || leaksLocal m.s h.ent n aux then some none
  else some (some (pushHeader w dst (hdr.take 48 ++ leBytes 8 aux ++ hdr.drop 56) (moveLines w h.ent aux n m)))

/-- Go on with a LIST_PUSH whose header has been read. -/
def pushWith (s : State) (t : Task) (hdr : List Nat) : State :=
  match pushEntries (moverOf s t 2) (bf t.cmd 16 8) (bf t.cmd 24 8) (bf t.cmd 40 8) hdr { s := s } with
  | none => taskRan s t 1 0
  | some none => refuseLocal s t
  | some (some m) => endMove t m

/-- The header was asked for at another node, or could not be. -/
def pushAsked (t : Task) (src : Nat) (r : State × Bool) : State :=
  if r.2 then taskRan r.1 t 0 0 else endMove t { s := r.1, st := 3, bad := src }

/-- The header was read here. -/
def pushRead (s : State) (t : Task) (src : Nat) (r : Option (List Nat) × List Note) : State :=
  match r.1 with
  | none => endMove t { s := notesFx s r.2, st := 3, bad := src }
  | some hdr => pushWith (notesFx s r.2) t hdr

def pushTask (s : State) (t : Task) : State :=
  let src := bf t.cmd 16 8
  let w := moverOf s t 2
  if remoteBase ≤ src then
    pushAsked t src
      (remoteSend s 3 2 src 64 [] { tag := 0, node := remoteNode src, kind := 5, unit := w.e, task := t.id, brand := w.brand, dst := 0, len := 64 })
  else pushRead s t src (readBrand s w.brand src)

/-- LIST_PUSH (R316). -/
def execListPush (unit : Nat) (s : State) : Ans :=
  match engineTask s 0 unit [3] with
  | some t => .next (pushTask s t)
  | none => .next s

/- ### The golden task (R413) -/

/-- FILL, COPY and LIST_PUSH over golden data, one after the other; the first that fails ends the task. -/
def bellowsGold (s : State) (t : Task) : State :=
  let w := moverOf s t 1
  let d := goldDst t
  let g := readBrand s w.brand (goldSet t)
  let s := notesFx s g.2
  match g.1 with
  | none => endMove t { s := s, st := 3, bad := goldSet t }
  | some b =>
    let p := (rdBytes s w.brand (fldAt b 16 8) 8).run []
    let s := notesFx s p.2
    match p.1 with
    | none => endMove t { s := s, st := 3, bad := fldAt b 16 8 }
    | some pat =>
      let m := moveLines w (fldAt b 8 8) (d + 0x40) 4096 (fillGo w (patternLine pat) 1 d 64 { s := s })
      let src := fldAt b 24 8
      let h := readBrand m.s w.brand src
      let m := { m with s := notesFx m.s h.2 }
      if m.st ≠ 0 then endMove t m
      else match h.1 with
        | none => endMove t { m with st := 3, bad := src }
        | some hdr => match pushEntries w src (d + 0x1040) (d + 0x1080) hdr m with
          | some (some m) => endMove t m
          | _ => endMove t { m with st := 1 }

/-- BELLOWS_GOLDEN (R412, R413). -/
def execBellowsGolden (unit : Nat) (s : State) : Ans :=
  match engineTask s 0 unit [0x10] with
  | some t => .next (bellowsGold s t)
  | none => .next s

/- ### DIGEST (R336) -/

/-- The hallmark of n lines from a, or none at the first that cannot be read. -/
def digestGo (brand org : Nat) : Nat → Nat → Nat → State → Option Nat × State
  | 0, _, h, s => (some h, s)
  | k + 1, a, h, s =>
    let r := readBrand s brand a
    let s := notesFx s r.2
    match r.1 with
    | none => (none, s)
    | some b => digestGo brand org k (a + 64) (Nat.xor h (lineHm ((a + 2 ^ 64 - org % 2 ^ 64) % 2 ^ 64) b)) s

def digestTask (s : State) (t : Task) : State :=
  let brand := qBrand s t.queue
  let r := digestGo brand (bf t.cmd 32 8) (bf t.cmd 24 8 / 64) (bf t.cmd 16 8) 0 s
  let s := bump r.2 HLM_DIGEST_CNT 1
  match r.1 with
  | none => taskRan (sendFault (bump s HLM_RD_ERR 1) 0x10 0x001 3 t.punit) t 3 0
  | some h => finishWork s t { writes := [(bf t.cmd 40 8, leBytes 8 h)] }

/-- DIGEST (R336). -/
def execDigest (unit : Nat) (s : State) : Ans :=
  match engineTask s 8 unit [1] with
  | some t => .next (digestTask s t)
  | none => .next s

end Sys2Proof.Machine
end

