-- ==== Sys2Proof/Machine/Ember.lean ====
section
/-! DEFINITION. The start sequence from the quick test to full service (R26, R359, R454 to R465, R477, R489, R503, R507). -/

namespace Sys2Proof.Machine

/- ### The map (R26, R477) -/

/-- The whole map of a class is withdrawn; its ACTIVE units return to SPARE. -/
def clearClass (s : State) (c : Nat) : State :=
  let s := (List.range (physCount c)).foldl (fun s l => setF (setF s (mapV c l) 0) (mapP c l) 0) s
  (unitsOf c).foldl (fun s e => if ustate s e = 0 then setF (setUState s e 1) (SPR_U_STATE_LUNIT e) 0 else s) s

/-- Logical indices of a class in the given order. -/
def assign (s : State) (c : Nat) (es : List Nat) : State :=
  setF (es.zipIdx.foldl (fun s p => mapTo s c p.2 p.1) s) (SPR_COUNT_LOGICAL c) es.length

/-- Hearth 0, then the hearths with a Swage engine outside the RETIRED units of the factory map and the wear record, up to the grade's
count (R26). -/
def enabledHearths (s : State) : List Nat :=
  let ok := (List.range 8).filter (fun h => h != 0 && (List.range 3).any (fun i => !s.start.retired.contains (32 + 3 * h + i)))
  (0 :: ok).take (gradeCount s.bil.grade 4 / 16)

/-- Units of a class that can serve: tested, and for Hammers in a hearth with a Swage engine (R28). -/
def usable (s : State) (c st : Nat) : List Nat :=
  (inState s c st).filter (fun e => c != 4 || (match hearthOf e with | some h => !(hearthSwage s h).isEmpty | none => false))

/-- The units of a class for the grade: by hearth for Hammers and Swage engines, then the rest in ascending order, SPARE before WORN. -/
def selectUnits (s : State) (c : Nat) : List Nat :=
  let want := gradeCount s.bil.grade c
  let sp := usable s c 1
  let per := if c = 4 then 16 else 2
  let first := if c = 3 ∨ c = 4 then
      (enabledHearths s).flatMap (fun h => (sp.filter (fun e => hearthOf e == some h)).take per)
    else sp.take want
  let more := (sp.filter (fun e => !first.contains e)) ++ usable s c 2
  let got := first ++ more.take (want - first.length)
  (sp.filter (fun e => got.contains e)) ++ ((usable s c 2).filter (fun e => got.contains e))

def mapClass (s : State) (c : Nat) : State :=
  let s := clearClass s c
  recount (assign s c (selectUnits s c)) c

/-- Every logical unit of the grade (R464): the Swage engines first, since a Hammer needs one. -/
def mapAll (s : State) : State := tendHearths ([3, 0, 1, 2, 4, 5, 6, 7, 8, 10].foldl mapClass s)

/- ### Ember (R460 to R463) -/

/-- Units of a class from `from_` on that passed the quick test and are not RETIRED. -/
def passedOf (s : State) (passed : List Nat) (from_ n : Nat) : List Nat :=
  ((List.range n).map (· + from_)).filter (fun e => passed.contains e && decide (ustate s e ≤ 2))

/-- The units Ember takes of each class, lowest physical index first. -/
def emberUnits (s : State) (passed : List Nat) : List (Nat × List Nat) :=
  [(0, (passedOf s passed 0 18).take 2), (1, (passedOf s passed 18 9).take 1), (3, (passedOf s passed 32 3).take 2),
   (4, (passedOf s passed 56 18).take 16), (5, (passedOf s passed 200 5).take 1), (7, (passedOf s passed 214 2).take 1),
   (8, (unitsOf 8).filter (fun e => decide (ustate s e ≤ 2))), (10, (passedOf s passed 224 10).take 1)]

/-- R460: 4 Hammers and 1 Swage engine of hearth 0, 1 Crucible, 1 Tongs, the Assay, 2 Bellows groups, 1 application core. -/
def emberReady (us : List (Nat × List Nat)) : Bool :=
  [(0, 2), (1, 1), (3, 1), (4, 4), (5, 1), (7, 1), (10, 1)].all (fun (p : Nat × Nat) =>
    us.any (fun u => u.1 == p.1 && decide (p.2 ≤ u.2.length)))

/-- A bank that failed its test goes to the lowest free spare without a copy (R354, R460). -/
def retireAtStart (s : State) (pb : Nat) : State :=
  if 1088 ≤ pb ∨ bankRetired s pb then s
  else
    let free := getF s ANV_STATUS_SPARES_FREE
    let s' := setF (setF s (ANV_BANK_CE_RETIRED pb) 1) (ANV_BANK_CE_IN_USE pb) 0
    match logicalBank s pb, freeSpares s' with
    | some l, n :: _ => setF (setF (setF s' (ANV_MAP l) n) (ANV_BANK_CE_IN_USE n) 1) ANV_STATUS_SPARES_FREE (free - 1)
    | some _, [] => s
    | none, _ => setF s' ANV_STATUS_SPARES_FREE (free - 1)

/-- The Carillon's banks: the EMBER timetable in the active one, the full one in the other (R461). -/
def loadTables (s : State) : State :=
  let e := sparse s.bil.ember
  let t := sparse s.bil.timetable
  setF { s with car := { s.car with bank0 := e, shadow0 := e, bank1 := t, shadow1 := t } } CAR_STATUS_BANK 0

/-- The golden data of every class, and the golden world of the Assay (R286). -/
def placeGolden (s : State) : State :=
  let s := s.bil.golden.foldl (fun s p => store s p.1 p.2) s
  if s.bil.world = [] then s else asyStore s goldWorldOff s.bil.world

/-- The two images of the world: staging and the other (R80; log 19). -/
def placeImages (s : State) (at_ : Nat × Nat) : State :=
  initImage (initImage { s with wld := { s.wld with staging := at_.1, spareImg := at_.2 } } at_.1) at_.2

/-- Ember is ready: its units are mapped and the Carillon begins to take strokes. -/
def startEmber (s : State) (us : List (Nat × List Nat)) (ms : Nat) : State :=
  let s := us.foldl (fun s u => recount (assign (clearClass s u.1) u.1 u.2) u.1) s
  let s := setF (setF s (SPR_COUNT_LOGICAL 2) 0) (SPR_COUNT_LOGICAL 6) 0
  let s := setF (placeImages s s.bil.emberImg) RST_START_MS_EMBER_MS ms
  computeStarts { setF s RST_START_PHASE 7 with stk := { s.stk with takeFrom := some s.time } }

/-- EMBER_QUICK_TEST: `passed` names units by E, `badBanks` physical banks. A worker runs no Ember service (R465). -/
def execEmberQuickTest (passed badBanks : List Nat) (ms : Nat) (s : State) : Ans :=
  if phase s ≠ 5 then .next s
  else
    let s := placeGolden (loadTables (badBanks.foldl retireAtStart (setF s RST_START_PHASE 6)))
    let s := { s with start := { s.start with ember := passed } }
    let us := emberUnits s passed
    if isWorker s then .next s
    else if emberReady us then .next (startEmber s us ms)
    else .next (sendFault (setF s RST_START_EMBER_SKIPPED 1) 0x01 0x005 0 0)

/- ### DDR (R359, R366, R367, R455) -/

def inStart (s : State) : Bool := decide (5 ≤ phase s) && decide (phase s < 12)

/-- The device comes to full service without Ember service: Ember was skipped, or it is a worker (R460, R465). -/
def withoutEmber (s : State) : Bool := isWorker s || flag s RST_START_EMBER_SKIPPED

/-- All that full service waits for holds (R464). -/
def serviceReady (s : State) : Bool := inStart s && s.start.swept && s.start.tested && s.start.osLoaded && flag s RST_START_APP_READY

/-- A manager that skipped Ember begins to take strokes once full service waits for its instant alone (R43; log 148). -/
def takeForService (s : State) : State :=
  if serviceReady s ∧ isManager s ∧ withoutEmber s ∧ s.stk.takeFrom.isNone then computeStarts { s with stk := { s.stk with takeFrom := some s.time } } else s

/-- The active set, its logical channels and the window (R359, R360). -/
def setActive (s : State) (trained act : List Nat) : State :=
  let s := trained.foldl (fun s c => setF (setF s (DDR_CH_STATUS_TRAINED c) 1) (DDR_CH_STATUS_SELF_REFRESH c) 0) s
  let s := act.zipIdx.foldl (fun s p => setF (setF s (DDR_CH_STATUS_ACTIVE p.1) 1) (DDR_CH_STATUS_LCH p.1) p.2) s
  let s := setF (setF s DDR_MAP_ACTIVE (nodeMask act)) DDR_MAP_C act.length
  let s := setF s DDR_MAP_SPARE (nodeMask (trained.filter (fun c => !act.contains c)))
  set64 s DDR_SIZE_LO DDR_SIZE_HI (act.length * 2 ^ 33 * (1 + getF s DDR_CFG_RANK2))

/-- A cold start, a content-lost channel or a changed set makes the contents invalid (R367). -/
def contentsKept (s : State) : Bool :=
  isWarmStart s && !s.ddr.invalid && s.ddr.contentLost.isEmpty && getF s DDR_MAP_ACTIVE == s.ddr.mapBefore

/-- DDR_TRAINED: `mask` of the channels that completed training; a lost channel is left out (R369). -/
def execDdrTrained (mask : Nat) (s : State) : Ans :=
  if !inStart s ∨ s.start.trained then .next s
  else
    let trained := (List.range 6).filter (fun c => bit mask c && bit (getF s DDR_CFG_POP) c && !flag s (DDR_CH_STATUS_LOST c))
    let act := if s.bil.grade = 24 then trained.take 4 else trained
    if act.length < 4 ∨ !ddrConfigOk s.bil then .next (startFails s 0x0A)
    else
      let s := (List.range 6).foldl (fun s c => setF (setF s (DDR_CH_STATUS_ACTIVE c) 0) (DDR_CH_STATUS_TRAINED c) 0) s
      let s := raisePhase (setActive s trained act) 8
      let kept := contentsKept s
      let s := { s with start := { s.start with trained := true, swept := kept }, ddr := { s.ddr with invalid := !kept } }
      .next (takeForService (if kept then zeroRings true s else s))

/-- DDR_SWEEP_DONE (R455): every line of the window is zero with its code and its TAG. -/
def execDdrSweepDone (s : State) : Ans :=
  if !inStart s ∨ !s.start.trained ∨ s.start.swept then .next s
  else
    let keep := fun (a : Nat) => decide (a < ddrBase)
    let mem : Mem := { s.mem with cells := s.mem.cells.filter (fun c => keep c.1), errs := s.mem.errs.filter (fun c => keep c.1),
                                  writeback := s.mem.writeback.filter keep, tags := [] }
    .next (takeForService { s with mem := mem, start := { s.start with swept := true },
                                   ddr := { s.ddr with sweepVer := s.ddr.ver, invalid := false, contentLost := [] } })

/- ### The full self-test (R477, R458, R489) -/

/-- The state a unit outside Ember service takes. -/
def testUnit (failed : List Nat) (s : State) (e : Nat) : State :=
  if ustate s e = 0 ∨ ustate s e = 5 then s
  else if getF s SPR_POLICY_FENCE_LIFE ≤ getF s (SPR_U_STATE_FENCES e) ∧ 0 < getF s SPR_POLICY_FENCE_LIFE then setUState s e 5
  else if failed.contains e then bump (setUState s e 4) (SPR_U_STATE_FENCES e) 1
  else setUState s e (if crossedNow s [] e then 2 else 1)

/-- Units of a class that can be in service: ACTIVE in Ember, SPARE or WORN. -/
def fitUnits (s : State) (c : Nat) : List Nat := usable s c 0 ++ usable s c 1 ++ usable s c 2
def gradeClasses : List Nat := [0, 1, 2, 3, 4, 5, 6, 7, 8, 10]

/-- A class without a spare at the end of the self-test is exhausted from this start (R489, R491). -/
def startExhausted (s : State) (c : Nat) : State :=
  if c ≠ 8 ∧ (fitUnits s c).length ≤ gradeCount s.bil.grade c ∧ !bit (getF s SPR_OUT) c then
    sendFault (setF s SPR_OUT (setBits (getF s SPR_OUT) c 1 1)) 0x11 0x003 4 (classBase c)
  else s

/-- SELF_TEST_DONE: `failed` units by E, `ages` the aging measurement per hearth. Without Ember service the map follows at once. -/
def execSelfTestDone (failed ages : List Nat) (s : State) : Ans :=
  if !inStart s ∨ s.start.tested then .next s
  else
    let s := (List.range 234).foldl (testUnit failed) (measureAges s ages)
    let s := gradeClasses.foldl recount { s with start := { s.start with tested := true } }
    if gradeClasses.any (fun c => decide ((fitUnits s c).length < gradeCount s.bil.grade c)) then .next (startFails s 9)
    else
      let s := raisePhase (gradeClasses.foldl startExhausted s) 9
      .next (if withoutEmber s then takeForService (mapAll s) else s)

/- ### The OS and full service (R457, R464, R503, R507) -/

/-- OS_LOAD_DONE: the image lies in swept lines; a wrong digest fails the start with BILLET. -/
def execOsLoadDone (digest : List Nat) (s : State) : Ans :=
  if !inStart s ∨ !s.start.swept ∨ s.start.osLoaded then .next s
  else if digest = s.bil.osDigest then .next (takeForService (raisePhase { s with start := { s.start with osLoaded := true } } 10))
  else .next (startFails s 6)

/-- The bit is written; the watchdog is armed from that write when WDOG_EN is 1. -/
def appIsReady (s : State) : State :=
  let s := setF s RST_START_APP_READY 1
  let s := if flag s RST_POLICY_WDOG_EN then { s with start := { s.start with wdogArmed := true, wdogAt := s.time } } else s
  takeForService (if inStart s ∧ s.start.osLoaded then raisePhase s 11 else s)

/-- APP_READY (R457): a write of `RST.START.APP_READY`. -/
def execAppReady (brand : Nat) (s : State) : Ans := .next (guarded s brand 1 RST_START.addr (fun s => answer (appIsReady s) .ok))

/-- Is at_ the instant of a stroke that has begun? A worker takes strokes once it has joined its node (R390; log 148). -/
def isInstant (s : State) (at_ : Nat) : Bool := isWorker s || (s.stk.any && s.stk.inst == at_)

/-- RPMB_ADVANCE (R507). -/
def advance (s : State) (writeOk : Bool) : State :=
  if s.bil.advance ∧ !s.bil.noRpmb ∧ s.start.minVer < s.bil.version then
    (if writeOk then { s with start := { s.start with minVer := s.bil.version } } else sendFault s 0x14 0x002 4 0)
  else s

/-- Both Peal buffers EMPTY. -/
def emptyPeal (s : State) : State := { setF (setF s (PEL_LAT_STATE 0) 0) (PEL_LAT_STATE 1) 0 with peal := {} }

/-- The engine clock in full service: the highest step allowed, unless the temperature is critical (R464, R534, R535). -/
def fullClock (s : State) : State :=
  if flag s THM_STATUS_CRIT then setF s THM_STATUS_THROTTLED (b2n (decide (getF s THM_CFG_MAX_STEP < getF s CLK_ENG)))
  else setF s CLK_ENG (getF s THM_CFG_MAX_STEP)

/-- The hearth-0 units that served Ember, which then take their self-test one at a time. -/
def servedEmber (s : State) : List Nat :=
  if withoutEmber s then [] else ((unitsOf 3 ++ unitsOf 4).filter (fun e => hearthOf e == some 0 && ustate s e == 0))

/-- What happens together at the first stroke instant of full service. -/
def enterService (s : State) (at_ ms : Nat) : State :=
  let served := servedEmber s
  let skipped := withoutEmber s
  let s := mapAll (setF (setF s TOP_MODE_MODE 0) CAR_STATUS_BANK 1)
  let s := fullClock (emptyPeal { s with spr := { s.spr with entryTest := served }, wld := { s.wld with staticFull := true } })
  let s := if skipped then placeImages { s with stk := { s.stk with takeFrom := some (s.stk.takeFrom.getD at_) } } s.bil.imgBase else s
  setF (setF s RST_START_PHASE 12) RST_START_MS_FULL_MS ms

/-- FULL_SERVICE (R464): DDR swept, self-test passed, OS loaded, APP_READY set, at the instant of a stroke that has begun under the old
bank. The entry writes a wear record (R480) and advances the
version floor (R507). -/
def execFullService (at_ ms : Nat) (rpmbWriteOk : Bool) (s : State) : Ans :=
  let s := atTime s at_
  if !serviceReady s ∨ !isInstant s at_ then .next s
  else
    let s := enterService s at_ ms
    let s := sendFault (writeRec s (thisRec s 2 0)) 0x01 0x007 0 0
    .next (writeWear (computeStarts (advance s rpmbWriteOk)))

end Sys2Proof.Machine
end

