-- ==== Sys2Proof/Machine/Ubfi.lean ====
section
/-! DEFINITION. The Ubfi links and what arrives on them: training, retry, remote accesses, time transfer and admission (R374 to R404). -/

namespace Sys2Proof.Machine

/- ### Link state (R386 to R390) -/

/-- LINK_ID, sent by each end after link-up (R389, R395). -/
def sendLinkId (s : State) (i : Nat) : State :=
  sendMsg s i (mkHdr 0x16 3 0 (nodeId s) ((peerOf (nodeId s) i).getD 0) 0 (nodeId s + 16 * role s) 0 s.bil.grade) []

/-- One direction's failed lane is spared once; a second one leaves no working set of 8 lanes (R387). -/
def spareLane (s : State) (i bad : Nat) (f : Fld) : State :=
  if 9 ≤ bad ∨ getF s f = bad then s
  else if getF s f = 0xF then sendFault (setF s f bad) 0x16 0x003 0 i
  else setLnk s i { (lnk s i) with broken := true }

/-- May the link train here: present in this grade and position, not down for good, and a level-1 device admitted first (R377, R388, R389)? -/
def mayTrain (s : State) (i : Nat) : Bool :=
  decide (i < 4) && linkState s i != 3 && linkState s i != 2 && !(lnk s i).downed && !(lnk s i).broken && (peerOf (nodeId s) i).isSome &&
    (isUpstream s i || nodeId s == 0 || isAdmitted s (nodeId s))

/-- Link-up: the first flit is a control flit, the replay buffer follows the peer's ACK, LINK_ID goes out (R386, R389). -/
def linkComesUp (s : State) (i : Nat) : State :=
  let l := lnk s i
  let s := if l.wasUp then sendFault (bump s (UBF_L_RETRAIN i) 1) 0x16 0x004 0 i else s
  let s := setLnk s i { l with attempts := 0, replays := 0, replayDue := l.wasUp, wasUp := true, syncAt := s.time }
  let s := setF (setF s (UBF_L_STATUS_STATE i) 2) (UBF_L_CTRL i) 0
  sendLinkId (sendCtl s i 0) i

/-- LINK_TRAIN (R390, R387): lanes lock, up to one bad lane per direction is spared; 9 and above mean none. -/
def execLinkTrain (link badLaneTx badLaneRx : Nat) (s : State) : Ans :=
  if !mayTrain s link then .next s
  else
    let s := spareLane (spareLane s link badLaneTx (UBF_L_STATUS_TX_BAD link)) link badLaneRx (UBF_L_STATUS_RX_BAD link)
    .next (if (lnk s link).broken then setF s (UBF_L_STATUS_STATE link) 1 else linkComesUp s link)

/-- A retrain attempt begins: a lane found bad is remapped at it (R386, R387). -/
def startRetrain (s : State) (i : Nat) : State :=
  let s := retrainCause s i
  match (lnk s i).badLane with
  | some b => spareLane (setLnk s i { (lnk s i) with badLane := none }) i b (UBF_L_STATUS_RX_BAD i)
  | none => s

/-- RETRAIN (R386): a cause on an up link starts an attempt; one that arrives during an attempt joins it. -/
def execRetrain (link : Nat) (s : State) : Ans :=
  if 4 ≤ link ∨ linkState s link = 0 ∨ linkState s link = 3 then .next s else .next (startRetrain s link)

/- ### Outstanding requests (R392, R394) -/

def dropPending (s : State) (r : Remote) : State := { s with ubf := { s.ubf with pending := s.ubf.pending.filter (fun q => q.tag != r.tag) } }

def remoteBusy (s : State) (task : Nat) : Bool := s.ubf.pending.any (fun r => r.task == task && decide (r.kind < 6))

/-- The list header of a LIST_PUSH goes out once every entry line has been acknowledged (R316, R394). -/
def sendHeads (s : State) (task : Nat) : State :=
  if remoteBusy s task then s
  else
    let hs := s.ubf.heads.filter (fun h => h.1 == task)
    let s := { s with ubf := { s.ubf with heads := s.ubf.heads.filter (fun h => h.1 != task) } }
    match taskById s task with
    | none => s
    | some t =>
      if t.status ≠ 0 then s
      else
        let m := hs.foldl (fun (m : Move) h => putLines (moverOf s t 2) [h.2.2] h.2.1 64 m) { s := s }
        let s := if m.st = 0 then m.s else bellowsFault m.s (classBase 0 + t.punit) m.st m.bad
        setTask s { t with status := m.st, hm := if cHlm t.cmd then Nat.xor t.hm (writesHm m.ws) else t.hm }

/-- A task's access failed: the first failure gives the status (R317, R394). -/
def taskFails (s : State) (r : Remote) (st bad : Nat) : State :=
  match taskById s r.task with
  | none => s
  | some t => if t.status ≠ 0 then s else bellowsFault (setTask s { t with status := st }) r.unit st bad

/-- An access that completes with an error: UBF 0x008, and the error at the initiator (R392, R394, R398). -/
def remoteError (s : State) (r : Remote) : State :=
  let s := remoteFail (dropPending s r) r.node
  if 6 ≤ r.kind then answer s .error
  else sendHeads (taskFails s r (if r.kind = 0 then 0x0C else 3) r.src) r.task

/-- A read of a task returns: its bytes go to the destination, or a LIST_PUSH goes on from its header. -/
def readReturns (s : State) (r : Remote) (t : Task) (lines : List (List Nat)) : State :=
  if r.kind = 5 then pushWith s t (lines.headD [])
  else
    let m := putLines (moverOf s t 1) lines r.dst r.len { s := s }
    let s := if m.st = 0 then m.s else taskFails m.s r m.st m.bad
    match taskById s t.id with
    | some t => setTask s { t with hm := if cHlm t.cmd then Nat.xor t.hm (writesHm m.ws) else t.hm }
    | none => s

/-- A good answer to an outstanding request. -/
def remoteOk (s : State) (r : Remote) (lines : List (List Nat)) : State :=
  let s := dropPending s r
  if r.kind = 6 then answer s .ok
  else if r.kind = 7 then answer s (.data ((lines.flatten.drop r.dst).take r.len))
  else if r.kind = 0 then sendHeads s r.task
  else match taskById s r.task with
    | some t => if t.status = 0 then sendHeads (readReturns s r t lines) r.task else sendHeads s r.task
    | none => s

def pendingTag (s : State) (tag : Nat) : Option Remote := s.ubf.pending.find? (fun r => r.tag == tag)

/- ### Losing a link (R388, R397 to R400) -/

/-- Every outstanding access to nodes that are gone completes with an error (R398). -/
def failPending (s : State) (gone : List Nat) : State :=
  (s.ubf.pending.filter (fun r => gone.contains r.node)).foldl remoteError s

/-- ORPHANED (R400). -/
def orphaned (s : State) (i : Nat) : State :=
  let s := setF { s with ubf := { s.ubf with orphan := true }, pins := { s.pins with safeState := true } } CAR_STATUS_SOURCE 6
  let s := showPins s
  let s := sendFault s 0x16 0x007 4 i
  failPending s ((List.range 16).filter (fun n => linkTo (nodeId s) n == some i))

/-- Nodes are lost: their bits show, their accesses end, and a REPRO run ends (R331, R398). -/
def noteLost (s : State) (gone : List Nat) : State :=
  let s := setF s UBF_NODE_LOST_LOST (Nat.lor (getF s UBF_NODE_LOST_LOST) (nodeMask gone))
  let s := failPending { s with ubf := { s.ubf with lost := gone.foldl insertNew s.ubf.lost } } gone
  match gone.find? (fun n => bit (getF s UBF_NODE_ADMIT) n) with
  | some n => leaveRepro s 5 0 n
  | none => s

/-- LINK_DOWN (R398): the nodes behind it are lost, the slots its child fills are lost (R397); a worker tells the manager (log 100). -/
def nodesLost (s : State) (i : Nat) : State :=
  let gone := nodesBehind (nodeId s) i
  let s := { s with ubf := { s.ubf with lostSlots := Nat.lor s.ubf.lostSlots (getF s (UBF_LINK_SLOTS i)) } }
  let s := noteLost (sendFault s 0x16 0x005 4 i) gone
  if isManager s then s else sendSync s 0x14 0 4 (nodeMask gone)

def linkDown (s : State) (i : Nat) : State :=
  let s := setF (setF s (UBF_L_STATUS_STATE i) 0) (UBF_L_CTRL i) 0
  let s := setLnk s i { (lnk s i) with downed := true, attempts := 0 }
  if isUpstream s i then orphaned s i else nodesLost s i

/-- RETRAIN_FAIL (R388): the third consecutive failure of a retrain takes the link down. -/
def execRetrainFail (at_ link : Nat) (s : State) : Ans :=
  let s := atTime s at_
  if 4 ≤ link ∨ linkState s link ≠ 1 then .next s
  else
    let n := (lnk s link).attempts + 1
    .next (if 3 ≤ n ∧ (lnk s link).wasUp then linkDown s link else setLnk s link { (lnk s link) with attempts := n })

/-- SYNC_TIMEOUT (R388): no sync message on an up link for 200 µs. -/
def execSyncTimeout (at_ link : Nat) (s : State) : Ans :=
  let s := atTime s at_
  if 4 ≤ link ∨ linkState s link ≠ 2 ∨ at_ < (lnk s link).syncAt + 200000 then .next s
  else .next (linkDown (sendFault s 0x16 0x009 3 link) link)

/-- A write of `UBF.L_CTRL.RETRAIN`: a retrain, also of a downed link (R386, R388). -/
def requestRetrain (s : State) (link : Nat) : State :=
  if 4 ≤ link ∨ linkState s link = 3 then s
  else
    let s := setF s (UBF_L_CTRL link) 1
    if linkState s link = 0 then
      setF (setLnk s link { (lnk s link) with downed := false, attempts := 0 }) (UBF_L_STATUS_STATE link) 1
    else startRetrain s link

/- ### Lanes and flits (R378 to R385) -/

/-- Errors of lane l within the last second. -/
def laneCount (s : State) (i l : Nat) : Nat := ((lnk s i).laneErr.filter (fun e => e.1 == l && decide (s.time < e.2 + 1000000000))).length

/-- SKP_RECEIVE (R378, R387): the parity errors of physical lanes 0 to 8 since the previous SKP. -/
def execSkpReceive (link : Nat) (laneErrs : List Nat) (s : State) : Ans :=
  if 4 ≤ link ∨ linkState s link ≠ 2 then .next s
  else
    let es := (List.range 9).flatMap (fun l => List.replicate (laneErrs.getD l 0) (l, s.time))
    let s := bump s (UBF_L_LANE_ERR link) es.length
    let kept := (lnk s link).laneErr.filter (fun e => decide (s.time < e.2 + 1000000000))
    let s := setLnk s link { (lnk s link) with laneErr := kept ++ es }
    let thr := getF s UBF_CFG
    match (List.range 9).find? (fun l => l != getF s (UBF_L_STATUS_RX_BAD link) && decide (0 < thr ∧ thr ≤ laneCount s link l)) with
    | none => .next s
    | some l =>
      let keep := (lnk s link).laneErr.filter (fun e => e.1 != l)
      .next (startRetrain (setLnk s link { (lnk s link) with badLane := some l, laneErr := keep }) link)

/-- FLIT_RECEIVE (R380, R385). -/
def execFlitReceive (link : Nat) (frame : List Nat) (s : State) : Ans :=
  if 4 ≤ link ∨ !linkUp s link then .next s else .next (receiveFrame s link frame)

/-- CONTROL_FLIT (R381, R384, R385). -/
def execControlFlit (link : Nat) (payload : List Nat) (s : State) : Ans :=
  if 4 ≤ link ∨ !linkUp s link then .next s else .next (controlFx s link payload)

/-- REPLAY_TIMEOUT (R385). -/
def execReplayTimeout (link : Nat) (s : State) : Ans :=
  if 4 ≤ link ∨ !linkUp s link ∨ (lnk s link).replay = [] then .next s
  else .next (replay (sendFault (bump s (UBF_L_REPLAY_TO link) 1) 0x16 0x002 0 link) link)

/- ### Remote accesses at the target (R382, R393) -/

/-- A refused peer's link carries only sync messages (R389). -/
def carries (s : State) (link : Nat) (hdr : List Nat) : Bool := decide (link < 4) && !((lnk s link).refused && hVc hdr != 3)

/-- Lines of a remote write, each checked by the firewall; a poisoned one is written as poison (R346, R382, R393). -/
def wrGo (brand poisonBits : Nat) : List (List Nat) → Nat → Nat → State → State × Bool
  | [], _, _, s => (s, true)
  | b :: t, k, a, s =>
    let r := storeBrand s brand a b
    let s := if r.2 ∧ bit poisonBits k then putPoison r.1 a b else r.1
    let x := wrGo brand poisonBits t (k + 1) (a + 64) s
    (x.1, r.2 && x.2)

/-- The answer to a request, on the request's channel (R383). -/
def respond (s : State) (typ : Nat) (hdr : List Nat) (status : Nat) (flits : List (List Nat)) : State :=
  sendTo s (hOrigin hdr) (mkHdr typ (hVc hdr) flits.length (nodeId s) (hOrigin hdr) (hTag hdr) (hAddr hdr) status 0) flits

/-- WR (R382, R393). -/
def execWr (link : Nat) (hdr : List Nat) (lines : List (List Nat)) (s : State) : Ans :=
  if !carries s link hdr then .next s
  else
    let s := takeMsg s link hdr (lineFlits lines)
    if hTarget hdr ≠ nodeId s then .next (forward s hdr (lineFlits lines))
    else if hAddr hdr % 64 ≠ 0 then .next (respond s 2 hdr 1 [])
    else
      let r := wrGo (0x50 + hOrigin hdr) (hArg hdr) lines 0 (hAddr hdr) s
      .next (respond r.1 2 hdr (if r.2 then 0 else 1) [])

/-- RD (R382, R393): lines read with brand 0x50 + origin; a failed read answers with error status and no lines. -/
def execRd (link : Nat) (hdr : List Nat) (s : State) : Ans :=
  if !carries s link hdr then .next s
  else
    let s := takeMsg s link hdr []
    if hTarget hdr ≠ nodeId s then .next (forward s hdr [])
    else if hAddr hdr % 64 ≠ 0 ∨ hArg hdr % 64 ≠ 0 ∨ hArg hdr = 0 ∨ 4096 < hArg hdr then .next (respond s 4 hdr 1 [])
    else
      let r := readGo (0x50 + hOrigin hdr) (hArg hdr / 64) (hAddr hdr) (hArg hdr) s
      .next (if r.2.1 then respond r.2.2 4 hdr 0 (lineFlits r.1) else respond r.2.2 4 hdr 1 [])

/-- WACK (R394). -/
def execWack (link : Nat) (hdr : List Nat) (s : State) : Ans :=
  if !carries s link hdr then .next s
  else
    let s := takeMsg s link hdr []
    if hTarget hdr ≠ nodeId s then .next (forward s hdr [])
    else match pendingTag s (hTag hdr) with
      | none => .next s
      | some r => .next (if hArg hdr = 0 then remoteOk s r [] else remoteError s r)

/-- RDR (R394). -/
def execRdr (link : Nat) (hdr : List Nat) (lines : List (List Nat)) (s : State) : Ans :=
  if !carries s link hdr then .next s
  else
    let s := takeMsg s link hdr (lineFlits lines)
    if hTarget hdr ≠ nodeId s then .next (forward s hdr (lineFlits lines))
    else match pendingTag s (hTag hdr) with
      | none => .next s
      | some r => .next (if hArg hdr = 0 then remoteOk s r lines else remoteError s r)

/-- REMOTE_TIMEOUT (R394): no response after 100 µs. -/
def execRemoteTimeout (tag : Nat) (s : State) : Ans :=
  match pendingTag s tag with
  | none => .next s
  | some r => .next (remoteError s r)

/- ### Time transfer (R68, R390, R395) -/

/-- A worker asks for the manager's time. -/
def askTime (s : State) : State := sendSync { s with ubf := { s.ubf with sentAt := s.time } } 0x11 0 s.time 0

/-- TIME_REQ: the manager answers with t2 and t3; a forwarding device adds its residence time, none within one command (log 1). -/
def execTimeReq (at_ link : Nat) (hdr : List Nat) (s : State) : Ans :=
  let s := noteSync (takeMsg (atTime s at_) link hdr []) link
  if hTarget hdr ≠ nodeId s then .next (forward s hdr [])
  else if isManager s then .next (sendSync s 0x12 (hOrigin hdr) at_ (at_ + hBody hdr))
  else .next s

/-- The 64th round trip sets the vehicle time to the manager's, within ±5 ns that the spec leaves open (log 2). -/
def setVehicleTime (s : State) (at_ t2 t3 : Nat) : State :=
  let off : Int := Int.fdiv ((t2 : Int) - s.ubf.sentAt + ((t3 : Int) - at_)) 2
  let r := fresh s
  let t : Int := (at_ : Int) + off + (Config.freeValue r.1 % 11 : Nat) - 5
  { r.2 with time := (t % (2 ^ 64 : Int)).toNat, ubf := { r.2.ubf with xfers := [] } }

/-- TIME_RSP: one round trip; `UBF.L_DELAY` keeps the mean one-way delay of the transfer. -/
def execTimeRsp (at_ link : Nat) (hdr : List Nat) (s : State) : Ans :=
  let s := noteSync (takeMsg (atTime s at_) link hdr []) link
  if hTarget hdr ≠ nodeId s then .next (forward s hdr [])
  else if !isWorker s ∨ s.bell.admitted then .next s
  else
    let d := (at_ - s.ubf.sentAt - (hBody hdr - hAddr hdr)) / 2
    let xs := s.ubf.xfers ++ [d]
    let s := { s with ubf := { s.ubf with xfers := xs } }
    if xs.length < 64 then .next (askTime s)
    else .next (setVehicleTime (setF s (UBF_L_DELAY link) (min (xs.foldl (· + ·) 0 / 64) 0xFFFF)) at_ (hAddr hdr) (hBody hdr))

/- ### Sync messages (R388, R389, R395) -/

/-- HEARTBEAT: it keeps the link up. -/
def execHeartbeat (link : Nat) (s : State) : Ans :=
  if 4 ≤ link then .next s
  else match (lnk s link).rxBuf with
    | h :: _ => .next (noteSync (if hTyp h = 0x15 then takeMsg s link h [] else s) link)
    | [] => .next (noteSync s link)

/-- HEARTBEAT_TICK: every 20 µs on every up link. -/
def execHeartbeatTick (at_ : Nat) (s : State) : Ans :=
  let s := atTime s at_
  .next ((List.range 4).foldl (fun s i =>
    if linkUp s i then sendMsg s i (mkHdr 0x15 3 0 (nodeId s) ((peerOf (nodeId s) i).getD 0) 0 0 0 0) [] else s) s)

/-- The peer of a downstream link is the node the tree gives, a worker, and expected (R389); a worker's billet has no EXP. -/
def peerFits (s : State) (link : Nat) (hdr : List Nat) : Bool :=
  let n := hAddr hdr % 16
  peerOf (nodeId s) link == some n && hAddr hdr / 16 % 4 == 2 && (!isManager s || bit (getF s UBF_NODE_CFG_EXP) n)

/-- LINK_ID (R389, R390): a child is accepted or refused; a worker begins its time transfer. -/
def execLinkId (link : Nat) (hdr : List Nat) (s : State) : Ans :=
  if 4 ≤ link then .next s
  else
    let s := noteSync (takeMsg s link hdr []) link
    let s := setF (setF s (UBF_L_STATUS_PEER link) (hAddr hdr)) (UBF_L_STATUS_PEER_VALID link) 1
    if isUpstream s link then
      .next (if isWorker s ∧ !s.bell.admitted then askTime { s with ubf := { s.ubf with xfers := [] } } else s)
    else if peerFits s link hdr then .next (setLnk s link { (lnk s link) with refused := false })
    else
      let s := setLnk s link { (lnk s link) with refused := true }
      let s := setF s UBF_NODE_LOST_REFUSED (setBits (getF s UBF_NODE_LOST_REFUSED) (hAddr hdr % 16) 1 1)
      .next (sendFault s 0x16 0x006 0 link)

/- ### Admission (R390, R391, R69) -/

/-- A node is admitted here; the slots its link lost come back with a child (R397). -/
def admitNode (s : State) (n : Nat) : State :=
  let s := setF s UBF_NODE_ADMIT (setBits (getF s UBF_NODE_ADMIT) n 1 1)
  let slots := match (List.range 4).find? (fun l => peerOf (nodeId s) l == some n && !isUpstream s l) with
    | some l => getF s (UBF_LINK_SLOTS l)
    | none => 0
  let u : Ubf := { s.ubf with lost := s.ubf.lost.filter (· != n), lostSlots := Nat.xor s.ubf.lostSlots (Nat.land s.ubf.lostSlots slots) }
  leaveRepro { s with ubf := u } 5 0 n

/-- Does the target allow this delay (R68, R69)? -/
def delayFits (target delay : Nat) : Bool := decide (delay ≤ 1900 ∧ delay + 100 ≤ target)

/-- The worker takes its place, or only the target (R68 steps 4 and 5, R69, R375). -/
def joinNode (s : State) (target stroke : Nat) : State :=
  if stroke = noAdmit then setF (setF s BEL_TARGET_NS target) BEL_COMP (target - ownDelay s)
  else if !delayFits target (ownDelay s) then sendFault s 0x05 0x005 4 0
  else
    let s := setF (setF (setF s BEL_TARGET_NS target) BEL_COMP (target - ownDelay s)) BEL_STATUS_CALIBRATED 1
    if s.bell.admitted then s
    else
      let s := setF (admitNode s (nodeId s)) CAR_STATUS_SOURCE 6
      let s := { s with bell := { s.bell with admitted := true, adopt := some stroke, admittedAt := s.time } }
      showPins { s with pins := { s.pins with safeState := flag s FLT_STATUS_SAFE, faultN := !flag s FLT_STATUS_SAFE } }

/-- ADMIT (R395): passed on, noting an admitted child, or taken by the worker itself. -/
def execAdmitMessage (at_ : Nat) (hdr : List Nat) (s : State) : Ans :=
  let s := syncDown (atTime s at_) hdr
  if hTarget hdr = nodeId s then .next (if isWorker s ∧ !s.ubf.orphan then joinNode s (hAddr hdr) (hBody hdr) else s)
  else
    let s := if parentOf (hTarget hdr) = some (nodeId s) then admitNode s (hTarget hdr) else s
    .next (forward s hdr [])

/-- WORKER_ADMIT (R390, R391): at the stroke instant after calibration; `delay` is the worker's own delay. One whose delay the present target
does not allow is not admitted: while the target is not fixed it waits for it, and afterwards the message with the target lets it write
BEL 0x005 (R69; log 134). A pending request for REPRO mode goes to it too. -/
def execWorkerAdmit (at_ node delay : Nat) (s : State) : Ans :=
  let s := atTime s at_
  if !isManager s ∨ !(underCal s).contains node ∨ at_ < s.stk.inst ∨ 1900 < delay then .next s
  else if delayFits (targetNs s) delay then
    let s := sendSync (admitNode s node) 0x17 node (targetNs s) s.stk.no
    .next (if flag s TOP_MODE_REQ_PEND ∧ mode s = 0 then sendSync s 0x14 node 1 0 else s)
  else .next (if s.bell.targetFixed then sendSync s 0x17 node (targetNs s) s.stk.no else s)

end Sys2Proof.Machine
end

