-- ==== Sys2Proof/Machine/EngineDone.lean ====
section
/-! DEFINITION. A task leaves its engine (R301), with what follows at once: field progress (R109), the Peal selection (R130), the Assay's
watch (R266) and the REPRO plan (R284). -/

namespace Sys2Proof.Machine

def fieldRows (s : State) : Nat := if inEmber s then 32 else 128

/-- FIELD_READY (R109, R462): rows and slices processed for the current sealed heat. -/
def fieldDone (s : State) (t : Task) : State :=
  if t.status ≠ 0 ∨ t.heat ≠ getF s CRU_HEAT_SEALED then s
  else if cOpc t.cmd = 3 then
    let ks := (cruRows t).foldl insertNew s.wld.slicesDone
    let n := ((List.range 64).filter (fun k => ks.contains k)).length
    let s := setF { s with wld := { s.wld with slicesDone := ks } } CRU_FIELD_STATUS_SLICES_DONE n
    if n = 64 then setF s CRU_FIELD_STATUS_DYN_READY 1 else s
  else
    let rs := (cruRows t).foldl insertNew s.wld.rowsDone
    let n := ((List.range (fieldRows s)).filter (fun k => rs.contains k)).length
    let s := setF { s with wld := { s.wld with rowsDone := rs } } CRU_FIELD_STATUS_ROWS_DONE n
    if n = fieldRows s then setF s CRU_FIELD_STATUS_STATIC_READY 1 else s

/-- The ASSAY task completes: the watch begins (R266), or in REPRO mode the plan is decided and sent at once (R267, R284). -/
def assayDone (s : State) : State :=
  if inRepro s then
    if !isManager s ∨ s.asy.frozen then s
    else
      let s := decideCase (goldenAtFreeze s)
      match s.pln.decided with
      | some d => sendNow s d
      | none => s
  else if s.asy.frozen ∨ !isManager s then s
  else setF { s with asy := { s.asy with watching := true } } (ASY_U_STATUS_PHASE (assayUnit s)) 4

/-- What completes with the task's last effect. -/
def doneFx (s : State) (t : Task) : State :=
  if tGold t then s
  else if tCls t = 1 then fieldDone s t
  else if tCls t = 2 then partEnded s t t.status
  else if tCls t = 7 then assayDone s
  else s

/-- A task is done when it has executed and every remote access of it has completed (R394). -/
def taskDone (s : State) (t : Task) : Bool := t.ran && !remoteBusy s t.id && !s.ubf.heads.any (fun h => h.1 == t.id)

/-- ENGINE_TASK_DONE (R301). -/
def execEngineTaskDone (cls unit : Nat) (s : State) : Ans :=
  let e := classBase cls + unit
  if 8 < cls ∨ physCount cls ≤ unit then .next s
  else match runningOn s e with
    | some t => if taskDone s t then .next (doneFx (taskLeaves s e t) t) else .next s
    | none => .next s

end Sys2Proof.Machine
end

