-- ==== Sys2Proof/Machine/Identity.lean ====
section
/-! DEFINITION. Attestation, debug tokens and the JTAG instructions (R509 to R516). -/

namespace Sys2Proof.Machine

/- ### Attestation (R513) -/

/-- A write of `SEC.ATT_CTRL.REQ`. -/
def requestReport (s : State) : State :=
  if flag s SEC_ATT_CTRL_BUSY then answer (sendFault s 0x14 0x003 0 0) .error
  else
    let a := (get64 s SEC_ATT_DST_LO SEC_ATT_DST_HI, (List.range 8).map (fun i => getF s (SEC_ATT_NONCE i)))
    answer { setF s SEC_ATT_CTRL_BUSY 1 with sec := { s.sec with att := some a } } .ok

/-- ATTEST_REQ. -/
def execAttestReq (brand : Nat) (s : State) : Ans := .next (guarded s brand 1 SEC_ATT_CTRL.addr requestReport)

/-- Bits [6:0] of FLAGS. -/
def reportFlags (s : State) : Nat :=
  let fs := [flag s RST_START_SLOT, s.bil.noRpmb, getF s DBG_STATE_SCOPE != 0, flag s FLT_STATUS_SERVICE, flag s FLT_STATUS_SAFE, degraded s,
    flag s RST_JOURNAL_FRESH]
  (fs.zipIdx.map (fun p => b2n p.1 * 2 ^ p.2)).sum

/-- The stored digest of section type t, zero when absent. -/
def sectionDigest (b : Billet) (t : Nat) : List Nat :=
  let d := match b.sections.find? (fun x => x.1 == t) with | some x => x.2 | none => []
  (List.range 32).map (fun i => d.getD i 0)

/-- States of the units, 4 bits each. -/
def unitNibbles (s : State) : List Nat :=
  (List.range 120).map (fun k => (List.range 2).foldl (fun v j => let e := 2 * k + j; if e ≤ 233 then v + ustate s e % 16 * 16 ^ j else v) 0)

def journalBytes (s : State) : List Nat :=
  let cs := failCauses s.start.journal 4
  layout 16 [(0, 4, newestSeq s), (4, 1, getF s RST_JOURNAL_FAILS), (5, 1, getF s RST_JOURNAL_BANKED), (6, 2, getF s RST_START_MS_EMBER_MS),
    (8, 2, getF s RST_START_MS_FULL_MS), (10, 1, cs.getD 0 0), (11, 1, cs.getD 1 0), (12, 1, cs.getD 2 0), (13, 1, cs.getD 3 0)]

def firstFault (s : State) : List Nat := match s.flt.first with | r :: _ => leWords (recWords r) | [] => List.replicate 16 0

/-- Bytes 0 to 959 of the report. -/
def reportBody (s : State) (nonce : List Nat) : List Nat :=
  let head := layout 144 [(0, 4, 0x54414A48), (4, 2, 1), (6, 2, 1024), (8, 8, leNat (deviceId s.sec)), (16, 32, leNat (leWords nonce)), (48, 8, s.time),
    (56, 8, s.stk.no), (64, 1, s.bil.stepping), (65, 1, s.bil.gradeRec), (66, 1, s.bil.grade), (67, 1, mode s), (68, 4, s.bil.version),
    (72, 4, if s.bil.noRpmb then 0 else s.start.minVer), (76, 4, reportFlags s), (80, 32, leNat (sm3 s.bil.drec)), (112, 32, leNat s.start.digest)]
  head ++ (List.range 11).flatMap (fun i => sectionDigest s.bil (i + 1)) ++ unitNibbles s ++
    (List.range 11).flatMap (fun c => leBytes 4 (rd s (SPR_COUNT c).addr)) ++ journalBytes s ++ firstFault s ++ List.replicate 268 0

/-- ATTEST_DONE: the report is written with brand 0x01, and DONE set. -/
def execAttestDone (s : State) : Ans :=
  match s.sec.att with
  | none => .next s
  | some a =>
    let b := reportBody s a.2
    let f := fresh s
    let r := b ++ signature s.sec f.1 b
    let s := writesFx { f.2 with sec := { s.sec with att := none } } 0x01 ((List.range 16).map (fun k => (a.1 + 64 * k, (r.drop (64 * k)).take 64)))
    .next (setF (setF s SEC_ATT_CTRL_BUSY 0) SEC_ATT_CTRL_DONE 1)

/- ### Debug (R509 to R512) -/

/-- The token window's 2 KiB. -/
def tokenBytes (s : State) : List Nat := leWords ((List.range 512).map (fun i => getF s (DBG_TOKEN i)))

/-- A token for this device, with the current nonce. -/
def tokenOk (s : State) (t : List Nat) : Bool :=
  objectOk s.sec.root (t.take (92 + 160 * fldAt t 24 1)) 24 2 && fldAt t 0 4 == 0x54444A48 && (t.drop 4).take 8 == deviceId s.sec &&
    fldAt t 12 4 == getF s DBG_NONCE && decide (fldAt t 16 4 < 8) && zeroAt t 20 4

/-- The boot and security processor opens group 7, stages the SCOPE and closes it. -/
def stageUnlock (s : State) (scope : Nat) : State :=
  closeGroup (stageWord (openGroup s 1 7 false) 1 DBG_UNLOCK.addr scope) 1 7

/-- A write of `DBG.CTRL.SUBMIT`: the token is verified against the nonce that stood, and the nonce changes. -/
def submitToken (s : State) : State :=
  let t := tokenBytes s
  let ok := tokenOk s t
  let f := fresh s
  let s' := setF f.2 DBG_NONCE (Config.freeValue f.1)
  if !ok then sendFault s' 0x1D 0x001 0 0
  else if thState s 7 ≠ 0 then s'
  else answer (stageUnlock (setF s' DBG_STATE_PENDING 1) (fldAt t 16 4)) s.resp

/-- DEBUG_SUBMIT (R511). -/
def execDebugSubmit (s : State) : Ans := .next (submitToken s)

/-- EXTEST is accepted only while a cold reset is held (R509). -/
def scanAllowed (s : State) : Bool := s.rst.held.contains 4 || !s.rst.pwrGood

/-- TAP_INSTRUCTION: 0 BYPASS, 1 IDCODE, 2 SAMPLE/PRELOAD, 3 EXTEST; a refused EXTEST acts as BYPASS. -/
def execTapInstruction (ir : Nat) (s : State) : Ans :=
  let ok : Bool := decide (ir = 3) && scanAllowed s
  .next { s with pins := { s.pins with extest := ok, ir := if ir ≤ 2 ∨ ok then ir else 0 } }

end Sys2Proof.Machine
end

