-- ==== Sys2Proof/Machine/Mode.lean ====
section
/-! DEFINITION. Mode requests (R329 to R331, R338) and the MODE message (R395). ADDR carries the request, 0 SERVICE or 1 REPRO; BODY carries a
refusal's reason by the code of `TOP.MODE_WHY`, 0 for none. -/

namespace Sys2Proof.Machine

/-- Brands that may request a mode. -/
def mayRequest (b : Nat) : Bool := (decide (1 ≤ b) && decide (b ≤ 4)) || (decide (0x10 ≤ b) && decide (b ≤ 0x19))

/-- A class with fewer logical units in service than the grade gives (R330): an index counts while its unit is ACTIVE and in service. -/
def shortClass (s : State) : Option Nat :=
  (List.range 11).find? (fun c => (List.range (gradeCount s.bil.grade c)).any (fun l => (inService s c l).isNone))

/-- Why this device refuses REPRO mode: reason and class. -/
def refusalHere (s : State) : Nat × Nat :=
  if mode s = 2 then (1, 0)
  else if mode s = 3 then (2, 0)
  else if getF s RST_START_PHASE < 12 then (3, 0)
  else match shortClass s with | some c => (4, c) | none => (0, 0)

/-- The first reason found: this device's, else an admitted device that refuses. -/
def refusal (s : State) (others : List (Nat × Nat)) : Option (Nat × Nat × Nat) :=
  let h := refusalHere s
  if h.1 ≠ 0 then some (h.1, h.2, 0)
  else (others.find? (fun p => isAdmitted s p.1 && p.2 != 0)).map (fun p => (5, 0, p.1))

/-- The request is refused: the reason shows and TOP 0x020. -/
def refuseMode (s : State) (r : Nat × Nat × Nat) : State := sendFault (setWhy s r.1 r.2.1 r.2.2) 0x00 0x020 0 0

/-- A request for REPRO by the manager's software. -/
def askRepro (s : State) (others : List (Nat × Nat)) : State :=
  if inRepro s then s
  else match refusal s others with
    | some r => refuseMode s r
    | none => reportDrained (sendSyncAll { setF s TOP_MODE_REQ_PEND 1 with ubf := { s.ubf with ready := [], reproSet := false } } 0x14 1 0)

/-- A request for SERVICE: only a REPRO mode is left by it. -/
def askService (s : State) : State := if inRepro s then sendSyncAll (setF s TOP_MODE_REQ_PEND 1) 0x14 0 0 else s

/-- A write of `TOP.MODE_REQ`. -/
def modeRequest (s : State) (brand value : Nat) (others : List (Nat × Nat)) : State :=
  if !mayRequest brand then answer s .error
  else if !isManager s then answer (setWhy s 6 0 0) .error
  else if 2 ≤ value % 4 then answer s .error
  else answer (if value % 4 = 1 then askRepro s others else askService s) .ok

/-- MODE_REQ_SERVICE. -/
def execModeReqService (brand : Nat) (s : State) : Ans :=
  .next (guarded s brand 1 TOP_MODE_REQ.addr (fun s => modeRequest s brand 0 []))

/-- MODE_REQ_REPRO; `others`: what the node's other devices answer, as (node, reason). -/
def execModeReqRepro (brand : Nat) (others : List (Nat × Nat)) (s : State) : Ans :=
  .next (guarded s brand 1 TOP_MODE_REQ.addr (fun s => modeRequest s brand 1 others))

/-- The reason, class and device of a MODE message's BODY, laid out as `TOP.MODE_WHY` (R338; log 69). -/
def bodyWhy (b : Nat) : Nat × Nat × Nat := (b % 16, bits b 8 4, bits b 12 4)

/-- A device refuses: the manager takes the request back at every device (R329, R330). -/
def cancelRepro (s : State) (node : Nat) : State :=
  let s := { setF s TOP_MODE_REQ_PEND 0 with ubf := { s.ubf with ready := [], reproSet := false } }
  refuseMode (sendSyncAll s 0x14 0 0) (5, 0, node)

/-- At the manager: a device is drained, no longer is, refuses, leaves REPRO mode on a loss, or has lost its children. -/
def modeAtManager (s : State) (hdr : List Nat) : State :=
  if hAddr hdr = 4 then noteLost s (bitList 16 (hBody hdr))
  else if hAddr hdr = 1 ∨ hAddr hdr = 2 then
    if !flag s TOP_MODE_REQ_PEND ∨ inRepro s then s
    else if hBody hdr ≠ 0 then cancelRepro s (hOrigin hdr)
    else if hAddr hdr = 1 then reportDrained { s with ubf := { s.ubf with ready := insertNew s.ubf.ready (hOrigin hdr) } }
    else reportDrained { s with ubf := { s.ubf with ready := s.ubf.ready.filter (· != hOrigin hdr) } }
  else if hBody hdr ≠ 0 then
    let w := bodyWhy (hBody hdr)
    leaveRepro s w.1 w.2.1 w.2.2
  else s

/-- At a worker: the manager's request, the stroke it sets or takes back, or the end. -/
def modeAtWorker (s : State) (hdr : List Nat) : State :=
  if hAddr hdr = 1 then
    if inRepro s then s
    else
      let r := refusalHere s
      if r.1 = 0 then reportDrained { setF s TOP_MODE_REQ_PEND 1 with ubf := { s.ubf with told := false, reproSet := false } }
      else sendSync s 0x14 0 1 (r.1 + r.2 * 256)
  else if hAddr hdr = 2 ∨ hAddr hdr = 3 then { s with ubf := { s.ubf with reproSet := decide (hAddr hdr = 3) } }
  else if !inRepro s then { setF s TOP_MODE_REQ_PEND 0 with ubf := { s.ubf with told := false, reproSet := false } }
  else if hBody hdr = 0 then setF s TOP_MODE_REQ_PEND 1
  else if s.car.leaving then s
  else
    let w := bodyWhy (hBody hdr)
    noteLeave s w.1 w.2.1 w.2.2

/-- MODE (R395). -/
def execMode (link : Nat) (hdr : List Nat) (s : State) : Ans :=
  if 4 ≤ link then .next s
  else
    let s := noteSync (takeMsg s link hdr []) link
    if hTarget hdr ≠ nodeId s then .next (forward s hdr [])
    else .next (if isManager s then modeAtManager s hdr else modeAtWorker s hdr)

end Sys2Proof.Machine
end

