-- ==== Sys2Proof/Machine/Place.lean ====
section
/-! DEFINITION. Placement: gates (R88, R131, R213, R214, R260, R300, R397), body checks and ranges (R544 and each class's rules), heat
resolution (R87), engine choice (R301 to R303) and the two slots. -/

namespace Sys2Proof.Machine

/- ### Gates (R300) -/

/-- Slots of a mask that are full, a lost slot counting as empty (R213, R397). -/
def fullSlots (s : State) (mask : Nat) : Nat :=
  nodeMask ((bitList 32 mask).filter (fun i => bit (getF s TNG_INBOX_STATUS) i && !bit s.ubf.lostSlots i))

/-- Does the condition of a gate hold now (R88, R109, R131, R213, R260)? -/
def gateReady (s : State) (g : Nat) : Bool :=
  match g with
  | 0 => flag s CRU_FIELD_STATUS_STATIC_READY && flag s CRU_FIELD_STATUS_DYN_READY
  | 1 => flag s CRU_FIELD_STATUS_STATIC_READY
  | 2 => flag s PEL_FRAME_SELECTED
  | 3 => flag s ASY_STATUS_READY
  | 4 => !inRepro s && decide (s.stk.inst + getF s TNG_GATHER_OFS0 ≤ s.time)
  | 5 => !inRepro s && decide (s.stk.inst + getF s TNG_GATHER_OFS1 ≤ s.time)
  | _ => false

/-- GATE_OPEN (R300): the block that owns a gate posts its opening. -/
def execGateOpen (gate : Nat) (s : State) : Ans := if gateReady s gate then .next (openGate s gate) else .next s

/- ### Body checks (R544 and the class chapters); true means BAD_ARG -/

def badGold (s : State) (c : List Nat) (n : Nat) : Bool :=
  !(aligned (bf c 16 8) 64 && aligned (bf c 24 8) 64 && zeroAt c 32 32 && cHlm c && inMemory s (bf c 16 8) 64 && inMemory s (bf c 24 8) n)

/-- Bytes a golden task of a class writes at DST (R193, R286, R413; logs 24, 25, 28, 29). -/
def goldLen (s : State) (brand : Nat) (c : List Nat) : Nat :=
  match cCls c with
  | 0 => 0x1100 | 1 => 896 | 2 => 8192 | 3 => 4096 | 5 => 0x180
  | 6 => 1296 * bf (seen s brand (bf c 16 8) 64) 24 1
  | _ => 64

/-- The golden opcode of a class; none for the Hallmark units. -/
def goldOpc (cls : Nat) : Option Nat := if cls = 4 ∨ cls = 6 ∨ cls = 7 then some 2 else if cls ≤ 5 then some 0x10 else none

def badBellows (s : State) (c : List Nat) : Bool :=
  let src := bf c 16 8
  let dst := bf c 24 8
  let n := bf c 32 4
  let common := aligned src 64 && aligned dst 64 && zeroAt c 36 4 && zeroAt c 48 16
  match cOpc c with
  | 1 => !(common && aligned n 64 && decide (64 ≤ n) && zeroAt c 40 8 && inBellows s src n && inBellows s dst n && !overlaps src n dst n)
  | 2 => !(common && aligned n 64 && decide (64 ≤ n) && src == 0 && inBellows s dst n)
  | 3 => !(common && n == 0 && aligned (bf c 40 8) 64 && inBellows s src 64 && inBellows s dst 64 && src != dst)
  | _ => true

/-- Crucible ranges; Ember's static layer has 32 tile rows (R115, R462). -/
def badCrucible (s : State) (c : List Nat) : Bool :=
  let a := bf c 16 2
  let b := bf c 18 2
  let top := if cOpc c = 3 then 63 else sTiles (inEmber s) - 1
  !(decide (1 ≤ cOpc c ∧ cOpc c ≤ 3 ∧ a ≤ b ∧ b ≤ top) && zeroAt c 20 44)

def badPeal (s : State) (c : List Nat) : Bool :=
  let n := bf c 24 1
  let np := bf c 26 1
  !(decide (1 ≤ cOpc c ∧ cOpc c ≤ 2 ∧ 1 ≤ n ∧ n ≤ 64 ∧ 1 ≤ np ∧ np ≤ gradeCount s.bil.grade 2 ∧ bf c 25 1 < np) && aligned (bf c 16 8) 64 &&
    zeroAt c 27 37 && inMemory s (bf c 16 8) (32 * n))

def badSwage (s : State) (c : List Nat) : Bool :=
  !(cOpc c == 1 && ctxOk c && aligned (bf c 48 8) 64 && decide (bf c 56 1 ≤ 1) && zeroAt c 57 7 && inMemory s (bf c 16 8) (32 * bf c 28 4) &&
    inMemory s (bf c 48 8) (bf c 28 4 * 16 * bf c 42 1))

def badHammer (s : State) (c : List Nat) : Bool :=
  !(cOpc c == 1 && ctxOk c && aligned (bf c 48 8) 64 && decide (bf c 56 1 < 4) && bit (getF s HAM_CSET_EN) (bf c 56 1) && decide (bf c 57 1 ≤ 2) &&
    footN s (bf c 41 1) != 0 && zeroAt c 58 6 && inMemory s (bf c 16 8) (32 * bf c 28 4) && inMemory s (bf c 48 8) (8 * bf c 28 4))

def inLocal (s : State) (a n : Nat) : Bool := decide (localBase s ≤ a ∧ a + n ≤ localBase s + localSize s)

/-- The input headers of a LOCAL MERGE: every entry range in the LOCAL region and at most 262,144 entries (R217). -/
def badLocalMerge (s : State) (brand : Nat) (c : List Nat) : Bool :=
  let hs := ((rdMap (fun m => rdBytes s brand (bf c 32 8 + 64 * m) 64) (List.range (bf c 28 1))).run []).1
  let os : List ListHdr := (hs.filterMap id).map hdrOf
  let vs := os.filter (fun h => bit h.flags 0)
  let total : Nat := (vs.map (fun (h : ListHdr) => h.count)).foldl (fun (a b : Nat) => a + b) 0
  decide (262144 < total) || vs.any (fun h => !inLocal s h.ent (8 * h.count))

def badTongs (s : State) (brand : Nat) (c : List Nat) : Bool :=
  match cOpc c with
  | 1 =>
    let k := bf c 24 4
    let fl := bf c 29 1
    let loc := bit fl 0
    !(aligned (bf c 16 8) 64 && decide (1 ≤ k ∧ k ≤ 1048576) && decide (1 ≤ bf c 28 1 ∧ bf c 28 1 ≤ 64) && decide (fl < 4) && zeroAt c 30 2 &&
      aligned (bf c 32 8) 64 && aligned (bf c 40 8) 64 && zeroAt c 48 16 && inMemory s (bf c 16 8) (32 * bf c 28 1) &&
      inMemory s (bf c 32 8) 64 && inMemory s (bf c 40 8) (8 * k) &&
      (!loc || (decide (k ≤ 65536) && inLocal s (bf c 32 8) 64 && inLocal s (bf c 40 8) (8 * k))))
  | 2 =>
    let k := bf c 16 4
    let fl := bf c 21 1
    let loc := bit fl 0
    let mask := bf c 24 4
    let n := bf c 28 1
    let common := decide (1 ≤ k ∧ k ≤ 1048576) && decide (bf c 20 1 ≤ 2) && decide (fl < 2) && zeroAt c 22 2 && zeroAt c 29 3 &&
      aligned (bf c 32 8) 64 && aligned (bf c 40 8) 64 && aligned (bf c 48 8) 64 && zeroAt c 56 8 && inMemory s (bf c 40 8) 64 &&
      inMemory s (bf c 48 8) (8 * k)
    !(common && (if loc then
        mask == 0 && bf c 20 1 == 0 && decide (1 ≤ n ∧ n ≤ 16) && decide (k ≤ 65536) && inMemory s (bf c 32 8) (64 * n) &&
          inLocal s (bf c 32 8) (64 * n) && inLocal s (bf c 40 8) 64 && inLocal s (bf c 48 8) (8 * k) && !badLocalMerge s brand c
      else decide (1 ≤ (bitList 32 mask).length ∧ (bitList 32 mask).length ≤ 16)))
  | _ => true

/-- A reserved byte of a batch entry of a REFINE, as read with the queue's brand (R247, R250). -/
def badBatch (s : State) (brand : Nat) (a n : Nat) : Bool :=
  (List.range n).any (fun k => match ((rdBytes s brand (a + 32 * k) 32).run []).1 with
    | some b => !zeroAt b 20 12 || fldAt b 0 8 % 64 != 0 || fldAt b 8 8 % 64 != 0
    | none => false)

def badQuench (s : State) (brand : Nat) (c : List Nat) : Bool :=
  let n := bf c 24 1
  !(cOpc c == 1 && aligned (bf c 16 8) 64 && decide (1 ≤ n ∧ n ≤ 64) && decide (bf c 25 1 < 16) && bit (getF s QNC_PROG_EN) (bf c 25 1) &&
    decide (bf c 26 1 < 16) && zeroAt c 27 5 && aligned (bf c 32 8) 64 && aligned (bf c 40 8) 64 && aligned (bf c 48 8) 64 && zeroAt c 56 8 &&
    inMemory s (bf c 16 8) (32 * n) && inMemory s (bf c 32 8) (1024 * n) && inMemory s (bf c 40 8) (16 * n) && inMemory s (bf c 48 8) (256 * n)) ||
  badBatch s brand (bf c 16 8) n

def badAssay (s : State) (c : List Nat) : Bool :=
  let np := bf c 33 1
  !(cOpc c == 1 && aligned (bf c 16 8) 64 && aligned (bf c 24 8) 64 && decide (1 ≤ bf c 32 1 ∧ bf c 32 1 ≤ 24) && decide (1 ≤ np ∧ np ≤ 64) &&
    decide (bf c 34 1 < 4) && footN s (bf c 34 1) != 0 && zeroAt c 35 1 && aligned (bf c 48 8) 64 && zeroAt c 56 8 &&
    inMemory s (bf c 16 8) 64 && inMemory s (bf c 24 8) (16 * np) && inMemory s (bf c 48 8) 64)

def badDigest (s : State) (c : List Nat) : Bool :=
  let n := bf c 24 8
  !(cOpc c == 1 && !cGold c && aligned (bf c 16 8) 64 && aligned n 64 && decide (64 ≤ n ∧ n ≤ 2 ^ 36) && aligned (bf c 40 8) 8 && zeroAt c 48 16 &&
    inMemory s (bf c 16 8) n && inMemory s (bf c 40 8) 8)

/-- A task's body breaks its class's rules. -/
def bodyBad (s : State) (t : Task) : Bool :=
  let c := t.cmd
  let brand := qBrand s t.queue
  if cGold c then goldOpc (cCls c) != some (cOpc c) || badGold s c (goldLen s brand c)
  else match cCls c with
    | 0 => badBellows s c | 1 => badCrucible s c | 2 => badPeal s c | 3 => badSwage s c | 4 => badHammer s c | 5 => badTongs s brand c
    | 6 => badQuench s brand c | 7 => badAssay s c | _ => badDigest s c

/- ### Heat resolution (R87, R112, R312) -/

/-- The heat a task runs on; none: STALE_HEAT. A re-dispatched task keeps its heat, but Hammer and Peal tasks of an older heat are not
dispatched again (R89). -/
def resolveHeat (s : State) (t : Task) : Option Nat :=
  let now := getF s CRU_HEAT_SEALED
  if tGold t then some t.heat
  else if t.redisp then (if t.heat ≠ now ∧ (tCls t = 2 ∨ tCls t = 4) then none else some t.heat)
  else if cHeat t.cmd = 0 ∨ cHeat t.cmd = now then some now else none

/-- A task that a closed gate holds; golden tasks, cut fill and tasks whose heat is no longer the sealed one never are (R87, R88, R187,
R221, R300). -/
def held (s : State) (t : Task) : Bool :=
  if tGold t || cutPassed s t then false
  else match tCls t with
    | 2 => (resolveHeat s t).isSome && !gateOpen s 1
    | 4 => (resolveHeat s t).isSome && (!gateOpen s 0 || (pealOn s && !gateOpen s 2))
    | 5 => t.status != 2 && mergeHeld s t.cmd
    | 7 => !gateOpen s 3
    | _ => false

/- ### Engines (R301 to R303) -/

/-- Logical engines of a class in service with an empty prefetch slot, ascending: (logical index, E). -/
def freeEngines (s : State) (c : Nat) : List (Nat × Nat) :=
  ((List.range (logical s c)).filterMap (fun l => (inService s c l).map (fun e => (l, e)))).filter (fun p => (prefetchOn s p.2).isNone)

def idle (s : State) (e : Nat) : Bool := (runningOn s e).isNone

def lastKey (s : State) (c l : Nat) : Option Nat := let k := nget s.tabA.lastKey (c * 1024 + l); if k = 0 then none else some (k - 1)

/-- The choice of R301, outside REPRO mode. -/
def chooseEngine (s : State) (c : Nat) (t : Task) : Option (Nat × Nat) :=
  let free := freeEngines s c
  if bit (getF s TAB_CLS_POLICY) c then
    match (if cAff t.cmd then free.find? (fun p => lastKey s c p.1 == some (cAffn t.cmd)) else none) with
    | some p => some p
    | none => free.head?
  else match free.find? (fun p => idle s p.2) with
    | some p => some p
    | none => free.head?

/-- The engine a task is pinned to in REPRO mode (R303). -/
def pinnedEngine (s : State) (c : Nat) (t : Task) : Option (Nat × Nat) :=
  let l := (if cAff t.cmd then cAffn t.cmd else t.pin) % max 1 (logical s c)
  (freeEngines s c).find? (fun p => p.1 == l)

/-- Put a task into the running slot when it is empty, else into the prefetch slot. -/
def putTask (s : State) (t : Task) (l e : Nat) : State :=
  let s := if cAff t.cmd ∧ !tGold t then
      updTab s (fun b => { b with lastKey := nset b.lastKey (tCls t * 1024 + l) (cAffn t.cmd + 1) })
    else s
  if idle s e then startRun s t e l else setTask s { t with loc := .prefetch e, lunit := l }

/-- A task placed on an engine that completes at once by its checks: its completion names the engine chosen (R306; log 39). -/
def atEngine (t : Task) (l e : Nat) : Task := { t with lunit := l, punit := e - classBase (tCls t) }

def endAtPlacement (s : State) (t : Task) (status : Nat) : State := partEnded (finishNow s t status) t status

/-- STALE_HEAT, but for a SELECT whose segments or spill need break its rules (R221). -/
def staleStatus (s : State) (t : Task) : Nat := if tCls t = 5 ∧ cOpc t.cmd = 1 ∧ (selectTask s t).status = 1 then 1 else 2

/-- The checks at placement, then the slot. A Peal part that conflicts or repeats completes with BAD_ARG (R138). -/
def placeAt (s : State) (t : Task) (l e : Nat) : State :=
  let t := atEngine t l e
  if bodyBad s t then endAtPlacement s t 1
  else if t.status = 2 then endAtPlacement s t (staleStatus s t)
  else match resolveHeat s t with
    | none => endAtPlacement s t (staleStatus s t)
    | some h =>
      let part := tCls t == 2 && !tGold t && !t.redisp
      let s := if part then forHeat s h else s
      if part && partConflict s t.cmd then sendFault (finishNow s t 1) 0x0C 0x003 0 t.punit
      else
        let s := if part then partPlaced s t.cmd else s
        let t := { t with heat := h,
                          slots := if tCls t = 5 ∧ cOpc t.cmd = 2 ∧ !tGold t then fullSlots s (bf t.cmd 24 4) else t.slots }
        putTask s t l e

/-- A displaced task returns to its ready list at its admission position (R302). -/
def displace (s : State) (t : Task) : State :=
  let s := if tCls t = 2 ∧ !t.redisp then { s with peal := { s.peal with parts := s.peal.parts.erase (partNo t.cmd) } } else s
  bump (setTask s { t with loc := .ready }) TAB_DISPLACED 1

/-- A golden task goes to the engine of logical index AFFN; none: it waits (R302). -/
def placeGoldenTask (s : State) (t : Task) : Option State :=
  let c := tCls t
  let l := cAffn t.cmd
  if logical s c ≤ l then some (finishNow s t 1)
  else match inService s c l with
    | none => none
    | some e =>
      if bodyBad s t then some (finishNow s (atEngine t l e) 1)
      else if idle s e then some (putTask s t l e)
      else match prefetchOn s e with
        | none => some (putTask s t l e)
        | some u => if tGold u then none else some (putTask (displace s u) t l e)

/-- The ready list of a class: priority 7 down to 0, admission order within one. -/
def readyList (s : State) (c : Nat) : List Task :=
  let l := (tasks s).filter (fun t => t.loc == .ready && tCls t == c)
  (List.range 8).reverse.flatMap (fun p => l.filter (fun t => t.pri == p))

/-- Place the first task of the list that can be placed (R301). -/
def placeGo (s : State) (c : Nat) : List Task → State
  | [] => s
  | t :: rest =>
    if held s t then placeGo s c rest
    else if tGold t then (match placeGoldenTask s t with | some s' => s' | none => placeGo s c rest)
    else if freeEngines s c = [] then s
    else if inRepro s then (match pinnedEngine s c t with | some p => placeAt s t p.1 p.2 | none => placeGo s c rest)
    else match chooseEngine s c t with
      | some p => placeAt s t p.1 p.2
      | none => s

/-- TASK_PLACE (R301): one placement of a class. -/
def execTaskPlace (cls : Nat) (s : State) : Ans := if 8 < cls then .next s else .next (placeGo s cls (readyList s cls))

end Sys2Proof.Machine
end

