-- ==== Sys2Proof/Machine/Thermal.lean ====
section
/-! DEFINITION. Sensors, throttling, the critical temperature and the trip (R533 to R535, R541, R542), and PPS_IN (R539, R543). -/

namespace Sys2Proof.Machine

/- ### Thresholds; before the billet is loaded the defaults apply (R535, R542) -/

def thmCfg (s : State) (f : Fld) (dflt : Nat) : Nat := if getF s THM_CFG = 0 then dflt else getF s f
def tThrottle (s : State) : Int := thmCfg s THM_CFG_T_THROTTLE 112 * 16
def tRelease (s : State) : Int := thmCfg s THM_CFG_T_RELEASE 105 * 16
def tCrit (s : State) : Int := thmCfg s THM_CFG_T_CRIT 120 * 16
def maxStep (s : State) : Nat := thmCfg s THM_CFG_MAX_STEP 0

/-- Sensors 0 to 47 lie in hearth s / 6, the others in region 8. -/
def sensorRegion (k : Nat) : Nat := if k < 48 then k / 6 else 8
def regionSensors (r : Nat) : List Nat := (List.range 64).filter (fun k => sensorRegion k == r)
/-- A reading in 1/16 °C. -/
def reading (rs : List Int) (k : Nat) : Int := rs.getD k 0
def validSensor (s : State) (k : Nat) : Bool := !s.thm.excluded.contains k

/- ### Exclusion (R533) -/

/-- Twice the median: the middle reading twice, or the sum of the two middle ones. -/
def median2 (xs : List Int) : Option Int :=
  let v := xs.mergeSort (fun a b => decide (a ≤ b))
  if v = [] then none else some (v.getD ((v.length - 1) / 2) 0 + v.getD (v.length / 2) 0)

/-- Does a sensor differ by more than 10 °C from the median of its region's other valid sensors? -/
def deviates (s : State) (rs : List Int) (k : Nat) : Bool :=
  match median2 (((regionSensors (sensorRegion k)).filter (fun j => j != k && validSensor s j)).map (reading rs)) with
  | some m => decide (320 < (2 * reading rs k - m).natAbs)
  | none => false

/-- An exclusion lasts until the next reset. -/
def excludeSensor (s : State) (k : Nat) : State :=
  let s := { s with thm := { s.thm with excluded := s.thm.excluded ++ [k] } }
  sendFault (bump s THM_EXCLUDED 1) 0x03 0x004 4 k

def outOfRange (rs : List Int) (k : Nat) : Bool := decide (reading rs k < -800) || decide (2400 < reading rs k)

/-- Consecutive updates away from the median. -/
def countOff (s : State) (rs : List Int) : State :=
  let off := (List.range 64).foldl (fun m k =>
    nset m k (if validSensor s k && deviates s rs k then nget s.thm.off k + 1 else 0)) s.thm.off
  { s with thm := { s.thm with off := off } }

def judgeSensors (s : State) (rs : List Int) : State :=
  let s := ((List.range 64).filter (fun k => validSensor s k && outOfRange rs k)).foldl excludeSensor s
  let s := countOff s rs
  ((List.range 64).filter (fun k => validSensor s k && decide (10 ≤ nget s.thm.off k))).foldl excludeSensor s

def showSensor (rs : List Int) (s : State) (k : Nat) : State :=
  setF (setF (setF s (THM_SENSOR_T k) (toU 16 (reading rs k))) (THM_SENSOR_VALID k) (b2n (validSensor s k))) (THM_SENSOR_REGION k) (sensorRegion k)

/-- A region without a valid sensor fails once. -/
def failRegion (s : State) (r : Nat) : State :=
  if s.thm.failed.contains r ∨ (regionSensors r).any (validSensor s) then s
  else sendFault { s with thm := { s.thm with failed := s.thm.failed ++ [r] } } 0x03 0x005 5 r

/-- The hottest valid sensor, the lowest index first. -/
def hottest (s : State) (rs : List Int) : Option Nat :=
  (List.range 64).foldl (fun b k =>
    if validSensor s k then
      match b with
      | some j => if reading rs j < reading rs k then some k else b
      | none => some k
    else b) none

/-- HOT_T, HOT_IDX and MAX_SEEN. -/
def showHottest (s : State) (rs : List Int) : State :=
  match hottest s rs with
  | none => s
  | some k =>
    let t := reading rs k
    let s := setF (setF s THM_STATUS_HOT_IDX k) THM_STATUS_HOT_T (toU 16 t)
    if s.thm.seen ∧ t ≤ sx 16 (getF s THM_MAX_SEEN) then s
    else { setF s THM_MAX_SEEN (toU 16 t) with thm := { s.thm with seen := true } }

/- ### Steps (R534, R535) -/

def inService' (s : State) : Bool := mode s == 0 || mode s == 1

/-- The clock takes a step: the record, the counts, THROTTLED. -/
def takeStep (s : State) (n : Nat) : State :=
  let old := getF s CLK_ENG
  if n = old then s
  else
    let s := bump (setF s CLK_ENG n) (if old < n then THM_STEP_DOWN else THM_STEP_UP) 1
    sendFault (setF s THM_STATUS_THROTTLED (b2n (decide (maxStep s < n)))) 0x03 0x001 0 n

/-- THERMAL_CRITICAL (R535): 0.6 GHz at once; THM 0x002 when the condition arises. -/
def judgeCritical (s : State) (rs : List Int) : State :=
  let hot := hottest s rs
  let sensor := match hot with | some k => decide (tCrit s ≤ reading rs k) | none => false
  let crit := sensor || !s.thm.failed.isEmpty
  let was := flag s THM_STATUS_CRIT
  let s := setF s THM_STATUS_CRIT (b2n crit)
  if !crit then s
  else
    let s := { s with thm := { s.thm with nextStep := none, coolSince := none } }
    let s := if inService' s then takeStep s 3 else s
    if was then s else sendFault s 0x03 0x002 5 (if sensor then hot.getD 0 else 0x40 + s.thm.failed.foldl min 8)

/-- Step down on reaching T_THROTTLE and after each further second there; step up after each 100 ms at or below T_RELEASE. -/
def judgeThrottle (s : State) (t : Int) (now : Nat) : State :=
  let step := s.thm.nextStep.getD (getF s CLK_ENG)
  if tThrottle s ≤ t then
    let due : Bool := match s.thm.hotSince with | none => true | some h => decide (h + 1000000000 ≤ now)
    let thm : Thm := { s.thm with coolSince := none, hotSince := if due then some now else s.thm.hotSince,
                                  nextStep := if due ∧ step < 3 then some (step + 1) else s.thm.nextStep }
    { s with thm := thm }
  else if t ≤ tRelease s then
    match s.thm.coolSince with
    | none => { s with thm := { s.thm with hotSince := none, coolSince := some now } }
    | some c =>
      if c + 100000000 ≤ now ∧ maxStep s < step then
        { s with thm := { s.thm with hotSince := none, coolSince := some now, nextStep := some (step - 1) } }
      else { s with thm := { s.thm with hotSince := none } }
  else { s with thm := { s.thm with hotSince := none, coolSince := none } }

/-- Milliseconds with THROTTLED set. -/
def countThrottled (s : State) (now : Nat) : State :=
  let dt := match s.thm.lastAt with | some t => now - t | none => 0
  let acc := s.thm.msAcc + (if flag s THM_STATUS_THROTTLED then dt else 0)
  bump { s with thm := { s.thm with lastAt := some now, msAcc := acc % 1000000 } } THM_MS_THROTTLED (acc / 1000000)

/-- SENSOR_UPDATE: `readings` of the 64 sensors in 1/16 °C, every 100 µs. -/
def execSensorUpdate (at_ : Nat) (readings : List Int) (s : State) : Ans :=
  let s := countThrottled (atTime s at_) at_
  let s := judgeSensors s readings
  let s := (List.range 64).foldl (showSensor readings) s
  let s := showHottest ((List.range 9).foldl failRegion s) readings
  let s := judgeCritical s readings
  match hottest s readings with
  | some k => .next (if inService' s ∧ !flag s THM_STATUS_CRIT then judgeThrottle s (reading readings k) at_ else s)
  | none => .next s

/-- THROTTLE_STEP_APPLY (R534): the decided step at an engine-clock edge. -/
def execThrottleStepApply (s : State) : Ans :=
  match s.thm.nextStep with
  | none => .next s
  | some n => .next (takeStep { s with thm := { s.thm with nextStep := none } } n)

/- ### The trip (R535) -/

/-- The collector takes what is queued before the reset, which is up to 10 µs away. -/
def drainFaults : Nat → State → State
  | 0, s => s
  | k + 1, s => if s.flt.fifo = [] then s else drainFaults k (acceptFault s)

/-- THERMAL_TRIP: a region's comparator fires; the cold reset does not wait for the reaction table. -/
def execThermalTrip (region : Nat) (s : State) : Ans :=
  if 9 ≤ region then .next s else .next (assertSource (drainFaults 257 (sendFault s 0x03 0x003 7 region)) 5 4)

/- ### PPS_IN (R539) -/

/-- PPS_EDGE: accepted when high for 50 ns and 0.5 s after the last accepted edge. -/
def execPpsEdge (at_ highNs : Nat) (s : State) : Ans :=
  let s := atTime s at_
  let far := match s.thm.ppsLast with | none => true | some t => decide (t + 500000000 ≤ at_)
  if highNs < 50 ∨ !far then .next s
  else .next (bump { set64 s TOP_PPS_LO TOP_PPS_HI at_ with thm := { s.thm with ppsLast := some at_ } } TOP_PPS_CNT 1)

end Sys2Proof.Machine
end

