-- ==== Sys2Proof/Machine/RegAccess.lean ====
section
/-! DEFINITION. Register accesses by address (R13 to R19), and the accesses of processors and PCIe to memory (R31, R32, R392, R421). -/

namespace Sys2Proof.Machine

/- ### Reading (R16 to R18) -/

/-- Word i of the fault log: entry i / 4 (R431, R432). -/
def logWord (s : State) (i : Nat) : Nat :=
  let e := i / 4
  let r := if e < 16 then s.flt.first[e]? else (s.flt.ring.find? (fun p => p.1 == e)).map (·.2)
  match r with
  | some r => (recWords r).getD (i % 4) 0
  | none => 0

/-- `TAB.FLOW_STATE` of the flow `TAB.FLOW_SEL` names. -/
def flowWord (s : State) : Nat :=
  let f := getF s TAB_FLOW_SEL
  let n := (flowTasks s f).length
  flowNext s f % 65536 + n % 2048 * 2 ^ 16 + (if 0 < n ∧ !flowHolds s f (flowNext s f) then 2 ^ 27 else 0)

/-- Registers that show state kept elsewhere. -/
def viewOf (s : State) (a : Nat) : Option Nat :=
  if a = CAR_STROKE_LO.addr then some (s.stk.no % 2 ^ 32)
  else if a = CAR_STROKE_HI.addr then some s.hiStroke.toNat
  else if a = CAR_STROKE_TAI_LO.addr then some (s.stk.time % 2 ^ 32)
  else if a = CAR_STROKE_TAI_HI.addr then some s.hiTai.toNat
  else if a = CAR_TIME_LO.addr then some (s.time % 2 ^ 32)
  else if a = CAR_TIME_HI.addr then some s.hiTime.toNat
  else if a = TOP_PPS_HI.addr then some s.hiPps.toNat
  else if a = CAR_HOLD_ELAPSED.addr ∧ s.stk.holdStart.isSome then some (min (heldFor s / 1000) 2097151)
  else if a = TAB_TASKS.addr then some (tasks s).length
  else if a = TAB_FLOW_STATE.addr then some (flowWord s)
  else if a = DDR_VER.addr then some (nget s.ddr.ver (getF s DDR_VER_SEL))
  else if 0x40410000 ≤ a ∧ a < 0x40411000 then some (nget (bankWords s (1 - activeBank s) false) ((a - 0x40410000) / 4))
  else if 0x40411000 ≤ a ∧ a < 0x40412000 then some (nget (bankWords s (activeBank s) false) ((a - 0x40411000) / 4))
  else if 0x40600000 ≤ a ∧ a < 0x40640000 ∧ a % 0x1000 = 0x30 then some (qDepth s ((a - 0x40600000) / 0x1000))
  else if 0x41410000 ≤ a ∧ a < 0x41420000 then some (leNat ((s.bil.drec.drop (a - 0x41410000)).take 4))
  else if 0x41E00000 ≤ a ∧ a < 0x41E00400 then some (logWord s ((a - 0x41E00000) / 4))
  else none

/-- Status bits of a working engine that its timing alone decides: a Swage whose Hammer cannot accept a pose, a narrow-phase unit at work, a
Bellows unit that waits for credit (R160, R164, R197, R314, R321; log 147). -/
def timingBit (s : State) (a : Nat) : Nat :=
  let free := fun (f : Fld) => Config.busyBit a s.time % 2 * 2 ^ f.lo
  if a % 0x1000 ≠ 0 then 0
  else if 0x40B00000 ≤ a ∧ a < 0x40B18000 ∧ bit (rd s a) (SWG_U_STATUS_STRIKE 0).lo then free (SWG_U_STATUS_STALL 0)
  else if 0x40900000 ≤ a ∧ a < 0x40990000 ∧ bit (rd s a) 0 then free (HAM_U_STATUS_NARROW 0)
  else if 0x40700000 ≤ a ∧ a < 0x40712000 ∧ bit (rd s a) 0 then free (BLW_U_STATUS_STALL 0)
  else 0

/-- What a read of a register returns: WO and reserved bits read zero. -/
def shown (s : State) (a : Nat) (r : RegRow) : Nat :=
  match viewOf s a with
  | some v => v % 2 ^ 32
  | none => Nat.lor (Nat.land (rd s a) (readMask r)) (timingBit s a)

/-- A read of a LO word latches its HI word (R75, R543). -/
def latchHi (s : State) (a : Nat) : State :=
  if a = CAR_STROKE_LO.addr then { s with hiStroke := BitVec.ofNat 32 (s.stk.no / 2 ^ 32) }
  else if a = CAR_STROKE_TAI_LO.addr then { s with hiTai := BitVec.ofNat 32 (s.stk.time / 2 ^ 32) }
  else if a = CAR_TIME_LO.addr then { s with hiTime := BitVec.ofNat 32 (s.time / 2 ^ 32) }
  else if a = TOP_PPS_LO.addr then { s with hiPps := BitVec.ofNat 32 (getF s TOP_PPS_HI) }
  else s

/-- RC fields clear in the same read; `hw` is what a hardware event of the same cycle leaves in them (R17, R19). -/
def clearRc (s : State) (a : Nat) (r : RegRow) (hw : Nat) : State :=
  if r.rc = 0 then s else wr s a (Nat.lor (Nat.xor (rd s a) (Nat.land (rd s a) r.rc)) (Nat.land hw r.rc))

/-- A read that its firewall granted. -/
def readAt (s : State) (brand addr width hw : Nat) : State :=
  if width ≠ 4 ∨ addr % 4 ≠ 0 then refuseAccess s (blockOf addr) brand
  else match rowAt addr with
    | none => refuseAccess s (blockOf addr) brand
    | some r => answer (clearRc (latchHi s addr) addr r hw) (.value (shown s addr r))

/-- What the debug TAP offers at all times, under brand 0x60 (R509). -/
def tapOffers (brand addr : Nat) : Bool :=
  brand == 0x60 && (addr == DBG_NONCE.addr || addr == DBG_STATE.addr || (decide (0x41D01000 ≤ addr) && decide (addr < 0x41D01800)))

/-- A register access under firewall target 2 (R420, R421). -/
def regAccess (s : State) (brand kind addr width : Nat) (k : State → State) : State :=
  if addr < regBase ∨ 0x44000000 ≤ addr then answer s .error
  else if tapOffers brand addr then k s
  else match fwDenies s 2 brand kind addr width with
    | some cls => answer (deny s 2 cls brand kind addr) .error
    | none => k s

def readReg (s : State) (brand addr width hw : Nat) : State := regAccess s brand 0 addr width (fun s => readAt s brand addr width hw)

/-- REGISTER_READ (R16, R17). -/
def execRegisterRead (brand addr width : Nat) (s : State) : Ans := .next (readReg s brand addr width 0)

/-- RC_READ (R17, R19). -/
def execRcRead (brand addr hw : Nat) (s : State) : Ans := .next (readReg s brand addr 4 hw)

/-- LO_WORD_READ (R75). -/
def execLoWordRead (brand addr : Nat) (s : State) : Ans := .next (readReg s brand addr 4 0)

/- ### Writing (R17 to R19) -/

/-- The bits of a word after a software write: RW take the value, W1C clear unless hardware sets them in the same cycle, W1S set. -/
def written (r : RegRow) (old v hw : Nat) : Nat :=
  let keep := Nat.xor old (Nat.land old (Nat.lor r.rw r.wo))
  let put := Nat.lor keep (Nat.land v (Nat.lor r.rw r.wo))
  Nat.lor (clearOnes put (Nat.land v r.w1c) (Nat.land hw r.w1c)) (Nat.land v r.w1s)

def writeWord (s : State) (a : Nat) (r : RegRow) (v hw : Nat) : State := wr s a (written r (rd s a) v hw)

/-- `DDR.VER` (R362). -/
def writeVersion (s : State) (v : Nat) : State := answer (setVersion s v) .ok

/-- DDR_VER_WRITE. -/
def execDdrVerWrite (brand value : Nat) (s : State) : Ans := .next (guarded s brand 1 DDR_VER.addr (fun s => writeVersion s value))

/-- `UBF.L_CTRL.RETRAIN` (R386). -/
def writeRetrain (s : State) (link v : Nat) : State := answer (if bit v 0 then requestRetrain s link else s) .ok

/-- UBF_RETRAIN_REQ. -/
def execUbfRetrainReq (brand link : Nat) (s : State) : Ans :=
  if 4 ≤ link then .next (answer s .error) else .next (guarded s brand 1 (UBF_L_CTRL link).addr (fun s => writeRetrain s link 1))

/-- `CAR.BANK_CTRL`: W1C SWAP_ERR and W1S SWAP_REQ. -/
def writeBankCtrl (s : State) (r : RegRow) (v hw : Nat) : State :=
  let s := writeWord s CAR_BANK_CTRL.addr r (Nat.land v 2) hw
  answer (if bit v 0 then requestSwap s else s) .ok

/-- `RST.START`: only APP_READY can be set (R457). -/
def writeStart (s : State) (v : Nat) : State := answer (if bit v 7 then appIsReady s else s) .ok

/-- `SEC.ATT_CTRL`: W1C DONE, then a request. -/
def writeAttest (s : State) (r : RegRow) (v hw : Nat) : State :=
  let s := answer (writeWord s SEC_ATT_CTRL.addr r (Nat.land v 4) hw) .ok
  if bit v 0 then requestReport s else s

/-- Registers of a group's control block (R441). -/
def writeGroup (s : State) (brand addr v : Nat) : State :=
  let g := (addr - 0x41280000) / 0x40
  let o := (addr - 0x41280000) % 0x40
  if o = 0 then ctrlWrite s brand g v else if 0x10 ≤ o ∧ o ≤ 0x2C then digestWord s brand g ((o - 0x10) / 4) v else answer s .ok

/-- Registers whose writes act. -/
def special (s : State) (brand a v hw : Nat) (r : RegRow) : Option State :=
  if a = TOP_MODE_REQ.addr then some (modeRequest s brand v [])
  else if a = RST_WDOG_KICK.addr then some (kick s brand v)
  else if a = RST_SW_REQ.addr then some (warmRequest s brand v)
  else if a = RST_START.addr then some (writeStart s v)
  else if a = CAR_BANK_CTRL.addr then some (writeBankCtrl s r v hw)
  else if 0x40410000 ≤ a ∧ a < 0x40411000 then some (writeTimetable s a v)
  else if 0x40600000 ≤ a ∧ a < 0x40640000 ∧ a % 0x1000 = 0x20 then some (writeTail s brand ((a - 0x40600000) / 0x1000) v)
  else if 0x40600000 ≤ a ∧ a < 0x40640000 ∧ a % 0x1000 = 0x2C then some (writeCqHead s ((a - 0x40600000) / 0x1000) v)
  else if a = TAB_FLOW_SKIP.addr then some (skipFlow s v)
  else if (TAB_GINJ 0).addr ≤ a ∧ a ≤ (TAB_GINJ 15).addr then some (writeInject s brand ((a - (TAB_GINJ 0).addr) / 4) v)
  else if a = (CRU_RING_WP 0).addr then some (writeWp s 0 v)
  else if a = (CRU_RING_WP 1).addr then some (writeWp s 1 v)
  else if a = SEC_ATT_CTRL.addr then some (writeAttest s r v hw)
  else if a = DDR_VER.addr then some (writeVersion s v)
  else if 0x41600000 ≤ a ∧ a < 0x41604000 ∧ a % 0x1000 = 4 then some (writeRetrain s ((a - 0x41600000) / 0x1000) v)
  else if 0x41280000 ≤ a ∧ a < 0x41280240 then some (writeGroup s brand a v)
  else if a = DBG_CTRL.addr then some (answer s .error)
  else if a = FLT_CTRL.addr then some (if bit v 0 ∨ brand < 1 ∨ 4 < brand then clearFirst s brand else answer s .ok)
  else if r.h2 ≠ 0 then some (stageWord s brand a v)
  else none

/-- A write that its firewall granted. -/
def writeAt (s : State) (brand addr width value hw : Nat) : State :=
  if width ≠ 4 ∨ addr % 4 ≠ 0 then refuseAccess s (blockOf addr) brand
  else match rowAt addr with
    | none => refuseAccess s (blockOf addr) brand
    | some r =>
      let v := value % 2 ^ 32
      match special s brand addr v hw r with
      | some s' => s'
      | none => answer (writeWord s addr r v hw) .ok

def writeReg (s : State) (brand addr width value hw : Nat) : State :=
  regAccess s brand 1 addr width (fun s => writeAt s brand addr width value hw)

/-- REGISTER_WRITE (R16 to R19); `hw` gives the bits a hardware event sets in the same cycle. -/
def execRegisterWrite (brand addr width value hw : Nat) (s : State) : Ans := .next (writeReg s brand addr width value hw)

/-- TIMETABLE_WRITE (R63): a register write of the inactive bank's window; at another address the register space answers as it does to any
write (R16). -/
def execTimetableWrite (brand addr value : Nat) (s : State) : Ans := .next (writeReg s brand addr 4 value 0)

/-- TH_STAGE_WRITE (R425): a register write of a 2H field; at another address the register space answers as it does to any write (R16). -/
def execThStageWrite (brand addr value : Nat) (s : State) : Ans := .next (writeReg s brand addr 4 value 0)

/- ### Memory accesses -/

/-- Lines read one after the other under the line code; none when one is uncorrectable. -/
def memLines (s : State) : Nat → Nat → State × Option (List Nat)
  | 0, _ => (s, some [])
  | k + 1, line =>
    let r := portLine s line
    let x := memLines (notesFx s r.2) k (line + 64)
    (x.1, match r.1, x.2 with | some p, some q => some (p ++ q) | _, _ => none)

/-- A granted read: its bytes, or an error response when a line is uncorrectable. -/
def memRead (s : State) (a n : Nat) : State :=
  let r := memLines s ((a % 64 + n + 63) / 64) (lineOf a)
  match r.2 with
  | some bs => answer r.1 (.data ((bs.drop (a % 64)).take n))
  | none => answer r.1 .error

/-- An access to another node's window: whole lines are written, any bytes of up to 4 KiB are read (R382, R383, R392). The answer comes
with the response. -/
def remoteAccess (s : State) (brand kind a : Nat) (bs : List Nat) (n : Nat) : State :=
  let first := a / 64 * 64
  let lines := (a % 64 + n + 63) / 64
  if !inRemote s a n then answer (remoteFail s (remoteNode a)) .error
  else if brand = 0 ∨ 0x19 < brand ∨ 64 < lines ∨ (kind = 1 ∧ (a % 64 ≠ 0 ∨ n % 64 ≠ 0)) then answer s .error
  else
    let r : Remote := { tag := 0, node := remoteNode a, kind := if kind = 1 then 6 else 7, unit := 0, task := 0, brand := brand, dst := a % 64, len := n }
    let x := if kind = 1 then remoteSend s 1 0 a 0 (lineFlits ((List.range lines).map (fun k => (bs.drop (64 * k)).take 64))) r
      else remoteSend s 3 0 first (64 * lines) [] r
    answer x.1 (if x.2 then .none else .error)

/-- An access of `kind` 0 read, 1 write, 2 fetch to memory; the Assay store takes no such write (R32), and DDR answers once it is swept. -/
def memAccess (s : State) (brand kind a : Nat) (bs : List Nat) (len : Nat) : State :=
  let n := if kind = 1 then bs.length else len
  if n = 0 then s
  else match targetOf s a with
    | none => if remoteBase ≤ a then remoteAccess s brand kind a bs n else answer s .error
    | some g =>
      if targetOf s (a + n - 1) ≠ some g then answer s .error
      else if g = 2 then (if kind = 1 then writeReg s brand a n (leNat bs) 0 else readReg s brand a n 0)
      else match fwDenies s g brand kind a n with
        | some cls => answer (deny s g cls brand kind a) .error
        | none =>
          if g = 3 ∧ !s.start.swept then answer s .error
          else if kind ≠ 1 then memRead s a n
          else if g = 1 then answer s .error
          else answer (store s a bs) .ok

/-- MEMORY_ACCESS (R421). -/
def execMemoryAccess (brand kind addr : Nat) (bytes : List Nat) (len : Nat) (s : State) : Ans := .next (memAccess s brand kind addr bytes len)

end Sys2Proof.Machine
end

