-- ==== Sys2Proof/Machine/Dispatch.lean ====
section
/-! DEFINITION. The dispatch: one arm for each command of the table. -/

namespace Sys2Proof.Machine

def exec (i : Instr) (s : State) : Host.Outcome State Fault Refusal :=
  match i with
  | .registerWrite brand addr width value hw => Sys2Proof.Machine.execRegisterWrite brand addr width value hw s
  | .rcRead brand addr hw => Sys2Proof.Machine.execRcRead brand addr hw s
  | .loWordRead brand addr => Sys2Proof.Machine.execLoWordRead brand addr s
  | .strokeInEdge at_ highNs => Sys2Proof.Machine.execStrokeInEdge at_ highNs s
  | .strokeInMissing at_ => Sys2Proof.Machine.execStrokeInMissing at_ s
  | .flywheelStroke at_ => Sys2Proof.Machine.execFlywheelStroke at_ s
  | .computedStroke at_ => Sys2Proof.Machine.execComputedStroke at_ s
  | .strokeInstant at_ => Sys2Proof.Machine.execStrokeInstant at_ s
  | .gptpLost at_ => Sys2Proof.Machine.execGptpLost at_ s
  | .holdoverExpired at_ => Sys2Proof.Machine.execHoldoverExpired at_ s
  | .gptpRestored at_ => Sys2Proof.Machine.execGptpRestored at_ s
  | .entryDue at_ idx => Sys2Proof.Machine.execEntryDue at_ idx s
  | .launchStart at_ => Sys2Proof.Machine.execLaunchStart at_ s
  | .launchCopyDone at_ => Sys2Proof.Machine.execLaunchCopyDone at_ s
  | .launchLate at_ idx => Sys2Proof.Machine.execLaunchLate at_ idx s
  | .swapReq brand => Sys2Proof.Machine.execSwapReq brand s
  | .timetableWrite brand addr value => Sys2Proof.Machine.execTimetableWrite brand addr value s
  | .reproStroke at_ => Sys2Proof.Machine.execReproStroke at_ s
  | .bellEdge at_ highNs => Sys2Proof.Machine.execBellEdge at_ highNs s
  | .bellMissing at_ => Sys2Proof.Machine.execBellMissing at_ s
  | .calWindowOpen at_ => Sys2Proof.Machine.execCalWindowOpen at_ s
  | .calPulse at_ highNs => Sys2Proof.Machine.execCalPulse at_ highNs s
  | .targetFix delays => Sys2Proof.Machine.execTargetFix delays s
  | .strokeMessageLate at_ => Sys2Proof.Machine.execStrokeMessageLate at_ s
  | .planDue at_ => Sys2Proof.Machine.execPlanDue at_ s
  | .worldSeal at_ => Sys2Proof.Machine.execWorldSeal at_ s
  | .sealMaxExpired at_ => Sys2Proof.Machine.execSealMaxExpired at_ s
  | .sealComplete at_ => Sys2Proof.Machine.execSealComplete at_ s
  | .stagingCopyDone => Sys2Proof.Machine.execStagingCopyDone s
  | .ringWpWrite brand ring value => Sys2Proof.Machine.execRingWpWrite brand ring value s
  | .networkDatagram ring bytes => Sys2Proof.Machine.execNetworkDatagram ring bytes s
  | .pad ring => Sys2Proof.Machine.execPad ring s
  | .primSet ring => Sys2Proof.Machine.execPrimSet ring s
  | .primDel ring => Sys2Proof.Machine.execPrimDel ring s
  | .agentSet ring => Sys2Proof.Machine.execAgentSet ring s
  | .agentDel ring => Sys2Proof.Machine.execAgentDel ring s
  | .ego ring => Sys2Proof.Machine.execEgo ring s
  | .heatClear ring => Sys2Proof.Machine.execHeatClear ring s
  | .sealMark ring => Sys2Proof.Machine.execSealMark ring s
  | .unknownRecord ring => Sys2Proof.Machine.execUnknownRecord ring s
  | .repairStatic unit => Sys2Proof.Machine.execRepairStatic unit s
  | .buildStatic unit => Sys2Proof.Machine.execBuildStatic unit s
  | .buildDyn unit => Sys2Proof.Machine.execBuildDyn unit s
  | .crucibleDrainEnd unit => Sys2Proof.Machine.execCrucibleDrainEnd unit s
  | .repair unit => Sys2Proof.Machine.execRepair unit s
  | .build unit => Sys2Proof.Machine.execBuild unit s
  | .pealBarrier at_ => Sys2Proof.Machine.execPealBarrier at_ s
  | .pealSelectOfs at_ => Sys2Proof.Machine.execPealSelectOfs at_ s
  | .pealEnd at_ => Sys2Proof.Machine.execPealEnd at_ s
  | .expand unit => Sys2Proof.Machine.execExpand unit s
  | .strike unit => Sys2Proof.Machine.execStrike unit s
  | .hammerGolden unit => Sys2Proof.Machine.execHammerGolden unit s
  | .strikeCut at_ k done => Sys2Proof.Machine.execStrikeCut at_ k done s
  | .select unit => Sys2Proof.Machine.execSelect unit s
  | .merge unit => Sys2Proof.Machine.execMerge unit s
  | .inboxWrite brand slot line => Sys2Proof.Machine.execInboxWrite brand slot line s
  | .inboxClear brand mask => Sys2Proof.Machine.execInboxClear brand mask s
  | .gatherOffset at_ k => Sys2Proof.Machine.execGatherOffset at_ k s
  | .refine unit => Sys2Proof.Machine.execRefine unit s
  | .quenchGolden unit => Sys2Proof.Machine.execQuenchGolden unit s
  | .quenchDeadline at_ phases => Sys2Proof.Machine.execQuenchDeadline at_ phases s
  | .assay unit => Sys2Proof.Machine.execAssay unit s
  | .assayGolden unit => Sys2Proof.Machine.execAssayGolden unit s
  | .assayLoadDone at_ => Sys2Proof.Machine.execAssayLoadDone at_ s
  | .assayGridDone at_ => Sys2Proof.Machine.execAssayGridDone at_ s
  | .deltaWatchCheck => Sys2Proof.Machine.execDeltaWatchCheck s
  | .assayFreeze at_ => Sys2Proof.Machine.execAssayFreeze at_ s
  | .stopPlanRepeat at_ => Sys2Proof.Machine.execStopPlanRepeat at_ s
  | .canFrameSent ctrl ok => Sys2Proof.Machine.execCanFrameSent ctrl ok s
  | .doorbell brand queue tail => Sys2Proof.Machine.execDoorbell brand queue tail s
  | .cqHeadWrite brand queue value => Sys2Proof.Machine.execCqHeadWrite brand queue value s
  | .commandAdmit queue => Sys2Proof.Machine.execCommandAdmit queue s
  | .nop queue => Sys2Proof.Machine.execNop queue s
  | .bankSwap queue => Sys2Proof.Machine.execBankSwap queue s
  | .taskPlace cls => Sys2Proof.Machine.execTaskPlace cls s
  | .gateOpen gate => Sys2Proof.Machine.execGateOpen gate s
  | .engineTaskDone cls unit => Sys2Proof.Machine.execEngineTaskDone cls unit s
  | .completionRelease => Sys2Proof.Machine.execCompletionRelease s
  | .flowSkip brand flow => Sys2Proof.Machine.execFlowSkip brand flow s
  | .goldenInject brand word15 => Sys2Proof.Machine.execGoldenInject brand word15 s
  | .engineFence cls unit sharedPart => Sys2Proof.Machine.execEngineFence cls unit sharedPart s
  | .copy unit => Sys2Proof.Machine.execCopy unit s
  | .fill unit => Sys2Proof.Machine.execFill unit s
  | .listPush unit => Sys2Proof.Machine.execListPush unit s
  | .bellowsGolden unit => Sys2Proof.Machine.execBellowsGolden unit s
  | .crucibleGolden unit => Sys2Proof.Machine.execCrucibleGolden unit s
  | .pealGolden unit => Sys2Proof.Machine.execPealGolden unit s
  | .swageGolden unit => Sys2Proof.Machine.execSwageGolden unit s
  | .tongsGolden unit => Sys2Proof.Machine.execTongsGolden unit s
  | .digest unit => Sys2Proof.Machine.execDigest unit s
  | .modeReqService brand => Sys2Proof.Machine.execModeReqService brand s
  | .modeReqRepro brand others => Sys2Proof.Machine.execModeReqRepro brand others s
  | .reproEnter at_ => Sys2Proof.Machine.execReproEnter at_ s
  | .reproExit at_ => Sys2Proof.Machine.execReproExit at_ s
  | .anvilWriteback line => Sys2Proof.Machine.execAnvilWriteback line s
  | .scrub at_ bank assay => Sys2Proof.Machine.execScrub at_ bank assay s
  | .scrubForced bank assay => Sys2Proof.Machine.execScrubForced bank assay s
  | .bankRetire => Sys2Proof.Machine.execBankRetire s
  | .bankCopyDone => Sys2Proof.Machine.execBankCopyDone s
  | .bankSwitch at_ => Sys2Proof.Machine.execBankSwitch at_ s
  | .mr4Poll ch rank value => Sys2Proof.Machine.execMr4Poll ch rank value s
  | .ddrRefresh ch => Sys2Proof.Machine.execDdrRefresh ch s
  | .patrolScrub => Sys2Proof.Machine.execPatrolScrub s
  | .ddrSrTimeout at_ inSelfRefresh => Sys2Proof.Machine.execDdrSrTimeout at_ inSelfRefresh s
  | .ddrVerWrite brand value => Sys2Proof.Machine.execDdrVerWrite brand value s
  | .subResetDdr ch ok => Sys2Proof.Machine.execSubResetDdr ch ok s
  | .subResetEth mac => Sys2Proof.Machine.execSubResetEth mac s
  | .subResetPcie => Sys2Proof.Machine.execSubResetPcie s
  | .linkTrain link badLaneTx badLaneRx => Sys2Proof.Machine.execLinkTrain link badLaneTx badLaneRx s
  | .retrain link => Sys2Proof.Machine.execRetrain link s
  | .retrainFail at_ link => Sys2Proof.Machine.execRetrainFail at_ link s
  | .syncTimeout at_ link => Sys2Proof.Machine.execSyncTimeout at_ link s
  | .ubfRetrainReq brand link => Sys2Proof.Machine.execUbfRetrainReq brand link s
  | .skpReceive link laneErrs => Sys2Proof.Machine.execSkpReceive link laneErrs s
  | .flitReceive link frame => Sys2Proof.Machine.execFlitReceive link frame s
  | .controlFlit link payload => Sys2Proof.Machine.execControlFlit link payload s
  | .replayTimeout link => Sys2Proof.Machine.execReplayTimeout link s
  | .wr link hdr lines => Sys2Proof.Machine.execWr link hdr lines s
  | .wack link hdr => Sys2Proof.Machine.execWack link hdr s
  | .rd link hdr => Sys2Proof.Machine.execRd link hdr s
  | .rdr link hdr lines => Sys2Proof.Machine.execRdr link hdr lines s
  | .remoteTimeout tag => Sys2Proof.Machine.execRemoteTimeout tag s
  | .stroke at_ hdr => Sys2Proof.Machine.execStroke at_ hdr s
  | .timeReq at_ link hdr => Sys2Proof.Machine.execTimeReq at_ link hdr s
  | .timeRsp at_ link hdr => Sys2Proof.Machine.execTimeRsp at_ link hdr s
  | .cal at_ hdr => Sys2Proof.Machine.execCal at_ hdr s
  | .mode link hdr => Sys2Proof.Machine.execMode link hdr s
  | .heartbeat link => Sys2Proof.Machine.execHeartbeat link s
  | .heartbeatTick at_ => Sys2Proof.Machine.execHeartbeatTick at_ s
  | .linkId link hdr => Sys2Proof.Machine.execLinkId link hdr s
  | .admitMessage at_ hdr => Sys2Proof.Machine.execAdmitMessage at_ hdr s
  | .workerAdmit at_ node delay => Sys2Proof.Machine.execWorkerAdmit at_ node delay s
  | .goldenCompare cmdtag => Sys2Proof.Machine.execGoldenCompare cmdtag s
  | .thOpen brand group both => Sys2Proof.Machine.execThOpen brand group both s
  | .thStageWrite brand addr value => Sys2Proof.Machine.execThStageWrite brand addr value s
  | .thClose brand group => Sys2Proof.Machine.execThClose brand group s
  | .thCommit brand group => Sys2Proof.Machine.execThCommit brand group s
  | .thAbort brand group => Sys2Proof.Machine.execThAbort brand group s
  | .thTimeout group => Sys2Proof.Machine.execThTimeout group s
  | .faultRecord block code cls unit => Sys2Proof.Machine.execFaultRecord block code cls unit s
  | .faultAccept => Sys2Proof.Machine.execFaultAccept s
  | .coldEscalate => Sys2Proof.Machine.execColdEscalate s
  | .clrFirst brand => Sys2Proof.Machine.execClrFirst brand s
  | .lockstepMismatch pair => Sys2Proof.Machine.execLockstepMismatch pair s
  | .pairTakeoverDone => Sys2Proof.Machine.execPairTakeoverDone s
  | .clockOutOfTol domain khz => Sys2Proof.Machine.execClockOutOfTol domain khz s
  | .refclkLost => Sys2Proof.Machine.execRefclkLost s
  | .resetPinAssert pin => Sys2Proof.Machine.execResetPinAssert pin s
  | .resetPinRelease pin => Sys2Proof.Machine.execResetPinRelease pin s
  | .pwrGoodFall => Sys2Proof.Machine.execPwrGoodFall s
  | .pwrGoodRise => Sys2Proof.Machine.execPwrGoodRise s
  | .releaseBegin roleStrap nodeStrap => Sys2Proof.Machine.execReleaseBegin roleStrap nodeStrap s
  | .domainQualified domain khz => Sys2Proof.Machine.execDomainQualified domain khz s
  | .domainQualTimeout domain => Sys2Proof.Machine.execDomainQualTimeout domain s
  | .clockFailRetry => Sys2Proof.Machine.execClockFailRetry s
  | .journalDecide => Sys2Proof.Machine.execJournalDecide s
  | .billetVerify slotA slotB => Sys2Proof.Machine.execBilletVerify slotA slotB s
  | .rpmbCheck answer => Sys2Proof.Machine.execRpmbCheck answer s
  | .startCommit monitorAgrees => Sys2Proof.Machine.execStartCommit monitorAgrees s
  | .emberQuickTest passed badBanks ms => Sys2Proof.Machine.execEmberQuickTest passed badBanks ms s
  | .ddrTrained mask => Sys2Proof.Machine.execDdrTrained mask s
  | .ddrSweepDone => Sys2Proof.Machine.execDdrSweepDone s
  | .selfTestDone failed ages => Sys2Proof.Machine.execSelfTestDone failed ages s
  | .osLoadDone digest => Sys2Proof.Machine.execOsLoadDone digest s
  | .appReady brand => Sys2Proof.Machine.execAppReady brand s
  | .fullService at_ ms rpmbWriteOk => Sys2Proof.Machine.execFullService at_ ms rpmbWriteOk s
  | .startFail cause => Sys2Proof.Machine.execStartFail cause s
  | .startTimeout => Sys2Proof.Machine.execStartTimeout s
  | .bankedReport at_ => Sys2Proof.Machine.execBankedReport at_ s
  | .readJournal obj nonce fromSeq => Sys2Proof.Machine.execReadJournal obj nonce fromSeq s
  | .clearJournal obj nonce => Sys2Proof.Machine.execClearJournal obj nonce s
  | .writeSlot obj nonce slot offset bytes => Sys2Proof.Machine.execWriteSlot obj nonce slot offset bytes s
  | .restart obj nonce => Sys2Proof.Machine.execRestart obj nonce s
  | .wdogKick brand value => Sys2Proof.Machine.execWdogKick brand value s
  | .swWarmReq brand value => Sys2Proof.Machine.execSwWarmReq brand value s
  | .wdogExpire => Sys2Proof.Machine.execWdogExpire s
  | .wearEval ages hotRegions ce => Sys2Proof.Machine.execWearEval ages hotRegions ce s
  | .wearRecordWrite => Sys2Proof.Machine.execWearRecordWrite s
  | .spareReady at_ => Sys2Proof.Machine.execSpareReady at_ s
  | .proactiveStart pass => Sys2Proof.Machine.execProactiveStart pass s
  | .proactiveSwitch at_ => Sys2Proof.Machine.execProactiveSwitch at_ s
  | .drainDone e testPass => Sys2Proof.Machine.execDrainDone e testPass s
  | .attestReq brand => Sys2Proof.Machine.execAttestReq brand s
  | .attestDone => Sys2Proof.Machine.execAttestDone s
  | .debugSubmit => Sys2Proof.Machine.execDebugSubmit s
  | .sensorUpdate at_ readings => Sys2Proof.Machine.execSensorUpdate at_ readings s
  | .throttleStepApply => Sys2Proof.Machine.execThrottleStepApply s
  | .thermalTrip region => Sys2Proof.Machine.execThermalTrip region s
  | .ppsEdge at_ highNs => Sys2Proof.Machine.execPpsEdge at_ highNs s
  | .registerRead brand addr width => Sys2Proof.Machine.execRegisterRead brand addr width s
  | .memoryAccess brand kind addr bytes len => Sys2Proof.Machine.execMemoryAccess brand kind addr bytes len s
  | .maintenanceColdReset => Sys2Proof.Machine.execMaintenanceColdReset s
  | .tapInstruction ir => Sys2Proof.Machine.execTapInstruction ir s

end Sys2Proof.Machine
end

