-- ==== Sys2Proof/Safety.lean ====
section
/-! DEFINITION. What the statements say of whole states: the canonical form every step keeps, and the frames. -/

namespace Sys2Proof.Machine

/-- The registers and the memory are in their canonical form: addresses strictly rising, nothing listed at its unlisted value; and
there are four links (R374). -/
abbrev State.Inv (s : State) : Prop := swf resetOf s.regs = true ∧ Memory.wf s.mem = true ∧ s.ubf.links.length = 4

/-- What a command's operations keep: the canonical form, the number of links, and the queue of waiting commands. -/
structure Kept (s t : State) : Prop where
  regs : swf resetOf s.regs = true → swf resetOf t.regs = true
  mem : Memory.wf s.mem = true → Memory.wf t.mem = true
  links : s.ubf.links.length = 4 → t.ubf.links.length = 4
  pending : t.pending = s.pending

/-- Every register but those at the listed addresses reads as before. -/
def RegsBut (l : List Nat) (s t : State) : Prop := ∀ a, a ∉ l → rd t a = rd s a

/-- Every byte of memory and every line's error patterns are as before. -/
def SameMem (s t : State) : Prop := (∀ a, byteAt t a = byteAt s a) ∧ t.mem.errs = s.mem.errs ∧ t.mem.fabErrs = s.mem.fabErrs

/-- The parts of the machine a frame names: the components of the state, the registers apart. -/
inductive Part where
  | mem | time | hi | stk | car | bell | wld | peal | tab | tabX | asy | pln | anv | ddr | ubf | fwl | flt | rst | start | spr | sec
  | thm | pins | bil | free
deriving DecidableEq, Repr

/-- One part of the machine is as before. -/
def SamePart : Part → State → State → Prop
  | .mem, s, t => SameMem s t
  | .time, s, t => t.time = s.time ∧ t.slew = s.slew ∧ t.aonTime = s.aonTime
  | .hi, s, t => t.hiStroke = s.hiStroke ∧ t.hiTai = s.hiTai ∧ t.hiTime = s.hiTime ∧ t.hiPps = s.hiPps
  | .stk, s, t => t.stk = s.stk
  | .car, s, t => t.car = s.car
  | .bell, s, t => t.bell = s.bell
  | .wld, s, t => t.wld = s.wld
  | .peal, s, t => t.peal = s.peal
  | .tab, s, t => t.tabA = s.tabA ∧ t.tabB = s.tabB
  | .tabX, s, t => t.tabX = s.tabX
  | .asy, s, t => t.asy = s.asy
  | .pln, s, t => t.pln = s.pln
  | .anv, s, t => t.anv = s.anv
  | .ddr, s, t => t.ddr = s.ddr
  | .ubf, s, t => t.ubf = s.ubf
  | .fwl, s, t => t.fwl = s.fwl
  | .flt, s, t => t.flt = s.flt
  | .rst, s, t => t.rst = s.rst
  | .start, s, t => t.start = s.start
  | .spr, s, t => t.spr = s.spr
  | .sec, s, t => t.sec = s.sec
  | .thm, s, t => t.thm = s.thm
  | .pins, s, t => t.pins = s.pins
  | .bil, s, t => t.bil = s.bil
  | .free, s, t => t.free = s.free

/-- Every part but the listed ones is as before. -/
def PartsBut (l : List Part) (s t : State) : Prop := ∀ p, p ∉ l → SamePart p s t

/-- Every register of a block not listed reads as before. -/
def BlocksBut (bs : List Nat) (s t : State) : Prop := ∀ a, blockOf a ∉ bs → rd t a = rd s a

/-- A frame: what a command may change among the parts, and among the registers. -/
def Framed (l : List Part) (rs : List Nat) (s t : State) : Prop := PartsBut l s t ∧ RegsBut rs s t

/-- Bytes outside the 64-byte lines of the listed writes, (address, bytes), are as before. -/
def WroteLines (ws : List (Nat × List Nat)) (s t : State) : Prop :=
  ∀ a, (∀ w ∈ ws, a / 64 < w.1 / 64 ∨ (w.1 + w.2.length - 1) / 64 < a / 64) → byteAt t a = byteAt s a

/-- The registers a denied access leaves its trace in (R422). -/
def denyRegs : List Nat := [FWL_DENY_LAST_LO.addr, FWL_DENY_LAST_HI.addr, FWL_DENY_INFO_BRAND.addr]

/-- The registers that a line written to the inbox shows in (R212). -/
def inboxRegs : List Nat := [TNG_INBOX_STATUS.addr, TNG_INBOX_STALE.addr]

/-- The registers that the check of a line read or merged leaves its trace in (R344, R352, R356, R363, R364, R369). -/
def checkRegs : List Nat :=
  [ANV_POISON_W.addr, ANV_CE_TOTAL.addr, ANV_UE_TOTAL.addr, ANV_ASY_CE.addr, ANV_ASY_UE.addr, ANV_FAB_CE.addr, ANV_FAB_UE.addr, ANV_UE_ADDR_LO.addr,
    ANV_UE_ADDR_HI.addr, ANV_UE_INFO_PBANK.addr, DDR_ERR_ADDR_LO.addr, DDR_ERR_ADDR_HI.addr, DDR_ERR_INFO_UNIT.addr] ++
  (List.range 1088).map (fun p => (ANV_BANK_CE_COUNT p).addr) ++
  (List.range 6).flatMap (fun c => [(DDR_CH_CE c).addr, (DDR_CH_UE c).addr, (DDR_CH_RETRY c).addr, (DDR_CH_TAG c).addr, (DDR_CH_STATUS c).addr])

/-- The inbox lies outside the n bytes at a: a line written there is no message to it (R212). -/
abbrev InboxApart (s : State) (a n : Nat) : Prop := inboxBase s + 2048 ≤ a ∨ a + n ≤ inboxBase s

/-- One firewall region of a target grants a brand every access of a kind within the n bytes at a, and no region before it reaches there (R421). -/
abbrev Grants (s : State) (g brand kind a n : Nat) : Prop :=
  getF s (FWL_TH_SEQ g) ≠ 0 ∧ ∃ r ∈ List.range 64, fwHits s g a r = true ∧ a + n ≤ fwLimit s g r + 1 ∧
    (slotOf brand).any (fun k => bit (fwMask s g r kind) k) = true ∧
    (List.range r).all (fun q => !bit (fwCtrl s g q) 0 || decide (a + n ≤ fwBase s g q) || decide (fwLimit s g q < a)) = true

/-- A write to the staging image leaves no trace but its bytes: no line of memory is in error, and the inbox lies elsewhere. -/
abbrev PlainImage (s : State) : Prop :=
  s.mem.errs = [] ∧ s.wld.staging + imageLen ≤ anvilEnd ∧ InboxApart s s.wld.staging imageLen

/-- A record's sequence number is not the next one of its ring (R93). -/
def seqGap (s : State) (r : Nat) (d : List Nat) : Bool :=
  match s.wld.lastSeq.getD r none with | some l => decide (sub32 (fldAt d 4 4) l ≠ 1) | none => false

/-- The registers an accepted record moves (R91, R93, R118). -/
def recordRegs (r : Nat) : List Nat := [(CRU_RING_RP r).addr, CRU_REC_ACCEPT.addr, CRU_SEQ_GAP.addr]

/-- A record was taken and accepted: RP is past it, its sequence number is kept, it is counted, and a gap is recorded (R91, R93). -/
structure Accepted (s t : State) (r : Nat) (f : Fetched) : Prop where
  rp : ringRp t r = (ringRp s r + f.adv) % max 1 (ringSize s r) % 2 ^ 32
  next : t.wld.nextRing = 1 - r
  seq : t.wld.lastSeq = setAt s.wld.lastSeq r (some (fldAt f.data 4 4))
  count : getF t CRU_REC_ACCEPT = min (getF s CRU_REC_ACCEPT + 1) (2 ^ CRU_REC_ACCEPT.w - 1)
  gaps : getF t CRU_SEQ_GAP = if seqGap s r f.data then min (getF s CRU_SEQ_GAP + 1) (2 ^ CRU_SEQ_GAP.w - 1) else getF s CRU_SEQ_GAP

/-- The record of a gap in the sequence numbers (R93). -/
def gapRecord (s : State) (r : Nat) (d : List Nat) : List FaultRec := if seqGap s r d then [mkRec s 0x0A 0x002 0 r] else []

/-- The registers a seal moves (R85, R86, R100, R101, R130, R212, R266). -/
def sealRegs : List Nat :=
  [HAM_HEAT_IMG_LO.addr, HAM_HEAT_IMG_HI.addr, CRU_HEAT_SEALED.addr, CRU_HEAT_STAGING.addr, CRU_ORIGIN_X.addr, CRU_ORIGIN_Y.addr,
    CRU_TORUS_X.addr, CRU_TORUS_Y.addr, CRU_FIELD_STATUS.addr, CRU_SEAL_LAG.addr, ASY_STATUS_READY.addr, BLW_ALC_STATUS.addr,
    TNG_INBOX_STATUS.addr, PEL_FRAME.addr] ++ (List.range 2).map (fun u => (ASY_U_STATUS_PHASE u).addr)

/-- A heat was sealed: the staging heat's number is the sealed one and the next number is given to staging, the image is the one the Hammers
read, its descriptor names the heat and its stroke, the Assay loads it, and the copy to the new staging image has begun (R85, R86, R100). -/
structure Sealed (s t : State) : Prop where
  number : getF t CRU_HEAT_SEALED = getF s CRU_HEAT_STAGING
  staging : getF t CRU_HEAT_STAGING = if getF s CRU_HEAT_STAGING = 0xFFFFFFFF then 1 else getF s CRU_HEAT_STAGING + 1
  image : heatImg t = s.wld.staging
  heat : fldAt (peek t s.wld.staging 64) 0 4 = getF s CRU_HEAT_STAGING
  stroke : fldAt (peek t s.wld.staging 64) 8 8 = s.wld.sealStroke % 2 ^ 64 ∧ fldAt (peek t s.wld.staging 64) 16 8 = s.wld.sealNo % 2 ^ 64
  counts : fldAt (peek t s.wld.staging 64) 36 4 = s.wld.nPrim % 2 ^ 32 ∧ fldAt (peek t s.wld.staging 64) 40 2 = s.wld.nAgent % 2 ^ 16
  world : t.wld.sealPending = false ∧ t.wld.copying = true ∧ t.wld.cut = none ∧ t.wld.copyAgent = s.wld.chgAgent ∧ t.wld.chgPrim = [] ∧
    t.wld.chgAgent = [] ∧ t.wld.cleared = false
  assay : t.asy = { s.asy with loading := true, gridding := false, ovf := false, nDelta := 0, deltaSeen := 0 } ∧ getF t ASY_STATUS_READY = 0
  gates : t.tabX = { s.tabX with gates := s.tabX.gates.filter isGather }
  inbox : getF t TNG_INBOX_STATUS = 0

/-- The staging image is a whole image at an address the Hammers' register holds. -/
abbrev SealApart (s : State) : Prop := s.wld.staging < 2 ^ 64 ∧ s.wld.staging % 64 = 0

/-- What the copy to the new staging image moves lies in the image: primitives, agents, and the vertices of the meshes moved. -/
abbrev CopyInside (s : State) : Prop :=
  (∀ id ∈ s.wld.copyPrim, id < 65536 ∧ (entryKind (primEntry (peek s) (heatImg s) id) = 3 →
    vertOff + 6 * (entryVbase (primEntry (peek s) (heatImg s) id) + entryNv (primEntry (peek s) (heatImg s) id)) ≤ agentOff)) ∧
  (∀ id ∈ s.wld.copyAgent, id < 1024)

/-- The registers the first part of a lattice moves, at a Peal unit: the buffer taken, its heat and place, and the unit's status (R126, R142). -/
def latRegs (u : Nat) : List Nat :=
  (PEL_U_STATUS_PART u).addr :: (List.range 2).flatMap (fun b =>
    [(PEL_LAT_STATE b).addr, (PEL_LAT_HEAT b).addr, (PEL_LAT_LO_X b).addr, (PEL_LAT_LO_Y b).addr])

/-- What a task's work writes to memory: its working set and its writes. -/
def workLines (w : Work) : List (Nat × List Nat) := w.scratch ++ w.writes

/-- The registers a work touches: its counters, its status, and what its reads and writes leave traces in. -/
def workRegs (w : Work) : List Nat :=
  w.bumps.map (·.1.addr) ++ w.sets.map (·.1.addr) ++ denyRegs ++ inboxRegs ++ checkRegs ++ [TAB_STATUS_COPY_MISMATCH.addr]

/-- What an engine's row leaves alone: every other task, the stroke, the world, the Peal, the plan, resets, spares, identity, sensors and
the billet, and the registers of the blocks before the Hallmark block, but for the Tabor's own status. -/
structure EngineFrame (s t : State) (k : Task) : Prop where
  others : ∀ id, id ≠ k.id → taskById t id = taskById s id
  stroke : t.stk = s.stk ∧ t.car = s.car ∧ t.bell = s.bell
  world : t.wld = s.wld ∧ t.peal = s.peal ∧ t.pln = s.pln
  device : t.rst = s.rst ∧ t.start = s.start ∧ t.spr = s.spr ∧ t.sec = s.sec ∧ t.thm = s.thm ∧ t.bil = s.bil ∧ t.fwl = s.fwl
  regs : ∀ a, a < 0x40700000 → a ≠ TAB_STATUS_COPY_MISMATCH.addr → rd t a = rd s a

/-- The work of a task was taken: the task is kept as run, with the work's status and, where it carries a hallmark, the hallmark of the lines
it wrote; memory changed in the lines of its working set and its writes alone, and every byte is what storing these in their order, under the
queue's brand, leaves; the registers hold what the checks of its reads, its counters and its status leave; and while the collector has room
for every record, nothing else changes but the banks' and channels' error lists, the records, and the registers `workRegs` lists. -/
structure Executed (s t : State) (k : Task) (w : Work) : Prop where
  task : taskById t k.id = some { k with ran := true, status := w.status, hm := if cHlm k.cmd then writesHm (writtenLines s (qBrand s k.queue) w) else 0 }
  memory : WroteLines (workLines w) s t
  content : ∀ a, byteAt t a = byteAt (writesFx (writesFx (notesFx s w.notes.eraseDups) (qBrand s k.queue) w.scratch) (qBrand s k.queue) w.writes) a
  frame : EngineFrame s t k
  registers : s.tabA = s.tabB → ∀ a, rd t a = rd (applyWork s (qBrand s k.queue) w) a
  tight : s.flt.fifo.length + w.faults.length + 8 * (w.notes.length + ((workLines w).flatMap pieces).length) + 4 ≤ 256 →
    Framed [.mem, .tab, .flt, .anv, .ddr] (workRegs w) s t

/-- The registers a safety pair's end moves: open changes are aborted, and FAULT_N shows in the Assay's status (R438). -/
def handoverRegs : List Nat := [ASY_STATUS.addr, DBG_STATE.addr] ++ (List.range 9).map (fun g => (FWL_TH_STATUS_STATE g).addr)

/-- A cold reset: the registers that survive one keep their values and every other holds its reset value; the sequencers, the engines and
memory are as after power on; what the always-on, flash and fuse domains hold stays, and the pins are held as a reset holds them
(R441, R445, R446). -/
structure ColdReset (s t : State) : Prop where
  regs : ∀ a, a ≠ FLT_STATUS.addr → rd t a = if coldKeeps a then rd s a else (resetOf a).toNat
  status : getF t FLT_STATUS_RING_WR = 16 ∧ flag t FLT_STATUS_SAFE = false ∧ flag t FLT_STATUS_SERVICE = false ∧
    getF t FLT_STATUS_FIRST = getF s FLT_STATUS_FIRST
  stroke : t.stk = {} ∧ t.car = {} ∧ t.bell = {} ∧ t.time = 0 ∧ t.slew = 0
  engines : t.wld = {} ∧ t.peal = {} ∧ t.tabA = {} ∧ t.tabB = {} ∧ t.tabX = {} ∧ t.asy = {} ∧ t.pln = {}
  memory : t.mem = {} ∧ t.anv = {} ∧ t.ddr = {} ∧ t.ubf = {} ∧ t.fwl = {}
  lasting : t.flt = { first := s.flt.first } ∧ t.start = keptStart s true ∧ t.spr = keptSpr s ∧ t.sec = keptSec s ∧
    t.aonTime = s.aonTime
  rest : t.thm = {} ∧ t.bil = {} ∧ t.pins = heldPins s true false ∧ t.pending = s.pending

/-- A start failed: it shows phase 14 and the cause, its record is in the journal with the next number, RST 0x006 is queued while the
collector has room, and nothing else changes but the registers listed (R443, R458). -/
structure StartFailed (s t : State) (cause : Nat) (also : List Nat) : Prop where
  shown : phase t = 14 ∧ getF t RST_START_CAUSE = cause ∧ mode t = mode s
  record : t.start.journal.any (fun r => r.typ == 3 && r.cause == cause && r.rseq == newestSeq s + 1) = true
  fault : s.flt.fifo.length < 255 → t.flt.fifo.getLast? = some (mkRec s 0x01 0x006 7 0)
  frame : s.flt.fifo.length < 255 → Framed [.start, .flt] ([RST_START.addr, RST_JOURNAL.addr] ++ also) s t

/-- The populated channels a training trained, and those of them put to use: 4 on the smallest grade (R5, R357). -/
abbrev trainedChannels (s : State) (mask : Nat) : List Nat :=
  (List.range 6).filter (fun c => bit mask c && bit (getF s DDR_CFG_POP) c && !flag s (DDR_CH_STATUS_LOST c))
abbrev usedChannels (s : State) (mask : Nat) : List Nat :=
  if s.bil.grade = 24 then (trainedChannels s mask).take 4 else trainedChannels s mask

/-- The registers that show the channels (R357 to R360). -/
def channelRegs : List Nat :=
  [DDR_MAP_ACTIVE.addr, DDR_MAP_C.addr, DDR_MAP_SPARE.addr, DDR_SIZE_LO.addr, DDR_SIZE_HI.addr] ++
    (List.range 6).flatMap (fun c => [(DDR_CH_STATUS_ACTIVE c).addr, (DDR_CH_STATUS_LCH c).addr])

/-- A warm reset: as a cold one, but the DDR keeps its content and its channels in use refresh themselves, the registers that survive a warm
reset keep their values, the collector keeps its records, and the plan ports go on with the messages and settings they have (R441, R446,
R447). -/
structure WarmReset (s t : State) : Prop where
  regs : ∀ a, a ∉ [FLT_STATUS.addr, UBF_NODE_CFG.addr, BEL_CFG.addr] ++ (List.range 6).map (fun c => (DDR_CH_STATUS_SELF_REFRESH c).addr) →
    rd t a = if warmKeeps a then rd s a else (resetOf a).toNat
  channels : ∀ c ∈ List.range 6, flag t (DDR_CH_STATUS_SELF_REFRESH c) = (bit (getF s DDR_MAP_ACTIVE) c || flag s (DDR_CH_STATUS_SELF_REFRESH c))
  straps : getF t UBF_NODE_CFG_ROLE = getF s UBF_NODE_CFG_ROLE ∧ getF t UBF_NODE_CFG_NODE_ID = getF s UBF_NODE_CFG_NODE_ID ∧
    getF t UBF_NODE_CFG_EXP = 0 ∧ getF t BEL_CFG_MANAGER = getF s BEL_CFG_MANAGER
  status : flag t FLT_STATUS_SAFE = false ∧ flag t FLT_STATUS_SERVICE = false ∧ getF t FLT_STATUS_FIRST = getF s FLT_STATUS_FIRST ∧
    getF t FLT_STATUS_RING_WR = getF s FLT_STATUS_RING_WR
  stroke : t.stk = {} ∧ t.car = {} ∧ t.bell = { targetFixed := s.bell.targetFixed } ∧ t.time = 0 ∧ t.slew = 0
  engines : t.wld = {} ∧ t.peal = {} ∧ t.tabA = {} ∧ t.tabB = {} ∧ t.tabX = {} ∧ t.asy = {}
  plan : t.pln = { sent := s.pln.sent, canTx0 := s.pln.canTx0, canTx1 := s.pln.canTx1, eth := s.pln.eth, cfg := s.pln.cfg, seq := s.pln.seq, stroke := s.pln.stroke }
  memory : t.mem = ddrMem s.mem ∧ (∀ a, byteAt t a = if ddrBase ≤ a then byteAt s a else 0) ∧ t.anv = {} ∧ t.ddr = warmDdr s ∧ t.ubf = {} ∧
    t.fwl = {}
  lasting : t.flt = { s.flt with warmPending := false, coldPending := false, warmCauses := 0, coldCauses := 0, serviceIrq := false } ∧
    t.start = keptStart s false ∧ t.spr = keptSpr s ∧ t.sec = keptSec s ∧ t.aonTime = s.aonTime
  rest : t.thm = {} ∧ t.bil = {} ∧ t.pins = heldPins s s.pins.safeState true ∧ t.pending = s.pending

/-- No line of memory is in error, neither where it is stored nor on its way to a port. -/
abbrev NoErrs (s : State) : Prop := s.mem.errs = [] ∧ s.mem.fabErrs = []

/-- What REFINE computes of a task, in its own state, late or stopped at an iterate and phase (R225 to R253). -/
def refineOf (s : State) (k : Task) (late : Bool) (stop : Option (Nat × Nat)) : Work :=
  refineWork s (qBrand s k.queue) k.cmd (taskFrame s k) (bf k.cmd 32 8) (bf k.cmd 40 8) (bf k.cmd 48 8) k.punit late stop false

/-- Some system of the work was stopped by the deadline (R243). -/
def cutShort (w : Work) : Bool := w.bumps.any (fun b => b.1 == QNC_DL_CNT && decide (0 < b.2))

/-- The state after the first part of a Tongs golden task (R413). -/
def tongsGoldMid (s : State) (k : Task) (u : Nat) : State := applyWork s (qBrand s k.queue) (tongsGoldSelect s k u)

/-- What COPY moves, and what FILL does (R316). -/
def copyMove (s : State) (k : Task) : Move := moveLines (moverOf s k 1) (bf k.cmd 16 8) (bf k.cmd 24 8) (bf k.cmd 32 4) { s := s }
def fillMove (s : State) (k : Task) : Move :=
  fillGo (moverOf s k 1) (patternLine ((k.cmd.drop 40).take 8)) (bf k.cmd 32 4 / 4096 + 1) (bf k.cmd 24 8) (bf k.cmd 32 4) { s := s }

/-- The FILL and the COPY of a Bellows golden task whose golden line and pattern are given (R413). -/
def goldMove (s : State) (k : Task) (line pat : List Nat) : Move :=
  moveLines (moverOf s k 1) (fldAt line 8 8) (goldDst k + 0x40) 4096 (fillGo (moverOf s k 1) (patternLine pat) 1 (goldDst k) 64 { s := s })

/-- The registers a Bellows unit's moves touch (R316 to R321). -/
def moveRegs (u : Nat) : List Nat :=
  [BLW_ERR_ADDR_LO.addr, BLW_ERR_ADDR_HI.addr, BLW_RD_ERR.addr, BLW_WR_ERR.addr, (BLW_U_LINES u).addr] ++ denyRegs

/-- A Bellows task's moves were made: the task is kept as run, with the moves' status and the hallmark of the lines written; memory is what
the moves leave, unchanged outside the lines of the n bytes at dst; and within the Anvil, no line in error and the collector with room,
nothing else changes but the task, a record and the registers `moveRegs` lists (R316). -/
structure Moved (s t : State) (k : Task) (u dst n : Nat) (m : Move) : Prop where
  task : taskById t k.id = some { k with ran := true, status := m.st, hm := if cHlm k.cmd then writesHm m.ws else 0 }
  memory : ∀ a, (a / 64 < dst / 64 ∨ (dst + n - 1) / 64 < a / 64) → byteAt t a = byteAt s a
  content : ∀ a, byteAt t a = byteAt m.s a
  frame : EngineFrame s t k
  lines : getF t (BLW_U_LINES u) = getF m.s (BLW_U_LINES u)
  tight : NoErrs s → s.tabA = s.tabB → s.flt.fifo.length < 250 → bf k.cmd 16 8 + n ≤ anvilEnd → dst + n ≤ anvilEnd → InboxApart s dst n →
    Framed [.mem, .tab, .flt] (moveRegs u) s t

end Sys2Proof.Machine
end

