-- ==== Sys2Proof/Certificates/Slice0/Obligations.lean ====
section
/-! DEFINITION. The statements for the provers. Every docstring names the rules of spec/ its statement formalises. A clause says, for
each command it names, that its execution answers a next state, and what that state holds. -/

set_option linter.unusedVariables false

open Sys2Proof Sys2Proof.Machine

/-- A step takes the command at the front of the queue and carries it out on the state with the rest of the queue; on an empty queue the block
idles (log 1, the model's own). -/
def Obligations.StepRunsTheFrontCommand : Prop :=
  ∀ (s : State), (∀ c rest, s.pending = c :: rest → step s = exec c { s with pending := rest }) ∧ (s.pending = [] → step s = .next s)

/-- No command faults or is refused: every command answers a next state from every state, and leaves the queue of the waiting commands as it
is, so that a step takes exactly the front one (the model's own, log 1). -/
def Obligations.EveryCommandCompletesAndTakesOnlyItself : Prop :=
  (∀ (i : Instr) (s : State), ∃ t, exec i s = .next t ∧ t.pending = s.pending) ∧ ∀ s, ∃ t, step s = .next t ∧ t.pending = s.pending.tail

/-- The canonical form holds in every state a step reaches from one where it holds: the registers' and the memory's lists stay sorted, list
nothing at its unlisted value, and there are four links (R13, R374). -/
def Obligations.StepKeepsTheCanonicalForm : Prop :=
  ∀ (s t : State), s.Inv → step s = .next t → t.Inv

/-- The state after reset is in canonical form, its queue is empty, and the registers show the reset values the spec gives: source 6, heat 1
next, no lane spared, ring log at 16, no stroke begun, nothing in memory (R20, R75, R78, R403). -/
def Obligations.ResetIsCanonicalWithTheStatedValues : Prop :=
  State.reset.Inv ∧ State.reset.pending = [] ∧ source State.reset = 6 ∧ getF State.reset CRU_HEAT_STAGING = 1 ∧
    getF State.reset CRU_HEAT_SEALED = 0 ∧ getF State.reset FLT_STATUS_RING_WR = 16 ∧ mode State.reset = 2 ∧
    (∀ l, l < 4 → linkState State.reset l = 0 ∧ getF State.reset (UBF_L_STATUS_TX_BAD l) = 0xF ∧
      getF State.reset (UBF_L_STATUS_RX_BAD l) = 0xF ∧ getF State.reset (UBF_L_STATUS_PEER_VALID l) = 0) ∧
    State.reset.stk.any = false ∧ (∀ a, byteAt State.reset a = 0) ∧ State.reset.flt.fifo = []

/-- R78: after a cold or warm reset heat 1 is the next to be sealed; each seal, on time or at SEAL_MAX, gives the staging heat's number to the
sealed heat and adds 1 to it, with 1 after 0xFFFF_FFFF, so that 0 is never assigned; HEAT 0 of a command is the current sealed heat. The
CRU.HEAT registers hold the two numbers. -/
def Obligations.HeatNumbersRunFromOne : Prop :=
  (∀ s, getF (coldState s) CRU_HEAT_STAGING = 1 ∧ getF (warmState s) CRU_HEAT_STAGING = 1) ∧
  (∀ (s : State) (at_ : Nat), s.Inv → s.wld.sealPending = true →
    ((inRepro s = true ∧ s.wld.markReached = true ∨
        inRepro s = false ∧ ringEmpty s 0 = true ∧ ringEmpty s 1 = true ∧ s.wld.copying = false) →
      ∃ t, exec (.sealComplete at_) s = .next t ∧ getF t CRU_HEAT_SEALED = getF s CRU_HEAT_STAGING ∧
        getF t CRU_HEAT_STAGING = (if getF s CRU_HEAT_STAGING = 0xFFFFFFFF then 1 else getF s CRU_HEAT_STAGING + 1) ∧
        getF t CRU_HEAT_STAGING ≠ 0) ∧
    (inRepro s = false → s.wld.sealTime + getF s CRU_CFG1_SEAL_MAX * 1000 ≤ at_ → unappliedAll s ≠ 0 →
      ∃ t, exec (.sealMaxExpired at_) s = .next t ∧ getF t CRU_HEAT_SEALED = getF s CRU_HEAT_STAGING ∧
        getF t CRU_HEAT_STAGING = (if getF s CRU_HEAT_STAGING = 0xFFFFFFFF then 1 else getF s CRU_HEAT_STAGING + 1) ∧
        getF t CRU_HEAT_STAGING ≠ 0)) ∧
  (∀ (s : State) (k : Task), tGold k = false → k.redisp = false → cHeat k.cmd = 0 → resolveHeat s k = some (getF s CRU_HEAT_SEALED))

/-- R63: while SWAP_REQ is set, a write to the inactive bank window, as TIMETABLE_WRITE or as a register write, is answered with an error and
changes nothing. -/
def Obligations.WritesWaitForTheSwap : Prop :=
  ∀ (s : State) (brand addr value hw : Nat), getF s CAR_BANK_CTRL_SWAP_REQ = 1 → 0x40410000 ≤ addr → addr < 0x40411000 → addr % 4 = 0 →
    fwDenies s 2 brand 1 addr 4 = none →
    ∃ t, exec (.timetableWrite brand addr value) s = .next t ∧ exec (.registerWrite brand addr 4 value hw) s = .next t ∧
      t = { s with resp := .error }

/-- R292: the priority of a task that enters, read from its queue or injected, is its PRI when that is not 0, and its queue's DEFPRI
otherwise, so that it is 0 only when DEFPRI is. -/
def Obligations.PriorityComesFromTheCommandOrItsQueue : Prop :=
  ∀ (s : State) (q : Nat) (c : List Nat) (ns : List Note), q < 64 → (tasks s).length < 65536 →
    (injectDue s q = some c ∧ ns = [] ∨
      injectDue s q = none ∧ qHead s q ≠ qTail s q ∧ readBrand s 0x21 (slotAddr s q (qHead s q)) = (some c, ns)) →
    admitStop (notesFx s ns) q c = 0 →
    ∃ t k, exec (.commandAdmit q) s = .next t ∧ tasks t = tasks s ++ [k] ∧
      k.pri = (if cPri c ≠ 0 then cPri c else getF s (TAB_Q_CFG_DEFPRI q)) ∧ (k.pri = 0 → getF s (TAB_Q_CFG_DEFPRI q) = 0)

/-- R132: counting seals with `nextHeat` (R78), the age of a lattice of heat H in the heat k seals later is k, at any place of the wrap; H is
a heat number, and k fewer than a whole round of them. -/
def Obligations.LatticeAgeCountsSeals : Prop :=
  ∀ (h k : Nat), 0 < h → h < 2 ^ 32 → k < 2 ^ 32 - 1 →
    latAge (Nat.repeat (fun n => if n = 0xFFFFFFFF then 1 else n + 1) k h) h = k

/-- R454, R466, R471, R480, R505: what outlives power is changed by its own commands alone, whatever else the device does: a boot slot by
WRITE_SLOT, the version floor by RPMB_CHECK and FULL_SERVICE, the wear records by WEAR_RECORD_WRITE and FULL_SERVICE. All rows. -/
def Obligations.LastingStateChangesOnlyByItsCommands : Prop :=
  ∀ (i : Instr) (s t : State), exec i s = .next t →
    ((∀ o n sl off b, i ≠ .writeSlot o n sl off b) → t.start.slotA = s.start.slotA ∧ t.start.slotB = s.start.slotB) ∧
    ((∀ a, i ≠ .rpmbCheck a) → (∀ a m ok, i ≠ .fullService a m ok) → t.start.minVer = s.start.minVer) ∧
    (i ≠ .wearRecordWrite → (∀ a m ok, i ≠ .fullService a m ok) → t.spr.records = s.spr.records ∧ t.spr.wearSeq = s.spr.wearSeq)

/-- R16: an access is 32 bits wide and aligned. Otherwise a granted one writes nothing to the register: an error answers it and a class 0
record with code 0x000 is queued, the unit field the brand. R422: a denied register access answers an error, keeps its target, brand and
address in FWL.DENY_LAST and FWL.DENY_INFO, and queues FWL 0x001; memory and every other register stay. Register writes of every special
command go through the same check. -/
def Obligations.RefusedRegisterAccessesChangeNothingElse : Prop :=
  (∀ (s : State) (brand addr width value hw : Nat), (width ≠ 4 ∨ addr % 4 ≠ 0) → regBase ≤ addr → addr < 0x42000000 →
      tapOffers brand addr = false → fwDenies s 2 brand 0 addr width = none → fwDenies s 2 brand 1 addr width = none →
      s.flt.fifo.length < 256 → blockOf addr ≤ 0x1E →
      ∃ t, exec (.registerRead brand addr width) s = .next t ∧ exec (.registerWrite brand addr width value hw) s = .next t ∧
        t.resp = .error ∧ (∀ a, rd t a = rd s a) ∧ SameMem s t ∧
        t.flt.fifo = s.flt.fifo ++ [mkRec s (blockOf addr) 0x000 0 brand] ∧
          PartsBut [.flt] s t) ∧
  (∀ (s : State) (brand addr width value hw cls : Nat), s.Inv → brand < 256 → addr < 2 ^ 48 → regBase ≤ addr → addr < 0x44000000 →
      tapOffers brand addr = false → fwDenies s 2 brand 1 addr width = some cls → s.flt.fifo.length < 256 →
      ∃ t, exec (.registerWrite brand addr width value hw) s = .next t ∧ t.resp = .error ∧
        get64 t FWL_DENY_LAST_LO FWL_DENY_LAST_HI = addr ∧ getF t FWL_DENY_INFO_BRAND = brand ∧ getF t FWL_DENY_INFO_KIND = 1 ∧
        getF t FWL_DENY_INFO_TARGET = 2 ∧ t.flt.fifo = s.flt.fifo ++ [mkRec s 0x12 0x001 cls 2] ∧
        RegsBut [FWL_DENY_LAST_LO.addr, FWL_DENY_LAST_HI.addr, FWL_DENY_INFO_BRAND.addr] s t ∧ SameMem s t ∧
          PartsBut [.flt] s t)

/-- R17, R18: a granted read of a register answers the bits its row lets a read show, or what the register shows of other state (`viewOf`);
nothing but RC bits changes in a register. REGISTER_READ, RC_READ. R75: a read of a LO word answers the low 32 bits and latches the high 32
bits into its HI word, which a read of the HI word then answers: stroke number, stroke time, vehicle time. -/
def Obligations.GrantedReadsAnswerTheShownBits : Prop :=
  (∀ (s : State) (brand addr hw : Nat) (r : RegRow), s.Inv → addr % 4 = 0 → regBase ≤ addr → addr < 0x44000000 → rowAt addr = some r →
      fwDenies s 2 brand 0 addr 4 = none →
      ∃ t u, exec (.registerRead brand addr 4) s = .next t ∧ exec (.rcRead brand addr hw) s = .next u ∧
        t.resp = .value (shown s addr r) ∧ u.resp = .value (shown s addr r) ∧
        rd t addr = (if r.rc = 0 then rd s addr else Nat.xor (rd s addr) (Nat.land (rd s addr) r.rc)) % 2 ^ 32 ∧
        rd u addr = (if r.rc = 0 then rd s addr else Nat.lor (Nat.xor (rd s addr) (Nat.land (rd s addr) r.rc)) (Nat.land hw r.rc)) % 2 ^ 32 ∧
        RegsBut [addr] s t ∧ RegsBut [addr] s u ∧ SameMem s t ∧ SameMem s u ∧
          PartsBut [.hi] s t ∧ PartsBut [.hi] s u) ∧
  (∀ (s : State) (brand : Nat), fwDenies s 2 brand 0 CAR_STROKE_LO.addr 4 = none → fwDenies s 2 brand 0 CAR_STROKE_TAI_LO.addr 4 = none →
      fwDenies s 2 brand 0 CAR_TIME_LO.addr 4 = none →
      ∃ t u v, exec (.loWordRead brand CAR_STROKE_LO.addr) s = .next t ∧ exec (.loWordRead brand CAR_STROKE_TAI_LO.addr) s = .next u ∧
        exec (.loWordRead brand CAR_TIME_LO.addr) s = .next v ∧
        t.resp = .value (s.stk.no % 2 ^ 32) ∧ viewOf t CAR_STROKE_HI.addr = some (s.stk.no / 2 ^ 32 % 2 ^ 32) ∧
        u.resp = .value (s.stk.time % 2 ^ 32) ∧ viewOf u CAR_STROKE_TAI_HI.addr = some (s.stk.time / 2 ^ 32 % 2 ^ 32) ∧
        v.resp = .value (s.time % 2 ^ 32) ∧ viewOf v CAR_TIME_HI.addr = some (s.time / 2 ^ 32 % 2 ^ 32) ∧
          Framed [.hi] [] s t ∧ Framed [.hi] [] s u ∧ Framed [.hi] [] s v)

/-- R17: a granted write of a register without an effect of its own (`special`) leaves the bits `written` gives, and no other register
changes. REGISTER_WRITE. -/
def Obligations.GrantedWriteTakesTheWritableBits : Prop :=
  ∀ (s : State) (brand addr value hw : Nat) (r : RegRow), s.Inv → addr % 4 = 0 → regBase ≤ addr → addr < 0x44000000 →
    rowAt addr = some r → fwDenies s 2 brand 1 addr 4 = none → special s brand addr (value % 2 ^ 32) hw r = none →
    ∃ t, exec (.registerWrite brand addr 4 value hw) s = .next t ∧ t.resp = .ok ∧
      rd t addr = written r (rd s addr) (value % 2 ^ 32) hw % 2 ^ 32 ∧ RegsBut [addr] s t ∧ SameMem s t ∧ t.flt = s.flt ∧
        PartsBut [] s t

/-- R17, R19: of the word a write leaves, an RW bit takes the written bit, a read-only bit keeps its own, a W1C bit clears on a one unless
hardware sets it in the same cycle, and a W1S bit is set by a one. The masks of the row are disjoint. -/
def Obligations.WrittenBitsFollowTheAccessCodes : Prop :=
  ∀ (r : RegRow) (old v hw i : Nat), r.wo = 0 → Nat.land r.rw r.w1c = 0 → Nat.land r.rw r.w1s = 0 → Nat.land r.w1c r.w1s = 0 →
    (r.rw.testBit i = true → (written r old v hw).testBit i = v.testBit i) ∧
    (r.w1s.testBit i = true → (written r old v hw).testBit i = (old.testBit i || v.testBit i)) ∧
    (r.w1c.testBit i = true → (written r old v hw).testBit i = (hw.testBit i || (old.testBit i && !v.testBit i))) ∧
    (r.rw.testBit i = false → r.w1s.testBit i = false → r.w1c.testBit i = false → (written r old v hw).testBit i = old.testBit i)

/-- R46, R47: while STROKE_IN is the source, a rising edge that stays high for 50 ns, at least half a period after the last accepted one,
becomes the last accepted edge and a stroke that waits for its instant; an edge of less than 50 ns is ignored and counted. STROKE_IN_EDGE. -/
def Obligations.StrokeInEdgeIsFiltered : Prop :=
  ∀ (s : State) (at_ highNs : Nat), s.Inv → isWorker s = false → takesStrokes s = true → gptpPrimary s = false → onFlywheel s = false →
    source s = 0 → inRepro s = false →
    (50 ≤ highNs → gptpValid s = true → (∀ last, s.stk.lastAccepted = some last → period s ≤ 2 * (at_ - last)) →
      ∃ t, exec (.strokeInEdge at_ highNs) s = .next t ∧ t.stk.lastAccepted = some at_ ∧
        t.stk.awaiting = some (strokeNumber s at_, at_, at_ + targetNs s) ∧ t.stk.lastStroke = some (strokeNumber s at_, at_) ∧
        Framed [.stk, .time, .pins, .ubf] [CAR_STATUS.addr] s t) ∧
    (highNs < 50 → s.stk.ignored < 8 →
      ∃ t, exec (.strokeInEdge at_ highNs) s = .next t ∧ t.stk.ignored = s.stk.ignored + 1 ∧ t.stk.lastAccepted = s.stk.lastAccepted ∧
        t.stk.awaiting = s.stk.awaiting ∧ getF t CAR_SI_IGNORED = min (getF s CAR_SI_IGNORED + 1) (2 ^ 32 - 1) ∧
        Framed [.stk, .time] [CAR_SI_IGNORED.addr] s t)

/-- R50: 1.5 periods after the last accepted edge the manager enters the flywheel: CAR 0x003 of class 3, the slot grid anchored at that edge,
source 1 with valid gPTP. STROKE_IN_MISSING. R43, R48, R52: a flywheel slot after the changeover, and a computed stroke at EPOCH + k × period,
give a stroke outside REPRO mode: its number and time wait for the stroke instant. FLYWHEEL_STROKE, COMPUTED_STROKE. -/
def Obligations.StrokesGoOnWithoutStrokeIn : Prop :=
  (∀ (s : State) (at_ last : Nat), s.Inv → takesStrokes s = true → isManager s = true → source s = 0 → s.stk.lastAccepted = some last →
      3 * period s ≤ 2 * (at_ - last) → gptpValid s = true → s.flt.fifo.length < 256 →
      ∃ t, exec (.strokeInMissing at_) s = .next t ∧ source t = 1 ∧ getF t CAR_STATUS_SI_USABLE = 0 ∧ t.stk.anchor = some last ∧
        t.stk.changeAt = last + 3 * period s / 2 ∧ t.flt.fifo = s.flt.fifo ++ [mkRec (atTime s at_) 0x04 0x003 3 0] ∧
          Framed [.stk, .time, .flt] [CAR_STATUS.addr] s t) ∧
  (∀ (s : State) (at_ : Nat), takesStrokes s = true → isManager s = true → inRepro s = false →
      (∀ a, onFlywheel s = true → s.stk.anchor = some a → a < at_ → (at_ - a) % period s = 0 → s.stk.changeAt ≤ at_ →
        ∃ t, exec (.flywheelStroke at_) s = .next t ∧ t.stk.awaiting = some (strokeNumber s at_, at_, at_ + targetNs s) ∧
          t.stk.lastStroke = some (strokeNumber s at_, at_) ∧
          Framed [.stk, .time, .pins, .ubf] [] s t) ∧
      (gptpPrimary s = true → (source s = 2 ∨ source s = 5) → s.stk.takeFrom.getD 0 ≤ at_ → epoch s ≤ at_ → (at_ - epoch s) % period s = 0 →
        ∃ t, exec (.computedStroke at_) s = .next t ∧ t.stk.awaiting = some (strokeNumber s at_, at_, at_ + targetNs s) ∧
          t.stk.lastStroke = some (strokeNumber s at_, at_) ∧
          Framed [.stk, .time, .pins, .ubf] [] s t))

/-- R53 to R55: losing gPTP clears GPTP_VALID, starts the holdover count and writes CAR 0x005 of class 3; after 1 s of holdover with no other
source the strokes are lost (CAR 0x006 of class 5, source 6); a return before that sets GPTP_VALID and, from source 5, goes back to source 1
or 2 with CAR 0x00E. GPTP_LOST, HOLDOVER_EXPIRED, GPTP_RESTORED. -/
def Obligations.GptpLossHoldoverAndReturn : Prop :=
  ∀ (s : State) (at_ gptp : Nat), s.Inv → s.flt.fifo.length < 256 →
    (gptpValid s = true → s.pln.strokeLoss = false → source s = 1 →
      ∃ t, exec (.gptpLost at_) s = .next t ∧ gptpValid t = false ∧ source t = 5 ∧ t.stk.holdStart = some at_ ∧
        t.flt.fifo = s.flt.fifo ++ [mkRec (atTime s at_) 0x04 0x005 3 0] ∧
        Framed [.stk, .time, .flt] [CAR_STATUS.addr, CAR_HOLD_ELAPSED.addr] s t) ∧
    (∀ h, gptpValid s = false → s.stk.holdStart = some h → h + 1000000000 ≤ at_ → at_ < 2 ^ 64 → source s = 5 →
      ∃ t, exec (.holdoverExpired at_) s = .next t ∧ source t = 6 ∧ t.pln.strokeLoss = true ∧
        t.flt.fifo = s.flt.fifo ++ [mkRec (atTime s at_) 0x04 0x006 5 0] ∧
        Framed [.pln, .time, .flt] [CAR_STATUS.addr] s t) ∧
    (gptpValid s = false → source s = 5 →
      ∃ t, exec (.gptpRestored { at_ := at_, gptp := gptp }) s = .next t ∧ gptpValid t = true ∧ t.stk.holdStart = none ∧
        source t = (if gptpPrimary s then 2 else 1) ∧ t.flt.fifo = s.flt.fifo ++ [mkRec t 0x04 0x00E 0 0] ∧
        (s.stk.gptpEver = true → t.time = (atTime s at_).time ∧ t.slew = (gptp : Int) - (atTime s at_).time) ∧
        Framed [.stk, .time, .flt] [CAR_STATUS.addr, CAR_HOLD_ELAPSED.addr] s t)

/-- R41, R61: at the stroke instant the waiting stroke becomes the current one, and nothing waits any more; its number, its time and its
instant are those that waited. What belongs to the stroke begins anew: nothing is due, launched, decided or built. Beside that the stroke
moves the bank, its counters and marks; a golden task that did not run, a map that waits and a vacant index change the units, too.
STROKE_INSTANT, and REPRO_STROKE in REPRO mode once the previous stroke has ended. -/
def Obligations.StrokeInstantMakesTheWaitingStrokeCurrent : Prop :=
  ∀ (s : State) (at_ n tai inst : Nat), s.Inv → s.stk.awaiting = some (n, tai, inst) → flag s TOP_MODE_REQ_PEND = false →
    (inst ≤ at_ → inRepro s = false → (isManager s = true → s.stk.lastStroke = none ∨ s.stk.lastStroke = some (n, tai)) →
      ∃ t, exec (.strokeInstant at_) s = .next t ∧
        t.stk = { s.stk with no := n, time := tai, inst := inst, any := true, awaiting := none, planDone := false, ignored := 0 } ∧
        t.pln.stroke = (n, tai) ∧ t.pln.decided = none ∧ t.pln.message = none ∧ t.car.due = [] ∧ t.car.settled = [] ∧ t.car.launched = [] ∧
        getF t CAR_STATUS_REPRO_WAIT = 0 ∧ getF t CAR_BANK_CTRL_SWAP_REQ = 0 ∧ SameMem s t ∧
        PartsBut [.stk, .car, .time, .fwl, .ubf, .asy, .spr, .anv, .ddr, .flt, .tab, .tabX, .free, .pins, .bell, .pln, .peal] s t ∧
        BlocksBut [0x00, 0x04, 0x06, 0x07, 0x09, 0x0A, 0x0B, 0x0C, 0x0D, 0x0E, 0x0F, 0x10, 0x11, 0x16, 0x1E] s t) ∧
    (inst ≤ at_ → inRepro s = false → (isManager s = true → s.stk.lastStroke = none ∨ s.stk.lastStroke = some (n, tai)) →
        missedGolden s = [] → s.fwl.mapPending = none → s.spr.vacant = [] → s.flt.fifo.length + 4 ≤ 256 →
      ∃ t, exec (.strokeInstant at_) s = .next t ∧ t.spr = { s.spr with proDone := false } ∧
        t.tabX = { s.tabX with gates := s.tabX.gates.filter (fun g => g != 4 && g != 5), goldDone := [], badHdr := [] } ∧
        Framed [.stk, .car, .time, .ubf, .asy, .spr, .anv, .ddr, .flt, .tabX, .bell, .pln] [CAR_BANK_CTRL.addr, CAR_STATUS.addr,
          CAR_SKIPPED.addr, ASY_NOPLAN_CNT.addr, ASY_STATUS.addr, (ASY_U_STATUS_PHASE (assayUnit s)).addr, UBF_NODE_ADMIT.addr] s t) ∧
    (inRepro s = true → reproBusy (atTime s at_) = false →
      ∃ t, exec (.reproStroke at_) s = .next t ∧
        t.stk = { s.stk with no := n, time := tai, inst := max inst at_, any := true, awaiting := none, planDone := false, ignored := 0 } ∧
        t.pln.stroke = (n, tai) ∧ t.pln.decided = none ∧ t.car.due = [] ∧ t.car.settled = [] ∧ t.car.launched = [] ∧
        getF t CAR_STATUS_REPRO_WAIT = 0 ∧ getF t CAR_BANK_CTRL_SWAP_REQ = 0 ∧ SameMem s t ∧
        PartsBut [.stk, .car, .time, .fwl, .ubf, .asy, .spr, .anv, .ddr, .flt, .tab, .tabX, .free, .pins, .bell, .pln, .peal] s t ∧
        BlocksBut [0x00, 0x04, 0x06, 0x07, 0x09, 0x0A, 0x0B, 0x0C, 0x0D, 0x0E, 0x0F, 0x10, 0x11, 0x16, 0x1E] s t) ∧
    (inRepro s = true → reproBusy (atTime s at_) = false → missedGolden s = [] → s.fwl.mapPending = none → s.spr.vacant = [] →
        s.flt.fifo.length + 4 ≤ 256 →
      ∃ t, exec (.reproStroke at_) s = .next t ∧ t.spr = { s.spr with proDone := false } ∧
        Framed [.stk, .car, .time, .ubf, .asy, .spr, .anv, .ddr, .flt, .tabX, .bell, .pln] [CAR_BANK_CTRL.addr, CAR_STATUS.addr,
          ASY_STATUS.addr, (ASY_U_STATUS_PHASE (assayUnit s)).addr, UBF_NODE_ADMIT.addr] s t)

/-- R57 to R60, R23: an entry of the current stroke that falls due is queued at its due moment, in the order of R58; the first queued entry
whose list fits its queue has its list copied, whole, and is settled; a list that cannot be read is abandoned with CAR 0x00C; the end of a
copy rings the queue's doorbell with the advanced tail; an entry not launched by its late limit is skipped with CAR 0x007. The shadow unit
does the same on its own copy; one that decides otherwise is CAR 0x009. ENTRY_DUE, LAUNCH_START, LAUNCH_COPY_DONE, LAUNCH_LATE. -/
def Obligations.TimetableEntriesFallDueLaunchOrAreLate : Prop :=
  ∀ (s : State) (at_ idx : Nat), s.Inv → liveWords s = shadowWords s → s.car.shadowSettled = s.car.settled → s.flt.fifo.length < 256 →
    (mayLaunch s = true → (strokeEntries s).contains idx = true → s.stk.inst + eOffset (liveWords s) idx ≤ at_ →
        s.car.settled.contains idx = false → s.car.due.any (fun p => p.1 == idx) = false → s.car.copying.any (fun c => c.1 == idx) = false →
        s.car.shadowDue = s.car.due →
      ∃ t, exec (.entryDue at_ idx) s = .next t ∧
        t.car = { s.car with due := insertDue (clocksPer5 s) s.car.due (idx, s.stk.inst + eOffset (liveWords s) idx),
                             shadowDue := insertDue (clocksPer5 s) s.car.due (idx, s.stk.inst + eOffset (liveWords s) idx) } ∧
        Framed [.car, .time] [] s t) ∧
    (∀ due rest bs, s.car.due = (idx, due) :: rest → s.car.shadowDue = s.car.due → s.car.copying = none →
        (inRepro s = true ∨ at_ ≤ lateAt s idx) → eCount (liveWords s) idx ≤ qFree s (eQueue (liveWords s) idx) →
        ((rdBytes s 0x20 (eList (liveWords s) idx) (eCount (liveWords s) idx * 64)).run []).1 = some bs →
        ((rdBytes s 0x20 (eList (liveWords s) idx) (eCount (liveWords s) idx * 64)).run []).2 = [] →
        s.flt.fifo.length + 8 * eCount (liveWords s) idx < 256 →
      ∃ t, exec (.launchStart at_) s = .next t ∧
        t.car = { s.car with due := (s.car.due.filter (fun p => p.1 != idx)), shadowDue := (s.car.due.filter (fun p => p.1 != idx)),
                             settled := insertNew s.car.settled idx, shadowSettled := insertNew s.car.settled idx,
                             copying := some (idx, eQueue (liveWords s) idx, eCount (liveWords s) idx) } ∧
        getF t CAR_LAUNCH_LAG = max (getF s CAR_LAUNCH_LAG) (min (at_ - due) (2 ^ CAR_LAUNCH_LAG.w - 1)) ∧
        (∀ a, byteAt t a = byteAt ((List.range (eCount (liveWords s) idx)).foldl (fun u k => (storeBrand u 0x20 (slotAddr s (eQueue (liveWords s) idx)
          (qTail s (eQueue (liveWords s) idx) + k)) ((bs.drop (k * 64)).take 64)).1) s) a) ∧
        (∀ a, (∀ k < eCount (liveWords s) idx, a < slotAddr s (eQueue (liveWords s) idx) (qTail s (eQueue (liveWords s) idx) + k) ∨
          slotAddr s (eQueue (liveWords s) idx) (qTail s (eQueue (liveWords s) idx) + k) + 64 ≤ a) → byteAt t a = byteAt s a) ∧
        Framed [.mem, .car, .time, .flt, .anv, .ddr, .ubf] (CAR_LAUNCH_LAG.addr :: (denyRegs ++ inboxRegs ++ checkRegs)) s t) ∧
    (∀ due rest ns, s.car.due = (idx, due) :: rest → s.car.shadowDue = s.car.due → s.car.copying = none →
        (inRepro s = true ∨ at_ ≤ lateAt s idx) → eCount (liveWords s) idx ≤ qFree s (eQueue (liveWords s) idx) →
        ((rdBytes s 0x20 (eList (liveWords s) idx) (eCount (liveWords s) idx * 64)).run []).1 = none →
        ((rdBytes s 0x20 (eList (liveWords s) idx) (eCount (liveWords s) idx * 64)).run []).2 = ns →
        s.flt.fifo.length + 4 * ns.length < 256 →
      ∃ t, exec (.launchStart at_) s = .next t ∧
        t.car = { s.car with due := (s.car.due.filter (fun p => p.1 != idx)), shadowDue := (s.car.due.filter (fun p => p.1 != idx)),
                             settled := insertNew s.car.settled idx, shadowSettled := insertNew s.car.settled idx } ∧
        t.flt.fifo = (notesFx (atTime s at_) ns).flt.fifo ++ [mkRec (atTime s at_) 0x04 0x00C 3 idx] ∧ SameMem s t ∧
        Framed [.car, .time, .flt, .anv, .ddr] (denyRegs ++ checkRegs) s t) ∧
    (∀ q n, s.car.copying = some (idx, q, n) → q < 64 → getF s (TAB_Q_CFG2_PRODUCER q) = 0x20 → getF s (TAB_Q_CFG_EN q) = 1 →
        sub32 ((qTail s q + n) % 2 ^ 32) (qTail s q) ≤ qSize s q → sub32 ((qTail s q + n) % 2 ^ 32) (qHead s q) ≤ qSize s q →
      ∃ t, exec (.launchCopyDone at_) s = .next t ∧
        t.car = { s.car with copying := none, launched := s.car.launched ++ [(q, (qTail s q + n) % 2 ^ 32)] } ∧
        qTail t q = (qTail s q + n) % 2 ^ 32 ∧ qHead t q = qHead s q ∧
        Framed [.car, .time, .ubf] [(TAB_Q_TAIL q).addr, (TAB_Q_DEPTH_MAX q).addr] s t) ∧
    (∀ q n, s.car.copying = some (idx, q, n) → q < 64 → getF s (TAB_Q_CFG2_PRODUCER q) ≠ 0x20 →
      ∃ t, exec (.launchCopyDone at_) s = .next t ∧ t.car.copying = none ∧ qTail t q = qTail s q ∧
        t.flt.fifo = s.flt.fifo ++ [mkRec (atTime s at_) 0x06 0x001 0 q] ∧ Framed [.car, .time, .ubf, .flt] [] s t) ∧
    (mayLaunch s = true → inRepro s = false → (strokeEntries s).contains idx = true → s.car.settled.contains idx = false →
        s.car.copying.any (fun c => c.1 == idx) = false → lateAt s idx ≤ at_ → s.car.shadowDue = s.car.due →
      ∃ t, exec (.launchLate at_ idx) s = .next t ∧ getF t CAR_LATE_CNT = min (getF s CAR_LATE_CNT + 1) (2 ^ 32 - 1) ∧
        t.car = { s.car with due := (s.car.due.filter (fun p => p.1 != idx)), shadowDue := (s.car.due.filter (fun p => p.1 != idx)),
                             settled := insertNew s.car.settled idx, shadowSettled := insertNew s.car.settled idx } ∧
        t.flt.fifo = s.flt.fifo ++ [mkRec (atTime s at_) 0x04 0x007 3 idx] ∧
        Framed [.car, .time, .flt] [CAR_LATE_CNT.addr] s t) ∧
    (mayLaunch s = true → (strokeEntries s).contains idx = true → s.stk.inst + eOffset (liveWords s) idx ≤ at_ →
        s.car.settled.contains idx = false → s.car.due.any (fun p => p.1 == idx) = true → s.car.copying.any (fun c => c.1 == idx) = false →
        s.car.shadowDue = [] →
      ∃ t, exec (.entryDue at_ idx) s = .next t ∧ t.asy.shadowBad = true ∧ t.car.due = s.car.due ∧
        t.flt.fifo = s.flt.fifo ++ [mkRec (atTime s at_) 0x04 0x009 5 0] ∧ Framed [.car, .time, .asy, .flt] [] s t)

/-- R62: a granted swap request sets SWAP_REQ, and a granted write of the timetable window is kept in the inactive bank, in the primary's copy
and the shadow's; the active bank does not change. SWAP_REQ, TIMETABLE_WRITE. -/
def Obligations.TimetableWritesGoToTheInactiveBank : Prop :=
  ∀ (s : State) (brand : Nat), s.Inv →
    (fwDenies s 2 brand 1 CAR_BANK_CTRL.addr 4 = none →
      ∃ t, exec (.swapReq brand) s = .next t ∧ getF t CAR_BANK_CTRL_SWAP_REQ = 1 ∧ t.resp = .ok ∧ RegsBut [CAR_BANK_CTRL.addr] s t ∧
        PartsBut [] s t) ∧
    (∀ addr value, flag s CAR_BANK_CTRL_SWAP_REQ = false → 0x40410000 ≤ addr → addr < 0x40411000 → addr % 4 = 0 →
        fwDenies s 2 brand 1 addr 4 = none →
      ∃ t, exec (.timetableWrite brand addr value) s = .next t ∧ t.resp = .ok ∧
        bankWords t (activeBank s) false = bankWords s (activeBank s) false ∧
        bankWords t (1 - activeBank s) false = nset (bankWords s (1 - activeBank s) false) ((addr - 0x40410000) / 4) (value % 2 ^ 32) ∧
        bankWords t (1 - activeBank s) true = nset (bankWords s (1 - activeBank s) true) ((addr - 0x40410000) / 4) (value % 2 ^ 32) ∧
        Framed [.car] [] s t)

/-- R65, R67, R73: at an admitted worker a Bell pulse of 20 ns, half a period after the last one, is the worker's stroke edge, whose instant
is BEL.COMP later; a shorter or earlier pulse is ignored and counted; after 1.5 periods without an edge, since the last one or since the
admission, the worker goes to sync-VC strokes (source 4, BEL 0x002 of class 3). BELL_EDGE, BELL_MISSING. R72, R395: a STROKE message for this
worker that comes before its Bell edge waits for it; one that comes within 100 µs of the edge gives the waiting stroke its number and time,
and is compared with the edge (R71); one that does not come within 100 µs of the edge counts in NUM_MISMATCH with BEL 0x003 of class 3.
STROKE, STROKE_MESSAGE_LATE. -/
def Obligations.WorkersTakeStrokesFromTheBellLine : Prop :=
  (∀ (s : State) (at_ highNs : Nat), s.Inv → isWorker s = true → s.bell.admitted = true → s.ubf.orphan = false →
      (source s = 3 → 20 ≤ highNs → inCalWindow s at_ = false → waitsRepro s = false → s.flt.fifo.length < 256 →
          (∀ last, s.bell.lastAccepted = some last → period s ≤ 2 * (at_ - last)) →
        ∃ t n tai, exec (.bellEdge at_ highNs) s = .next t ∧ t.bell.lastAccepted = some at_ ∧ t.bell.edgeAt = some at_ ∧
          t.stk = { s.stk with awaiting := some (n, tai, at_ + getF s BEL_COMP) } ∧ getF t BEL_STATUS_EDGE_OK = 1 ∧
          (earlyMessage s at_ = some (n, tai) ∧ getF t BEL_STATUS_NUM_OK = 1 ∧ t.bell.guessed = false ∨
            earlyMessage s at_ = none ∧ getF t BEL_STATUS_NUM_OK = 0 ∧ t.bell.guessed = true) ∧
          Framed [.stk, .bell, .time, .pins, .flt] [BEL_STATUS.addr, BEL_SKEW_LAST.addr] s t) ∧
      (∀ last, source s = 3 → s.bell.lastAccepted = some last → inCalWindow s at_ = false → (highNs < 20 ∨ 2 * (at_ - last) < period s) →
          s.bell.ignored < 8 →
        ∃ t, exec (.bellEdge at_ highNs) s = .next t ∧ t.bell = { s.bell with ignored := s.bell.ignored + 1 } ∧
          getF t BEL_EDGE_IGNORED = min (getF s BEL_EDGE_IGNORED + 1) (2 ^ BEL_EDGE_IGNORED.w - 1) ∧ (highNs < 20 → t.pins = s.pins) ∧
          Framed [.bell, .time, .pins] [BEL_EDGE_IGNORED.addr] s t) ∧
      (source s = 3 → 3 * period s ≤ 2 * (at_ - bellSince s) → s.flt.fifo.length < 256 →
        ∃ t, exec (.bellMissing at_) s = .next t ∧ source t = 4 ∧ getF t BEL_STATUS_EDGE_OK = 0 ∧
          t.bell = { s.bell with missing := true, goodEdges := 0, edgeAt := none } ∧
          t.flt.fifo = s.flt.fifo ++ [mkRec (atTime s at_) 0x05 0x002 3 0] ∧
          Framed [.bell, .time, .flt] [CAR_STATUS.addr, BEL_STATUS.addr] s t) ∧
      (source s = 6 → 3 * period s ≤ 2 * (at_ - bellSince s) → s.flt.fifo.length < 255 →
        ∃ t, exec (.bellMissing at_) s = .next t ∧ source t = 4 ∧
          t.flt.fifo = s.flt.fifo ++ [mkRec (atTime s at_) 0x04 0x00D 0 0, mkRec (atTime s at_) 0x05 0x002 3 0] ∧
          Framed [.bell, .time, .flt] [CAR_STATUS.addr, BEL_STATUS.addr] s t)) ∧
  (∀ (s : State) (at_ : Nat) (hdr : List Nat), s.Inv → isWorker s = true →
      (hTarget hdr = nodeId s → s.bell.admitted = true → s.ubf.orphan = false → source s = 3 → s.bell.edgeAt = none →
        ∃ t, exec (.stroke at_ hdr) s = .next t ∧ t.bell = { s.bell with message := some (hAddr hdr, hBody hdr, at_) } ∧
          (lnk t 0).syncAt = max s.time (at_ % 2 ^ 64) ∧ Framed [.bell, .ubf, .time] [] s t) ∧
      (∀ e n tai inst, hTarget hdr = nodeId s → s.bell.admitted = true → s.ubf.orphan = false → source s = 3 → s.bell.edgeAt = some e →
          s.bell.guessed = true → s.bell.late = false → at_ ≤ e + 100000 → at_ ≤ e + period s / 2 → inRepro s = false →
          s.stk.awaiting = some (n, tai, inst) → s.flt.fifo.length < 256 →
        ∃ t, exec (.stroke at_ hdr) s = .next t ∧ t.bell = { s.bell with guessed := false, message := none } ∧
          t.stk = { s.stk with awaiting := some (hAddr hdr, hBody hdr, inst) } ∧ getF t BEL_STATUS_NUM_OK = 1 ∧
          Framed [.bell, .stk, .ubf, .time, .flt] [BEL_STATUS.addr, BEL_SKEW_LAST.addr] s t) ∧
      (∀ e, s.bell.edgeAt = some e → s.bell.guessed = true → s.bell.late = false → e + 100000 ≤ at_ → s.flt.fifo.length < 256 →
        ∃ t, exec (.strokeMessageLate at_) s = .next t ∧ t.bell = { s.bell with late := true } ∧
          getF t BEL_NUM_MISMATCH = min (getF s BEL_NUM_MISMATCH + 1) (2 ^ BEL_NUM_MISMATCH.w - 1) ∧
          t.flt.fifo = s.flt.fifo ++ [mkRec (atTime s at_) 0x05 0x003 3 0] ∧
          Framed [.bell, .time, .flt] [BEL_NUM_MISMATCH.addr] s t))

/-- R68 to R70: the manager's calibration window that it announced opens with 16 Bell pulses; a worker under calibration timestamps each
crossing and keeps each CAL time; with 16 of both its own delay is their mean difference, which the model rounds freely (log 17); TARGET is
fixed once, at 100 ns over the longest delay, rounded up to 10 ns, at least 200 ns, a delay of more than 1,900 ns apart. CAL_WINDOW_OPEN,
CAL_PULSE, CAL, TARGET_FIX. The burst's place in the window is the model's free value (log 17). -/
def Obligations.BellCalibration : Prop :=
  ∀ (s : State) (at_ highNs : Nat) (hdr delays : List Nat), s.Inv →
    (isManager s = true → s.bell.window = some (at_, 170000) → s.time ≤ at_ → flag s BEL_CFG_OUT_EN = true →
      ∃ t, exec (.calWindowOpen at_) s = .next t ∧ t.bell = { s.bell with window := none } ∧ t.free = s.free + 1 ∧
        t.pins = { s.pins with bellOut := t.pins.bellOut } ∧ 16 ≤ t.pins.bellOut.length ∧ Framed [.pins, .time, .free, .ubf, .bell] [] s t) ∧
    (isWorker s = true → s.bell.admitted = false → 20 ≤ highNs → (s.bell.calTimes.length < 16 ∨ s.bell.calEdges.length + 1 < 16) →
      ∃ t, exec (.calPulse at_ highNs) s = .next t ∧ t.bell = { s.bell with calEdges := s.bell.calEdges ++ [at_] } ∧
        Framed [.bell, .time] [] s t) ∧
    (isWorker s = true → s.bell.admitted = false → 20 ≤ highNs → 16 ≤ s.bell.calTimes.length → 16 ≤ s.bell.calEdges.length + 1 →
        s.flt.fifo.length < 256 →
      ∃ t d, exec (.calPulse at_ highNs) s = .next t ∧ t.bell = { s.bell with calEdges := [], calTimes := [] } ∧ t.free = s.free + 1 ∧
        d = (Int.fdiv ((List.zipWith (fun (e t : Nat) => (e : Int) - t) ((s.bell.calEdges ++ [at_]).take 16) (s.bell.calTimes.take 16)).foldl
          (· + ·) 0 + (Config.freeValue s.free % 16 : Nat)) 16).toNat ∧ getF t BEL_OWN_DELAY = min d 4095 ∧
        t.flt.fifo = s.flt.fifo ++ (if 1900 < d then [mkRec (atTime s at_) 0x05 0x005 4 0] else []) ∧
        Framed [.bell, .time, .free, .flt] [BEL_OWN_DELAY.addr] s t) ∧
    (isWorker s = true → hTarget hdr = nodeId s → s.bell.admitted = false → hAddr hdr = 0 →
        (s.bell.calEdges.length < 16 ∨ s.bell.calTimes.length + 1 < 16) →
      ∃ t, exec (.cal at_ hdr) s = .next t ∧ t.bell = { s.bell with calTimes := s.bell.calTimes ++ [hBody hdr] } ∧
        Framed [.bell, .time, .ubf] [] s t) ∧
    (isWorker s = true → hTarget hdr = nodeId s → hAddr hdr ≠ 0 →
      ∃ t, exec (.cal at_ hdr) s = .next t ∧ t.bell = { s.bell with window := some (hAddr hdr, hBody hdr) } ∧
        Framed [.bell, .time, .ubf] [] s t) ∧
    (isManager s = true → s.bell.targetFixed = false →
      ∃ t, exec (.targetFix delays) s = .next t ∧ t.bell = { s.bell with targetFixed := true } ∧
        getF t BEL_TARGET_NS = max 200 ((delays.filter (fun d => decide (d ≤ 1900))).foldl (fun m d => max m ((d + 100 + 9) / 10 * 10)) 0) ∧
        Framed [.bell, .ubf] [BEL_TARGET_NS.addr] s t)

/-- R270, R276 to R283: at PLAN_DUE the manager's decided plan is built, handed over and copied, once per stroke; without a decision ASY 0x00B
of class 3 is written and no plan leaves; under stroke loss a stop plan is handed over again with SAFE_STATE high; a CAN FD frame that was
sent leaves its controller's queue. PLAN_DUE, STOP_PLAN_REPEAT, CAN_FRAME_SENT. -/
def Obligations.PlanMessagesAreHandedOver : Prop :=
  ∀ (s : State) (at_ : Nat),
    (∀ d, s.Inv → isManager s = true → inRepro s = false → s.stk.any = true → s.stk.planDone = false → s.pln.strokeLoss = false →
        s.stk.inst + getF s CAR_PLAN_DUE ≤ at_ → s.pln.decided = some d → s.flt.warmPending = false → s.flt.fifo.length < 254 →
      ∃ t m, exec (.planDue at_) s = .next t ∧ t.stk = { s.stk with planDone := true } ∧ t.pln.message = some m ∧ t.pln.sent = some m ∧
        t.pln.eth = s.pln.eth ++ datagrams s.pln.cfg m ∧ getF t ASY_SEQ = fldAt m 4 4 % 2 ^ 32 ∧ fldAt m 64 1 = planSource d.case ∧
        (planSource d.case = 2 → t.pins.safeState = true ∧ t.pln.delivered = s.pln.delivered ∧ t.mem = s.mem ∧
          t.pln.canTx0 = s.pln.canTx0 ++ canFrames s.pln.cfg m) ∧
        (planSource d.case ≠ 2 → t.pln.canTx0 = s.pln.canTx0 ∧ t.pln.delivered = some ((planPoses s d).flatMap poseBytes, tHeat s)) ∧
        (∀ a, a < asyBase + poseSlot 25 ∨ asyBase + poseSlot 25 + 16 * (planPoses s d).length ≤ a → byteAt t a = byteAt s a) ∧
        Framed [.stk, .pln, .time, .pins, .asy, .flt, .free, .mem, .anv] ([ASY_SEQ.addr, ASY_STATUS.addr, ASY_STOP_CNT.addr,
          ASY_URG_LATE.addr, ASY_CARRY_CNT.addr, FLT_DROPPED.addr] ++ inboxRegs ++ checkRegs) s t) ∧
    (isManager s = true → inRepro s = false → s.stk.any = true → s.stk.planDone = false → s.pln.strokeLoss = false →
        s.stk.inst + getF s CAR_PLAN_DUE ≤ at_ → s.pln.decided = none → s.flt.fifo.length < 256 →
      ∃ t, exec (.planDue at_) s = .next t ∧ t.stk = { s.stk with planDone := true } ∧
        getF t ASY_NOPLAN_CNT = min (getF s ASY_NOPLAN_CNT + 1) (2 ^ ASY_NOPLAN_CNT.w - 1) ∧
        t.flt.fifo = s.flt.fifo ++ [mkRec (atTime s at_) 0x0F 0x00B 3 (assayUnit s)] ∧
        Framed [.stk, .time, .flt] [ASY_NOPLAN_CNT.addr] s t) ∧
    (isManager s = true → mode s ≠ 3 → s.pln.strokeLoss = true → s.flt.warmPending = false →
      ∃ t m, exec (.stopPlanRepeat at_) s = .next t ∧ t.pln.message = some m ∧ t.pln.sent = some m ∧ fldAt m 64 1 = 2 ∧
        t.pln.eth = s.pln.eth ++ datagrams s.pln.cfg m ∧ t.pln.canTx0 = s.pln.canTx0 ++ canFrames s.pln.cfg m ∧
        t.pins = { s.pins with safeState := true } ∧
        Framed [.pln, .time, .pins, .free] [ASY_SEQ.addr, ASY_STATUS.addr, ASY_STOP_CNT.addr] s t) ∧
    (∃ t, exec (.canFrameSent 0 true) s = .next t ∧ t = { s with pln := { s.pln with canTx0 := s.pln.canTx0.drop 1 } }) ∧
    (∃ t, exec (.canFrameSent 1 true) s = .next t ∧ t = { s with pln := { s.pln with canTx1 := s.pln.canTx1.drop 1 } })

/-- R91 to R93, R97 to R99, R113: the record at RP, of each type, is taken from the ring: its sequence number is kept, it is counted, and it
changes its entry of the staging image alone, where no other trace is left by a write. PRIM_SET, PRIM_DEL, AGENT_SET, AGENT_DEL, EGO,
HEAT_CLEAR; a SEAL mark ends the intake of a REPRO heat and is counted otherwise (R84); an URGENT record goes into the next delta slot, too
(CRU 0x006). -/
def Obligations.RecordsChangeTheStagingHeat : Prop :=
  ∀ (s : State) (r : Nat) (f : Fetched), s.Inv → mayTake s r = true → fetchRecord s r = (f, []) → f.reason = 0 → f.typ = fldAt f.data 0 1 →
    checkRecord s r f.data = 0 → s.wld.stalled = [] → PlainImage s → s.flt.fifo.length < 254 →
    (f.typ = 1 → urgentSet f.data = false →
      ∃ t, exec (.primSet r) s = .next t ∧ Accepted s t r f ∧ t.flt.fifo = s.flt.fifo ++ gapRecord s r f.data ∧
        t.wld.nPrim = (if present (primEntry (peek s) s.wld.staging (fldAt f.data 16 2)) then s.wld.nPrim else s.wld.nPrim + 1) ∧
        (primEntry (peek t) s.wld.staging (fldAt f.data 16 2)).take 28 = (f.data.drop 18).take 26 ++ [0, 0] ∧
        (∀ a, fldAt f.data 18 1 ≠ 3 ∧ fldAt f.data 19 1 = 0 ∧ (a < s.wld.staging + primOff + 32 * fldAt f.data 16 2 ∨
          s.wld.staging + primOff + 32 * fldAt f.data 16 2 + 32 ≤ a) → byteAt t a = byteAt s a) ∧
        (∀ a, a < s.wld.staging + primOff ∨ s.wld.staging + agentOff ≤ a → byteAt t a = byteAt s a) ∧
        Framed [.wld, .mem, .flt] (recordRegs r) s t) ∧
    (f.typ = 2 → present (primEntry (peek s) s.wld.staging (fldAt f.data 16 2)) = true →
      ∃ t, exec (.primDel r) s = .next t ∧ Accepted s t r f ∧ t.flt.fifo = s.flt.fifo ++ gapRecord s r f.data ∧
        t.wld.nPrim = s.wld.nPrim - 1 ∧ primEntry (peek t) s.wld.staging (fldAt f.data 16 2) = emptyPrim ∧
        (∀ a, a < s.wld.staging + primOff + 32 * fldAt f.data 16 2 ∨
          s.wld.staging + primOff + 32 * fldAt f.data 16 2 + 32 ≤ a → byteAt t a = byteAt s a) ∧
        Framed [.wld, .mem, .flt] (recordRegs r) s t) ∧
    (f.typ = 3 → urgentSet f.data = false →
      ∃ t, exec (.agentSet r) s = .next t ∧ Accepted s t r f ∧ t.flt.fifo = s.flt.fifo ++ gapRecord s r f.data ∧
        t.wld.chgAgent = insertNew s.wld.chgAgent (fldAt f.data 16 2) ∧
        t.wld.nAgent = (if agentNh (agentEntry (peek s) s.wld.staging (fldAt f.data 16 2)) = 0 then s.wld.nAgent + 1 else s.wld.nAgent) ∧
        agentEntry (peek t) s.wld.staging (fldAt f.data 16 2) = (f.data.drop 16 ++ List.replicate agentSize 0).take agentSize ∧
        (∀ a, a < s.wld.staging + agentOff + agentSize * fldAt f.data 16 2 ∨
          s.wld.staging + agentOff + agentSize * fldAt f.data 16 2 + agentSize ≤ a → byteAt t a = byteAt s a) ∧
        Framed [.wld, .mem, .flt] (recordRegs r) s t) ∧
    (f.typ = 4 → agentNh (agentEntry (peek s) s.wld.staging (fldAt f.data 16 2)) ≠ 0 →
      ∃ t, exec (.agentDel r) s = .next t ∧ Accepted s t r f ∧ t.flt.fifo = s.flt.fifo ++ gapRecord s r f.data ∧
        t.wld.nAgent = s.wld.nAgent - 1 ∧ t.wld.chgAgent = insertNew s.wld.chgAgent (fldAt f.data 16 2) ∧
        agentEntry (peek t) s.wld.staging (fldAt f.data 16 2) = List.replicate agentSize 0 ∧
        (∀ a, a < s.wld.staging + agentOff + agentSize * fldAt f.data 16 2 ∨
          s.wld.staging + agentOff + agentSize * fldAt f.data 16 2 + agentSize ≤ a → byteAt t a = byteAt s a) ∧
        Framed [.wld, .mem, .flt] (recordRegs r) s t) ∧
    (f.typ = 5 →
      ∃ t, exec (.ego r) s = .next t ∧ Accepted s t r f ∧ t.flt.fifo = s.flt.fifo ++ gapRecord s r f.data ∧ t.wld.hasEgo = true ∧
        t.wld.nPrim = s.wld.nPrim ∧ t.wld.nAgent = s.wld.nAgent ∧ peek t (s.wld.staging + egoOff) 32 = f.data.take 32 ∧
        (∀ a, a < s.wld.staging + egoOff ∨ s.wld.staging + egoOff + 32 ≤ a → byteAt t a = byteAt s a) ∧
        Framed [.wld, .mem, .flt] (recordRegs r) s t) ∧
    (f.typ = 6 →
      ∃ t, exec (.heatClear r) s = .next t ∧ Accepted s t r f ∧ t.flt.fifo = s.flt.fifo ++ gapRecord s r f.data ∧ t.wld.cleared = true ∧
        t.wld.hasEgo = s.wld.hasEgo ∧ (∀ id < 65536, present (primEntry (peek t) s.wld.staging id) = false) ∧
        (∀ id < 1024, agentNh (agentEntry (peek t) s.wld.staging id) = 0) ∧
        (∀ a, (a < s.wld.staging + primOff ∨ s.wld.staging + primOff + 32 * 65536 ≤ a) →
          (a < s.wld.staging + agentOff ∨ s.wld.staging + agentOff + agentSize * 1024 ≤ a) → byteAt t a = byteAt s a) ∧
        Framed [.wld, .mem, .flt] (recordRegs r) s t) ∧
    (f.typ = 0x0F → inRepro s = true → s.wld.sealPending = true →
      ∃ t, exec (.sealMark r) s = .next t ∧ Accepted s t r f ∧ t.flt.fifo = s.flt.fifo ++ gapRecord s r f.data ∧ t.wld.markReached = true ∧
        Framed [.wld, .flt] (recordRegs r) s t) ∧
    (f.typ = 0x0F → inRepro s = false →
      ∃ t, exec (.sealMark r) s = .next t ∧ Accepted s t r f ∧ t.wld.markReached = s.wld.markReached ∧
        getF t CRU_MARK_IGNORED = min (getF s CRU_MARK_IGNORED + 1) (2 ^ CRU_MARK_IGNORED.w - 1) ∧
        Framed [.wld, .flt] (CRU_MARK_IGNORED.addr :: recordRegs r) s t) ∧
    (f.typ = 1 → urgentSet f.data = true → inRepro s = false → getF s CRU_HEAT_SEALED ≠ 0 →
        s.asy.nDelta < 256 → InboxApart s asyBase 0x800000 → heatImg s + imageLen ≤ anvilEnd →
      ∃ t, exec (.primSet r) s = .next t ∧ Accepted s t r f ∧ t.asy = { s.asy with nDelta := s.asy.nDelta + 1 } ∧
        t.flt.fifo = s.flt.fifo ++ gapRecord s r f.data ++ [mkRec s 0x0A 0x006 0 s.asy.nDelta] ∧
        getF t CRU_URG_CNT = min (getF s CRU_URG_CNT + 1) (2 ^ CRU_URG_CNT.w - 1) ∧ flag t CRU_FIELD_STATUS_SUPERSEDED_URGENT = true ∧
        Framed [.wld, .mem, .flt, .asy] (CRU_URG_CNT.addr :: CRU_FIELD_STATUS_SUPERSEDED_URGENT.addr :: recordRegs r) s t)

/-- R91, R94, R99: padding only moves RP past it; a record of an unknown type, or of a known one that fails a check, is rejected with its
reason: CRU 0x001 of class 0, the type, ring and reason kept in CRU.REJ_LAST, and the staging heat stays. PAD, UNKNOWN_RECORD, and each
record's own command. R90, R91: a datagram of one record that fits is written into the ring the billet names and moves its WP; a write of a WP
that keeps 16 bytes free is taken, and one that is misaligned or too far is refused and counted. NETWORK_DATAGRAM, RING_WP_WRITE. -/
def Obligations.RecordsEnterTheRingsOrAreRejected : Prop :=
  (∀ (s : State) (r : Nat) (f : Fetched), s.Inv → mayTake s r = true → fetchRecord s r = (f, []) → f.reason = 0 → s.wld.stalled = [] →
      (f.typ = 0 → ∃ t, exec (.pad r) s = .next t ∧ getF t (CRU_RING_RP r) = (ringRp s r + f.adv) % max 1 (ringSize s r) % 2 ^ 32 ∧
        t.wld.nextRing = 1 - r ∧ Framed [.wld] [(CRU_RING_RP r).addr] s t) ∧
      ([0, 1, 2, 3, 4, 5, 6, 0x0F].contains f.typ = false → fldAt f.data 0 1 = f.typ → s.flt.fifo.length < 256 →
        ∃ t, exec (.unknownRecord r) s = .next t ∧ getF t CRU_REJ_LAST_REASON = 1 ∧ getF t CRU_REJ_LAST_TYPE = f.typ % 256 ∧
          getF t CRU_REJ_LAST_RING = r ∧ getF t CRU_REC_REJECT = min (getF s CRU_REC_REJECT + 1) (2 ^ CRU_REC_REJECT.w - 1) ∧
          t.flt.fifo = s.flt.fifo ++ [mkRec s 0x0A 0x001 0 r] ∧ t.wld.lastSeq = s.wld.lastSeq ∧
          Framed [.wld, .flt] [(CRU_RING_RP r).addr, CRU_REC_REJECT.addr, CRU_REJ_LAST.addr] s t) ∧
      ([1, 2, 3, 4, 5, 6, 0x0F].contains f.typ = true → fldAt f.data 0 1 = f.typ → checkRecord s r f.data ≠ 0 → s.flt.fifo.length < 256 →
        ∃ t, exec (if f.typ = 1 then .primSet r else if f.typ = 2 then .primDel r else if f.typ = 3 then .agentSet r else if f.typ = 4 then .agentDel r
            else if f.typ = 5 then .ego r else if f.typ = 6 then .heatClear r else .sealMark r) s = .next t ∧
          getF t CRU_REJ_LAST_REASON = checkRecord s r f.data % 2 ^ CRU_REJ_LAST_REASON.w ∧ getF t CRU_REJ_LAST_TYPE = f.typ % 256 ∧
          t.flt.fifo = s.flt.fifo ++ [mkRec s 0x0A 0x001 0 r] ∧ t.wld.lastSeq = s.wld.lastSeq ∧
          Framed [.wld, .flt] [(CRU_RING_RP r).addr, CRU_REC_REJECT.addr, CRU_REJ_LAST.addr] s t)) ∧
  (∀ (s : State) (brand r value : Nat) (bytes : List Nat), s.Inv → r < 2 →
      (s.bil.networkRing = some r → s.wld.stalled = [] → fldAt bytes 2 2 = bytes.length → 16 ≤ bytes.length → bytes.length % 16 = 0 →
          ringWp s r + bytes.length ≤ ringSize s r → 16 + ahead s r (ringWp s r) (ringRp s r) + bytes.length ≤ ringSize s r →
          s.mem.errs = [] → s.start.swept = true → InboxApart s (ringBase s r + ringWp s r) bytes.length →
          targetOf s (ringBase s r + ringWp s r) = some 0 → fwDenies s 0 0x41 1 (ringBase s r + ringWp s r) bytes.length = none →
        ∃ t, exec (.networkDatagram r bytes) s = .next t ∧ t.wld = s.wld ∧ t.free = s.free + 1 ∧
          ringWp t r = (ringWp s r + bytes.length) % max 1 (ringSize s r) % 2 ^ 32 ∧
          peek t (ringBase s r + ringWp s r) bytes.length = bytes.map (· % 256) ∧
          (∀ a, a < ringBase s r + ringWp s r ∨ ringBase s r + ringWp s r + bytes.length ≤ a → byteAt t a = byteAt s a) ∧
          Framed [.mem, .free] [(CRU_RING_WP r).addr] s t) ∧
      (fwDenies s 2 brand 1 (CRU_RING_WP r).addr 4 = none → value % 16 = 0 → value < ringSize s r →
          ahead s r (ringWp s r) (ringRp s r) + ahead s r value (ringWp s r) + 16 ≤ ringSize s r →
        ∃ t, exec (.ringWpWrite brand r value) s = .next t ∧ t.resp = .ok ∧ ringWp t r = value % 2 ^ 32 ∧
          Framed [] [(CRU_RING_WP r).addr] s t) ∧
      (fwDenies s 2 brand 1 (CRU_RING_WP r).addr 4 = none → (value % 16 ≠ 0 ∨ ringSize s r ≤ value ∨
          ringSize s r < ahead s r (ringWp s r) (ringRp s r) + ahead s r value (ringWp s r) + 16) →
        ∃ t, exec (.ringWpWrite brand r value) s = .next t ∧ t.resp = .error ∧ ringWp t r = ringWp s r ∧
          getF t CRU_WP_REFUSED = min (getF s CRU_WP_REFUSED + 1) (2 ^ CRU_WP_REFUSED.w - 1) ∧
          Framed [] [CRU_WP_REFUSED.addr] s t))

/-- R83 to R88, R100, R101: the seal is requested once per stroke at its offset, with the write pointers as its cut; it completes when both
rings are empty up to the cut and the copy of the heat before is done, and at SEAL_MAX at the latest, what is left unapplied then counted as
deferred; the staging heat's number becomes the sealed one, its descriptor is written at the head of its image, the gates of the heat before
go, the inbox is cleared, and the copy to the new staging image begins. WORLD_SEAL, SEAL_COMPLETE, SEAL_MAX_EXPIRED, STAGING_COPY_DONE. -/
def Obligations.SealingMakesTheStagingHeatCurrent : Prop :=
  ∀ (s : State) (at_ : Nat), s.Inv → inRepro s = false → s.tabA = s.tabB → s.flt.fifo.length < 250 →
    (s.stk.any = true → s.stk.inst + getF s CAR_SEAL_OFS ≤ at_ → s.wld.sealedFor ≠ some s.stk.no → s.wld.sealPending = false →
      ∃ t, exec (.worldSeal at_) s = .next t ∧
        t.wld = { s.wld with sealPending := true, sealedFor := some s.stk.no, sealNo := s.stk.no, sealStroke := s.stk.time,
                             sealTime := s.stk.inst + getF s CAR_SEAL_OFS, cut := some (ringWp s 0, ringWp s 1) } ∧
        Framed [.wld, .time] [] s t) ∧
    (s.wld.sealPending = true → ringEmpty s 0 = true → ringEmpty s 1 = true → s.wld.copying = false → PlainImage s → SealApart s →
      ∃ t, exec (.sealComplete at_) s = .next t ∧ Sealed s t ∧ t.wld.staging = (if getF s CRU_HEAT_SEALED = 0 then s.wld.spareImg else heatImg s) ∧
        (∀ a, a < s.wld.staging ∨ s.wld.staging + 64 ≤ a → byteAt t a = byteAt s a) ∧
        Framed [.wld, .time, .asy, .flt, .mem, .tab, .tabX] sealRegs s t) ∧
    (s.wld.sealPending = true → s.wld.sealTime + getF s CRU_CFG1_SEAL_MAX * 1000 ≤ at_ → unappliedAll s ≠ 0 → s.wld.copying = false →
        PlainImage s → SealApart s →
      ∃ t, exec (.sealMaxExpired at_) s = .next t ∧ Sealed s t ∧
        getF t CRU_DEFERRED = min (getF s CRU_DEFERRED + unappliedAll s) (2 ^ CRU_DEFERRED.w - 1) ∧
        t.flt.fifo.take (s.flt.fifo.length + 1) = s.flt.fifo ++ [mkRec (atTime s at_) 0x0A 0x003 0 0] ∧
        (∀ a, a < s.wld.staging ∨ s.wld.staging + 64 ≤ a → byteAt t a = byteAt s a) ∧
        Framed [.wld, .time, .asy, .flt, .mem, .tab, .tabX] (CRU_DEFERRED.addr :: sealRegs) s t) ∧
    (s.wld.copying = true → s.mem.errs = [] → s.wld.staging + imageLen ≤ anvilEnd → InboxApart s s.wld.staging imageLen →
        (heatImg s + imageLen ≤ s.wld.staging ∨ s.wld.staging + imageLen ≤ heatImg s) → CopyInside s →
      ∃ t, exec .stagingCopyDone s = .next t ∧ t.wld = { s.wld with copying := false, copyPrim := [], copyAgent := [] } ∧
        peek t (s.wld.staging + egoOff) 32 = peek s (heatImg s + egoOff) 32 ∧
        (∀ id ∈ s.wld.copyAgent, peek t (s.wld.staging + agentOff + agentSize * id) agentSize
          = peek s (heatImg s + agentOff + agentSize * id) agentSize) ∧
        (∀ a, a < s.wld.staging ∨ s.wld.staging + imageLen ≤ a → byteAt t a = byteAt s a) ∧
        Framed [.wld, .mem] [] s t)

/-- R89, R103 to R112: a Crucible task of the current heat executes at once when no Hammer or Peal task of the heat before runs; otherwise it
waits with DRAIN_WAIT, changing nothing else, and executes at the drain's end, the wait's bit gone. REPAIR_STATIC, BUILD_STATIC, BUILD_DYN,
CRUCIBLE_DRAIN_END, CRUCIBLE_GOLDEN. -/
def Obligations.CrucibleTasksExecuteOrWait : Prop :=
  ∀ (s : State) (u : Nat) (k : Task), s.Inv → taskById s k.id = some k →
    (engineTask s 1 u [1] = some k → olderRuns s k.heat = false → 
      ∃ t, exec (.repairStatic u) s = .next t ∧ Executed (setF s (CRU_U_STATUS_DRAIN_WAIT u) 0) t k (crucibleWork s k)) ∧
    (engineTask s 1 u [2] = some k → olderRuns s k.heat = false → 
      ∃ t, exec (.buildStatic u) s = .next t ∧ Executed (setF s (CRU_U_STATUS_DRAIN_WAIT u) 0) t k (crucibleWork s k)) ∧
    (engineTask s 1 u [3] = some k → olderRuns s k.heat = false → 
      ∃ t, exec (.buildDyn u) s = .next t ∧ Executed (setF s (CRU_U_STATUS_DRAIN_WAIT u) 0) t k (crucibleWork s k)) ∧
    (engineTask s 1 u [3] = some k → olderRuns s k.heat = true → ∃ t, exec (.buildDyn u) s = .next t ∧
      flag t (CRU_U_STATUS_DRAIN_WAIT u) = true ∧
      getF t (CRU_U_STATUS_OPC u) = getF s (CRU_U_STATUS_OPC u) ∧ Framed [] [(CRU_U_STATUS_DRAIN_WAIT u).addr] s t) ∧
    (engineTask s 1 u [1, 2, 3] = some k → flag s (CRU_U_STATUS_DRAIN_WAIT u) = true → olderRuns s k.heat = false →
      ∃ t, exec (.crucibleDrainEnd u) s = .next t ∧ Executed (setF s (CRU_U_STATUS_DRAIN_WAIT u) 0) t k (crucibleWork s k)) ∧
    (engineTask s 1 u [0x10] = some k → ∃ t, exec (.crucibleGolden u) s = .next t ∧ Executed s t k (crucibleGoldWork s k))

/-- R119 to R132: the first part of a lattice begins it (a REPAIR without a lattice to repair builds it whole), a later one arrives at its
unit; between two barriers a full build seeds every state from the goal table, the wavefront passes to the next band when its front is empty,
and with no state left open the lattice becomes VALID; at SEL_OFS a VALID lattice within AGE_MAX is selected, otherwise none (PEL 0x002).
REPAIR, BUILD, PEAL_BARRIER, PEAL_SELECT_OFS. R135: at END_OFS what is left of the Peal's parts ends with TIMEUP and the lattice under
construction is given up (PEL 0x001). R413: its golden window is computed as any other task. PEAL_END, PEAL_GOLDEN. -/
def Obligations.ThePealWavefrontAdvancesAndEnds : Prop :=
  (∀ (s : State) (u at_ : Nat) (k : Task), s.Inv →
      (engineTask s 2 u [1] = some k → pealOn s = true → s.peal.arrived.contains (partNo k.cmd) = false → k.redisp = false → s.peal.phase = 0 →
          validBuf s = none →
        ∃ t, exec (.repair u) s = .next t ∧ t.peal.arrived = s.peal.arrived ++ [partNo k.cmd] ∧ t.peal.phase = 1 ∧ t.peal.full = true ∧
          t.peal.buf = 0 ∧ getF t (PEL_LAT_STATE 0) = 1 ∧ getF t (PEL_LAT_HEAT 0) = s.peal.heat % 2 ^ 32 ∧
          getF t (PEL_U_STATUS_PART u) = partNo k.cmd ∧ Framed [.peal] (latRegs u) s t) ∧
      (engineTask s 2 u [1] = some k → pealOn s = true → s.peal.arrived.contains (partNo k.cmd) = false → k.redisp = false → s.peal.phase = 1 →
        ∃ t, exec (.repair u) s = .next t ∧ t.peal = { s.peal with arrived := s.peal.arrived ++ [partNo k.cmd] } ∧
          getF t (PEL_U_STATUS_PART u) = partNo k.cmd ∧ getF t (PEL_U_STATUS_PHASE u) = (if s.peal.full then 0 else 1) ∧
          Framed [.peal] [(PEL_U_STATUS_PART u).addr] s t) ∧
      (engineTask s 2 u [2] = some k → pealOn s = true → s.peal.arrived.contains (partNo k.cmd) = false → k.redisp = false → s.peal.phase = 0 →
        ∃ t, exec (.build u) s = .next t ∧ t.peal.arrived = s.peal.arrived ++ [partNo k.cmd] ∧ t.peal.phase = 1 ∧ t.peal.full = true ∧
          t.peal.buf = (if validBuf s = some 0 then 1 else 0) ∧ getF t (PEL_LAT_STATE t.peal.buf) = 1 ∧
          getF t (PEL_LAT_HEAT t.peal.buf) = s.peal.heat % 2 ^ 32 ∧ getF t (PEL_U_STATUS_PART u) = partNo k.cmd ∧ Framed [.peal] (latRegs u) s t) ∧
      (engineTask s 2 u [2] = some k → pealOn s = true → s.peal.arrived.contains (partNo k.cmd) = false → k.redisp = false → s.peal.phase = 1 →
        ∃ t, exec (.build u) s = .next t ∧ t.peal = { s.peal with arrived := s.peal.arrived ++ [partNo k.cmd] } ∧
          getF t (PEL_U_STATUS_PART u) = partNo k.cmd ∧ getF t (PEL_U_STATUS_PHASE u) = (if s.peal.full then 0 else 1) ∧
          Framed [.peal] [(PEL_U_STATUS_PART u).addr] s t) ∧
      (allArrived s = true → s.peal.phase = 1 → validBuf s = none → Grants s 0 (pealBrand s) 0 0 anvilEnd →
          (heatInfo s s.peal.heat).img + 64 ≤ anvilEnd → sBase s + 0x800040 ≤ anvilEnd → goalAddr s + 32 * ngoal s + 64 ≤ anvilEnd → s.mem.errs = [] → s.start.swept = true →
          InboxApart s (bufBase s s.peal.buf) 0x800000 → bufBase s s.peal.buf + 0x800000 ≤ anvilEnd →
          (∀ j ∈ pealRunning s, Grants s 0 (qBrand s j.queue) 1 (bufBase s s.peal.buf) 0x800000) →
        ∃ t, exec (.pealBarrier at_) s = .next t ∧
          t.peal = { s.peal with opens := (List.range latStates).filter (fun n => decide (seed (latFrame s) (goalTab s) (ngoal s) n < 0xFFFF)),
                                 phase := 3, lo := 0, hi := 0 } ∧
          (∀ a, a < bufBase s s.peal.buf ∨ bufBase s s.peal.buf + 0x800000 ≤ a → byteAt t a = byteAt s a) ∧
          Framed [.peal, .time, .mem] [] s t) ∧
      (∀ lo hi, allArrived s = true → s.peal.phase = 3 → s.peal.opens.filter (fun n => decide (costAt s n < s.peal.hi)) = [] →
          nextBand s s.peal.hi = some (lo, hi) →
        ∃ t, exec (.pealBarrier at_) s = .next t ∧ t.peal = { s.peal with lo := lo, hi := hi } ∧ Framed [.peal, .time] [] s t) ∧
      (allArrived s = true → s.peal.phase = 3 → s.peal.opens.filter (fun n => decide (costAt s n < s.peal.hi)) = [] →
          nextBand s s.peal.hi = none → s.peal.buf < 2 → s.tabA = s.tabB → s.mem.errs = [] → s.start.swept = true →
          InboxApart s (chgBase s) 2048 → chgBase s + 2048 ≤ anvilEnd →
          (∀ j ∈ pealRunning s, Grants s 0 (qBrand s j.queue) 1 (chgBase s) 2048) →
        ∃ t, exec (.pealBarrier at_) s = .next t ∧ t.peal = { s.peal with phase := 0, opens := [], affected := [], reopen := [] } ∧
          getF t (PEL_LAT_STATE s.peal.buf) = 2 ∧ getF t (PEL_LAT_STATE (1 - s.peal.buf)) = 0 ∧
          getF t PEL_BUILDS = (if s.peal.full then min (getF s PEL_BUILDS + 1) (2 ^ PEL_BUILDS.w - 1) else getF s PEL_BUILDS) ∧
          (∀ j ∈ pealRunning s, (taskById t j.id).any (fun v => v.ran && v.status == 0)) ∧
          (∀ id, (∀ j ∈ pealRunning s, j.id ≠ id) → taskById t id = taskById s id) ∧
          (∀ a, a < chgBase s ∨ chgBase s + 2048 ≤ a → byteAt t a = byteAt s a) ∧
          Framed [.peal, .time, .mem, .tab] [(PEL_LAT_STATE 0).addr, (PEL_LAT_STATE 1).addr, PEL_BUILDS.addr, PEL_REPAIRS.addr,
            PEL_REOPEN_LAST.addr, PEL_DONE_NS_LAST.addr] s t) ∧
      (∀ b, pealOn s = true → inRepro s = false → flag s PEL_FRAME_SELECTED = false → s.stk.inst + getF s PEL_SEL_OFS ≤ at_ →
          validBuf s = some b → latAge (getF s CRU_HEAT_SEALED) (getF s (PEL_LAT_HEAT b)) ≤ getF s PEL_CFG0_AGE_MAX →
        ∃ t, exec (.pealSelectOfs at_) s = .next t ∧ getF t PEL_FRAME_SELECTED = 1 ∧ getF t PEL_FRAME_BUF = b ∧ getF t PEL_FRAME_NONE = 0 ∧
          getF t PEL_FRAME_AGE = latAge (getF s CRU_HEAT_SEALED) (getF s (PEL_LAT_HEAT b)) ∧ Framed [.time] [PEL_FRAME.addr] s t) ∧
      (pealOn s = true → inRepro s = false → flag s PEL_FRAME_SELECTED = false → s.stk.inst + getF s PEL_SEL_OFS ≤ at_ →
          validBuf s = none → s.flt.fifo.length < 256 →
        ∃ t, exec (.pealSelectOfs at_) s = .next t ∧ getF t PEL_FRAME_SELECTED = 1 ∧ getF t PEL_FRAME_NONE = 1 ∧ getF t PEL_FRAME_AGE = 255 ∧
          t.flt = { s.flt with fifo := s.flt.fifo ++ [mkRec (atTime s at_) 0x0C 0x002 0 0] } ∧ Framed [.time, .flt] [PEL_FRAME.addr] s t)) ∧
  (∀ (s : State) (u at_ : Nat) (k : Task), s.Inv →
      (inRepro s = false → pealLeft s ≠ [] → s.stk.inst + getF s PEL_END_OFS ≤ at_ → s.tabA = s.tabB → ((tasks s).map (·.id)).Nodup →
          s.peal.heat = getF s CRU_HEAT_SEALED → s.flt.fifo.length < 250 → s.peal.buf < 2 →
          (pealLeft s).all (fun j => j.swage.isNone && match j.loc with
            | .running e => classOfE e == 2 && (prefetchOn s e).isNone
            | _ => true) = true →
        ∃ t, exec (.pealEnd at_) s = .next t ∧ t.peal.phase = 0 ∧ t.peal.opens = [] ∧ t.peal.reopen = [] ∧ t.peal.affected = [] ∧
          (s.peal.phase ≠ 0 → getF t (PEL_LAT_STATE s.peal.buf) = 0) ∧
          (∀ j ∈ pealLeft s, (taskById t j.id).any (fun v => v.status == 6 && v.loc == .finished)) ∧
          (∀ id, (∀ j ∈ pealLeft s, j.id ≠ id) → taskById t id = taskById s id) ∧
          getF t PEL_TIMEUPS = min (getF s PEL_TIMEUPS + 1) (2 ^ PEL_TIMEUPS.w - 1) ∧
          t.flt.fifo.getLast? = some (mkRec (atTime s at_) 0x0C 0x001 0 0) ∧
          PartsBut [.peal, .time, .tab, .flt] s t ∧ BlocksBut [0x06, 0x0C] s t) ∧
      (taskById s k.id = some k → engineTask s 2 u [0x10] = some k → ∃ t, exec (.pealGolden u) s = .next t ∧ Executed s t k (pealGoldWork s k)))

/-- R139 to R166: EXPAND and the Swage golden task compute what `expandWork` gives from the bound context, and their task ends with its status
and hallmark. EXPAND, SWAGE_GOLDEN. R218 to R253: REFINE runs its program over its pairs, stopped by the deadline when that has passed; the
deadline is posted for the heat; the Quench golden task computes its golden line. REFINE, QUENCH_DEADLINE, QUENCH_GOLDEN. R336: DIGEST stores
the hallmark of its region as 8 little-endian bytes and is counted; a line it cannot read gives status 3 and HLM 0x001. DIGEST. -/
def Obligations.SwageQuenchAndDigestTasksExecute : Prop :=
  (∀ (s : State) (u : Nat) (k : Task), taskById s k.id = some k →
      (engineTask s 3 u [1] = some k → ∃ t, exec (.expand u) s = .next t ∧
        Executed s t k (expandTask s k)) ∧
      (engineTask s 3 u [0x10] = some k → ∃ t, exec (.swageGolden u) s = .next t ∧
        Executed s t k (swageGoldWork s k))) ∧
  (∀ (s : State) (u at_ : Nat) (phases : List (Nat × Nat × Nat)),
      (∀ k, taskById s k.id = some k → engineTask s 6 u [1] = some k →
        ∃ t t1, exec (.refine u) s = .next t ∧ Executed s t1 k (refineOf s k (pastDeadline s k) none) ∧
          t = noteDeadline t1 (cutShort (refineOf s k (pastDeadline s k) none)) k.punit) ∧
      (inRepro s = false → s.stk.inst + getF s QNC_DL_OFS ≤ at_ →
          (List.range 9).all (fun v => ((engineTask s 6 v [1]).all (fun k => k.heat != getF s CRU_HEAT_SEALED))) = true →
        ∃ t, exec (.quenchDeadline at_ phases) s = .next t ∧ t.tabX = { s.tabX with gates := insertNew s.tabX.gates deadlineGate } ∧
          Framed [.tabX, .time] [] s t) ∧
      (∀ k v, inRepro s = false → s.stk.inst + getF s QNC_DL_OFS ≤ at_ → v < 9 → engineTask s 6 v [1] = some k → k.punit = v →
          taskById s k.id = some k → k.heat = getF s CRU_HEAT_SEALED →
          (List.range 9).all (fun x => x == v || (engineTask s 6 x [1]).all (fun j => j.heat != getF s CRU_HEAT_SEALED)) = true →
        ∃ t t1, exec (.quenchDeadline at_ phases) s = .next t ∧
          Executed (openGate (atTime s at_) deadlineGate) t1 k (refineOf (openGate (atTime s at_) deadlineGate) k false (some (phaseAt phases v))) ∧
          t = noteDeadline t1 (cutShort (refineOf (openGate (atTime s at_) deadlineGate) k false (some (phaseAt phases v)))) v) ∧
      (∀ k, taskById s k.id = some k → engineTask s 6 u [2] = some k → ∃ t, exec (.quenchGolden u) s = .next t ∧ Executed s t k (quenchGoldWork s k))) ∧
  (∀ (s : State) (u h : Nat) (k : Task) (s' : State), taskById s k.id = some k → engineTask s 8 u [1] = some k →
      (digestGo (qBrand s k.queue) (bf k.cmd 32 8) (bf k.cmd 24 8 / 64) (bf k.cmd 16 8) 0 s = (some h, s') →
        ∃ t, exec (.digest u) s = .next t ∧ Executed (bump s' HLM_DIGEST_CNT 1) t k { writes := [(bf k.cmd 40 8, leBytes 8 h)] } ∧ EngineFrame s t k ∧
          (∀ a, (a / 64 < bf k.cmd 40 8 / 64 ∨ (bf k.cmd 40 8 + 7) / 64 < a / 64) → byteAt t a = byteAt s a)) ∧
      (digestGo (qBrand s k.queue) (bf k.cmd 32 8) (bf k.cmd 24 8 / 64) (bf k.cmd 16 8) 0 s = (none, s') →
        ∃ t, exec (.digest u) s = .next t ∧ taskById t k.id = some { k with ran := true, status := 3, hm := 0 } ∧
          getF t HLM_RD_ERR = min (getF s' HLM_RD_ERR + 1) (2 ^ HLM_RD_ERR.w - 1) ∧
          getF t HLM_DIGEST_CNT = min (getF s' HLM_DIGEST_CNT + 1) (2 ^ HLM_DIGEST_CNT.w - 1) ∧ (∀ a, byteAt t a = byteAt s a) ∧ EngineFrame s t k))

/-- R169 to R193, R304: a STRIKE is bound to a Swage, shown by that Swage's status, and scores its candidates up to COUNT, and none once its
cut offset has passed; a Hammer golden task computes the golden line. R187: at the cut offset a waiting task of the heat is marked CUT, and
the cut is posted. STRIKE, HAMMER_GOLDEN, STRIKE_CUT. -/
def Obligations.HammerTasksExecuteAndAreCut : Prop :=
  ∀ (s : State) (u at_ i : Nat) (done : List (Nat × Nat)) (k : Task), taskById s k.id = some k →
    (∀ k', engineTask s 4 u [1] = some k → cutPassed s k = false → withSwage s k = some k' →
      ∃ t, exec (.strike u) s = .next t ∧ k'.id = k.id ∧ k'.swage.isSome = true ∧
        Executed (noteStrike s k'.swage) t k' (strikeWork (bf k.cmd 28 4) (noteStrike s k'.swage) k')) ∧
    (engineTask s 4 u [1] = some k → cutPassed s k = true →
      ∃ t t1, exec (.strike u) s = .next t ∧ Executed s t1 k (strikeWork 0 s k) ∧
        t = (if 0 < bf k.cmd 28 4 then noteCut t1 (bf k.cmd 57 1 - 1) else t1)) ∧
    (∀ k', engineTask s 4 u [2] = some k → withSwage s k = some k' →
      ∃ t, exec (.hammerGolden u) s = .next t ∧ k'.id = k.id ∧ k'.swage.isSome = true ∧
        Executed (noteStrike s k'.swage) t k' (hammerGoldWork s k')) ∧
    (i < 2 → inRepro s = false → s.stk.inst + (if i = 0 then getF s HAM_CUT_OFS0 else getF s HAM_CUT_OFS1) ≤ at_ →
        cutTasks s i = [k] → k.loc = .ready → s.tabA = s.tabB →
      ∃ t, exec (.strikeCut at_ i done) s = .next t ∧ taskById t k.id = some { k with status := 4, heat := getF s CRU_HEAT_SEALED } ∧
        (∀ id, id ≠ k.id → taskById t id = taskById s id) ∧ t.tabX = { s.tabX with gates := insertNew s.tabX.gates (cutGate i) } ∧
        Framed [.tab, .tabX, .time] [] s t)

/-- R199 to R211: SELECT and MERGE compute what `selectTask` and `mergeTask` give, and their task ends with that status and hallmark; the
gather offset is posted to the Tabor. SELECT, MERGE, GATHER_OFFSET. R212, R213, R216: a 64-byte write of a sender to its slot of the inbox is
stored under the firewall and answered; a clear takes the slots' bits out of INBOX_STATUS. INBOX_WRITE, INBOX_CLEAR. -/
def Obligations.TongsTasksExecuteAndTheInboxTakesLines : Prop :=
  (∀ (s : State) (u at_ i : Nat),
      (∀ k, taskById s k.id = some k → engineTask s 5 u [1] = some k → ∃ t, exec (.select u) s = .next t ∧ Executed s t k (selectTask s k)) ∧
      (∀ k, taskById s k.id = some k → engineTask s 5 u [2] = some k → ∃ t, exec (.merge u) s = .next t ∧ Executed s t k (mergeTask s k)) ∧
      (∀ k, taskById s k.id = some k → engineTask s 5 u [0x10] = some k → s.tabA = s.tabB →
        ∃ t w1 w2, exec (.tongsGolden u) s = .next t ∧ w1 = tongsGoldSelect s k u ∧ w2 = tongsGoldMerge s (tongsGoldMid s k u) k u ∧
          taskById t k.id = some { k with ran := true, status := if w1.status = 0 then w2.status else w1.status,
                                          hm := if cHlm k.cmd then writesHm (writtenLines s (qBrand s k.queue) w1 ++
                                            writtenLines (tongsGoldMid s k u) (qBrand s k.queue) w2) else 0 } ∧
          (∀ a, byteAt t a = byteAt (applyWork (tongsGoldMid s k u) (qBrand s k.queue) w2) a) ∧
          (∀ a, rd t a = rd (applyWork (tongsGoldMid s k u) (qBrand s k.queue) w2) a) ∧ WroteLines (workLines w1 ++ workLines w2) s t ∧ EngineFrame s t k) ∧
      (i < 2 → inRepro s = false → s.stk.inst + (if i = 0 then getF s TNG_GATHER_OFS0 else getF s TNG_GATHER_OFS1) ≤ at_ →
        ∃ t, exec (.gatherOffset at_ i) s = .next t ∧ t.tabX = { s.tabX with gates := insertNew s.tabX.gates (gateGather i) } ∧
          Framed [.tabX, .time] [] s t)) ∧
  (∀ (s : State) (brand slot mask : Nat) (line : List Nat), s.Inv → slot < 32 → line.length = 64 →
      (targetOf s (inboxBase s + 64 * slot) = some 0 → fwDenies s 0 brand 1 (inboxBase s + 64 * slot) 64 = none →
        ∃ t, exec (.inboxWrite brand slot line) s = .next t ∧ t.resp = .ok ∧ t.mem = (store s (inboxBase s + 64 * slot) line).mem ∧
          t.stk = s.stk ∧ t.tabA = s.tabA ∧
          PartsBut [.mem, .flt, .pins] s t ∧ BlocksBut [0x08, 0x0D, 0x0F, 0x15, 0x1E] s t) ∧
      (targetOf s (inboxBase s + 64 * slot) = some 0 → fwDenies s 0 brand 1 (inboxBase s + 64 * slot) 64 = none →
          inboxBase s % 64 = 0 → bit (fldAt line 20 4) 0 = true → fldAt line 24 8 = sealedStroke s →
        ∃ t, exec (.inboxWrite brand slot line) s = .next t ∧ t.resp = .ok ∧ bit (getF t TNG_INBOX_STATUS) slot = true ∧
          peek t (inboxBase s + 64 * slot) 64 = line.map (· % 256) ∧
          (∀ a, a < inboxBase s + 64 * slot ∨ inboxBase s + 64 * slot + 64 ≤ a → byteAt t a = byteAt s a) ∧
          Framed [.mem] [TNG_INBOX_STATUS.addr] s t) ∧
      (∀ cls, targetOf s (inboxBase s + 64 * slot) = some 0 → fwDenies s 0 brand 1 (inboxBase s + 64 * slot) 64 = some cls →
        ∃ t, exec (.inboxWrite brand slot line) s = .next t ∧ t.resp = .error ∧
          PartsBut [.flt, .pins] s t ∧ (s.flt.fifo.length < 256 → Framed [.flt] denyRegs s t)) ∧
      (fwDenies s 2 brand 1 TNG_INBOX_STATUS.addr 4 = none →
        ∃ t, exec (.inboxClear brand mask) s = .next t ∧ t.resp = .ok ∧
          getF t TNG_INBOX_STATUS = Nat.xor (getF s TNG_INBOX_STATUS) (Nat.land (getF s TNG_INBOX_STATUS) mask) % 2 ^ 32 ∧
          Framed [] [TNG_INBOX_STATUS.addr] s t))

/-- R257 to R260: the load channel's end has copied the heat's image, and starts the grid pass; the grid pass's end sets READY with the time
since the heat's stroke instant, and counts the cells whose list was cut. ASSAY_LOAD_DONE, ASSAY_GRID_DONE. R261 to R267, R270, R285: ASSAY
ends with status 0 when a plan is chosen and 0x0B otherwise; its golden task ends with a status of its own; a delta entry that is watched is
counted as seen; the freeze decides the plan of the stroke, by the first case that holds. ASSAY, ASSAY_GOLDEN, DELTA_WATCH_CHECK,
ASSAY_FREEZE. -/
def Obligations.TheAssayLoadsWatchesAndFreezes : Prop :=
  (∀ (s : State) (at_ : Nat), s.Inv →
      (s.asy.loading = true → NoErrs s → s.flt.fifo.length < 250 → heatImg s + imageLen ≤ anvilEnd → heatImg s % 64 = 0 →
          InboxApart s asyBase 0x800000 →
        ∃ t, exec (.assayLoadDone at_) s = .next t ∧ t.asy = { s.asy with loading := false, gridding := true } ∧
          getF t ASY_HEAT = getF s CRU_HEAT_SEALED ∧ getF t BLW_ALC_STATUS = 0 ∧
          getF t BLW_ALC_LINES = min (getF s BLW_ALC_LINES + 116225) (2 ^ BLW_ALC_LINES.w - 1) ∧
          peek t asyBase 64 = peek s (heatImg s) 64 ∧ peek t (asyBase + 0x1000) 0x200000 = peek s (heatImg s + primOff) 0x200000 ∧
          (∀ a, a < asyBase ∨ asyBase + asySize ≤ a → (a < heatImg s + 4 ∨ heatImg s + 8 ≤ a) → byteAt t a = byteAt s a) ∧
          Framed [.time, .asy, .mem, .flt]
            ([ASY_HEAT.addr, BLW_ALC_STATUS.addr, BLW_ALC_LINES.addr, CRU_FIELD_STATUS.addr] ++ (List.range 2).map (fun v => (ASY_U_STATUS_PHASE v).addr)) s t) ∧
      (s.asy.gridding = true → NoErrs s → s.flt.fifo.length < 250 → InboxApart s asyBase 0x800000 →
        ∃ t, exec (.assayGridDone at_) s = .next t ∧ t.asy = { s.asy with gridding := false } ∧ flag t ASY_STATUS_READY = true ∧
          getF t ASY_LOAD_NS = (max s.time (at_ % 2 ^ 64) - s.wld.heatInst) % 2 ^ ASY_LOAD_NS.w ∧
          getF t ASY_GRID_FULL = ((gridOf s).lists.filter (fun l => l.full && l.cell.isSome)).length % 2 ^ ASY_GRID_FULL.w ∧
          (∀ a, a < asyBase + headsOff ∨ asyBase + asySize ≤ a → byteAt t a = byteAt s a) ∧ t.free = s.free + 4096 ∧
          Framed [.time, .asy, .mem, .flt, .free]
            ([ASY_STATUS.addr, ASY_LOAD_NS.addr, ASY_GRID_FULL.addr] ++ (List.range 2).map (fun v => (ASY_U_STATUS_PHASE v).addr)) s t)) ∧
  (∀ (s : State) (u at_ : Nat),
      (∀ k, taskById s k.id = some k → engineTask s 7 u [1] = some k → s.tabA = s.tabB → ∃ t h, exec (.assay u) s = .next t ∧
        taskById t k.id = some { k with ran := true, status := if t.asy.chosen.isSome then 0 else 0x0B, hm := h } ∧ (cHlm k.cmd = false → h = 0) ∧
          t.asy.task = some k.cmd ∧ t.asy.done = true ∧ t.asy.deltaSeen = s.asy.nDelta ∧ getF t (ASY_U_STATUS_PHASE k.punit) = 3 ∧
          (∀ a, a < asyBase ∨ asyBase + asySize ≤ a → byteAt t a = byteAt s a) ∧
          PartsBut [.tab, .asy, .flt, .mem, .anv, .ddr, .free, .pins] s t ∧ BlocksBut [0x06, 0x07, 0x08, 0x0D, 0x0F, 0x12, 0x15, 0x1E] s t ∧
          EngineFrame s t k) ∧
      (∀ k, taskById s k.id = some k → engineTask s 7 u [2] = some k → s.tabA = s.tabB → ∃ t st h, exec (.assayGolden u) s = .next t ∧
        (st = 0 ∨ st = 1 ∨ st = 3) ∧ taskById t k.id = some { k with ran := true, status := st, hm := h } ∧ (cHlm k.cmd = false → h = 0) ∧
          (∀ a, (a < asyBase ∨ asyBase + asySize ≤ a) → (a / 64 < goldDst k / 64 ∨ (goldDst k + 63) / 64 < a / 64) → byteAt t a = byteAt s a) ∧
          PartsBut [.tab, .flt, .mem, .anv, .ddr, .free, .pins] s t ∧ BlocksBut [0x06, 0x07, 0x08, 0x0D, 0x0F, 0x12, 0x15, 0x1E] s t ∧
          EngineFrame s t k) ∧
      (∀ c, s.asy.watching = true → s.asy.frozen = false → s.asy.task = some c → s.asy.deltaSeen < s.asy.nDelta → s.asy.carry = none →
          s.asy.chosen = none →
        ∃ t, exec .deltaWatchCheck s = .next t ∧ t.asy = { s.asy with deltaSeen := s.asy.deltaSeen + 1 } ∧ Framed [.asy] [] s t) ∧
      (s.stk.any = true → inRepro s = false → isManager s = true → s.asy.frozen = false → s.asy.watching = false → s.asy.goldenPass = true →
          s.pln.strokeLoss = false → s.flt.takeover = none → islandDown s = false → s.stk.inst + getF s ASY_FREEZE_OFS ≤ at_ →
        ∃ t, exec (.assayFreeze at_) s = .next t ∧ t.asy = { s.asy with frozen := true, nFrozen := s.asy.nDelta } ∧
          t.pln = { s.pln with decided := some (decisionOf (atTime s at_) (cascade s)) } ∧ Framed [.asy, .pln, .time] [] s t) ∧
      (s.stk.any = true → inRepro s = false → isManager s = true → s.asy.frozen = false → s.asy.watching = true → s.asy.goldenPass = true →
          s.pln.strokeLoss = false → s.flt.takeover = none → islandDown s = false → s.stk.inst + getF s ASY_FREEZE_OFS ≤ at_ →
        ∃ t d, exec (.assayFreeze at_) s = .next t ∧ t.asy.frozen = true ∧ t.asy.watching = false ∧ t.asy.nFrozen = s.asy.nDelta ∧
          t.pln = { s.pln with decided := some d } ∧ d.case = cascade t ∧
          (∀ a, a < asyBase ∨ asyBase + asySize ≤ a → byteAt t a = byteAt s a) ∧
          PartsBut [.asy, .pln, .flt, .time, .pins, .anv, .free, .ddr, .mem] s t ∧ BlocksBut [0x07, 0x08, 0x0D, 0x0F, 0x12, 0x15, 0x1E] s t))

/-- R316, R317: COPY, FILL and LIST_PUSH move their lines and end with the transfer's status; what would copy the LOCAL region to another node
is refused with status 0x0C (R217); a header that cannot be read ends with status 3. R413: the golden task does each of the three in the
golden region. COPY, FILL, LIST_PUSH, BELLOWS_GOLDEN. -/
def Obligations.BellowsTasksExecute : Prop :=
  ∀ (s : State) (u : Nat) (k : Task), taskById s k.id = some k →
    (engineTask s 0 u [1] = some k → leaksLocal s (bf k.cmd 16 8) (bf k.cmd 32 4) (bf k.cmd 24 8) = false →
      ∃ t, exec (.copy u) s = .next t ∧ Moved s t k k.punit (bf k.cmd 24 8) (bf k.cmd 32 4) (copyMove s k)) ∧
    (engineTask s 0 u [1] = some k → leaksLocal s (bf k.cmd 16 8) (bf k.cmd 32 4) (bf k.cmd 24 8) = true →
      ∃ t, exec (.copy u) s = .next t ∧ taskById t k.id = some { k with ran := true, status := 0x0C, hm := 0 } ∧
        EngineFrame s t k ∧ (s.tabA = s.tabB → s.flt.fifo.length < 256 →
          t.flt = { s.flt with fifo := s.flt.fifo ++ [mkRec s 0x07 0x002 3 k.punit] } ∧ Framed [.tab, .flt] [BLW_LOCAL_REFUSED.addr] s t)) ∧
    (engineTask s 0 u [2] = some k →
      ∃ t, exec (.fill u) s = .next t ∧ Moved s t k k.punit (bf k.cmd 24 8) (bf k.cmd 32 4) (fillMove s k)) ∧
    (∀ hdr ns m, engineTask s 0 u [3] = some k → bf k.cmd 16 8 < remoteBase → readBrand s (qBrand s k.queue) (bf k.cmd 16 8) = (some hdr, ns) →
        pushEntries (moverOf s k 2) (bf k.cmd 16 8) (bf k.cmd 24 8) (bf k.cmd 40 8) hdr ⟨notesFx s ns, [], 0, 0⟩ = some (some m) →
      ∃ t, exec (.listPush u) s = .next t ∧
        taskById t k.id = some { k with ran := true, status := m.st, hm := if cHlm k.cmd then writesHm m.ws else 0 } ∧
        (∀ a, byteAt t a = byteAt m.s a) ∧
        (∀ a, (a / 64 < bf k.cmd 24 8 / 64 ∨ (bf k.cmd 24 8 + 63) / 64 < a / 64) →
          (a / 64 < bf k.cmd 40 8 / 64 ∨ (bf k.cmd 40 8 + 8 * (hdrOf hdr).count - 1) / 64 < a / 64) → byteAt t a = byteAt s a) ∧
        getF t (BLW_U_LINES k.punit) = getF m.s (BLW_U_LINES k.punit) ∧ EngineFrame s t k) ∧
    (∀ ns, engineTask s 0 u [3] = some k → bf k.cmd 16 8 < remoteBase → readBrand s (qBrand s k.queue) (bf k.cmd 16 8) = (none, ns) →
      ∃ t, exec (.listPush u) s = .next t ∧ taskById t k.id = some { k with ran := true, status := 3, hm := if cHlm k.cmd then writesHm [] else 0 } ∧
        get64 t BLW_ERR_ADDR_LO BLW_ERR_ADDR_HI = bf k.cmd 16 8 ∧ SameMem s t ∧ EngineFrame s t k) ∧
    (∀ b pat hdr m, engineTask s 0 u [0x10] = some k → readBrand s (qBrand s k.queue) (goldSet k) = (some b, []) →
        ((rdBytes s (qBrand s k.queue) (fldAt b 16 8) 8).run []).1 = some pat →
        ((rdBytes s (qBrand s k.queue) (fldAt b 16 8) 8).run []).2 = [] → (goldMove s k b pat).st = 0 →
        readBrand (goldMove s k b pat).s (qBrand s k.queue) (fldAt b 24 8) = (some hdr, []) →
        pushEntries (moverOf s k 1) (fldAt b 24 8) (goldDst k + 0x1040) (goldDst k + 0x1080) hdr (goldMove s k b pat) = some (some m) →
      ∃ t, exec (.bellowsGolden u) s = .next t ∧ Moved s t k k.punit (goldDst k) (0x1080 + 8 * (hdrOf hdr).count) m)

/-- R329 to R331, R395: a granted MODE_REQ of a requester asks for REPRO mode when nothing speaks against it, and otherwise is refused with
its reason in WHY and TOP 0x020; a request for service mode ends a REPRO run at its stroke. At the manager a worker's readiness is kept and
taken back; at a worker the manager's request holds, and is withdrawn again; the order to enter is kept. MODE_REQ_REPRO, MODE_REQ_SERVICE,
MODE. R329, R331: REPRO mode begins at the first stroke instant at which every device is drained, with the REPRO base number and time as its
stroke at the manager and those of the manager's message at a worker; it ends at the first stroke after the current REPRO stroke, at the
device whose clock runs. REPRO_ENTER, REPRO_EXIT. -/
def Obligations.ModesChangeOnRequestAtAStroke : Prop :=
  (∀ (s : State) (brand link : Nat) (others : List (Nat × Nat)) (hdr : List Nat), s.Inv →
      (mayRequest brand = true → isManager s = true → inRepro s = false → refusal s others = none →
          fwDenies s 2 brand 1 TOP_MODE_REQ.addr 4 = none →
        ∃ t, exec (.modeReqRepro brand others) s = .next t ∧ t.resp = .ok ∧ flag t TOP_MODE_REQ_PEND = true ∧ t.ubf.ready = [] ∧
          mode t = mode s ∧ Framed [.ubf] [TOP_MODE.addr] s t) ∧
      (∀ why, mayRequest brand = true → isManager s = true → inRepro s = false → refusal s others = some why →
          fwDenies s 2 brand 1 TOP_MODE_REQ.addr 4 = none → s.flt.fifo.length < 256 →
        ∃ t, exec (.modeReqRepro brand others) s = .next t ∧ t.resp = .ok ∧ flag t TOP_MODE_REQ_PEND = flag s TOP_MODE_REQ_PEND ∧
          getF t TOP_MODE_WHY % 256 = why.1 % 256 ∧ t.flt = { s.flt with fifo := s.flt.fifo ++ [mkRec s 0x00 0x020 0 0] } ∧
          Framed [.flt] [TOP_MODE_WHY.addr] s t) ∧
      (mayRequest brand = true → isManager s = true → inRepro s = true → fwDenies s 2 brand 1 TOP_MODE_REQ.addr 4 = none →
        ∃ t, exec (.modeReqService brand) s = .next t ∧ t.resp = .ok ∧ flag t TOP_MODE_REQ_PEND = true ∧ mode t = mode s ∧ t.ubf.ready = s.ubf.ready ∧
          Framed [.ubf] [TOP_MODE.addr] s t) ∧
      (mayRequest brand = false → fwDenies s 2 brand 1 TOP_MODE_REQ.addr 4 = none →
        ∃ t, exec (.modeReqService brand) s = .next t ∧ t.resp = .error ∧ Framed [] [] s t) ∧
      (link < 4 → hTarget hdr = nodeId s → isManager s = true → flag s TOP_MODE_REQ_PEND = true → inRepro s = false → hAddr hdr = 1 →
          hBody hdr = 0 →
        ∃ t, exec (.mode link hdr) s = .next t ∧ t.ubf.ready = insertNew s.ubf.ready (hOrigin hdr) ∧ Framed [.ubf] [] s t) ∧
      (link < 4 → hTarget hdr = nodeId s → isManager s = true → flag s TOP_MODE_REQ_PEND = true → inRepro s = false → hAddr hdr = 2 →
          hBody hdr = 0 →
        ∃ t, exec (.mode link hdr) s = .next t ∧ t.ubf.ready = s.ubf.ready.filter (· != hOrigin hdr) ∧ Framed [.ubf] [] s t) ∧
      (link < 4 → hTarget hdr = nodeId s → isManager s = false → inRepro s = true → hAddr hdr = 0 → hBody hdr = 0 →
        ∃ t, exec (.mode link hdr) s = .next t ∧ flag t TOP_MODE_REQ_PEND = true ∧ mode t = mode s ∧ Framed [.ubf] [TOP_MODE.addr] s t) ∧
      (link < 4 → hTarget hdr = nodeId s → isManager s = false → inRepro s = false → hAddr hdr = 1 → refusalHere s = (0, 0) →
        ∃ t, exec (.mode link hdr) s = .next t ∧ flag t TOP_MODE_REQ_PEND = true ∧ mode t = mode s ∧ t.ubf.reproSet = false ∧
          Framed [.ubf] [TOP_MODE.addr] s t) ∧
      (link < 4 → hTarget hdr = nodeId s → isManager s = false → (hAddr hdr = 2 ∨ hAddr hdr = 3) →
        ∃ t, exec (.mode link hdr) s = .next t ∧ t.ubf.reproSet = decide (hAddr hdr = 3) ∧ Framed [.ubf] [] s t) ∧
      (link < 4 → hTarget hdr = nodeId s → isManager s = false → inRepro s = false → hAddr hdr = 0 →
        ∃ t, exec (.mode link hdr) s = .next t ∧ flag t TOP_MODE_REQ_PEND = false ∧ mode t = mode s ∧ t.ubf.told = false ∧ t.ubf.reproSet = false ∧
          Framed [.ubf] [TOP_MODE.addr] s t)) ∧
  (∀ (s : State) (at_ n tai inst : Nat), s.Inv → s.stk.awaiting = some (n, tai, inst) → inst ≤ at_ →
      ((mayEnter s || mayFollow s) = true →
        ∃ t, exec (.reproEnter at_) s = .next t ∧ mode t = 1 ∧ getF t TAB_STATUS_PINNED = 1 ∧ flag t TOP_MODE_REQ_PEND = false ∧
          t.car.reproFrom = entryStroke s n tai ∧ (isManager s = true → entryStroke s n tai = (reproBase s, reproT0 s)) ∧
          t.stk = { s.stk with no := (entryStroke s n tai).1, time := (entryStroke s n tai).2, inst := inst, any := true, awaiting := none,
                               planDone := false, ignored := 0 } ∧
          t.wld = { s.wld with sealedFor := none } ∧ t.ubf.ready = [] ∧ t.pln.decided = none ∧ t.car.due = [] ∧ t.car.launched = [] ∧
          PartsBut [.stk, .car, .time, .fwl, .ubf, .asy, .spr, .anv, .ddr, .flt, .tab, .tabX, .free, .pins, .bell, .pln, .wld, .peal] s t ∧
          BlocksBut [0x00, 0x04, 0x06, 0x07, 0x09, 0x0A, 0x0B, 0x0C, 0x0D, 0x0E, 0x0F, 0x10, 0x11, 0x16, 0x1E] s t ∧
          (missedGolden s = [] → s.fwl.mapPending = none → s.spr.vacant = [] → s.flt.fifo.length + 4 ≤ 256 →
            Framed [.stk, .car, .time, .ubf, .asy, .spr, .anv, .ddr, .flt, .tab, .tabX, .bell, .pln, .wld] [TOP_MODE.addr, TAB_STATUS.addr,
              CAR_BANK_CTRL.addr, CAR_STATUS.addr, CAR_SKIPPED.addr, ASY_NOPLAN_CNT.addr, ASY_STATUS.addr, (ASY_U_STATUS_PHASE (assayUnit s)).addr,
              UBF_NODE_ADMIT.addr] s t)) ∧
      (inRepro s = true → flag s TOP_MODE_REQ_PEND = true → reproBusy (atTime s at_) = false →
        ∃ t, exec (.reproExit at_) s = .next t ∧ mode t = 0 ∧ getF t TAB_STATUS_PINNED = 0 ∧ flag t TOP_MODE_REQ_PEND = false ∧ t.stk.inst = inst ∧
          t.stk.awaiting = none ∧ (isWorker s = true → t.stk.no = n ∧ t.stk.time = tai) ∧ (isWorker s = false → t.stk.time = inst - targetNs s) ∧
          t.car.leaving = false ∧ t.ubf.ready = [] ∧ t.pln.decided = none ∧ t.car.due = [] ∧ t.car.launched = [] ∧
          PartsBut [.stk, .car, .time, .fwl, .ubf, .asy, .spr, .anv, .ddr, .flt, .tab, .tabX, .free, .pins, .bell, .pln, .peal] s t ∧
          BlocksBut [0x00, 0x04, 0x06, 0x07, 0x09, 0x0A, 0x0B, 0x0C, 0x0D, 0x0E, 0x0F, 0x10, 0x11, 0x16, 0x1E] s t ∧
          (missedGolden s = [] → s.fwl.mapPending = none → s.spr.vacant = [] → s.flt.fifo.length + 4 ≤ 256 →
            Framed [.stk, .car, .time, .ubf, .asy, .spr, .anv, .ddr, .flt, .tabX, .bell, .pln] [TOP_MODE.addr, TAB_STATUS.addr,
              CAR_BANK_CTRL.addr, CAR_STATUS.addr, ASY_STATUS.addr, (ASY_U_STATUS_PHASE (assayUnit s)).addr, UBF_NODE_ADMIT.addr] s t)))

/-- R293 to R295: a doorbell of the queue's producer moves the tail when the ring has room, counts BUSY when it has not, and is refused with
TAB 0x001 of class 0 from any other brand; a completion ring's head moves at most to its write count. DOORBELL, CQ_HEAD_WRITE. -/
def Obligations.QueuesTakeDoorbells : Prop :=
  ∀ (s : State) (brand q v : Nat), s.Inv → q < 64 → v < 2 ^ 32 →
    (fwDenies s 2 brand 1 (TAB_Q_TAIL q).addr 4 = none → brand = getF s (TAB_Q_CFG2_PRODUCER q) → getF s (TAB_Q_CFG_EN q) = 1 →
        sub32 v (qTail s q) ≤ qSize s q →
      (sub32 v (qHead s q) ≤ qSize s q →
        ∃ t, exec (.doorbell brand q v) s = .next t ∧ t.resp = .ok ∧ qTail t q = v ∧ qHead t q = qHead s q ∧ 
        Framed [] [(TAB_Q_TAIL q).addr, (TAB_Q_STATUS q).addr, (TAB_Q_DEPTH_MAX q).addr] s t) ∧
      (qSize s q < sub32 v (qHead s q) →
        ∃ t, exec (.doorbell brand q v) s = .next t ∧ t.resp = .error ∧ qTail t q = qTail s q ∧ getF t (TAB_Q_STATUS_BUSY_LAST q) = 1 ∧
          getF t (TAB_Q_BUSY q) = min (getF s (TAB_Q_BUSY q) + 1) (2 ^ 32 - 1) ∧
        Framed [] [(TAB_Q_BUSY q).addr, (TAB_Q_STATUS q).addr] s t)) ∧
    (fwDenies s 2 brand 1 (TAB_Q_TAIL q).addr 4 = none → brand ≠ getF s (TAB_Q_CFG2_PRODUCER q) → s.flt.fifo.length < 256 →
      ∃ t, exec (.doorbell brand q v) s = .next t ∧ t.resp = .error ∧ qTail t q = qTail s q ∧
        t.flt = { s.flt with fifo := s.flt.fifo ++ [mkRec s 0x06 0x001 0 q] } ∧
        Framed [.flt] [] s t) ∧
    (fwDenies s 2 brand 1 (TAB_Q_CQ_HEAD q).addr 4 = none →
      (sub32 v (getF s (TAB_Q_CQ_HEAD q)) ≤ sub32 (getF s (TAB_Q_CQ_WR q)) (getF s (TAB_Q_CQ_HEAD q)) →
        ∃ t, exec (.cqHeadWrite brand q v) s = .next t ∧ t.resp = .ok ∧ getF t (TAB_Q_CQ_HEAD q) = v ∧
          Framed [] [(TAB_Q_CQ_HEAD q).addr, (TAB_Q_STATUS_CQ_FULL q).addr] s t) ∧
      (sub32 (getF s (TAB_Q_CQ_WR q)) (getF s (TAB_Q_CQ_HEAD q)) < sub32 v (getF s (TAB_Q_CQ_HEAD q)) →
        ∃ t, exec (.cqHeadWrite brand q v) s = .next t ∧ t.resp = .error ∧ Framed [] [] s t))

/-- R297 to R299: admission takes the command at HEAD of the queue whose turn it is, when it can be read and no fence, serial or window rule
stops it: HEAD advances and the task enters at the end of the table; NOP and BANK_SWAP end at once, the latter asking for the swap.
COMMAND_ADMIT, NOP, BANK_SWAP. -/
def Obligations.AdmissionTakesTheCommandAtHead : Prop :=
  ∀ (s : State) (q : Nat) (c : List Nat), s.Inv → q < 64 → (tasks s).length < 65536 → injectDue s q = none → qHead s q ≠ qTail s q →
    readBrand s 0x21 (slotAddr s q (qHead s q)) = (some c, []) → admitStop s q c = 0 → headerBad s q c = false → itsTurn s q = true →
    (cOrd c = true → (cSeq c + 65536 - flowNext s (cFlow c)) % 65536 < 32768 ∧ flowHolds s (cFlow c) (cSeq c) = false) → s.tabA = s.tabB →
    (cCls c ≠ 9 → cCls c ≠ 15 →
      ∃ t k, exec (.commandAdmit q) s = .next t ∧ tasks t = tasks s ++ [k] ∧ k.cmd = c ∧ k.queue = q ∧ k.num = qHead s q ∧ k.id = s.tabA.nextId ∧
        k.loc = .ready ∧ k.inFlow = cOrd c ∧ k.pri = (if cPri c = 0 then getF s (TAB_Q_CFG_DEFPRI q) else cPri c) ∧
        qHead t q = (qHead s q + 1) % 2 ^ 32 ∧ t.tabA = t.tabB ∧
        Framed [.tab, .tabX] [(TAB_Q_HEAD q).addr, (TAB_Q_DEPTH_MAX q).addr, (TAB_Q_STATUS q).addr, TAB_TASKS_MAX.addr] s t) ∧
    (cCls c = 15 →
      ∃ t k, exec (.nop q) s = .next t ∧ tasks t = tasks s ++ [k] ∧ k.cmd = c ∧ k.queue = q ∧ k.loc = .finished ∧ k.status = 0 ∧
        qHead t q = (qHead s q + 1) % 2 ^ 32 ∧ t.tabA = t.tabB ∧
        Framed [.tab, .tabX] [(TAB_Q_HEAD q).addr, (TAB_Q_DEPTH_MAX q).addr, (TAB_Q_STATUS q).addr, TAB_TASKS_MAX.addr] s t) ∧
    (cCls c = 9 → cOpc c = 1 → zeroAt c 16 48 = true →
      ∃ t k, exec (.bankSwap q) s = .next t ∧ tasks t = tasks s ++ [k] ∧ k.cmd = c ∧ k.queue = q ∧ k.loc = .finished ∧ k.status = 0 ∧
        getF t CAR_BANK_CTRL_SWAP_REQ = 1 ∧ qHead t q = (qHead s q + 1) % 2 ^ 32 ∧ t.tabA = t.tabB ∧
        Framed [.tab, .tabX] [CAR_BANK_CTRL.addr, (TAB_Q_HEAD q).addr, (TAB_Q_DEPTH_MAX q).addr, (TAB_Q_STATUS q).addr, TAB_TASKS_MAX.addr] s t)

/-- R300 to R305, R138: the first task of its class that is not held goes to the engine chosen for it, and starts there when the engine is
idle; a Peal part fixes the lattice's key and is placed as any other; a gate that is ready opens; a task that has run leaves its engine, a
Crucible task of the sealed heat counting its rows or slices. TASK_PLACE, GATE_OPEN, ENGINE_TASK_DONE. -/
def Obligations.TasksArePlacedAndLeave : Prop :=
  ∀ (s : State) (cls l e unit : Nat), s.tabA = s.tabB →
    (∀ k rest, taskById s k.id = some k → cls ≤ 8 → readyList s cls = k :: rest → held s k = false → tGold k = false → freeEngines s cls ≠ [] → inRepro s = false →
        chooseEngine s cls k = some (l, e) → bodyBad s (atEngine k l e) = false → k.status ≠ 2 → (resolveHeat s (atEngine k l e)).isSome →
        (cls = 2 → k.redisp = false → s.peal.heat = (resolveHeat s (atEngine k l e)).getD 0 ∧ partConflict s k.cmd = false) →
      ∃ t k', exec (.taskPlace cls) s = .next t ∧ taskById t k.id = some k' ∧ k'.cmd = k.cmd ∧ k'.lunit = l ∧
        k'.loc = (if idle s e then .running e else .prefetch e) ∧ some k'.heat = resolveHeat s (atEngine k l e) ∧
        (∀ id, id ≠ k.id → taskById t id = taskById s id) ∧
        PartsBut [.tab, .peal] s t ∧ (cls ≠ 2 → t.peal = s.peal) ∧ BlocksBut [0x06, 0x0B, classBlock cls] s t) ∧
    (∀ g, gateReady s g = true →
      ∃ t, exec (.gateOpen g) s = .next t ∧ t = { s with tabX := { s.tabX with gates := insertNew s.tabX.gates g } }) ∧
    (∀ k, taskById s k.id = some k → cls ≤ 8 → unit < physCount cls → runningOn s (classBase cls + unit) = some k → taskDone s k = true →
        (tCls k ≠ 1 ∧ tCls k ≠ 2 ∧ tCls k ≠ 7 ∨ tGold k = true) → (prefetchOn s (classBase cls + unit)).all (fun j => j.id != k.id) = true →
      ∃ t, exec (.engineTaskDone cls unit) s = .next t ∧ taskById t k.id = some { k with loc := .finished } ∧
        (∀ id, prefetchOn s (classBase cls + unit) = none ∧ id ≠ k.id → taskById t id = taskById s id) ∧
        PartsBut [.tab] s t ∧ BlocksBut [0x06, 0x0B, classBlock cls] s t) ∧
    (∀ k, taskById s k.id = some k → unit < physCount 1 → runningOn s (classBase 1 + unit) = some k → taskDone s k = true → tCls k = 1 →
        tGold k = false → cOpc k.cmd = 3 → k.status = 0 → k.heat = getF s CRU_HEAT_SEALED →
        (prefetchOn s (classBase 1 + unit)).all (fun j => j.id != k.id) = true →
      ∃ t, exec (.engineTaskDone 1 unit) s = .next t ∧ taskById t k.id = some { k with loc := .finished } ∧
        t.wld = { s.wld with slicesDone := (cruRows k).foldl insertNew s.wld.slicesDone } ∧
        PartsBut [.tab, .wld] s t ∧ BlocksBut [0x06, 0x0A, 0x0B] s t)

/-- R307, R308: the first task that may be released leaves the Tabor, its entry counted in its queue's completion ring and in the completion
log; a skipped flow goes past the number it waits for, with TAB 0x005 of class 0. COMPLETION_RELEASE, FLOW_SKIP. R312, R408, R409: a
processor's write of the last word injects the golden command it wrote, once; a fence takes the unit out of service for good. GOLDEN_INJECT,
ENGINE_FENCE. -/
def Obligations.CompletionsAreReleasedAndUnitsFenced : Prop :=
  (∀ (s : State) (brand flow : Nat), s.Inv →
      (∀ k, releaseNext s = some k → k.queue < 64 →
        ∃ t, exec .completionRelease s = .next t ∧ tasks t = (tasks s).filter (fun u => u.id != k.id) ∧
          getF t (TAB_Q_CQ_WR k.queue) = (getF s (TAB_Q_CQ_WR k.queue) + 1) % 2 ^ 32 ∧
          getF t TAB_CLOG_WR = (getF s TAB_CLOG_WR + 1) % 2 ^ TAB_CLOG_WR.w ∧
          nget t.tabA.flows (cFlow k.cmd) =
            (if k.inFlow then (nget s.tabA.flows (cFlow k.cmd) + 1) % 65536 else nget s.tabA.flows (cFlow k.cmd)) ∧
          WroteLines [(qCqBase s k.queue + getF s (TAB_Q_CQ_WR k.queue) % max 1 (cqSize s k.queue) * 16, completionBytes s k),
            (clogBase s + getF s TAB_CLOG_WR % max 1 (getF s TAB_CLOG_SIZE) * 16, List.replicate 16 0),
            (hlogBase s + getF s HLM_LOG_WR % max 1 (getF s HLM_LOG_SIZE) * 16, List.replicate 16 0)] s t ∧
          PartsBut [.tab, .tabX, .mem, .flt, .pins, .anv, .ddr, .ubf] s t ∧ BlocksBut [0x06, 0x08, 0x0D, 0x0F, 0x10, 0x12, 0x15, 0x1E] s t ∧
          (flag s TOP_MODE_REQ_PEND = false → t.ubf = s.ubf)) ∧
      (fwDenies s 2 brand 1 TAB_FLOW_SKIP.addr 4 = none → flow < 256 → flowHolds s flow (flowNext s flow) = false → s.tabA = s.tabB →
          s.flt.fifo.length < 256 →
        ∃ t, exec (.flowSkip brand flow) s = .next t ∧ t.resp = .ok ∧ flowNext t flow = (flowNext s flow + 1) % 65536 ∧
          t.flt.fifo = s.flt.fifo ++ [mkRec s 0x06 0x005 0 flow] ∧
          Framed [.tab, .flt] [] s t)) ∧
  (∀ (s : State) (brand word15 cls unit : Nat) (shared : Bool), s.Inv →
      (fwDenies s 2 brand 1 (TAB_GINJ 15).addr 4 = none → 2 ≤ brand → brand ≤ 4 → getF s TAB_GINJ_STATUS = 0 →
        ∃ t pos c, exec (.goldenInject brand word15) s = .next t ∧ t.resp = .ok ∧ getF t TAB_GINJ_STATUS = 1 ∧
          t.tabX.inject = some (pos, c) ∧ c.length = 64 ∧ c.drop 60 = leBytes 4 (word15 % 2 ^ 32) ∧
          Framed [.tabX] [(TAB_GINJ 15).addr, TAB_GINJ_STATUS.addr] s t) ∧
      (fwDenies s 2 brand 1 (TAB_GINJ 15).addr 4 = none → getF s TAB_GINJ_STATUS = 1 →
        ∃ t, exec (.goldenInject brand word15) s = .next t ∧ t.resp = .error ∧ Framed [] [] s t) ∧
      (cls ≤ 8 → unit < physCount cls → ustate s (classBase cls + unit) < 4 →
        ∃ t, exec (.engineFence cls unit shared) s = .next t ∧ ustate t (classBase cls + unit) = 4 ∧
          (((tasks s).map (·.id)).Nodup → ∀ k ∈ tasks s, k.loc = .running (classBase cls + unit) → tGold k = false →
            (taskById t k.id).any (fun v => v.loc == .ready && v.redisp) = true) ∧
          PartsBut [.car, .peal, .tab, .tabX, .asy, .ubf, .fwl, .start, .flt, .spr, .pins, .free] s t ∧
          BlocksBut [0x00, 0x06, 0x07, 0x09, 0x0A, 0x0B, 0x0C, 0x0D, 0x0E, 0x0F, 0x10, 0x11, 0x16, 0x1E] s t) ∧
      (cls ≤ 8 → unit < physCount cls → 4 ≤ ustate s (classBase cls + unit) → ∃ t, exec (.engineFence cls unit shared) s = .next t ∧ t = s))

/-- R344, R350, R351: a line that a check corrected is written back without its error, and nothing else changes; a scrub moves its bank to its
next line, and a late one is forced, counted, with ANV 0x006 of class 0. ANVIL_WRITEBACK, SCRUB, SCRUB_FORCED. -/
def Obligations.AnvilLinesAreCorrectedAndScrubbed : Prop :=
  ∀ (s : State) (at_ line bank : Nat) (assay : Bool) (fix : List Nat), s.Inv →
    (s.mem.writeback.contains line = true → line % 64 = 0 → lineCheck (errAt s line) = .corrected fix →
      ∃ t, exec (.anvilWriteback line) s = .next t ∧ errAt t line = [] ∧
        peek t line 64 = xorBytes (peek s line 64) (patternBytes (xorPattern (errAt s line) fix)) ∧
        (∀ a, a < line ∨ line + 64 ≤ a → byteAt t a = byteAt s a) ∧ (∀ l, l ≠ line → errAt t l = errAt s l) ∧
        t.mem.writeback = s.mem.writeback.filter (· ≠ line) ∧ Framed [.mem] [] s t) ∧
    (∀ k l, scrubs s bank assay = true → s.time ≤ at_ → at_ < 2 ^ 64 → scrubSlot s bank assay at_ = some k → k = at_ / 15625 →
        scrubLine s bank assay = some l → (readLine s l).2 = [] → (assay = false → nget s.anv.scrubPtr bank % 4096 ≠ 4095) →
      ∃ t, exec (.scrub at_ bank assay) s = .next t ∧ nget t.anv.late (scrubKey bank assay) = k + 1 ∧
        (assay = false → nget t.anv.scrubPtr bank = nget s.anv.scrubPtr bank % 4096 + 1) ∧
        (assay = true → nget t.anv.asyPtr bank = (nget s.anv.asyPtr bank + 1) % 4096) ∧
        Framed [.anv, .time] [] s t) ∧
    (∀ k l, scrubs s bank assay = true → scrubSlot s bank assay s.time = some k → k < s.time / 15625 → scrubLine s bank assay = some l →
        (readLine s l).2 = [] → (assay = false → nget s.anv.scrubPtr bank % 4096 ≠ 4095) → s.flt.fifo.length < 256 →
      ∃ t, exec (.scrubForced bank assay) s = .next t ∧ getF t ANV_FORCED = min (getF s ANV_FORCED + 1) (2 ^ ANV_FORCED.w - 1) ∧
        nget t.anv.late (scrubKey bank assay) = k + 1 ∧
        t.flt = { s.flt with fifo := s.flt.fifo ++ [mkRec s 0x08 0x006 0 (if assay then 0xC0 + bank else bank / 8)] } ∧
        Framed [.anv, .flt] [ANV_FORCED.addr] s t)

/-- R352 to R355: a bank that is due is copied to the first free spare bank; at the first stroke instant after the copy the map names the
spare and the old bank is retired, with ANV 0x004 of class 2; without a spare, NO_SPARE and ANV 0x005 of class 4. BANK_RETIRE, BANK_COPY_DONE,
BANK_SWITCH. -/
def Obligations.FailingBanksAreReplaced : Prop :=
  ∀ (s : State) (at_ l pb n : Nat), s.Inv → l < 1024 → pb < 1088 → n < 1088 → pb ≠ n →
    (∀ rest, s.anv.copyOf = none → nextDue s = some (l, pb) → freeSpares s = n :: rest →
      ∃ t, exec .bankRetire s = .next t ∧ t.anv.copyOf = some (l, pb, n) ∧ t.anv.copied = none ∧ getF t ANV_STATUS_REMAP_BUSY = 1 ∧
        getF t ANV_STATUS_REMAP_FROM = pb ∧ getF t ANV_STATUS_REMAP_TO = n ∧ Framed [.anv] [ANV_STATUS_REMAP_BUSY.addr] s t) ∧
    (s.anv.copyOf = none → nextDue s = some (l, pb) → freeSpares s = [] → s.anv.noSpareSeen.contains pb = false → s.flt.fifo.length < 256 →
      ∃ t, exec .bankRetire s = .next t ∧ getF t ANV_STATUS_NO_SPARE = 1 ∧
        t.flt = { s.flt with fifo := s.flt.fifo ++ [mkRec s 0x08 0x005 4 (pb / 8)] } ∧
        Framed [.anv, .flt] [ANV_STATUS.addr] s t) ∧
    (s.anv.copyOf = some (l, pb, n) → s.anv.copied = none →
      ∃ t, exec .bankCopyDone s = .next t ∧ t = { s with anv := { s.anv with copied := some s.time } }) ∧
    (∀ c, s.anv.copyOf = some (l, pb, n) → s.anv.copied = some c → c ≤ s.stk.inst → s.stk.inst ≤ at_ → s.mem.errs = [] →
        s.flt.fifo.length < 256 →
      ∃ t, exec (.bankSwitch at_) s = .next t ∧ getF t (ANV_MAP l) = n ∧ bankRetired t pb = true ∧ flag t (ANV_BANK_CE_IN_USE n) = true ∧
        flag t (ANV_BANK_CE_IN_USE pb) = false ∧ t.anv.copyOf = none ∧ getF t ANV_STATUS_REMAP_BUSY = 0 ∧
        t.flt.fifo = s.flt.fifo ++ [mkRec (atTime s at_) 0x08 0x004 2 (pb / 8)] ∧ t.spr = { s.spr with wearBanks := insertNew s.spr.wearBanks pb } ∧
        Framed [.anv, .flt, .time, .spr] [(ANV_MAP l).addr, (ANV_BANK_CE n).addr, (ANV_BANK_CE pb).addr, ANV_STATUS.addr] s t)

/-- R362 to R366, R372: MR4 values are kept per rank and set HOT; a refresh changes no bit; the patrol goes on to the next line and counts its
passes; channels that are not in self-refresh 10 µs into a warm episode lose their content; a region's version is written under VER_SEL.
MR4_POLL, DDR_REFRESH, PATROL_SCRUB, DDR_SR_TIMEOUT, DDR_VER_WRITE. R368, R369, R473: a subreset of a DDR channel counts as a retraining, ends
its SUB_CTRL bit and writes DDR 0x004 of class 0; one that fails loses the channel, with DDR 0x005 of class 4; the Ethernet and PCIe subresets
end their bits. SUB_RESET_DDR, SUB_RESET_ETH, SUB_RESET_PCIE. -/
def Obligations.DdrIsKeptAndSubresetsEnd : Prop :=
  (∀ (s : State) (at_ ch value mask brand : Nat), s.Inv → ch < 6 →
      (getF s (DDR_CH_STATUS_TRAINED ch) ≠ 0 →
        ∃ t u, exec (.mr4Poll ch 0 value) s = .next t ∧ exec (.mr4Poll ch 1 value) s = .next u ∧
          getF t (DDR_CH_MR4_MR4 ch) = value % 2 ^ (DDR_CH_MR4_MR4 ch).w ∧ getF t (DDR_CH_MR4_MR4_R1 ch) = getF s (DDR_CH_MR4_MR4_R1 ch) ∧
          getF u (DDR_CH_MR4_MR4_R1 ch) = value % 2 ^ (DDR_CH_MR4_MR4_R1 ch).w ∧ getF u (DDR_CH_MR4_MR4 ch) = getF s (DDR_CH_MR4_MR4 ch) ∧
          flag t (DDR_CH_STATUS_HOT ch) = (mr4Hot (getF t (DDR_CH_MR4_MR4 ch)) || mr4Hot (getF t (DDR_CH_MR4_MR4_R1 ch))) ∧
          Framed [] [(DDR_CH_STATUS ch).addr, (DDR_CH_MR4 ch).addr] s t ∧ Framed [] [(DDR_CH_STATUS ch).addr, (DDR_CH_MR4 ch).addr] s u) ∧
      (getF s (DDR_CH_STATUS_TRAINED ch) ≠ 0 →
        ∃ t, exec (.ddrRefresh ch) s = .next t ∧ t = { s with ddr := { s.ddr with refreshes := s.ddr.refreshes + 1 } }) ∧
      (getF s DDR_CFG_SCRUB_H ≠ 0 → s.start.swept = true → ddrSize s ≠ 0 → (readLine s (ddrBase + s.ddr.patrol * 64)).2 = [] →
        ∃ t, exec .patrolScrub s = .next t ∧ t.ddr.patrol = (if ddrSize s ≤ (s.ddr.patrol + 1) * 64 then 0 else s.ddr.patrol + 1) ∧
          getF t DDR_PATROL_PASS = (if ddrSize s ≤ (s.ddr.patrol + 1) * 64 then (getF s DDR_PATROL_PASS + 1) % 2 ^ DDR_PATROL_PASS.w
            else getF s DDR_PATROL_PASS) ∧
          Framed [.ddr] [DDR_PATROL_PASS.addr] s t) ∧
      (s.rst.reach = 3 → s.rst.warmAt + 10000 ≤ (atTime s at_).aonTime →
        ∃ t, exec (.ddrSrTimeout at_ mask) s = .next t ∧
          (∀ c ∈ activeChs s, flag t (DDR_CH_STATUS_SELF_REFRESH c) = bit mask c ∧ (bit mask c = false → t.ddr.contentLost.contains c = true)) ∧
          t.ddr = { s.ddr with contentLost := ((activeChs s).filter (fun c => !bit mask c)).foldl insertNew s.ddr.contentLost } ∧
          Framed [.ddr, .time] ((activeChs s).map (fun c => (DDR_CH_STATUS c).addr)) s t) ∧
      (fwDenies s 2 brand 1 DDR_VER.addr 4 = none →
        ∃ t, exec (.ddrVerWrite brand value) s = .next t ∧ t.resp = .ok ∧ nget t.ddr.ver (getF s DDR_VER_SEL) = value % 256 ∧
          (∀ r ∈ List.range 64, r ≠ getF s DDR_VER_SEL → nget t.ddr.ver r = nget s.ddr.ver r) ∧ Framed [.ddr] [] s t)) ∧
  (∀ (s : State) (ch mac : Nat), s.Inv →
      (ch < 6 → getF s (DDR_CH_STATUS_TRAINED ch) ≠ 0 → s.flt.fifo.length < 255 →
        (∃ t, exec (.subResetDdr ch true) s = .next t ∧ getF t (DDR_CH_RETRAIN ch) = min (getF s (DDR_CH_RETRAIN ch) + 1) (2 ^ (DDR_CH_RETRAIN ch).w - 1) ∧
          bit (rd t RST_SUB_CTRL.addr) ch = false ∧ t.flt.fifo = s.flt.fifo ++ [mkRec s 0x15 0x004 0 (ch * 2)] ∧
          Framed [.flt] [(DDR_CH_RETRAIN ch).addr, RST_SUB_CTRL.addr] s t) ∧
        (getF s (DDR_CH_STATUS_LOST ch) = 0 → ∃ t, exec (.subResetDdr ch false) s = .next t ∧ getF t (DDR_CH_STATUS_LOST ch) = 1 ∧
          t.flt.fifo = s.flt.fifo ++ [mkRec s 0x15 0x004 0 (ch * 2), mkRec s 0x15 0x005 4 (ch * 2)] ∧
          Framed [.flt, .ddr] [(DDR_CH_STATUS ch).addr, (DDR_CH_RETRAIN ch).addr, RST_SUB_CTRL.addr] s t)) ∧
      (mac < 4 → ∃ t, exec (.subResetEth mac) s = .next t ∧ bit (rd t RST_SUB_CTRL.addr) (6 + mac) = false ∧
        Framed [] [RST_SUB_CTRL.addr] s t) ∧
      (∃ t, exec .subResetPcie s = .next t ∧ bit (rd t RST_SUB_CTRL.addr) 10 = false ∧ Framed [] [RST_SUB_CTRL.addr] s t))

/-- R421, R422: a firewall-granted write of a processor or device goes to memory and is answered; a granted read answers the bytes it read; a
denied one answers an error, changes no memory, and is recorded; an address that does not exist answers an error. MEMORY_ACCESS. -/
def Obligations.MemoryAccessesGoThroughTheFirewall : Prop :=
  ∀ (s : State) (brand kind addr len : Nat) (bytes : List Nat), s.Inv → 0 < bytes.length → 0 < len →
    (addr + bytes.length ≤ anvilEnd → fwDenies s 0 brand 1 addr bytes.length = none →
      ∃ t, exec (.memoryAccess brand 1 addr bytes len) s = .next t ∧ t.resp = .ok ∧
        (∀ a, (a / 64 < addr / 64 ∨ (addr + bytes.length - 1) / 64 < a / 64) → byteAt t a = byteAt s a) ∧
        PartsBut [.mem, .flt, .pins, .anv] s t ∧ BlocksBut [0x08, 0x0D, 0x0F, 0x1E] s t ∧
        (s.mem.errs = [] → InboxApart s (lineOf addr) (bytes.length + 128) → Framed [.mem] [] s t)) ∧
    (addr + bytes.length ≤ anvilEnd → fwDenies s 0 brand 1 addr bytes.length = none → s.mem.errs = [] →
      ∃ t, exec (.memoryAccess brand 1 addr bytes len) s = .next t ∧ t.resp = .ok ∧ peek t addr bytes.length = bytes.map (· % 256) ∧
        (∀ a, a < addr ∨ addr + bytes.length ≤ a → byteAt t a = byteAt s a) ∧
        PartsBut [.mem, .flt, .pins] s t ∧ BlocksBut [0x0D, 0x0F, 0x1E] s t) ∧
    (∀ l, addr + len ≤ anvilEnd → kind ≠ 1 → fwDenies s 0 brand kind addr len = none → addr % 64 + len ≤ 64 →
        portLine s addr = (some l, []) →
      ∃ t, exec (.memoryAccess brand kind addr bytes len) s = .next t ∧ t.resp = .data ((l.drop (addr % 64)).take len) ∧ Framed [] [] s t) ∧
    (∀ cls, addr + bytes.length ≤ anvilEnd → fwDenies s 0 brand 1 addr bytes.length = some cls → s.flt.fifo.length < 256 →
      ∃ t, exec (.memoryAccess brand 1 addr bytes len) s = .next t ∧ t.resp = .error ∧
        t.flt = { s.flt with fifo := s.flt.fifo ++ [mkRec s 0x12 0x001 cls 0] } ∧ get64 t FWL_DENY_LAST_LO FWL_DENY_LAST_HI = addr ∧
        Framed [.flt] denyRegs s t) ∧
    (targetOf s addr = none → addr < remoteBase →
      ∃ t, exec (.memoryAccess brand kind addr bytes len) s = .next t ∧ t.resp = .error ∧ Framed [] [] s t)

/-- R386 to R390: a link that trains comes up, its first bad lane left out (UBF 0x003 of class 0), and a link that has been up before counts
as retrained (UBF 0x004); a cause starts a retrain; the third failure in a row, or 200 µs without a sync message, takes it down; a request
through L_CTRL starts an attempt. LINK_TRAIN, RETRAIN, RETRAIN_FAIL, SYNC_TIMEOUT, UBF_RETRAIN_REQ. -/
def Obligations.LinksTrainRetrainAndGoDown : Prop :=
  ∀ (s : State) (at_ link brand bad : Nat), s.Inv → link < 4 → s.flt.fifo.length < 250 →
    (mayTrain s link = true → (lnk s link).wasUp = false → ∃ t, exec (.linkTrain link 9 9) s = .next t ∧ linkState t link = 2 ∧
      getF t (UBF_L_CTRL link) = 0 ∧ (lnk t link).attempts = 0 ∧ (lnk t link).wasUp = true ∧ (lnk t link).syncAt = s.time ∧
        Framed [.ubf] [(UBF_L_STATUS_STATE link).addr, (UBF_L_CTRL link).addr] s t) ∧
    (mayTrain s link = true → (lnk s link).wasUp = true → ∃ t, exec (.linkTrain link 9 9) s = .next t ∧ linkState t link = 2 ∧
      getF t (UBF_L_CTRL link) = 0 ∧ (lnk t link).attempts = 0 ∧
      getF t (UBF_L_RETRAIN link) = min (getF s (UBF_L_RETRAIN link) + 1) (2 ^ (UBF_L_RETRAIN link).w - 1) ∧
      t.flt = { s.flt with fifo := s.flt.fifo ++ [mkRec s 0x16 0x004 0 link] } ∧
        Framed [.ubf, .flt] [(UBF_L_STATUS_STATE link).addr, (UBF_L_CTRL link).addr, (UBF_L_RETRAIN link).addr] s t) ∧
    (mayTrain s link = true → (lnk s link).wasUp = false → bad < 9 → getF s (UBF_L_STATUS_TX_BAD link) = 0xF →
      ∃ t, exec (.linkTrain link bad 9) s = .next t ∧ linkState t link = 2 ∧ getF t (UBF_L_STATUS_TX_BAD link) = bad ∧
        t.flt = { s.flt with fifo := s.flt.fifo ++ [mkRec s 0x16 0x003 0 link] } ∧
        Framed [.ubf, .flt] [(UBF_L_STATUS_STATE link).addr, (UBF_L_CTRL link).addr] s t) ∧
    (linkState s link = 2 → (lnk s link).badLane = none → ∃ t, exec (.retrain link) s = .next t ∧ linkState t link = 1 ∧
        Framed [] [(UBF_L_STATUS_STATE link).addr] s t) ∧
    (linkState s link = 1 → ((lnk s link).attempts + 1 < 3 ∨ (lnk s link).wasUp = false) →
      ∃ t, exec (.retrainFail at_ link) s = .next t ∧ (lnk t link).attempts = (lnk s link).attempts + 1 ∧
        Framed [.ubf, .time] [] s t) ∧
    (linkState s link = 1 → 3 ≤ (lnk s link).attempts + 1 → (lnk s link).wasUp = true → s.ubf.pending = [] →
      ∃ t, exec (.retrainFail at_ link) s = .next t ∧ linkState t link = 0 ∧ (lnk t link).downed = true ∧ (lnk t link).attempts = 0 ∧
        (isUpstream s link = true → t.ubf.orphan = true ∧ source t = 6 ∧ t.pins.safeState = true) ∧
        (isUpstream s link = false → (nodesBehind (nodeId s) link).all (fun n => t.ubf.lost.contains n) = true) ∧
        Framed [.ubf, .flt, .time, .pins, .car] [(UBF_L_STATUS_STATE link).addr, (UBF_L_CTRL link).addr, UBF_NODE_LOST.addr, TOP_MODE.addr,
          TOP_MODE_WHY.addr, CAR_STATUS.addr, ASY_STATUS.addr] s t) ∧
    (linkState s link = 2 → (lnk s link).syncAt + 200000 ≤ at_ → s.ubf.pending = [] →
      ∃ t, exec (.syncTimeout at_ link) s = .next t ∧ linkState t link = 0 ∧ (lnk t link).downed = true ∧
        t.flt.fifo.take (s.flt.fifo.length + 1) = s.flt.fifo ++ [mkRec (atTime s at_) 0x16 0x009 3 link] ∧
        Framed [.ubf, .flt, .time, .pins, .car] [(UBF_L_STATUS_STATE link).addr, (UBF_L_CTRL link).addr, UBF_NODE_LOST.addr, TOP_MODE.addr,
          TOP_MODE_WHY.addr, CAR_STATUS.addr, ASY_STATUS.addr] s t) ∧
    (linkState s link = 0 → fwDenies s 2 brand 1 (UBF_L_CTRL link).addr 4 = none →
      ∃ t, exec (.ubfRetrainReq brand link) s = .next t ∧ t.resp = .ok ∧ linkState t link = 1 ∧ getF t (UBF_L_CTRL link) = 1 ∧
        (lnk t link).downed = false ∧ (lnk t link).attempts = 0 ∧
        Framed [.ubf] [(UBF_L_STATUS_STATE link).addr, (UBF_L_CTRL link).addr] s t)

/-- R378 to R385: lane errors are counted; a frame whose CRC fits the next sequence number enters the receive buffer; one that fits neither
that nor a control flit is bad and counted; a control flit's credits are kept; a replay timeout sends the replay buffer again, with UBF 0x002
of class 0. SKP_RECEIVE, FLIT_RECEIVE, CONTROL_FLIT, REPLAY_TIMEOUT. -/
def Obligations.FlitsAreCheckedAcknowledgedAndReplayed : Prop :=
  ∀ (s : State) (link : Nat) (frame errs payload : List Nat), s.Inv → link < 4 → linkUp s link = true →
    (getF s UBF_CFG = 0 →
      ∃ t, exec (.skpReceive link errs) s = .next t ∧
        getF t (UBF_L_LANE_ERR link) = min (getF s (UBF_L_LANE_ERR link) + ((List.range 9).map (fun l => errs.getD l 0)).sum)
          (2 ^ (UBF_L_LANE_ERR link).w - 1) ∧ linkUp t link = true ∧
        Framed [.ubf] [(UBF_L_LANE_ERR link).addr] s t) ∧
    (fldAt frame 32 4 = crc32c (frame.take 32 ++ [(lnk s link).rxSeq]) →
      ∃ t, exec (.flitReceive link frame) s = .next t ∧ (lnk t link).rxBuf = (lnk s link).rxBuf ++ [frame.take 32] ∧
        (lnk t link).rxSeq = ((lnk s link).rxSeq + 1) % 128 ∧ (lnk t link).nakAt = none ∧
        Framed [.ubf] [] s t) ∧
    (fldAt frame 32 4 ≠ crc32c (frame.take 32 ++ [(lnk s link).rxSeq]) → fldAt frame 32 4 ≠ crc32c (frame.take 32 ++ [0x80]) →
      ∃ t, exec (.flitReceive link frame) s = .next t ∧ (lnk t link).rxBuf = (lnk s link).rxBuf ∧ (lnk t link).rxSeq = (lnk s link).rxSeq ∧
        getF t (UBF_L_BAD link) = min (getF s (UBF_L_BAD link) + 1) (2 ^ (UBF_L_BAD link).w - 1) ∧ (lnk t link).nakAt.isSome = true ∧
        Framed [.ubf] [(UBF_L_BAD link).addr, (UBF_L_NAK link).addr] s t) ∧
    (∃ t, exec (.controlFlit link payload) s = .next t ∧ (lnk t link).rxBuf = (lnk s link).rxBuf ∧
      (lnk t link).credSeen = (List.range 4).map (fun v => fldAt payload (1 + 2 * v) 2) ∧
        Framed [.ubf] [] s t) ∧
    ((lnk s link).replay ≠ [] → (lnk s link).replays = 0 → s.flt.fifo.length < 256 →
      ∃ t, exec (.replayTimeout link) s = .next t ∧ (lnk t link).tx = (lnk s link).tx ++ (lnk s link).replay ∧
        getF t (UBF_L_REPLAY_TO link) = min (getF s (UBF_L_REPLAY_TO link) + 1) (2 ^ (UBF_L_REPLAY_TO link).w - 1) ∧
        t.flt.fifo = s.flt.fifo ++ [mkRec s 0x16 0x002 0 link] ∧
        Framed [.ubf, .flt] [(UBF_L_REPLAY_TO link).addr] s t)

/-- R382, R393: at its target a WR stores its line with the brand of its origin when the firewall grants it, and an RD answers the line it
read; a WR that is not line-aligned or is denied stores nothing, and an access that is misaligned answers an error. WR, RD. R394: a response
ends the request of its tag: a write is answered as its status says, a read gets its bytes, and what a Bellows task read is written at its
destination; 100 µs without one, or an error status, answers an error with UBF 0x008 of class 0, and ends a Bellows task's write with status
0x0C. WACK, RDR, REMOTE_TIMEOUT. -/
def Obligations.RemoteAccessesAreServedAndEnd : Prop :=
  (∀ (s : State) (link : Nat) (hdr line : List Nat), s.Inv → carries s link hdr = true → hTarget hdr = nodeId s → line.length = 64 →
      (hAddr hdr % 64 = 0 → targetOf s (hAddr hdr) = some 0 → fwDenies s 0 (0x50 + hOrigin hdr) 1 (hAddr hdr) 64 = none →
          bit (hArg hdr) 0 = false →
        ∃ t, exec (.wr link hdr [line]) s = .next t ∧ peek t (hAddr hdr) 64 = line.map (· % 256) ∧ errAt t (hAddr hdr) = [] ∧
          (∀ a, a < hAddr hdr ∨ hAddr hdr + 64 ≤ a → byteAt t a = byteAt s a) ∧
          t.ubf = (respond (takeMsg s link hdr (lineFlits [line])) 2 hdr 0 []).ubf ∧
          PartsBut [.ubf, .mem, .flt, .pins] s t ∧ BlocksBut [0x0D, 0x0F, 0x1E] s t ∧
          (InboxApart s (hAddr hdr) 64 → Framed [.ubf, .mem] [] s t)) ∧
      (∀ cls, hAddr hdr % 64 = 0 → targetOf s (hAddr hdr) = some 0 → fwDenies s 0 (0x50 + hOrigin hdr) 1 (hAddr hdr) 64 = some cls →
          s.flt.fifo.length < 256 →
        ∃ t, exec (.wr link hdr [line]) s = .next t ∧ t.ubf = (respond (takeMsg s link hdr (lineFlits [line])) 2 hdr 1 []).ubf ∧
          t.flt = { s.flt with fifo := s.flt.fifo ++ [mkRec s 0x12 0x001 cls 0] } ∧ Framed [.ubf, .flt] denyRegs s t) ∧
      (hAddr hdr % 64 ≠ 0 → ∃ t, exec (.wr link hdr [line]) s = .next t ∧
          t.ubf = (respond (takeMsg s link hdr (lineFlits [line])) 2 hdr 1 []).ubf ∧ Framed [.ubf] [] s t) ∧
      (hAddr hdr % 64 = 0 → hArg hdr = 64 → readBrand s (0x50 + hOrigin hdr) (hAddr hdr) = (some line, []) →
        ∃ t, exec (.rd link hdr) s = .next t ∧ t.ubf = (respond (takeMsg s link hdr []) 4 hdr 0 (lineFlits [line])).ubf ∧ Framed [.ubf] [] s t) ∧
      (hAddr hdr % 64 ≠ 0 →
        ∃ t, exec (.rd link hdr) s = .next t ∧ t.ubf = (respond (takeMsg s link hdr []) 4 hdr 1 []).ubf ∧ Framed [.ubf] [] s t)) ∧
  (∀ (s : State) (link : Nat) (hdr : List Nat) (lines : List (List Nat)) (r : Remote) (k : Task), s.Inv → carries s link hdr = true →
      hTarget hdr = nodeId s → pendingTag s (hTag hdr) = some r → s.flt.fifo.length < 250 →
      (r.kind = 6 → hArg hdr = 0 → ∃ t, exec (.wack link hdr) s = .next t ∧ t.resp = .ok ∧ pendingTag t (hTag hdr) = none ∧
          Framed [.ubf] [] s t) ∧
      (r.kind = 0 → hArg hdr = 0 → s.ubf.heads = [] → s.tabA = s.tabB → ∃ t, exec (.wack link hdr) s = .next t ∧ pendingTag t (hTag hdr) = none ∧
          (∀ id, (taskById t id).isSome = (taskById s id).isSome) ∧ Framed [.ubf, .tab] [] s t) ∧
      (r.kind = 7 → hArg hdr = 0 → ∃ t, exec (.rdr link hdr lines) s = .next t ∧ t.resp = .data ((lines.flatten.drop r.dst).take r.len) ∧
        pendingTag t (hTag hdr) = none ∧ Framed [.ubf] [] s t) ∧
      (r.kind = 1 → hArg hdr = 0 → s.ubf.heads = [] → s.tabA = s.tabB → taskById s r.task = some k → k.status = 0 → r.dst + r.len ≤ anvilEnd →
        ∃ t, exec (.rdr link hdr lines) s = .next t ∧ pendingTag t (hTag hdr) = none ∧
          (∀ a, byteAt t a = byteAt (putLines (moverOf s k 1) lines r.dst r.len { s := s }).s a) ∧
          (∀ id, id ≠ k.id → taskById t id = taskById s id) ∧
          PartsBut [.ubf, .mem, .tab, .flt, .pins, .anv] s t ∧ BlocksBut [0x07, 0x08, 0x0D, 0x0F, 0x12, 0x1E] s t) ∧
      (6 ≤ r.kind → ∃ t, exec (.remoteTimeout (hTag hdr)) s = .next t ∧ t.resp = .error ∧ pendingTag t (hTag hdr) = none ∧
        t.flt = { s.flt with fifo := s.flt.fifo ++ [mkRec s 0x16 0x008 0 ((linkTo (nodeId s) r.node).getD 0)] } ∧
          Framed [.ubf, .flt] [] s t) ∧
      (r.kind = 0 → s.ubf.heads = [] → s.tabA = s.tabB → taskById s r.task = some k → k.status = 0 →
        ∃ t, exec (.remoteTimeout (hTag hdr)) s = .next t ∧ pendingTag t (hTag hdr) = none ∧ taskById t k.id = some { k with status := 0x0C } ∧
          (∀ id, id ≠ k.id → taskById t id = taskById s id) ∧ getF t BLW_WR_ERR = min (getF s BLW_WR_ERR + 1) (2 ^ BLW_WR_ERR.w - 1) ∧
          t.flt.fifo.take (s.flt.fifo.length + 1) = s.flt.fifo ++ [mkRec s 0x16 0x008 0 ((linkTo (nodeId s) r.node).getD 0)] ∧
          Framed [.ubf, .flt, .tab] [BLW_ERR_ADDR_LO.addr, BLW_ERR_ADDR_HI.addr, BLW_WR_ERR.addr] s t))

/-- R68, R390, R395: the manager answers TIME_REQ with the times it came in and went out at; a worker keeps each one-way delay and, after 64
of them, their mean in L_DELAY; any sync message keeps its link up, and a heartbeat goes out on every link that is up. TIME_REQ, TIME_RSP,
HEARTBEAT, HEARTBEAT_TICK. -/
def Obligations.TimeTransferAndHeartbeats : Prop :=
  ∀ (s : State) (at_ link : Nat) (hdr : List Nat), s.Inv → link < 4 →
    (hTarget hdr = nodeId s → isManager s = true → s.time ≤ at_ → at_ < 2 ^ 64 → ∃ t, exec (.timeReq at_ link hdr) s = .next t ∧ (lnk t link).syncAt = at_ ∧
      t.ubf = (sendSync (noteSync (takeMsg (atTime s at_) link hdr []) link) 0x12 (hOrigin hdr) at_ (at_ + hBody hdr)).ubf ∧
        Framed [.ubf, .time] [] s t) ∧
    (hTarget hdr = nodeId s → isWorker s = true → s.bell.admitted = false → s.ubf.xfers.length < 63 →
      ∃ t, exec (.timeRsp at_ link hdr) s = .next t ∧ 
        t.ubf.xfers = s.ubf.xfers ++ [(at_ - s.ubf.sentAt - (hBody hdr - hAddr hdr)) / 2] ∧
        Framed [.ubf, .time] [] s t) ∧
    (hTarget hdr = nodeId s → isWorker s = true → s.bell.admitted = false → s.ubf.xfers.length = 63 →
      ∃ t, exec (.timeRsp at_ link hdr) s = .next t ∧ t.ubf.xfers = [] ∧ getF t (UBF_L_DELAY link) =
        min ((s.ubf.xfers ++ [(at_ - s.ubf.sentAt - (hBody hdr - hAddr hdr)) / 2]).sum / 64) 0xFFFF ∧
        Framed [.ubf, .time, .free] [(UBF_L_DELAY link).addr] s t) ∧
    (∃ t, exec (.heartbeat link) s = .next t ∧ (lnk t link).syncAt = s.time ∧ Framed [.ubf] [] s t) ∧
    (linkUp s link = true → ∃ t, exec (.heartbeatTick at_) s = .next t ∧
      lnk t link = pumpGo 200 { (lnk s link) with waiting := (lnk s link).waiting ++
        [(3, [mkHdr 0x15 3 0 (nodeId s) ((peerOf (nodeId s) link).getD 0) 0 0 0 0])] } ∧
        Framed [.ubf, .time] [] s t)

/-- R389 to R391: a LINK_ID of the child that belongs on the link is accepted, and of any other refused with UBF 0x006 of class 0; ADMIT takes
a worker whose delay fits into service on source 6; the manager admits a worker once. LINK_ID, ADMIT, WORKER_ADMIT. -/
def Obligations.ChildrenAreAcceptedAndWorkersAdmitted : Prop :=
  ∀ (s : State) (at_ link node delay : Nat) (hdr : List Nat), s.Inv → link < 4 →
    (isUpstream s link = true →
      ∃ t, exec (.linkId link hdr) s = .next t ∧ getF t (UBF_L_STATUS_PEER_VALID link) = 1 ∧
        getF t (UBF_L_STATUS_PEER link) = hAddr hdr % 2 ^ (UBF_L_STATUS_PEER link).w ∧ (lnk t link).syncAt = s.time ∧
        Framed [.ubf] [(UBF_L_STATUS_STATE link).addr] s t) ∧
    (isUpstream s link = false → peerFits s link hdr = true →
      ∃ t, exec (.linkId link hdr) s = .next t ∧ (lnk t link).refused = false ∧ getF t (UBF_L_STATUS_PEER_VALID link) = 1 ∧
        getF t (UBF_L_STATUS_PEER link) = hAddr hdr % 2 ^ (UBF_L_STATUS_PEER link).w ∧
        Framed [.ubf] [(UBF_L_STATUS_STATE link).addr] s t) ∧
    (isUpstream s link = false → peerFits s link hdr = false → s.flt.fifo.length < 256 →
      ∃ t, exec (.linkId link hdr) s = .next t ∧ (lnk t link).refused = true ∧ bit (getF t UBF_NODE_LOST_REFUSED) (hAddr hdr % 16) = true ∧
        t.flt = { s.flt with fifo := s.flt.fifo ++ [mkRec s 0x16 0x006 0 link] } ∧
        Framed [.ubf, .flt] [(UBF_L_STATUS_STATE link).addr, UBF_NODE_LOST.addr] s t) ∧
    (hTarget hdr = nodeId s → isWorker s = true → s.ubf.orphan = false → s.bell.admitted = false → hBody hdr ≠ noAdmit →
        delayFits (hAddr hdr) (ownDelay s) = true → s.flt.fifo.length < 256 →
      ∃ t, exec (.admitMessage at_ hdr) s = .next t ∧ t.bell = { s.bell with admitted := true, adopt := some (hBody hdr), admittedAt := (atTime s at_).time } ∧
        source t = 6 ∧ getF t BEL_TARGET_NS = hAddr hdr % 2 ^ BEL_TARGET_NS.w ∧ getF t BEL_COMP = (hAddr hdr - ownDelay s) % 2 ^ BEL_COMP.w ∧
        getF t BEL_STATUS_CALIBRATED = 1 ∧ isAdmitted t (nodeId s) = true ∧ t.pins.safeState = flag s FLT_STATUS_SAFE ∧
        Framed [.bell, .ubf, .pins, .time, .car, .flt] [CAR_STATUS.addr, BEL_TARGET_NS.addr, BEL_COMP.addr, BEL_STATUS.addr, UBF_NODE_ADMIT.addr,
          ASY_STATUS.addr, TOP_MODE.addr, TOP_MODE_WHY.addr] s t) ∧
    (hTarget hdr = nodeId s → isWorker s = true → s.ubf.orphan = false → hBody hdr = noAdmit →
      ∃ t, exec (.admitMessage at_ hdr) s = .next t ∧ getF t BEL_TARGET_NS = hAddr hdr % 2 ^ BEL_TARGET_NS.w ∧
        getF t BEL_COMP = (hAddr hdr - ownDelay s) % 2 ^ BEL_COMP.w ∧ Framed [.ubf, .time] [BEL_TARGET_NS.addr, BEL_COMP.addr] s t) ∧
    (hTarget hdr = nodeId s → isWorker s = true → s.ubf.orphan = false → hBody hdr ≠ noAdmit → delayFits (hAddr hdr) (ownDelay s) = false →
        s.flt.fifo.length < 256 →
      ∃ t, exec (.admitMessage at_ hdr) s = .next t ∧ t.flt = { s.flt with fifo := s.flt.fifo ++ [mkRec (atTime s at_) 0x05 0x005 4 0] } ∧
        Framed [.ubf, .time, .flt] [] s t) ∧
    (isManager s = true → 0 < node → node < 16 → bit (getF s UBF_NODE_CFG_EXP) node = true → isAdmitted s node = false →
        linkTo (nodeId s) node = some link → linkUp s link = true → (lnk s link).refused = false →
        (parentOf node).all (fun p => p == 0 || isAdmitted s p) = true → s.stk.inst ≤ at_ → delay ≤ 1900 →
        delayFits (targetNs s) delay = true → s.flt.fifo.length < 256 →
      ∃ t, exec (.workerAdmit at_ node delay) s = .next t ∧ isAdmitted t node = true ∧ t.ubf.lost = s.ubf.lost.filter (· != node) ∧
        Framed [.ubf, .time, .car, .flt] [UBF_NODE_ADMIT.addr, TOP_MODE.addr, TOP_MODE_WHY.addr] s t)

/-- R285, R414, R415: a golden task whose logged hallmark is the billet's passes (the Assay's pass is kept); any other result, and a wrong
status, is a golden failure: the record of its class with class 2, and its unit is fenced. GOLDEN_COMPARE. -/
def Obligations.GoldenResultsAreCompared : Prop :=
  ∀ (s : State) (tag hm unit cls st : Nat), s.Inv → cls ≤ 8 → unit < physCount cls → loggedHm s tag = some hm →
    loggedUnit s tag = some (unit, cls) → goldStatus s tag = some st → st ≠ 0x0D →
    (st = 0 → expectedHm s tag = some hm →
      ∃ t, exec (.goldenCompare tag) s = .next t ∧ t.asy = { s.asy with goldenPass := cls == 7 || s.asy.goldenPass } ∧ Framed [.asy] [] s t) ∧
    (¬ (st = 0 ∧ expectedHm s tag = some hm) → (st = 1 → tag % 2 ^ 16 < logical s cls) → ustate s (classBase cls + unit) < 4 →
        s.flt.fifo.length < 250 →
      ∃ t, exec (.goldenCompare tag) s = .next t ∧ ustate t (classBase cls + unit) = 4 ∧
        t.flt.fifo.take (s.flt.fifo.length + 1) = s.flt.fifo ++ [mkRec s (goldenCode cls).1 (goldenCode cls).2 2 unit] ∧
        (cls = 7 → t.asy.goldenPass = false) ∧ PartsBut [.car, .peal, .tab, .tabX, .asy, .ubf, .fwl, .start, .flt, .spr, .pins, .free] s t ∧
        BlocksBut [0x00, 0x06, 0x07, 0x09, 0x0A, 0x0B, 0x0C, 0x0D, 0x0E, 0x0F, 0x10, 0x11, 0x16, 0x1E] s t)

/-- R424 to R428: a hand opens a group that is IDLE, its stager stages its words, the close makes it wait for the other hand, whose commit
takes the staged words when the digest it wrote is theirs; an abort by the stager and 1 ms without a commit end it. Each end leaves its
RESULT, and a commit counts in TH_SEQ. TH_OPEN, TH_STAGE_WRITE, TH_CLOSE, TH_COMMIT, TH_ABORT, TH_TIMEOUT. -/
def Obligations.TwoHandedChanges : Prop :=
  ∀ (s : State) (brand g : Nat), s.Inv → g < 9 → fwDenies s 2 brand 1 (FWL_TH_CTRL g).addr 4 = none → mayStage s g brand = true → brand < 256 →
    (thState s g = 0 → ∃ t, exec (.thOpen brand g false) s = .next t ∧ t.resp = .ok ∧ thState t g = 1 ∧ thStager t g = brand ∧
        t.fwl = { s.fwl with staged := s.fwl.staged.filter (fun p => p.1 != g) } ∧ Framed [.fwl] [(FWL_TH_STATUS_STATE g).addr] s t) ∧
    (∀ (addr v : Nat), groupOf addr = some g → thState s g = 1 → thStager s g = brand → fwDenies s 2 brand 1 addr 4 = none →
        ∀ m, (addr, m) ∈ groupWords g →
      ∃ t, exec (.thStageWrite brand addr v) s = .next t ∧ t.resp = .ok ∧
        t.fwl = { s.fwl with staged := s.fwl.staged.filter (fun p => !(p.1 == g && p.2.1 == addr)) ++ [(g, addr, Nat.land v m)] } ∧
        Framed [.fwl] [] s t) ∧
    (thState s g = 1 → thStager s g = brand → ∃ t, exec (.thClose brand g) s = .next t ∧ t.resp = .ok ∧ thState t g = 2 ∧
      thStager t g = brand ∧ Framed [] [(FWL_TH_STATUS_STATE g).addr] s t) ∧
    (thState s g = 2 → thStager s g ≠ brand → isHand s brand = true → groupDigest s g ≠ writtenDigest s g → s.flt.fifo.length < 256 →
      ∃ t, exec (.thCommit brand g) s = .next t ∧ t.resp = .ok ∧ thState t g = 0 ∧ getF t (FWL_TH_STATUS_RESULT g) = 2 ∧
        getF t (FWL_TH_SEQ g) = getF s (FWL_TH_SEQ g) ∧ t.flt.fifo = s.flt.fifo ++ [mkRec s 0x12 0x002 4 0] ∧
        Framed [.flt, .fwl] [(FWL_TH_STATUS_STATE g).addr, DBG_STATE_PENDING.addr] s t) ∧
    (thState s g = 2 → thStager s g ≠ brand → isHand s brand = true → groupDigest s g = writtenDigest s g → s.flt.fifo.length < 256 →
      ∃ t, exec (.thCommit brand g) s = .next t ∧ t.resp = .ok ∧ thState t g = 0 ∧ getF t (FWL_TH_STATUS_RESULT g) = 1 ∧
      getF t (FWL_TH_SEQ g) = (getF s (FWL_TH_SEQ g) + 1) % 2 ^ 32 ∧
        (g ≤ 5 → ∀ p ∈ imageWords s g, rd t p.1 = p.2 % 2 ^ 32) ∧ (g = 6 → t.fwl.mapPending = some (imageWords s g)) ∧
        (g = 7 → getF t DBG_STATE_SCOPE = (imageWords s g).foldl (fun _ p => p.2 % 8) 0) ∧
        (∀ p ∈ t.fwl.staged, p.1 ≠ g) ∧ PartsBut [.fwl, .flt, .anv] s t ∧
        RegsBut ((groupWords g).map (·.1) ++ [(FWL_TH_STATUS_STATE g).addr, (FWL_TH_SEQ g).addr, DBG_STATE.addr]) s t) ∧
    (thState s g ≠ 0 → thStager s g = brand → ∃ t, exec (.thAbort brand g) s = .next t ∧ t.resp = .ok ∧ thState t g = 0 ∧
      getF t (FWL_TH_STATUS_RESULT g) = 6 ∧ (∀ p ∈ t.fwl.staged, p.1 ≠ g) ∧ t.flt = s.flt ∧
        Framed [.fwl] [(FWL_TH_STATUS_STATE g).addr, DBG_STATE_PENDING.addr] s t) ∧
    (thState s g = 2 → s.flt.fifo.length < 256 → ∃ t, exec (.thTimeout g) s = .next t ∧ thState t g = 0 ∧
      getF t (FWL_TH_STATUS_RESULT g) = 3 ∧ t.flt.fifo = s.flt.fifo ++ [mkRec s 0x12 0x003 0 0] ∧
        Framed [.flt, .fwl] [(FWL_TH_STATUS_STATE g).addr, DBG_STATE_PENDING.addr] s t)

/-- R431, R432: a record queues in the collector's 256; a full collector drops a record of class 0 or 1, and lets one of a higher class
replace the newest record of class 0 or 1; each is counted in DROPPED. FAULT_RECORD. R431, R433, R434, R436: the collector takes its oldest
record into the first 16 kept records or the ring, and reacts to it as the matching entry of the reaction table or its class says: reaction 0
nothing, 3 SERVICE, 4 SAFE_STATE, 6 SAFE_STATE and a cold reset, which the cold escalation carries out. CLR_FIRST by a processor empties the
first records. FAULT_ACCEPT, COLD_ESCALATE, CLR_FIRST. -/
def Obligations.RecordsAreCollectedAndReactedTo : Prop :=
  (∀ (s : State) (block code cls unit : Nat), s.Inv →
      (s.flt.fifo.length < 256 → ∃ t, exec (.faultRecord block code cls unit) s = .next t ∧
        t.flt = { s.flt with fifo := s.flt.fifo ++ [mkRec s block code cls unit] } ∧
          Framed [.flt] [] s t) ∧
      (256 ≤ s.flt.fifo.length → cls ≤ 1 → ∃ t, exec (.faultRecord block code cls unit) s = .next t ∧ t.flt = s.flt ∧
        getF t FLT_DROPPED = min (getF s FLT_DROPPED + 1) (2 ^ FLT_DROPPED.w - 1) ∧ 
          Framed [] [FLT_DROPPED.addr] s t) ∧
      (∀ q, 256 ≤ s.flt.fifo.length → 1 < cls → cls < 16 → replaceNewest s.flt.fifo (mkRec s block code cls unit) = some q →
        ∃ t, exec (.faultRecord block code cls unit) s = .next t ∧ t.flt = { s.flt with fifo := q } ∧ q.length = s.flt.fifo.length ∧
          getF t FLT_DROPPED = min (getF s FLT_DROPPED + 1) (2 ^ FLT_DROPPED.w - 1) ∧
          Framed [.flt] [FLT_DROPPED.addr] s t)) ∧
  (∀ (s : State) (brand : Nat), s.Inv →
      (∀ r rest, s.flt.fifo = r :: rest → reactionOf s r = 0 → getF s FLT_STATUS_FIRST < 16 →
        ∃ t, exec .faultAccept s = .next t ∧ t.flt = { s.flt with fifo := rest, first := s.flt.first ++ [r] } ∧
          getF t FLT_STATUS_FIRST = getF s FLT_STATUS_FIRST + 1 ∧ Framed [.flt] [FLT_STATUS_FIRST.addr] s t) ∧
      (∀ r rest, s.flt.fifo = r :: rest → reactionOf s r = 0 → getF s FLT_STATUS_FIRST = 16 →
        ∃ t, exec .faultAccept s = .next t ∧ (getF s FLT_STATUS_RING_WR, r) ∈ t.flt.ring ∧ (∀ p ∈ s.flt.ring, p.1 ≠ getF s FLT_STATUS_RING_WR → p ∈ t.flt.ring) ∧
          t.flt.first = s.flt.first ∧ t.flt.fifo = rest ∧
          getF t FLT_STATUS_RING_WR = (if getF s FLT_STATUS_RING_WR ≥ 63 then 16 else getF s FLT_STATUS_RING_WR + 1) ∧
          Framed [.flt] [FLT_STATUS_SAFE.addr] s t) ∧
      (∀ r rest, s.flt.fifo = r :: rest → reactionOf s r = 3 →
        ∃ t, exec .faultAccept s = .next t ∧ flag t FLT_STATUS_SERVICE = true ∧ t.flt.serviceIrq = true ∧ t.flt.fifo = rest ∧
          Framed [.flt] [FLT_STATUS_SAFE.addr] s t) ∧
      (∀ r rest, s.flt.fifo = r :: rest → reactionOf s r = 4 →
        ∃ t, exec .faultAccept s = .next t ∧ flag t FLT_STATUS_SAFE = true ∧ t.pins = { s.pins with safeState := true, faultN := false } ∧ t.flt.fifo = rest ∧
          Framed [.flt, .pins] [FLT_STATUS_SAFE.addr, ASY_STATUS.addr] s t) ∧
      (∀ r rest, s.flt.fifo = r :: rest → reactionOf s r = 6 →
        ∃ t, exec .faultAccept s = .next t ∧ flag t FLT_STATUS_SAFE = true ∧ t.flt.coldPending = true ∧
          t.pins = { s.pins with safeState := true, faultN := false } ∧ t.flt.fifo = rest ∧
          Framed [.flt, .pins] [FLT_STATUS_SAFE.addr, ASY_STATUS.addr] s t) ∧
      (s.flt.coldPending = true → s.rst.reach = 0 →
        ∃ t, exec .coldEscalate s = .next t ∧ t.rst.reach = 4 ∧ t.rst.released = false ∧
          t.rst.causes = (if bit s.flt.coldCauses 7 && !bit s.flt.coldCauses 6 then 0x80 else 0x40) ∧ t.rst.held = s.rst.held ∧ ColdReset s t) ∧
      (fwDenies s 2 brand 1 FLT_CTRL.addr 4 = none → 1 ≤ brand → brand ≤ 4 →
        ∃ t, exec (.clrFirst brand) s = .next t ∧ t.resp = .ok ∧ t.flt = { s.flt with first := [] } ∧ getF t FLT_STATUS_FIRST = 0 ∧
          Framed [.flt] [FLT_STATUS_FIRST.addr] s t))

/-- R36, R438: a safety pair that mismatches is dead; the spare pair takes its role over with SFI 0x001 of class 2, and without one the device
goes cold with SFI 0x002 of class 7; when the takeover is done the spare holds the role. LOCKSTEP_MISMATCH, PAIR_TAKEOVER_DONE. -/
def Obligations.SafetyPairsAreReplaced : Prop :=
  ∀ (s : State) (pair r q : Nat), s.flt.fifo.length < 256 →
    (pair < 3 → s.flt.takeover = none → s.flt.deadPairs.contains pair = false → roleOfPair s pair = some r →
        sparePair { s with flt := { s.flt with deadPairs := s.flt.deadPairs ++ [pair] } } = some q →
      ∃ t, exec (.lockstepMismatch pair) s = .next t ∧ t.flt.deadPairs = s.flt.deadPairs ++ [pair] ∧ t.flt.takeover = some (r, q) ∧
        t.flt.fifo = s.flt.fifo ++ [mkRec s 0x13 0x001 2 0] ∧ (r = 0 → t.pins.faultN = false ∧ t.fwl.mapPending = s.fwl.mapPending) ∧
        (∀ g ∈ List.range 9, thState t g = if r = 0 then 0 else thState s g) ∧ (r ≠ 0 → t.pins = s.pins ∧ t.fwl = s.fwl) ∧
        Framed [.flt, .pins, .fwl] (if r = 0 then handoverRegs else []) s t) ∧
    (pair < 3 → s.flt.takeover = none → s.flt.deadPairs.contains pair = false → roleOfPair s pair = some r →
        sparePair { s with flt := { s.flt with deadPairs := s.flt.deadPairs ++ [pair] } } = none →
      ∃ t, exec (.lockstepMismatch pair) s = .next t ∧ t.flt.coldPending = true ∧ t.pins.faultN = false ∧
        t.flt.fifo = s.flt.fifo ++ [mkRec s 0x13 0x002 7 0] ∧
        (∀ x ∈ t.flt.roles, x.1 ≠ r) ∧ Framed [.flt, .pins, .fwl] handoverRegs s t) ∧
    (s.flt.takeover = some (r, q) →
      ∃ t, exec .pairTakeoverDone s = .next t ∧ t.flt.takeover = none ∧ (r, q) ∈ t.flt.roles ∧ t.pins.faultHeld = false ∧
        Framed [.flt, .pins] [ASY_STATUS.addr] s t)

/-- R444 to R448, R456: a reset pin that counted starts an episode of its reach (cold, or warm which keeps the DDR), and its release ends its
hold; a short pulse is counted with RST 0x001 of class 0; losing power clears every register and the key; the release of every source begins
the start, a cold one with the straps. RESET_PIN_ASSERT, RESET_PIN_RELEASE, PWR_GOOD_FALL, PWR_GOOD_RISE, RELEASE_BEGIN. -/
def Obligations.ResetPinsAndPower : Prop :=
  ∀ (s : State) (role node : Nat), s.Inv →
    (s.rst.pwrGood = true → s.rst.reach = 0 → s.rst.held = [] →
      ∃ t, exec (.resetPinAssert 0) s = .next t ∧
        t.rst = { s.rst with reach := 4, held := [4], causes := 0x10, released := false, counted := 0 } ∧ ColdReset s t) ∧
    (s.rst.pwrGood = true → s.rst.reach = 0 → s.rst.held = [] → warmExcess s = false →
      ∃ t, exec (.resetPinAssert 1) s = .next t ∧
        t.rst = { s.rst with reach := 3, held := [8], causes := 0x100, released := false, counted := 0, warmAt := s.aonTime,
                             warmTimes := s.rst.warmTimes ++ [s.aonTime] } ∧ WarmReset s t) ∧
    (s.rst.pwrGood = true → 4 ∈ s.rst.held → ∃ t, exec (.resetPinRelease 0) s = .next t ∧
        t.rst = { s.rst with held := s.rst.held.filter (· != 4) } ∧ t.pins = { s.pins with extest := false } ∧ Framed [.rst, .pins] [] s t) ∧
    (s.rst.pwrGood = true → 8 ∈ s.rst.held → ∃ t, exec (.resetPinRelease 1) s = .next t ∧
        t.rst = { s.rst with held := s.rst.held.filter (· != 8) } ∧ Framed [.rst] [] s t) ∧
    (s.rst.pwrGood = true → 8 ∉ s.rst.held → s.flt.fifo.length < 256 →
      ∃ t, exec (.resetPinRelease 1) s = .next t ∧ getF t RST_PIN_SHORT_WARM = min (getF s RST_PIN_SHORT_WARM + 1) (2 ^ RST_PIN_SHORT_WARM.w - 1) ∧
        t.flt.fifo = s.flt.fifo ++ [mkRec s 0x01 0x001 0 1] ∧
        Framed [.flt] [RST_PIN_SHORT_WARM.addr] s t) ∧
    (∃ t, exec .pwrGoodFall s = .next t ∧ t.regs = [] ∧ t.mem = {} ∧ t.rst = { held := [3], reach := 4, causes := 8, pwrGood := false } ∧
      t.sec = { keptSec s with keyPresent := false, secret := [] } ∧ t.flt = {} ∧ t.start = { keptStart s true with aonCopy := [] } ∧ t.spr = keptSpr s ∧
      t.stk = {} ∧ t.wld = {} ∧ t.tabA = {} ∧ t.tabB = {} ∧ t.pln = {} ∧ t.ubf = {} ∧ t.pins = heldPins s true false) ∧
    (s.rst.pwrGood = false → ∃ t, exec .pwrGoodRise s = .next t ∧
      t.rst = { held := s.rst.held.filter (· != 3), reach := 4, causes := 8, pwrGood := true } ∧ t.regs = [] ∧ t.flt = {} ∧
      t.pins = { s.pins with extest := false } ∧ PartsBut [.rst, .flt, .pins] s t) ∧
    (s.rst.reach = 4 → s.rst.released = false → s.rst.held = [] → s.rst.pwrGood = true →
      ∃ t, exec (.releaseBegin role node) s = .next t ∧ t.rst = { s.rst with released := true, counted := 4 } ∧
        getF t UBF_NODE_CFG_ROLE = role % 2 ^ UBF_NODE_CFG_ROLE.w ∧ getF t UBF_NODE_CFG_NODE_ID = node % 2 ^ UBF_NODE_CFG_NODE_ID.w ∧
        flag t BEL_CFG_MANAGER = decide (role % 4 = 1) ∧ (∀ k ∈ List.range' 3 9, bit (getF t RST_CAUSE) k = bit s.rst.causes k) ∧ getF t RST_CAUSE_REACH = 4 ∧
        (s.rst.counted = 0 → getF t RST_EPISODES_COLD = min (getF s RST_EPISODES_COLD + 1) (2 ^ RST_EPISODES_COLD.w - 1)) ∧
        getF t DBG_NONCE = Config.freeValue s.free % 2 ^ 32 ∧
        Framed [.rst, .free] [RST_CAUSE.addr, RST_EPISODES_COLD.addr, DBG_NONCE.addr, UBF_NODE_CFG.addr, BEL_CFG.addr] s t) ∧
    (s.rst.reach = 3 → s.rst.released = false → s.rst.held = [] → s.rst.pwrGood = true →
      ∃ t, exec (.releaseBegin role node) s = .next t ∧ t.rst = { s.rst with released := true, counted := 3 } ∧
        flag t RST_START_WARM = true ∧ (∀ k ∈ List.range' 3 9, bit (getF t RST_CAUSE) k = bit s.rst.causes k) ∧ getF t RST_CAUSE_REACH = 3 ∧
        (s.rst.counted = 0 → getF t RST_EPISODES_WARM = min (getF s RST_EPISODES_WARM + 1) (2 ^ RST_EPISODES_WARM.w - 1)) ∧
        (∀ c ∈ s.ddr.contentLost, c < 6 → flag t (DDR_CH_STATUS_CONTENT_LOST c) = true) ∧
        PartsBut [.rst, .free, .flt] s t ∧
        (s.ddr.contentLost = [] → t.flt = s.flt ∧ RegsBut [RST_CAUSE.addr, RST_EPISODES_WARM.addr, DBG_NONCE.addr, RST_START.addr] s t))

/-- R449 to R451, R474: a domain qualifies with its measured frequency, or fails after its time: domain 1 or 2 again from a cold release, a
later one as a failed start; in service an out-of-tolerance domain, and a lost reference clock, are recorded. DOMAIN_QUALIFIED,
DOMAIN_QUAL_TIMEOUT, CLOCK_FAIL_RETRY, CLOCK_OUT_OF_TOL, REFCLK_LOST. -/
def Obligations.ClocksQualifyOrFail : Prop :=
  ∀ (s : State) (d khz : Nat), s.Inv → 0 < d → d < 9 →
    (flag s (CLK_D_STATUS_QUALIFIED d) = false → s.rst.released = true → flag s (CLK_D_STATUS_FAILED d) = false →
      ∃ t, exec (.domainQualified d khz) s = .next t ∧ flag t (CLK_D_STATUS_QUALIFIED d) = true ∧
        flag t (CLK_D_STATUS_LOCKED d) = true ∧ getF t (CLK_D_FREQ d) = khz % 2 ^ (CLK_D_FREQ d).w ∧
        (d ≤ 2 → flag s (CLK_D_STATUS_QUALIFIED (3 - d)) = true → phase s = 0 → phase t = 1 ∧ t.sec.keyPresent = true) ∧
        ((reachDomains s.rst.reach).all (fun x => x == d || domainDone s x) = true → t.rst.reach = 0 ∧ t.rst.released = false) ∧
        Framed [.rst, .sec] [(CLK_D_STATUS_FAILED d).addr, (CLK_D_FREQ d).addr, CLK_REF_PRESENT.addr, RST_START.addr] s t) ∧
    (s.rst.released = true → domainDone s d = false →
      ∃ t, exec (.domainQualTimeout d) s = .next t ∧ flag t (CLK_D_STATUS_FAILED d) = true ∧ 
        (d ≤ 2 → t.start.retryDue = true ∧ t.start.aonCopy.getLast?.map (fun r => (r.typ, r.cause)) = some (3, 8) ∧
          Framed [.start] [(CLK_D_STATUS_FAILED d).addr] s t) ∧
        (2 < d → starting s = false → Framed [.rst] [(CLK_D_STATUS_FAILED d).addr] s t) ∧
        (2 < d → starting s = true → phase t = 14 ∧ getF t RST_START_CAUSE = 8 ∧
          t.start.journal.any (fun r => r.typ == 3 && r.cause == 8 && r.rseq == newestSeq s + 1) = true) ∧
        (s.flt.fifo.length < 255 → Framed [.flt, .start, .rst] [(CLK_D_STATUS_FAILED d).addr, RST_START.addr, RST_JOURNAL.addr] s t)) ∧
    (s.start.retryDue = true → ∃ t u, exec .clockFailRetry s = .next t ∧ t.rst = { s.rst with reach := 4, released := true } ∧
      t.start.retryDue = false ∧ ColdReset s u ∧ Framed [.rst, .free] [UBF_NODE_CFG.addr, BEL_CFG.addr, DBG_NONCE.addr] u t ∧
      role t = role s ∧ nodeId t = nodeId s ∧ flag t BEL_CFG_MANAGER = decide (role s = 1) ∧
      getF t DBG_NONCE = Config.freeValue s.free % 2 ^ 32) ∧
    (flag s (CLK_D_STATUS_QUALIFIED d) = true → flag s (CLK_D_STATUS_OUT_TOL d) = false → s.flt.fifo.length < 256 →
      ∃ t, exec (.clockOutOfTol d khz) s = .next t ∧ flag t (CLK_D_STATUS_OUT_TOL d) = true ∧
        getF t (CLK_D_FREQ d) = khz % 2 ^ (CLK_D_FREQ d).w ∧ getF t (CLK_D_OOT d) = min (getF s (CLK_D_OOT d) + 1) (2 ^ (CLK_D_OOT d).w - 1) ∧
        t.flt.fifo = s.flt.fifo ++ [if d ≤ 2 then mkRec s 0x02 0x002 7 d else mkRec s 0x02 0x001 6 d] ∧
        Framed [.flt] [(CLK_D_STATUS_FAILED d).addr, (CLK_D_FREQ d).addr, (CLK_D_OOT d).addr] s t) ∧
    (s.flt.fifo.length < 256 → ∃ t, exec .refclkLost s = .next t ∧ getF t CLK_REF_PRESENT = 0 ∧ getF t CLK_REF_LOST_SEEN = 1 ∧
      t.flt.fifo = s.flt.fifo ++ [mkRec s 0x02 0x003 7 0] ∧
        Framed [.flt] [CLK_REF_PRESENT.addr] s t)

/-- R453 to R456, R466, R468, R504 to R506, R512: the loader takes slot A when it verifies, else slot B with SEC 0x001 of class 0; the journal
decides between an attempt and Banked; the version check accepts the billet; the commits end phase 3, or fail the start with cause 7.
BILLET_VERIFY, JOURNAL_DECIDE, RPMB_CHECK, START_COMMIT. -/
def Obligations.TheStartChoosesItsBillet : Prop :=
  ∀ (s : State) (a b : SlotImage) (ans : RpmbAnswer), s.Inv →
    (phase s = 1 → s.start.known = false → slotCause s (slotRead a s.start.slotA) = 0 →
      ∃ t, exec (.billetVerify a b) s = .next t ∧ t.start.known = true ∧ t.start.chosen = some (slotRead a s.start.slotA) ∧ t.start.chosenSlot = 0 ∧
        t.start.digest = slotDigest (slotRead a s.start.slotA) ∧ t.start.other = some (slotRead b s.start.slotB) ∧ t.start.failCause = 0 ∧ Framed [.start] [] s t) ∧
    (phase s = 1 → s.start.known = false → slotCause s (slotRead a s.start.slotA) ≠ 0 → slotCause s (slotRead b s.start.slotB) = 0 → s.flt.fifo.length < 256 →
      ∃ t, exec (.billetVerify a b) s = .next t ∧ t.start.chosen = some (slotRead b s.start.slotB) ∧ t.start.chosenSlot = 1 ∧ getF t RST_START_SLOT = 1 ∧
        t.flt.fifo = s.flt.fifo ++ [mkRec s 0x14 0x001 0 0] ∧
        Framed [.start, .flt] [RST_START.addr] s t) ∧
    (phase s = 1 → s.start.known = false → slotCause s (slotRead a s.start.slotA) ≠ 0 → slotCause s (slotRead b s.start.slotB) ≠ 0 →
      ∃ t, exec (.billetVerify a b) s = .next t ∧ t.start.known = true ∧ t.start.chosen = s.start.chosen ∧
        t.start.failCause = (if authentic s.sec (slotRead a s.start.slotA) then slotCause s (slotRead a s.start.slotA) else if authentic s.sec (slotRead b s.start.slotB) then slotCause s (slotRead b s.start.slotB) else 1) ∧ Framed [.start] [] s t) ∧
    (phase s = 1 → s.start.known = true → isWarmStart s = false → s.start.chosen.isSome = true →
      openBanked (closeAttempt (mergeCopy s)).start.journal = none →
      (failedAttempts (closeAttempt (mergeCopy s)).start.journal < 3 → ∃ t, exec .journalDecide s = .next t ∧ phase t = 2 ∧ flag t RST_JOURNAL_BANKED = false ∧
        getF t RST_JOURNAL_FAILS = failedAttempts (closeAttempt (mergeCopy s)).start.journal ∧ t.start.journal.any (fun r => r.typ == 1) = true ∧
        t.sec = { s.sec with rpmbNonce := beBytes 16 (Config.freeValue s.free) } ∧ t.free = s.free + 1 ∧
        Framed [.start, .sec, .free] [RST_START.addr, RST_JOURNAL.addr] s t) ∧
      (3 ≤ failedAttempts (closeAttempt (mergeCopy s)).start.journal → ∃ t, exec .journalDecide s = .next t ∧ phase t = 13 ∧ mode t = 3 ∧
        t.start.banked = true ∧ t.pins = { s.pins with safeState := true, faultN := false } ∧ flag t RST_JOURNAL_BANKED = true ∧
        getF t RST_JOURNAL_FAILS = 3 ∧ t.start.journal.any (fun r => r.typ == 4) = true ∧
        Framed [.start, .pins] [RST_START.addr, RST_JOURNAL.addr, TOP_MODE.addr, ASY_STATUS.addr] s t)) ∧
    (phase s = 2 → s.start.chosen = some a →
      ((billetOf s.sec a).noRpmb = true → ∃ t, exec (.rpmbCheck ans) s = .next t ∧ t.bil = billetOf s.sec a ∧ phase t = 3 ∧
        PartsBut [.bil, .start, .spr, .pln, .ubf, .tab, .tabX, .mem, .flt, .thm, .anv] s t) ∧
      ((billetOf s.sec a).noRpmb = false → ans.inTime = true → ans.keyed = true → rpmbOk s.sec ans = true → rpmbMin ans ≤ (billetOf s.sec a).version →
        ∃ t, exec (.rpmbCheck ans) s = .next t ∧ t.bil = billetOf s.sec a ∧ phase t = 3 ∧
          t.start.minVer = rpmbMin ans ∧ PartsBut [.bil, .start, .spr, .pln, .ubf, .tab, .tabX, .mem, .flt, .thm, .anv] s t) ∧
      ((billetOf s.sec a).noRpmb = false → ans.inTime = false →
        ∃ t, exec (.rpmbCheck ans) s = .next t ∧ StartFailed s t 3 [])) ∧
    (phase s = 3 → (∃ t, exec (.startCommit true) s = .next t ∧ 
        phase t = (if flag s (CLK_D_STATUS_QUALIFIED 3) && flag s (CLK_D_STATUS_QUALIFIED 4) then 5 else 4) ∧
        (∀ g ∈ startGroups s, getF t (FWL_TH_STATUS_RESULT g) = 1 ∧ getF t (FWL_TH_SEQ g) = (getF s (FWL_TH_SEQ g) + 1) % 2 ^ 32) ∧
        (∀ g ∈ startGroups s, ∀ p ∈ groupWords g, rd t p.1 = startWord s.bil g p % 2 ^ 32) ∧
        Framed [] (RST_START.addr :: (startGroups s).flatMap (fun g => (groupWords g).map (·.1) ++ [(FWL_TH_STATUS_STATE g).addr, (FWL_TH_SEQ g).addr])) s t) ∧
      (∃ t, exec (.startCommit false) s = .next t ∧ StartFailed s t 7 [(FWL_TH_STATUS_STATE 0).addr] ∧
        getF t (FWL_TH_STATUS_RESULT 0) = 2))

/-- R455, R457, R462 to R464, R477, R503, R507: a worker goes on from the quick test, a manager without a fit unit of each class skips Ember
service; DDR needs four trained channels and reads zero after its sweep; a failed unit is fenced by the self-test; the right OS image raises
the phase; APP_READY arms the watchdog; full service begins when all of it is done and writes a wear record (R480). EMBER_QUICK_TEST,
DDR_TRAINED, DDR_SWEEP_DONE, SELF_TEST_DONE, OS_LOAD_DONE, APP_READY, FULL_SERVICE. -/
def Obligations.TheStartReachesFullService : Prop :=
  ∀ (s : State) (at_ ms mask brand : Nat) (failed ages passed : List Nat), s.Inv →
    (phase s = 5 → isWorker s = true → ∃ t, exec (.emberQuickTest failed [] ms) s = .next t ∧ phase t = 6 ∧ t.start.ember = failed ∧
        t.car.bank0 = sparse s.bil.ember ∧ t.car.bank1 = sparse s.bil.timetable ∧
        PartsBut [.start, .car, .mem, .tab] s t) ∧
    (phase s = 5 → isManager s = true → ∃ t, exec (.emberQuickTest [] [] ms) s = .next t ∧ phase t = 6 ∧ flag t RST_START_EMBER_SKIPPED = true ∧
        (s.flt.fifo.length < 256 → t.flt.fifo = s.flt.fifo ++ [mkRec s 0x01 0x005 0 0]) ∧ t.car.bank0 = sparse s.bil.ember ∧
        t.car.bank1 = sparse s.bil.timetable ∧ PartsBut [.start, .car, .flt, .mem, .tab] s t) ∧
    (phase s = 5 → isManager s = true → emberReady (emberUnits s passed) = true →
      ∃ t, exec (.emberQuickTest passed [] ms) s = .next t ∧ phase t = 7 ∧ getF t RST_START_MS_EMBER_MS = ms % 2 ^ RST_START_MS_EMBER_MS.w ∧
        t.stk.takeFrom = some s.time ∧ t.wld.staging = s.bil.emberImg.1 ∧ t.wld.spareImg = s.bil.emberImg.2 ∧ t.car.bank0 = sparse s.bil.ember ∧
        getF t (SPR_COUNT_LOGICAL 4) = ((passedOf s passed 56 18).take 16).length ∧ PartsBut [.start, .car, .flt, .mem, .tab, .stk, .wld] s t) ∧
    (inStart s = true → s.start.trained = false → (trainedChannels s mask).length < 4 →
      ∃ t, exec (.ddrTrained mask) s = .next t ∧ StartFailed s t 0x0A []) ∧
    (inStart s = true → s.start.trained = false → ddrConfigOk s.bil = true → 4 ≤ (usedChannels s mask).length →
      ∃ t, exec (.ddrTrained mask) s = .next t ∧ t.start.trained = true ∧ phase t = max (phase s) 8 ∧
        t.start.swept = (isWarmStart s && !s.ddr.invalid && s.ddr.contentLost.isEmpty && nodeMask (usedChannels s mask) == s.ddr.mapBefore) ∧
        t.ddr = { s.ddr with invalid := !t.start.swept } ∧ getF t DDR_MAP_C = (usedChannels s mask).length ∧
        getF t DDR_MAP_ACTIVE = nodeMask (usedChannels s mask) ∧
        (∀ c ∈ List.range 6, flag t (DDR_CH_STATUS_ACTIVE c) = (usedChannels s mask).contains c ∧
          flag t (DDR_CH_STATUS_TRAINED c) = (trainedChannels s mask).contains c) ∧
        get64 t DDR_SIZE_LO DDR_SIZE_HI = (usedChannels s mask).length * 2 ^ 33 * (1 + getF s DDR_CFG_RANK2) ∧
        PartsBut [.start, .ddr, .mem, .stk, .flt] s t ∧
        (serviceReady s = false → isManager s = false → Framed [.start, .ddr, .mem] (channelRegs ++ [RST_START.addr]) s t)) ∧
    (inStart s = true → s.start.trained = true → s.start.swept = false →
      ∃ t, exec .ddrSweepDone s = .next t ∧ t.start.swept = true ∧ (∀ a, byteAt t a = if ddrBase ≤ a then 0 else byteAt s a) ∧
        t.ddr.invalid = false ∧ PartsBut [.start, .ddr, .mem, .stk, .flt] s t ∧
        BlocksBut [0x00, 0x04] s t ∧ (serviceReady { s with start := t.start } = false → Framed [.start, .ddr, .mem] [] s t)) ∧
    (inStart s = true → s.start.tested = false →
      ∃ t, exec (.selfTestDone failed ages) s = .next t ∧ t.start.tested = true ∧
        ∀ e ∈ failed, e < 234 → ustate s e ≠ 0 → ustate s e ≠ 5 → getF s (SPR_U_STATE_FENCES e) < getF s SPR_POLICY_FENCE_LIFE →
          ustate t e = 4) ∧
    (inStart s = true → s.start.tested = false → withoutEmber s = false → getF s SPR_POLICY_FENCE_LIFE = 0 → s.flt.fifo.length < 240 →
      ∃ t, exec (.selfTestDone failed ages) s = .next t ∧
        (∀ e ∈ List.range 234, ustate t e = if ustate s e = 0 then 0 else if ustate s e = 5 then 5 else if failed.contains e then 4
          else if crossedNow t [] e then 2 else 1) ∧
        (∀ h ∈ List.range 8, getF t (SPR_HEARTH_AGE h) = (ages.getD h 0 - s.bil.age0.getD h 0) % 2 ^ (SPR_HEARTH_AGE h).w) ∧
        phase t = (if gradeClasses.any (fun c => decide ((fitUnits t c).length < gradeCount s.bil.grade c)) then 14 else max (phase s) 9) ∧
        PartsBut [.start, .flt] s t ∧ BlocksBut [0x01, 0x11, 0x1E] s t) ∧
    (inStart s = true → s.start.swept = true → s.start.osLoaded = false →
      (∃ t, exec (.osLoadDone s.bil.osDigest) s = .next t ∧ t.start.osLoaded = true ∧ phase t = max (phase s) 10 ∧
        Framed [.start] [RST_START.addr] s t) ∧
      (∀ d, d ≠ s.bil.osDigest → ∃ t, exec (.osLoadDone d) s = .next t ∧ StartFailed s t 6 [])) ∧
    (fwDenies s 2 brand 1 RST_START.addr 4 = none → ∃ t, exec (.appReady brand) s = .next t ∧ t.resp = .ok ∧
      flag t RST_START_APP_READY = true ∧ t.start.wdogArmed = (s.start.wdogArmed || flag s RST_POLICY_WDOG_EN) ∧
        Framed [.start] [RST_START.addr] s t) ∧
    (inStart s = true → s.start.swept = true → s.start.tested = true → s.start.osLoaded = true → flag s RST_START_APP_READY = true →
        isInstant s at_ = true →
      ∃ t, exec (.fullService at_ ms true) s = .next t ∧ phase t = 12 ∧ mode t = 0 ∧ getF t CAR_STATUS_BANK = 1 ∧
        getF t RST_START_MS_FULL_MS = ms % 2 ^ RST_START_MS_FULL_MS.w ∧
        t.start.journal.any (fun r => r.typ == 2 && r.rseq == newestSeq s + 1) = true ∧
        (s.flt.fifo.length < 200 → t.flt.fifo.any (fun r => r.block == 0x01 && r.code == 0x007) = true) ∧
        t.spr.wearSeq = s.spr.wearSeq + 1 ∧ t.spr.wearValid = true ∧ (s.stk.inst = at_ → t.stk.takeFrom.isSome ∨ withoutEmber s = false) ∧
        PartsBut [.start, .flt, .spr, .stk, .wld, .peal, .mem, .tab, .tabX, .time, .car, .pins] s t)

/-- R443, R458: a start that fails shows its cause, is written to the journal and ends in phase 14 with RST 0x006 of class 7; 2,000 ms after
its release it fails with cause 0x0B. START_FAIL, START_TIMEOUT. R472, R473: the watchdog's key restarts it, and any other value is an error;
an armed watchdog that expires writes RST 0x002 of class 6, and an accepted software warm request RST 0x003 of class 6. WDOG_KICK,
SW_WARM_REQ, WDOG_EXPIRE. -/
def Obligations.FailedStartsAndTheWatchdogAreRecorded : Prop :=
  (∀ (s : State) (c : Nat), s.Inv → starting s = true → s.flt.fifo.length < 256 →
      (1 ≤ c → c ≤ 0x0C → c ≠ 5 → ∃ t, exec (.startFail c) s = .next t ∧ StartFailed s t c [] ∧
        t.flt.fifo = s.flt.fifo ++ [mkRec s 0x01 0x006 7 0]) ∧
      (∃ t, exec .startTimeout s = .next t ∧ StartFailed s t 0x0B [] ∧
        t.flt.fifo = s.flt.fifo ++ [mkRec s 0x01 0x006 7 0])) ∧
  (∀ (s : State) (brand value : Nat), s.flt.fifo.length < 256 → fwDenies s 2 brand 1 RST_WDOG_KICK.addr 4 = none →
      fwDenies s 2 brand 1 RST_SW_REQ.addr 4 = none →
      (mayKick brand = true → ∃ t, exec (.wdogKick brand 0x4B49434B) s = .next t ∧ t.resp = .ok ∧ t.start = { s.start with wdogAt := s.time } ∧
          Framed [.start] [] s t) ∧
      (value ≠ 0x4B49434B → ∃ t, exec (.wdogKick brand value) s = .next t ∧ t.resp = .error ∧
          Framed [] [] s t) ∧
      (mayKick brand = true → flag s RST_POLICY_SWREQ_EN = true → ∃ t, exec (.swWarmReq brand 0x5741524D) s = .next t ∧ t.resp = .ok ∧
        t.flt.fifo = s.flt.fifo ++ [mkRec s 0x01 0x003 6 0] ∧
          Framed [.flt] [] s t) ∧
      (flag s RST_POLICY_SWREQ_EN = false → ∃ t, exec (.swWarmReq brand value) s = .next t ∧ t.resp = .error ∧ Framed [] [] s t) ∧
      (s.start.wdogArmed = true → ∃ t, exec .wdogExpire s = .next t ∧ t.flt.fifo = s.flt.fifo ++ [mkRec s 0x01 0x002 6 0] ∧
          Framed [.flt] [] s t))

/-- R469 to R471: a Banked device sends its report on port 3 and as 2 CAN FD frames; a maintenance command with a valid object and one of the
last 2 nonces is carried out, and any other command changes nothing. BANKED_REPORT, READ_JOURNAL, CLEAR_JOURNAL, WRITE_SLOT, RESTART,
MAINTENANCE_COLD_RESET. -/
def Obligations.BankedReportsAndMaintenance : Prop :=
  ∀ (s : State) (at_ nonce from_ slot off : Nat) (obj bytes : List Nat),
    (isBanked s = true → ∃ t r, exec (.bankedReport at_) s = .next t ∧ t.start.reports = s.start.reports ++ [(bankedPort s, r)] ∧
      t.pln.canTx0 = s.pln.canTx0 ++ reportFrames (bankedCan s) r ∧ 
      r = reportBytes (atTime s at_) (Config.freeValue s.free % 2 ^ 32) (s.free + 1) ∧ t.free = s.free + 2 ∧ t.start.nonces.getLast? = some (Config.freeValue s.free % 2 ^ 32) ∧
      t.start.nonces.length ≤ 2 ∧ Framed [.pln, .start, .time, .free] [] s t) ∧
    (maintained s obj nonce = false → exec (.readJournal obj nonce from_) s = .next s ∧ exec (.clearJournal obj nonce) s = .next s ∧
      exec (.writeSlot obj nonce slot off bytes) s = .next s ∧ exec (.restart obj nonce) s = .next s) ∧
    (maintained s obj nonce = true →
      (∃ t, exec (.readJournal obj nonce from_) s = .next t ∧ t.start.answers = s.start.answers ++
        [((s.start.journal.filter (fun r => decide (from_ ≤ r.rseq))).take 16).flatMap recBytes] ∧
        Framed [.start] [] s t) ∧
      (∃ t, exec (.clearJournal obj nonce) s = .next t ∧ t.start.coldDue = true ∧
        t.start.journal.any (fun r => r.typ == 5 && r.rseq == newestSeq s + 1) = true ∧ Framed [.start] [RST_JOURNAL.addr] s t) ∧
      (slot = 0 → off + bytes.length ≤ 0x1000000 → ∃ t, exec (.writeSlot obj nonce slot off bytes) s = .next t ∧
        t.start.slotA = slotWrite s.start.slotA off bytes ∧ t.start.slotB = s.start.slotB ∧ Framed [.start] [] s t) ∧
      (slot = 1 → off + bytes.length ≤ 0x1000000 → ∃ t, exec (.writeSlot obj nonce slot off bytes) s = .next t ∧
        t.start.slotB = slotWrite s.start.slotB off bytes ∧ t.start.slotA = s.start.slotA ∧ Framed [.start] [] s t) ∧
      (∃ t, exec (.restart obj nonce) s = .next t ∧ t = { s with start := { s.start with coldDue := true } })) ∧
    (isBanked s = true → s.start.coldDue = true → s.rst.reach = 0 →
      ∃ t, exec .maintenanceColdReset s = .next t ∧ t.rst = { s.rst with reach := 4, causes := 0x40, released := false, counted := 0 } ∧
        t.start.coldDue = false ∧ ColdReset s t)

/-- R478 to R482, R487: the evaluation keeps each hearth's aging and the hours of hot regions, and a spare unit past a threshold becomes WORN;
the wear record is written with the next number; every substitution resumes at SPARE_READY; a unit past a threshold gets a spare by a
proactive swap, one per stroke, drains, and becomes WORN with SPR 0x001 of class 0. WEAR_EVAL, WEAR_RECORD_WRITE, SPARE_READY,
PROACTIVE_START, PROACTIVE_SWITCH, DRAIN_DONE. -/
def Obligations.WornUnitsAreReplaced : Prop :=
  ∀ (s : State) (at_ e n c l : Nat) (ages hot : List Nat) (ce : List (Nat × Nat)) (pass : Bool), s.Inv →
    (∃ t, exec (.wearEval ages hot ce) s = .next t ∧
      (∀ h, h < 8 → getF t (SPR_HEARTH_AGE h) = (ages.getD h 0 - s.bil.age0.getD h 0) % 2 ^ (SPR_HEARTH_AGE h).w) ∧
      (∀ r, r < 9 → nget t.spr.heatHours r = nget s.spr.heatHours r + (if hot.contains r then 1 else 0)) ∧
      t.spr = { s.spr with heatHours := t.spr.heatHours, crossed := t.spr.crossed } ∧
      (∀ u ∈ List.range 224, ustate t u = if ustate s u = 1 && crossedNow t ce u then 2 else ustate s u) ∧
      (∀ u ∈ List.range 224, t.spr.crossed.contains u = (s.spr.crossed.contains u || (ustate s u == 0 && crossedNow t ce u))) ∧
        PartsBut [.spr, .flt] s t ∧ BlocksBut [0x11, 0x1E] s t) ∧
    (∃ t, exec .wearRecordWrite s = .next t ∧ t.spr.wearSeq = s.spr.wearSeq + 1 ∧ t.spr.wearValid = true ∧
      ((s.spr.wearSeq + 1) % 16, wearBytes s) ∈ t.spr.records ∧
      (∀ p ∈ s.spr.records, p.1 ≠ (s.spr.wearSeq + 1) % 16 → p ∈ t.spr.records) ∧
      (∀ u ∈ List.range 234, t.spr.wearRetired.contains u = (ustate s u == 5)) ∧
      t.spr.crossed = s.spr.crossed ∧ t.spr.subst = s.spr.subst ∧ t.spr.proactive = s.spr.proactive ∧ Framed [.spr] [] s t) ∧
    (c < 8 → n < 234 → s.spr.subst = [(c, l, n, at_)] → s.time ≤ at_ → at_ < 2 ^ 64 → ∃ t, exec (.spareReady at_) s = .next t ∧ t.spr.subst = [] ∧
      getF t (SPR_U_STATE_TESTING n) = 0 ∧ getF t SPR_SWAP_LAST = 0 ∧
      getF t SPR_LIVE_CNT = min (getF s SPR_LIVE_CNT + 1) (2 ^ SPR_LIVE_CNT.w - 1) ∧ t.time = at_ ∧
        t.spr = { s.spr with subst := [] } ∧ PartsBut [.spr, .time, .tabX] s t ∧
        RegsBut [(SPR_U_STATE_TESTING n).addr, SPR_SWAP_LAST.addr, SPR_SWAP_MAX.addr, SPR_LIVE_CNT.addr] s t) ∧
    (getF s SPR_POLICY_PROACTIVE_EN ≠ 0 → s.spr.proDone = false → s.spr.proactive = none → proactivePair s = some (e, n) → n < 234 →
      (∃ t, exec (.proactiveStart true) s = .next t ∧ t.spr = { s.spr with proactive := some (e, n), proDone := true } ∧
        getF t (SPR_U_STATE_TESTING n) = 1 ∧ Framed [.spr] [(SPR_U_STATE_TESTING n).addr] s t) ∧
      (∃ t, exec (.proactiveStart false) s = .next t ∧ t.spr.proactive = none ∧ t.spr.proDone = true ∧ ustate t n = 4 ∧
        (∀ u ∈ List.range 234, u ≠ n → ustate t u = ustate s u) ∧ getF t (SPR_U_STATE_FENCES n) = min (getF s (SPR_U_STATE_FENCES n) + 1) 15 ∧
        (exhausted t (classOfE n) = true → bit (getF t SPR_OUT) (classOfE n) = true) ∧
        (exhausted t (classOfE n) = false → runningOn s n = none → prefetchOn s n = none → n < 32 ∨ 56 ≤ n → Framed [.spr] [(SPR_U_STATE_STATE n).addr, (SPR_COUNT (classOfE n)).addr] s t))) ∧
    (s.spr.proactive = some (e, n) → servesIndex s e = some (c, l) → e < 224 → n < 224 → e ≠ n → classOfE n = c →
      ∃ t, exec (.proactiveSwitch at_) s = .next t ∧ t.spr.proactive = none ∧ ustate t e = 3 ∧ ustate t n = 0 ∧ physE t c l = some n ∧
        getF t (SPR_U_STATE_TESTING n) = 0 ∧ t.fwl.mapPending = none ∧ thState t 6 = 0 ∧
        (s.fwl.mapPending.isSome = true → s.flt.fifo.length < 250 → mkRec (atTime s at_) 0x11 0x007 0 0 ∈ t.flt.fifo) ∧
        PartsBut [.spr, .time, .flt, .fwl] s t) ∧
    (e < 224 → ustate s e = 3 → runningOn s e = none → prefetchOn s e = none → s.spr.entryTest.contains e = false →
        s.flt.fifo.length < 256 →
      ∃ t, exec (.drainDone e true) s = .next t ∧ ustate t e = 2 ∧ t.spr.crossed.contains e = false ∧
        getF t SPR_PRO_CNT = min (getF s SPR_PRO_CNT + 1) (2 ^ SPR_PRO_CNT.w - 1) ∧
        t.flt.fifo = s.flt.fifo ++ [mkRec s 0x11 0x001 0 e] ∧ (∀ u ∈ List.range 234, classOfE u ≠ 3 → u ≠ e → ustate t u = ustate s u) ∧
        PartsBut [.spr, .flt] s t ∧ BlocksBut [0x11] s t) ∧
    (e < 224 → ustate s e = 3 → runningOn s e = none → prefetchOn s e = none → s.spr.entryTest.contains e = true →
      ∃ t, exec (.drainDone e pass) s = .next t ∧ ustate t e = (if pass then 1 else 4) ∧
        t.spr.entryTest = s.spr.entryTest.filter (· != e) ∧
        getF t (SPR_U_STATE_FENCES e) = (if pass then getF s (SPR_U_STATE_FENCES e) else min (getF s (SPR_U_STATE_FENCES e) + 1) 15) ∧
        (∀ u ∈ List.range 234, classOfE u ≠ 3 → u ≠ e → ustate t u = ustate s u) ∧
        (pass = false → exhausted t (classOfE e) = true → bit (getF t SPR_OUT) (classOfE e) = true) ∧
        (pass = true ∨ exhausted t (classOfE e) = false → PartsBut [.spr, .flt] s t ∧ BlocksBut [0x11, 0x1E] s t))

/-- R508 to R512, R500 to R502: a report request while none runs sets BUSY and takes the destination and the nonce; its end sets DONE; one
while BUSY is refused with SEC 0x003 of class 0; a token that does not verify writes DBG 0x001 of class 0, and every submit draws a new nonce
(the model's free value, log 2); EXTEST is reached only under the cold pin or without power. ATTEST_REQ, ATTEST_DONE, DEBUG_SUBMIT,
TAP_INSTRUCTION. -/
def Obligations.AttestationDebugAndScan : Prop :=
  ∀ (s : State) (brand ir : Nat), s.Inv → fwDenies s 2 brand 1 SEC_ATT_CTRL.addr 4 = none →
    (flag s SEC_ATT_CTRL_BUSY = false → ∃ t, exec (.attestReq brand) s = .next t ∧ t.resp = .ok ∧ flag t SEC_ATT_CTRL_BUSY = true ∧
      t.sec = { s.sec with att := some (get64 s SEC_ATT_DST_LO SEC_ATT_DST_HI, (List.range 8).map (fun i => getF s (SEC_ATT_NONCE i))) } ∧
        Framed [.sec] [SEC_ATT_CTRL.addr] s t) ∧
    (flag s SEC_ATT_CTRL_BUSY = true → s.flt.fifo.length < 256 → ∃ t, exec (.attestReq brand) s = .next t ∧ t.resp = .error ∧
      t.flt.fifo = s.flt.fifo ++ [mkRec s 0x14 0x003 0 0] ∧
        Framed [.flt] [] s t) ∧
    (∀ a, s.sec.att = some a → ∃ t, exec .attestDone s = .next t ∧ t.sec.att = none ∧ flag t SEC_ATT_CTRL_BUSY = false ∧
      flag t SEC_ATT_CTRL_DONE = true ∧ (∀ x, (x / 64 < a.1 / 64 ∨ (a.1 + 1023) / 64 < x / 64) → byteAt t x = byteAt s x) ∧
        t.free = s.free + 1 ∧ PartsBut [.sec, .mem, .flt, .tab, .anv, .ddr, .free] s t) ∧
    (∀ a, s.sec.att = some a → Grants s 0 0x01 1 a.1 1024 → a.1 % 64 = 0 → a.1 + 1024 ≤ anvilEnd → NoErrs s → InboxApart s a.1 1024 →
      ∃ t, exec .attestDone s = .next t ∧ peek t a.1 1024 = (reportBody s a.2 ++ signature s.sec s.free (reportBody s a.2)).map (· % 256) ∧
        Framed [.sec, .mem, .free] [SEC_ATT_CTRL.addr] s t) ∧
    (tokenOk s (tokenBytes s) = false → s.flt.fifo.length < 256 → ∃ t, exec .debugSubmit s = .next t ∧
      getF t DBG_NONCE = Config.freeValue s.free % 2 ^ 32 ∧ t.free = s.free + 1 ∧
      t.flt.fifo = s.flt.fifo ++ [mkRec s 0x1D 0x001 0 0] ∧
        Framed [.flt, .free] [DBG_NONCE.addr] s t) ∧
    (tokenOk s (tokenBytes s) = true → thState s 7 ≠ 0 → ∃ t, exec .debugSubmit s = .next t ∧
      getF t DBG_NONCE = Config.freeValue s.free % 2 ^ 32 ∧ t.free = s.free + 1 ∧ Framed [.free] [DBG_NONCE.addr] s t) ∧
    (tokenOk s (tokenBytes s) = true → thState s 7 = 0 → ∃ t, exec .debugSubmit s = .next t ∧ thState t 7 = 2 ∧
      thStager t 7 = 1 ∧ getF t DBG_STATE_PENDING = 1 ∧ t.fwl.staged = s.fwl.staged.filter (fun p => p.1 != 7) ++
        [(7, DBG_UNLOCK.addr, fldAt (tokenBytes s) 16 4 % 8)] ∧ Framed [.fwl, .free] [DBG_NONCE.addr, DBG_STATE.addr, (FWL_TH_STATUS_STATE 7).addr] s t) ∧
    (∃ t, exec (.tapInstruction ir) s = .next t ∧ 
      t.pins = { s.pins with extest := ir == 3 && scanAllowed s, ir := if ir ≤ 2 ∨ (ir = 3 ∧ scanAllowed s = true) then ir else 0 } ∧
        Framed [.pins] [] s t)

/-- R530 to R535, R539: an update shows every sensor's reading and whether it is valid; a decided step is taken at the next engine clock edge,
counted, with THM 0x001 of class 0; a trip resets the device cold; an accepted PPS edge leaves its time and counts. SENSOR_UPDATE,
THROTTLE_STEP_APPLY, THERMAL_TRIP, PPS_EDGE. -/
def Obligations.ThermalStepsTripsAndPps : Prop :=
  ∀ (s : State) (at_ n highNs r : Nat) (rs : List Int), s.Inv →
    (∃ t, exec (.sensorUpdate at_ rs) s = .next t ∧ t.thm.lastAt = some at_ ∧
      (∀ k, k < 64 → getF t (THM_SENSOR_T k) = toU 16 (reading rs k) ∧ getF t (THM_SENSOR_VALID k) = b2n (validSensor t k)) ∧
      (∀ k ∈ List.range 64, validSensor s k = true → outOfRange rs k = true → validSensor t k = false) ∧
      (∀ k ∈ List.range 64, hottest t rs = some k → getF t THM_STATUS_HOT_IDX = k ∧ getF t THM_STATUS_HOT_T = toU 16 (reading rs k)) ∧
      (∀ r ∈ List.range 9, t.thm.failed.contains r = (s.thm.failed.contains r || !(regionSensors r).any (validSensor t))) ∧
      flag t THM_STATUS_CRIT = ((hottest t rs).any (fun k => decide (tCrit s ≤ reading rs k)) || !t.thm.failed.isEmpty) ∧
      (inService' s = true → flag t THM_STATUS_CRIT = false → (hottest t rs).any (fun k => decide (tThrottle s ≤ reading rs k)) = true →
        s.thm.hotSince = none → s.thm.nextStep = none → t.thm.hotSince = some at_ ∧
        t.thm.nextStep = if getF s CLK_ENG < 3 then some (getF s CLK_ENG + 1) else none) ∧
        PartsBut [.thm, .time, .flt] s t ∧ BlocksBut [0x02, 0x03, 0x1E] s t) ∧
    (s.thm.nextStep = some n → n ≠ getF s CLK_ENG → n < 4 → s.flt.fifo.length < 256 →
      ∃ t, exec .throttleStepApply s = .next t ∧ t.thm.nextStep = none ∧ getF t CLK_ENG = n ∧
        flag t THM_STATUS_THROTTLED = decide (maxStep s < n) ∧ t.flt.fifo = s.flt.fifo ++ [mkRec s 0x03 0x001 0 n] ∧
        Framed [.flt, .thm] [CLK_ENG.addr, THM_STATUS_THROTTLED.addr, THM_STEP_UP.addr, THM_STEP_DOWN.addr] s t) ∧
    (r < 9 → s.rst.reach = 0 → ∃ t, exec (.thermalTrip r) s = .next t ∧ t.rst = { s.rst with reach := 4, causes := 0x20, released := false, counted := 0 } ∧
      ColdReset (drainFaults 257 (sendFault s 0x03 0x003 7 r)) t ∧ (s.flt.fifo = [] → s.flt.first = [] → getF s FLT_STATUS_FIRST = 0 →
        t.flt.first = [mkRec s 0x03 0x003 7 r])) ∧
    (50 ≤ highNs → (∀ p, s.thm.ppsLast = some p → p + 500000000 ≤ at_) → at_ < 2 ^ 64 →
      ∃ t, exec (.ppsEdge at_ highNs) s = .next t ∧ get64 t TOP_PPS_LO TOP_PPS_HI = at_ ∧ t.thm.ppsLast = some at_ ∧
        getF t TOP_PPS_CNT = min (getF s TOP_PPS_CNT + 1) (2 ^ TOP_PPS_CNT.w - 1) ∧
        Framed [.thm, .time] [TOP_PPS_LO.addr, TOP_PPS_HI.addr, TOP_PPS_CNT.addr] s t) ∧
    (highNs < 50 → ∃ t, exec (.ppsEdge at_ highNs) s = .next t ∧ t = atTime s at_)
end

