-- ==== Sys2Proof/Laws/Maps.lean ====
section
/-! SUPPORT. The sparse maps: reading after writing, and the canonical form a write keeps. -/

namespace Sys2Proof.Machine

variable {α : Type} [DecidableEq α] (d : Nat → α)

theorem sget_of_lt (m : List (Nat × α)) (lo a : Nat) (h : swfFrom d lo m = true) (ha : a < lo) : sget d m a = d a := by
  induction m generalizing lo with
  | nil => rfl
  | cons p t ih =>
    obtain ⟨b, w⟩ := p
    simp only [swfFrom, Bool.and_eq_true, decide_eq_true_eq] at h
    have hne : a ≠ b := by omega
    simp only [sget, if_neg hne]
    exact ih (b + 1) h.2 (by omega)

/-- A read elsewhere is unchanged by a write. -/
theorem sget_sset_other (m : List (Nat × α)) (a c : Nat) (v : α) (h : c ≠ a) : sget d (sset d m a v) c = sget d m c := by
  induction m with
  | nil => simp only [sset]; split <;> simp [sget, h]
  | cons p t ih =>
    obtain ⟨b, w⟩ := p
    simp only [sset]
    split
    · split <;> simp [sget, h]
    · split
      · next h2 => subst h2; split <;> simp [sget, h]
      · simp only [sget]; split
        · rfl
        · exact ih

/-- A read at the written key gives the value written, in a canonical map. -/
theorem sget_sset_same (m : List (Nat × α)) (a : Nat) (v : α) (lo : Nat) (h : swfFrom d lo m = true) :
    sget d (sset d m a v) a = v := by
  induction m generalizing lo with
  | nil => simp only [sset]; split <;> simp_all [sget]
  | cons p t ih =>
    obtain ⟨b, w⟩ := p
    simp only [swfFrom, Bool.and_eq_true, decide_eq_true_eq] at h
    simp only [sset]
    split
    · next h1 =>
      split
      · next h2 =>
        have hne : a ≠ b := by omega
        simp only [sget, if_neg hne]
        rw [sget_of_lt d t (b + 1) a h.2 (by omega), h2]
      · simp [sget]
    · split
      · next h2 =>
        subst h2
        split
        · next h3 => rw [sget_of_lt d t (a + 1) a h.2 (by omega), h3]
        · simp [sget]
      · next h2 => simp only [sget, if_neg h2]; exact ih (b + 1) h.2

theorem swfFrom_mono (m : List (Nat × α)) (lo hi : Nat) (hl : lo ≤ hi) (h : swfFrom d hi m = true) : swfFrom d lo m = true := by
  cases m with
  | nil => rfl
  | cons p t =>
    obtain ⟨b, w⟩ := p
    simp only [swfFrom, Bool.and_eq_true, decide_eq_true_eq] at h ⊢
    exact ⟨⟨by omega, h.1.2⟩, h.2⟩

theorem swfFrom_sset (m : List (Nat × α)) (a : Nat) (v : α) (lo : Nat) (ha : lo ≤ a) (h : swfFrom d lo m = true) :
    swfFrom d lo (sset d m a v) = true := by
  induction m generalizing lo with
  | nil => simp only [sset]; split <;> simp_all [swfFrom]
  | cons p t ih =>
    obtain ⟨b, w⟩ := p
    simp only [swfFrom, Bool.and_eq_true, decide_eq_true_eq] at h
    simp only [sset]
    split
    · split
      · simp [swfFrom, h]
      · next h1 h2 => simp only [swfFrom, Bool.and_eq_true, decide_eq_true_eq]; exact ⟨⟨ha, h2⟩, ⟨⟨by omega, h.1.2⟩, h.2⟩⟩
    · split
      · next h2 =>
        subst h2
        split
        · exact swfFrom_mono d t lo (a + 1) (by omega) h.2
        · next h3 => simp only [swfFrom, Bool.and_eq_true, decide_eq_true_eq]; exact ⟨⟨ha, h3⟩, h.2⟩
      · simp only [swfFrom, Bool.and_eq_true, decide_eq_true_eq]
        exact ⟨h.1, ih (b + 1) (by omega) h.2⟩

/-- A write keeps the canonical form. -/
theorem swf_sset (m : List (Nat × α)) (a : Nat) (v : α) (h : swf d m = true) : swf d (sset d m a v) = true :=
  swfFrom_sset d m a v 0 (Nat.zero_le a) h

theorem swfFrom_filter (m : List (Nat × α)) (p : Nat × α → Bool) (lo : Nat) (h : swfFrom d lo m = true) :
    swfFrom d lo (m.filter p) = true := by
  induction m generalizing lo with
  | nil => rfl
  | cons q t ih =>
    obtain ⟨b, w⟩ := q
    simp only [swfFrom, Bool.and_eq_true, decide_eq_true_eq] at h
    simp only [List.filter_cons]
    split
    · simp only [swfFrom, Bool.and_eq_true, decide_eq_true_eq]; exact ⟨h.1, ih (b + 1) h.2⟩
    · exact ih lo (swfFrom_mono d t lo (b + 1) (by omega) h.2)

/-- Keeping some of the entries keeps the canonical form. -/
theorem swf_filter (m : List (Nat × α)) (p : Nat × α → Bool) (h : swf d m = true) : swf d (m.filter p) = true :=
  swfFrom_filter d m p 0 h

end Sys2Proof.Machine
end

