-- ==== Sys2Proof/Laws/Kept.lean ====
section
/-! SUPPORT. The rules by which `Kept` passes through an operation's text: each file Laws/Kept<M>.lean applies them to the operations
of Machine/<M>.lean, one lemma each. -/

namespace Sys2Proof.Machine

variable {z : State}

theorem kept_refl (s : State) : Kept s s := ⟨id, id, id, rfl⟩

theorem Kept.trans {s t u : State} (a : Kept s t) (b : Kept t u) : Kept s u :=
  ⟨b.regs ∘ a.regs, b.mem ∘ a.mem, b.links ∘ a.links, b.pending.trans a.pending⟩

theorem kept_ite {c : Prop} [Decidable c] {s t : State} (hs : Kept z s) (ht : Kept z t) : Kept z (if c then s else t) := by
  split <;> assumption

theorem kept_foldl {β : Type} (f : State → β → State) (l : List β) (s : State) (hs : Kept z s)
    (hf : ∀ s x, Kept z s → Kept z (f s x)) : Kept z (l.foldl f s) := by
  induction l generalizing s with
  | nil => exact hs
  | cons x t ih => exact ih (f s x) (hf s x hs)

theorem kept_ite_fst {β : Type} {c : Prop} [Decidable c] {a b : State × β} (hs : Kept z a.1) (ht : Kept z b.1) :
    Kept z (if c then a else b).1 := by
  split <;> assumption

theorem kept_ite_snd {β : Type} {c : Prop} [Decidable c] {a b : β × State} (hs : Kept z a.2) (ht : Kept z b.2) :
    Kept z (if c then a else b).2 := by
  split <;> assumption

theorem kept_foldl_fst {β γ : Type} (f : State × γ → β → State × γ) (l : List β) (a : State × γ) (hs : Kept z a.1)
    (hf : ∀ a x, Kept z a.1 → Kept z (f a x).1) : Kept z (l.foldl f a).1 := by
  induction l generalizing a with
  | nil => exact hs
  | cons x t ih => exact ih (f a x) (hf a x hs)

theorem kept_foldl_snd {β γ : Type} (f : γ × State → β → γ × State) (l : List β) (a : γ × State) (hs : Kept z a.2)
    (hf : ∀ a x, Kept z a.2 → Kept z (f a x).2) : Kept z (l.foldl f a).2 := by
  induction l generalizing a with
  | nil => exact hs
  | cons x t ih => exact ih (f a x) (hf a x hs)

theorem links_setAt {l : List Link} (i : Nat) (v : Link) (h : l.length = 4) : (setAt l i v).length = 4 := by
  rw [setAt, List.length_set, h]

theorem links_map {l : List Link} (f : Link → Link) (h : l.length = 4) : (l.map f).length = 4 := by
  rw [List.length_map, h]

/-- Changing any fields but the registers, the memory, the links and the queue. -/
theorem kept_mk (e : State) (a1 sl ao hiS hiT hiV hiP stk car bell wld peal tA tB tX asy pln anv ddr ubf fwl flt rst start spr sec thm pins bil resp free)
    (h : Kept z e) (hu : e.ubf.links.length = 4 → ubf.links.length = 4) : Kept z ⟨e.regs, e.mem, a1, sl, ao, hiS, hiT, hiV, hiP, stk, car, bell, wld, peal, tA, tB, tX, asy, pln, anv, ddr, ubf, fwl, flt,
      rst, start, spr, sec, thm, pins, bil, resp, free, e.pending⟩ := ⟨h.regs, h.mem, hu ∘ h.links, h.pending⟩

/-- Memory of the same bytes and the same error patterns of every kind. -/
theorem kept_sameMem {s t : State} (h : Kept z s) (hr : t.regs = s.regs) (hc : t.mem.cells = s.mem.cells) (he : t.mem.errs = s.mem.errs)
    (hf : t.mem.fabErrs = s.mem.fabErrs) (hx : t.mem.spareErrs = s.mem.spareErrs) (hu : t.ubf = s.ubf) (hp : t.pending = s.pending) : Kept z t :=
  ⟨fun w => by rw [hr]; exact h.regs w, fun w => by unfold Memory.wf; rw [hc, he, hf, hx]; exact h.mem w, fun w => by rw [hu]; exact h.links w, hp.trans h.pending⟩

/-- Memory that differs in the free spare lines' error patterns only, these still in their canonical form. -/
theorem kept_spareMem {s t : State} (h : Kept z s) (hr : t.regs = s.regs) (hc : t.mem.cells = s.mem.cells) (he : t.mem.errs = s.mem.errs)
    (hf : t.mem.fabErrs = s.mem.fabErrs) (hx : swf noErr s.mem.spareErrs = true → swf noErr t.mem.spareErrs = true) (hu : t.ubf = s.ubf)
    (hp : t.pending = s.pending) : Kept z t := by
  refine ⟨fun w => by rw [hr]; exact h.regs w, fun w => ?_, fun w => by rw [hu]; exact h.links w, hp.trans h.pending⟩
  have := h.mem w
  simp only [Memory.wf, Bool.and_eq_true] at this ⊢
  rw [hc, he, hf]
  exact ⟨this.1, hx this.2⟩

/-- A command's answer, if it is a next state, is one that is kept. -/
structure KeptAns (z : State) (o : Ans) : Prop where
  kept : ∀ t, o = .next t → Kept z t

theorem keptAns_next {t : State} (h : Kept z t) : KeptAns z (.next t) := ⟨fun u e => by
  simp only [Host.Outcome.next.injEq] at e; exact e ▸ h⟩

theorem keptAns_ite {c : Prop} [Decidable c] {a b : Ans} (ha : KeptAns z a) (hb : KeptAns z b) : KeptAns z (if c then a else b) := by
  split <;> assumption

theorem Kept.inv {s t : State} (h : Kept s t) (i : s.Inv) : t.Inv := ⟨h.regs i.1, h.mem i.2.1, h.links i.2.2⟩

end Sys2Proof.Machine
end

