-- ==== Sys2Proof/Laws/Apart.lean ====
section
/-! SUPPORT. What the Tabor, the spares and the engines' shared operations leave alone besides: the stroke and its source, the Bell line,
the world, what the Peal works on, the plan, reset episodes, identity, sensors and the billet. -/

namespace Sys2Proof.Machine

structure Apart (s t : State) : Prop where
  stk : t.stk = s.stk
  bell : t.bell = s.bell
  wld : t.wld = s.wld
  peal : t.peal = { s.peal with arrived := t.peal.arrived }
  pln : t.pln = s.pln
  rst : t.rst = s.rst
  sec : t.sec = s.sec
  thm : t.thm = s.thm
  bil : t.bil = s.bil
  pending : t.pending = s.pending

variable {z : State}

theorem apart_refl (s : State) : Apart s s := ⟨rfl, rfl, rfl, rfl, rfl, rfl, rfl, rfl, rfl, rfl⟩

theorem apart_ite {c : Prop} [Decidable c] {s t : State} (hs : Apart z s) (ht : Apart z t) : Apart z (if c then s else t) := by
  split <;> assumption

theorem apart_ite_fst {β : Type} {c : Prop} [Decidable c] {a b : State × β} (hs : Apart z a.1) (ht : Apart z b.1) :
    Apart z (if c then a else b).1 := by
  split <;> assumption

theorem apart_ite_snd {β : Type} {c : Prop} [Decidable c] {a b : β × State} (hs : Apart z a.2) (ht : Apart z b.2) :
    Apart z (if c then a else b).2 := by
  split <;> assumption

theorem apart_foldl {β : Type} (f : State → β → State) (l : List β) (s : State) (hs : Apart z s)
    (hf : ∀ s x, Apart z s → Apart z (f s x)) : Apart z (l.foldl f s) := by
  induction l generalizing s with
  | nil => exact hs
  | cons x t ih => exact ih (f s x) (hf s x hs)

theorem apart_foldl_snd {β γ : Type} (f : γ × State → β → γ × State) (l : List β) (a : γ × State) (hs : Apart z a.2)
    (hf : ∀ a x, Apart z a.2 → Apart z (f a x).2) : Apart z (l.foldl f a).2 := by
  induction l generalizing a with
  | nil => exact hs
  | cons x t ih => exact ih (f a x) (hf a x hs)

theorem apart_foldl_fst {β γ : Type} (f : State × γ → β → State × γ) (l : List β) (a : State × γ) (hs : Apart z a.1)
    (hf : ∀ a x, Apart z a.1 → Apart z (f a x).1) : Apart z (l.foldl f a).1 := by
  induction l generalizing a with
  | nil => exact hs
  | cons x t ih => exact ih (f a x) (hf a x hs)

theorem apart_mk (e : State) (a_regs a_mem a_time a_slew a_aon a_hiStroke a_hiTai a_hiTime a_hiPps a_car arrived a_tabA a_tabB a_tabX a_asy a_anv a_ddr a_ubf a_fwl a_flt a_start a_spr a_pins a_resp a_free)
    (h : Apart z e) :
    Apart z ⟨a_regs, a_mem, a_time, a_slew, a_aon, a_hiStroke, a_hiTai, a_hiTime, a_hiPps, e.stk, a_car, e.bell, e.wld, { e.peal with arrived := arrived }, a_tabA, a_tabB, a_tabX, a_asy, e.pln, a_anv, a_ddr, a_ubf, a_fwl, a_flt, e.rst, a_start, a_spr, e.sec, e.thm, a_pins, e.bil, a_resp, a_free, e.pending⟩ :=
  ⟨h.stk, h.bell, h.wld, by rw [h.peal], h.pln, h.rst, h.sec, h.thm, h.bil, h.pending⟩

end Sys2Proof.Machine
end

