-- ==== Sys2Proof/Laws/ApartOps.lean ====
section
/-! SUPPORT. Every operation of Machine/Ops.lean is a side effect in the sense of Laws/Apart.lean. -/

namespace Sys2Proof.Machine

variable {z : State}

theorem apart_wr (s : State) (x1 : Nat) (x2 : Nat) (h : Apart z s) : Apart z (wr s x1 x2) := by
  unfold wr
  repeat' first | with_reducible assumption | intro _ | with_reducible apply apart_foldl  | with_reducible apply apart_ite | split | dsimp only | with_reducible apply apart_mk

theorem apart_setF (s : State) (x1 : Fld) (x2 : Nat) (h : Apart z s) : Apart z (setF s x1 x2) := by
  unfold setF
  repeat' first | with_reducible assumption | intro _ | with_reducible apply apart_wr | with_reducible apply apart_foldl  | with_reducible apply apart_ite | split | dsimp only | with_reducible apply apart_mk

theorem apart_bump (s : State) (x1 : Fld) (x2 : Nat) (h : Apart z s) : Apart z (bump s x1 x2) := by
  unfold bump
  repeat' first | with_reducible assumption | intro _ | with_reducible apply apart_setF | with_reducible apply apart_foldl  | with_reducible apply apart_ite | split | dsimp only | with_reducible apply apart_mk

theorem apart_tick (s : State) (x1 : Fld) (h : Apart z s) : Apart z (tick s x1) := by
  unfold tick
  repeat' first | with_reducible assumption | intro _ | with_reducible apply apart_setF | with_reducible apply apart_foldl  | with_reducible apply apart_ite | split | dsimp only | with_reducible apply apart_mk

theorem apart_high (s : State) (x1 : Fld) (x2 : Nat) (h : Apart z s) : Apart z (high s x1 x2) := by
  unfold high
  repeat' first | with_reducible assumption | intro _ | with_reducible apply apart_setF | with_reducible apply apart_foldl  | with_reducible apply apart_ite | split | dsimp only | with_reducible apply apart_mk

theorem apart_set64 (s : State) (x1 : Fld) (x2 : Fld) (x3 : Nat) (h : Apart z s) : Apart z (set64 s x1 x2 x3) := by
  unfold set64
  repeat' first | with_reducible assumption | intro _ | with_reducible apply apart_setF | with_reducible apply apart_foldl  | with_reducible apply apart_ite | split | dsimp only | with_reducible apply apart_mk

theorem apart_fresh (s : State)  (h : Apart z s) : Apart z (fresh s).2 := by
  unfold fresh
  repeat' first | with_reducible assumption | intro _ | with_reducible apply apart_foldl  | with_reducible apply apart_foldl_fst | with_reducible apply apart_foldl_snd | with_reducible apply apart_ite_fst | with_reducible apply apart_ite_snd | with_reducible apply apart_ite | split | dsimp only | with_reducible apply apart_mk

theorem apart_answer (s : State) (x1 : Resp) (h : Apart z s) : Apart z (answer s x1) := by
  unfold answer
  repeat' first | with_reducible assumption | intro _ | with_reducible apply apart_foldl  | with_reducible apply apart_ite | split | dsimp only | with_reducible apply apart_mk

theorem apart_atTime (s : State) (x1 : Nat) (h : Apart z s) : Apart z (atTime s x1) := by
  unfold atTime
  repeat' first | with_reducible assumption | intro _ | with_reducible apply apart_foldl  | with_reducible apply apart_ite | split | dsimp only | with_reducible apply apart_mk

theorem apart_logRec (s : State) (x1 : FaultRec) (h : Apart z s) : Apart z (logRec s x1) := by
  unfold logRec
  repeat' first | with_reducible assumption | intro _ | with_reducible apply apart_setF | with_reducible apply apart_foldl  | with_reducible apply apart_ite | split | dsimp only | with_reducible apply apart_mk

theorem apart_showPins (s : State)  (h : Apart z s) : Apart z (showPins s) := by
  unfold showPins
  repeat' first | with_reducible assumption | intro _ | with_reducible apply apart_setF | with_reducible apply apart_foldl  | with_reducible apply apart_ite | split | dsimp only | with_reducible apply apart_mk

theorem apart_latchSafe (s : State)  (h : Apart z s) : Apart z (latchSafe s) := by
  unfold latchSafe
  repeat' first | with_reducible assumption | intro _ | with_reducible apply apart_setF | with_reducible apply apart_showPins | with_reducible apply apart_foldl  | with_reducible apply apart_ite | split | dsimp only | with_reducible apply apart_mk

theorem apart_reactPlain (s : State) (x1 : Nat) (h : Apart z s) : Apart z (reactPlain s x1) := by
  unfold reactPlain
  repeat' first | with_reducible assumption | intro _ | with_reducible apply apart_latchSafe | with_reducible apply apart_setF | with_reducible apply apart_foldl  | with_reducible apply apart_ite | split | dsimp only | with_reducible apply apart_mk

theorem apart_pushFault (s : State) (x1 : FaultRec) (h : Apart z s) : Apart z (pushFault s x1) := by
  unfold pushFault
  repeat' first | with_reducible assumption | intro _ | with_reducible apply apart_bump | with_reducible apply apart_logRec | with_reducible apply apart_reactPlain | with_reducible apply apart_foldl  | with_reducible apply apart_ite | split | dsimp only | with_reducible apply apart_mk

theorem apart_sendFault (s : State) (x1 : Nat) (x2 : Nat) (x3 : Nat) (x4 : Nat) (h : Apart z s) : Apart z (sendFault s x1 x2 x3 x4) := by
  unfold sendFault
  repeat' first | with_reducible assumption | intro _ | with_reducible apply apart_pushFault | with_reducible apply apart_foldl  | with_reducible apply apart_ite | split | dsimp only | with_reducible apply apart_mk

theorem apart_refuseAccess (s : State) (x1 : Nat) (x2 : Nat) (h : Apart z s) : Apart z (refuseAccess s x1 x2) := by
  unfold refuseAccess
  repeat' first | with_reducible assumption | intro _ | with_reducible apply apart_answer | with_reducible apply apart_sendFault | with_reducible apply apart_foldl  | with_reducible apply apart_ite | split | dsimp only | with_reducible apply apart_mk

theorem apart_deny (s : State) (x1 : Nat) (x2 : Nat) (x3 : Nat) (x4 : Nat) (x5 : Nat) (h : Apart z s) : Apart z (deny s x1 x2 x3 x4 x5) := by
  unfold deny
  repeat' first | with_reducible assumption | intro _ | with_reducible apply apart_sendFault | with_reducible apply apart_set64 | with_reducible apply apart_setF | with_reducible apply apart_foldl  | with_reducible apply apart_ite | split | dsimp only | with_reducible apply apart_mk

theorem apart_setByte (s : State) (x1 : Nat) (x2 : Nat) (h : Apart z s) : Apart z (setByte s x1 x2) := by
  unfold setByte
  repeat' first | with_reducible assumption | intro _ | with_reducible apply apart_foldl  | with_reducible apply apart_ite | split | dsimp only | with_reducible apply apart_mk

theorem apart_poke (s : State) (x1 : Nat) (x2 : List Nat) (h : Apart z s) : Apart z (poke s x1 x2) := by
  induction x2 generalizing s x1 with
  | nil => exact h
  | cons b t ih => exact ih _ _ (apart_setByte _ _ _ h)

theorem apart_setErr (s : State) (x1 : Nat) (x2 : List Nat) (h : Apart z s) : Apart z (setErr s x1 x2) := by
  unfold setErr
  repeat' first | with_reducible assumption | intro _ | with_reducible apply apart_foldl  | with_reducible apply apart_ite | split | dsimp only | with_reducible apply apart_mk

theorem apart_bankDue (s : State) (x1 : Nat) (h : Apart z s) : Apart z (bankDue s x1) := by
  unfold bankDue
  repeat' first | with_reducible assumption | intro _ | with_reducible apply apart_foldl  | with_reducible apply apart_ite | split | dsimp only | with_reducible apply apart_mk

theorem apart_onceCode (s : State) (x1 : Nat) (x2 : Nat) (x3 : Nat) (x4 : Nat) (x5 : Nat) (h : Apart z s) : Apart z (onceCode s x1 x2 x3 x4 x5) := by
  unfold onceCode
  repeat' first | with_reducible assumption | intro _ | with_reducible apply apart_sendFault | with_reducible apply apart_foldl  | with_reducible apply apart_ite | split | dsimp only | with_reducible apply apart_mk

theorem apart_oncePerStroke (s : State) (x1 : Nat) (x2 : Nat) (x3 : Nat) (x4 : Nat) (h : Apart z s) : Apart z (oncePerStroke s x1 x2 x3 x4) := by
  unfold oncePerStroke
  repeat' first | with_reducible assumption | intro _ | with_reducible apply apart_onceCode | with_reducible apply apart_foldl  | with_reducible apply apart_ite | split | dsimp only | with_reducible apply apart_mk

theorem apart_queueWriteback (s : State) (x1 : Nat) (h : Apart z s) : Apart z (queueWriteback s x1) := by
  unfold queueWriteback
  repeat' first | with_reducible assumption | intro _ | with_reducible apply apart_foldl  | with_reducible apply apart_ite | split | dsimp only | with_reducible apply apart_mk

theorem apart_ddrBadLine (s : State) (x1 : Nat) (h : Apart z s) : Apart z (ddrBadLine s x1) := by
  unfold ddrBadLine
  repeat' first | with_reducible assumption | intro _ | with_reducible apply apart_sendFault | with_reducible apply apart_setF | with_reducible apply apart_foldl  | with_reducible apply apart_ite | split | dsimp only | with_reducible apply apart_mk

theorem apart_fabricFx (s : State) (x1 : Nat) (x2 : Bool) (h : Apart z s) : Apart z (fabricFx s x1 x2) := by
  unfold fabricFx
  repeat' first | with_reducible assumption | intro _ | with_reducible apply apart_bump | with_reducible apply apart_sendFault | with_reducible apply apart_set64 | with_reducible apply apart_setF | with_reducible apply apart_foldl  | with_reducible apply apart_ite | split | dsimp only | with_reducible apply apart_mk

theorem apart_countCe (s : State) (x1 : Nat) (h : Apart z s) : Apart z (countCe s x1) := by
  unfold countCe
  repeat' first | with_reducible assumption | intro _ | with_reducible apply apart_bump | with_reducible apply apart_foldl  | with_reducible apply apart_ite | split | dsimp only | with_reducible apply apart_mk

theorem apart_anvilBad (s : State) (x1 : Bool) (x2 : Nat) (h : Apart z s) : Apart z (anvilBad s x1 x2) := by
  unfold anvilBad
  repeat' first | with_reducible assumption | intro _ | with_reducible apply apart_bankDue | with_reducible apply apart_bump | with_reducible apply apart_set64 | with_reducible apply apart_setF | with_reducible apply apart_foldl  | with_reducible apply apart_ite | split | dsimp only | with_reducible apply apart_mk

theorem apart_noteFx (s : State) (x0 : Bool) (x2 : Note) (h : Apart z s) : Apart z (noteFx x0 s x2) := by
  unfold noteFx
  repeat' first | with_reducible assumption | intro _ | with_reducible apply apart_anvilBad | with_reducible apply apart_bankDue | with_reducible apply apart_bump | with_reducible apply apart_countCe | with_reducible apply apart_ddrBadLine | with_reducible apply apart_deny | with_reducible apply apart_fabricFx | with_reducible apply apart_oncePerStroke | with_reducible apply apart_queueWriteback | with_reducible apply apart_sendFault | with_reducible apply apart_set64 | with_reducible apply apart_setF | with_reducible apply apart_foldl  | with_reducible apply apart_ite | split | dsimp only | with_reducible apply apart_mk

theorem apart_notesFx (s : State) (x1 : List Note) (h : Apart z s) : Apart z (notesFx s x1) := by
  unfold notesFx
  repeat' first | with_reducible assumption | intro _ | with_reducible apply apart_noteFx | with_reducible apply apart_foldl  | with_reducible apply apart_ite | split | dsimp only | with_reducible apply apart_mk

theorem apart_inboxWatch (s : State) (x1 : Bool) (x2 : Nat) (x3 : List Nat) (h : Apart z s) : Apart z (inboxWatch s x1 x2 x3) := by
  unfold inboxWatch
  repeat' first | with_reducible assumption | intro _ | with_reducible apply apart_bump | with_reducible apply apart_sendFault | with_reducible apply apart_setF | with_reducible apply apart_foldl  | with_reducible apply apart_ite | split | dsimp only | with_reducible apply apart_mk

theorem apart_dropWriteback (s : State) (x1 : Nat) (h : Apart z s) : Apart z (dropWriteback s x1) := by
  unfold dropWriteback
  repeat' first | with_reducible assumption | intro _ | with_reducible apply apart_foldl  | with_reducible apply apart_ite | split | dsimp only | with_reducible apply apart_mk

theorem apart_tagWrite (s : State) (x1 : Nat) (h : Apart z s) : Apart z (tagWrite s x1) := by
  unfold tagWrite
  repeat' first | with_reducible assumption | intro _ | with_reducible apply apart_foldl  | with_reducible apply apart_ite | split | dsimp only | with_reducible apply apart_mk

theorem apart_putLine (s : State) (x1 : Nat) (x2 : List Nat) (h : Apart z s) : Apart z (putLine s x1 x2) := by
  unfold putLine
  repeat' first | with_reducible assumption | intro _ | with_reducible apply apart_dropWriteback | with_reducible apply apart_inboxWatch | with_reducible apply apart_poke | with_reducible apply apart_setErr | with_reducible apply apart_tagWrite | with_reducible apply apart_foldl  | with_reducible apply apart_ite | split | dsimp only | with_reducible apply apart_mk

theorem apart_putPoison (s : State) (x1 : Nat) (x2 : List Nat) (h : Apart z s) : Apart z (putPoison s x1 x2) := by
  unfold putPoison
  repeat' first | with_reducible assumption | intro _ | with_reducible apply apart_bump | with_reducible apply apart_dropWriteback | with_reducible apply apart_poke | with_reducible apply apart_setErr | with_reducible apply apart_tagWrite | with_reducible apply apart_foldl  | with_reducible apply apart_ite | split | dsimp only | with_reducible apply apart_mk

theorem apart_mergeFx (s : State) (x1 : Note) (h : Apart z s) : Apart z (mergeFx s x1) := by
  unfold mergeFx
  repeat' first | with_reducible assumption | intro _ | with_reducible apply apart_anvilBad | with_reducible apply apart_noteFx | with_reducible apply apart_foldl  | with_reducible apply apart_ite | split | dsimp only | with_reducible apply apart_mk

theorem apart_putPart (s : State) (x1 : Nat) (x2 : Nat) (x3 : List Nat) (h : Apart z s) : Apart z (putPart s x1 x2 x3) := by
  unfold putPart
  repeat' first | with_reducible assumption | intro _ | with_reducible apply apart_dropWriteback | with_reducible apply apart_inboxWatch | with_reducible apply apart_mergeFx | with_reducible apply apart_poke | with_reducible apply apart_putPoison | with_reducible apply apart_setErr | with_reducible apply apart_tagWrite | with_reducible apply apart_foldl  | with_reducible apply apart_ite | split | dsimp only | with_reducible apply apart_mk

theorem apart_storeGo (s : State) (x0 : Nat) (x2 : Nat) (x3 : List Nat) (h : Apart z s) : Apart z (storeGo x0 s x2 x3) := by
  induction x0 generalizing s x2 x3 with
  | zero => exact h
  | succ k ih =>
    unfold storeGo
    repeat' first | with_reducible assumption | intro _ | with_reducible apply ih | with_reducible apply apart_putLine | with_reducible apply apart_putPart | with_reducible apply apart_foldl  | with_reducible apply apart_ite | split | dsimp only | with_reducible apply apart_mk

theorem apart_store (s : State) (x1 : Nat) (x2 : List Nat) (h : Apart z s) : Apart z (store s x1 x2) := by
  unfold store
  repeat' first | with_reducible assumption | intro _ | with_reducible apply apart_storeGo | with_reducible apply apart_foldl  | with_reducible apply apart_ite | split | dsimp only | with_reducible apply apart_mk

theorem apart_storeBrand (s : State) (x1 : Nat) (x2 : Nat) (x3 : List Nat) (h : Apart z s) : Apart z (storeBrand s x1 x2 x3).1 := by
  unfold storeBrand
  repeat' first | with_reducible assumption | intro _ | with_reducible apply apart_deny | with_reducible apply apart_store | with_reducible apply apart_foldl  | with_reducible apply apart_foldl_fst | with_reducible apply apart_foldl_snd | with_reducible apply apart_ite_fst | with_reducible apply apart_ite_snd | with_reducible apply apart_ite | split | dsimp only | with_reducible apply apart_mk

theorem apart_asyCrc (s : State) (x1 : Nat) (h : Apart z s) : Apart z (asyCrc s x1) := by
  unfold asyCrc
  repeat' first | with_reducible assumption | intro _ | with_reducible apply apart_foldl  | with_reducible apply apart_ite | split | dsimp only | with_reducible apply apart_mk

theorem apart_asyStore (s : State) (x1 : Nat) (x2 : List Nat) (h : Apart z s) : Apart z (asyStore s x1 x2) := by
  unfold asyStore
  repeat' first | with_reducible assumption | intro _ | with_reducible apply apart_asyCrc | with_reducible apply apart_store | with_reducible apply apart_foldl  | with_reducible apply apart_ite | split | dsimp only | with_reducible apply apart_mk

theorem apart_bumpsFx (s : State) (x1 : List (Fld × Nat)) (h : Apart z s) : Apart z (bumpsFx s x1) := by
  unfold bumpsFx
  repeat' first | with_reducible assumption | intro _ | with_reducible apply apart_bump | with_reducible apply apart_foldl  | with_reducible apply apart_ite | split | dsimp only | with_reducible apply apart_mk

theorem apart_setsFx (s : State) (x1 : List (Fld × Nat)) (h : Apart z s) : Apart z (setsFx s x1) := by
  unfold setsFx
  repeat' first | with_reducible assumption | intro _ | with_reducible apply apart_setF | with_reducible apply apart_foldl  | with_reducible apply apart_ite | split | dsimp only | with_reducible apply apart_mk

theorem apart_faultsFx (s : State) (x1 : List (Nat × Nat × Nat × Nat)) (h : Apart z s) : Apart z (faultsFx s x1) := by
  unfold faultsFx
  repeat' first | with_reducible assumption | intro _ | with_reducible apply apart_sendFault | with_reducible apply apart_foldl  | with_reducible apply apart_ite | split | dsimp only | with_reducible apply apart_mk

theorem apart_writeAll (s : State) (x1 : Nat) (x2 : List (Nat × List Nat)) (h : Apart z s) : Apart z (writeAll s x1 x2).1 := by
  unfold writeAll
  refine apart_foldl_fst _ _ _ h (fun a p k => ?_)
  unfold writeOne
  exact apart_storeBrand _ _ _ _ k

theorem apart_writesFx (s : State) (x1 : Nat) (x2 : List (Nat × List Nat)) (h : Apart z s) : Apart z (writesFx s x1 x2) := by
  unfold writesFx
  repeat' first | with_reducible assumption | intro _ | with_reducible apply apart_writeAll | with_reducible apply apart_foldl  | with_reducible apply apart_foldl_fst | with_reducible apply apart_foldl_snd | with_reducible apply apart_ite_fst | with_reducible apply apart_ite_snd | with_reducible apply apart_ite | split | dsimp only | with_reducible apply apart_mk

theorem apart_heatFlag (s : State) (x1 : Nat) (h : Apart z s) : Apart z (heatFlag s x1) := by
  unfold heatFlag
  repeat' first | with_reducible assumption | intro _ | with_reducible apply apart_poke | with_reducible apply apart_foldl  | with_reducible apply apart_ite | split | dsimp only | with_reducible apply apart_mk

theorem apart_applyWork (s : State) (x1 : Nat) (x2 : Work) (h : Apart z s) : Apart z (applyWork s x1 x2) := by
  unfold applyWork
  repeat' first | with_reducible assumption | intro _ | with_reducible apply apart_bumpsFx | with_reducible apply apart_faultsFx | with_reducible apply apart_notesFx | with_reducible apply apart_setsFx | with_reducible apply apart_writesFx | with_reducible apply apart_foldl  | with_reducible apply apart_ite | split | dsimp only | with_reducible apply apart_mk

end Sys2Proof.Machine
end

