-- ==== Sys2Proof/Laws/ApartLinks.lean ====
section
/-! SUPPORT. Every operation of Machine/Links.lean is a side effect in the sense of Laws/Apart.lean. -/

namespace Sys2Proof.Machine

variable {z : State}

theorem apart_setLnk (s : State) (x1 : Nat) (x2 : Link) (h : Apart z s) : Apart z (setLnk s x1 x2) := by
  unfold setLnk
  repeat' first | with_reducible assumption | intro _ | with_reducible apply apart_foldl  | with_reducible apply apart_ite | split | dsimp only | with_reducible apply apart_mk

theorem apart_pump (s : State) (x1 : Nat) (h : Apart z s) : Apart z (pump s x1) := by
  unfold pump
  repeat' first | with_reducible assumption | intro _ | with_reducible apply apart_setLnk | with_reducible apply apart_foldl  | with_reducible apply apart_ite | split | dsimp only | with_reducible apply apart_mk

theorem apart_sendCtl (s : State) (x1 : Nat) (x2 : Nat) (h : Apart z s) : Apart z (sendCtl s x1 x2) := by
  unfold sendCtl
  repeat' first | with_reducible assumption | intro _ | with_reducible apply apart_setLnk | with_reducible apply apart_foldl  | with_reducible apply apart_ite | split | dsimp only | with_reducible apply apart_mk

theorem apart_sendMsg (s : State) (x1 : Nat) (x2 : List Nat) (x3 : List (List Nat)) (h : Apart z s) : Apart z (sendMsg s x1 x2 x3) := by
  unfold sendMsg
  repeat' first | with_reducible assumption | intro _ | with_reducible apply apart_pump | with_reducible apply apart_setLnk | with_reducible apply apart_foldl  | with_reducible apply apart_ite | split | dsimp only | with_reducible apply apart_mk

theorem apart_sendTo (s : State) (x1 : Nat) (x2 : List Nat) (x3 : List (List Nat)) (h : Apart z s) : Apart z (sendTo s x1 x2 x3) := by
  unfold sendTo
  repeat' first | with_reducible assumption | intro _ | with_reducible apply apart_sendMsg | with_reducible apply apart_foldl  | with_reducible apply apart_ite | split | dsimp only | with_reducible apply apart_mk

theorem apart_sendSync (s : State) (x1 : Nat) (x2 : Nat) (x3 : Nat) (x4 : Nat) (h : Apart z s) : Apart z (sendSync s x1 x2 x3 x4) := by
  unfold sendSync
  repeat' first | with_reducible assumption | intro _ | with_reducible apply apart_sendTo | with_reducible apply apart_foldl  | with_reducible apply apart_ite | split | dsimp only | with_reducible apply apart_mk

theorem apart_sendSyncAll (s : State) (x1 : Nat) (x2 : Nat) (x3 : Nat) (h : Apart z s) : Apart z (sendSyncAll s x1 x2 x3) := by
  unfold sendSyncAll
  repeat' first | with_reducible assumption | intro _ | with_reducible apply apart_sendSync | with_reducible apply apart_foldl  | with_reducible apply apart_ite | split | dsimp only | with_reducible apply apart_mk

theorem apart_forward (s : State) (x1 : List Nat) (x2 : List (List Nat)) (h : Apart z s) : Apart z (forward s x1 x2) := by
  unfold forward
  repeat' first | with_reducible assumption | intro _ | with_reducible apply apart_sendTo | with_reducible apply apart_foldl  | with_reducible apply apart_ite | split | dsimp only | with_reducible apply apart_mk

theorem apart_takeMsg (s : State) (x1 : Nat) (x2 : List Nat) (x3 : List (List Nat)) (h : Apart z s) : Apart z (takeMsg s x1 x2 x3) := by
  unfold takeMsg
  repeat' first | with_reducible assumption | intro _ | with_reducible apply apart_sendCtl | with_reducible apply apart_setLnk | with_reducible apply apart_foldl  | with_reducible apply apart_ite | split | dsimp only | with_reducible apply apart_mk

theorem apart_noteSync (s : State) (x1 : Nat) (h : Apart z s) : Apart z (noteSync s x1) := by
  unfold noteSync
  repeat' first | with_reducible assumption | intro _ | with_reducible apply apart_setLnk | with_reducible apply apart_foldl  | with_reducible apply apart_ite | split | dsimp only | with_reducible apply apart_mk

theorem apart_syncDown (s : State) (x1 : List Nat) (h : Apart z s) : Apart z (syncDown s x1) := by
  unfold syncDown
  repeat' first | with_reducible assumption | intro _ | with_reducible apply apart_noteSync | with_reducible apply apart_takeMsg | with_reducible apply apart_foldl  | with_reducible apply apart_ite | split | dsimp only | with_reducible apply apart_mk

theorem apart_retrainCause (s : State) (x1 : Nat) (h : Apart z s) : Apart z (retrainCause s x1) := by
  unfold retrainCause
  repeat' first | with_reducible assumption | intro _ | with_reducible apply apart_setF | with_reducible apply apart_setLnk | with_reducible apply apart_foldl  | with_reducible apply apart_ite | split | dsimp only | with_reducible apply apart_mk

theorem apart_replay (s : State) (x1 : Nat) (h : Apart z s) : Apart z (replay s x1) := by
  unfold replay
  repeat' first | with_reducible assumption | intro _ | with_reducible apply apart_retrainCause | with_reducible apply apart_setLnk | with_reducible apply apart_foldl  | with_reducible apply apart_ite | split | dsimp only | with_reducible apply apart_mk

theorem apart_controlFx (s : State) (x1 : Nat) (x2 : List Nat) (h : Apart z s) : Apart z (controlFx s x1 x2) := by
  unfold controlFx
  repeat' first | with_reducible assumption | intro _ | with_reducible apply apart_pump | with_reducible apply apart_replay | with_reducible apply apart_setLnk | with_reducible apply apart_foldl  | with_reducible apply apart_ite | split | dsimp only | with_reducible apply apart_mk

theorem apart_dataFx (s : State) (x1 : Nat) (x2 : List Nat) (h : Apart z s) : Apart z (dataFx s x1 x2) := by
  unfold dataFx
  repeat' first | with_reducible assumption | intro _ | with_reducible apply apart_sendCtl | with_reducible apply apart_sendFault | with_reducible apply apart_setLnk | with_reducible apply apart_foldl  | with_reducible apply apart_ite | split | dsimp only | with_reducible apply apart_mk

theorem apart_badFx (s : State) (x1 : Nat) (h : Apart z s) : Apart z (badFx s x1) := by
  unfold badFx
  repeat' first | with_reducible assumption | intro _ | with_reducible apply apart_bump | with_reducible apply apart_sendCtl | with_reducible apply apart_setLnk | with_reducible apply apart_foldl  | with_reducible apply apart_ite | split | dsimp only | with_reducible apply apart_mk

theorem apart_receiveFrame (s : State) (x1 : Nat) (x2 : List Nat) (h : Apart z s) : Apart z (receiveFrame s x1 x2) := by
  unfold receiveFrame
  repeat' first | with_reducible assumption | intro _ | with_reducible apply apart_badFx | with_reducible apply apart_controlFx | with_reducible apply apart_dataFx | with_reducible apply apart_foldl  | with_reducible apply apart_ite | split | dsimp only | with_reducible apply apart_mk

end Sys2Proof.Machine
end

