-- ==== Sys2Proof/Laws/ApartTabor.lean ====
section
/-! SUPPORT. Every operation of Machine/Tabor.lean is a side effect in the sense of Laws/Apart.lean. -/

namespace Sys2Proof.Machine

variable {z : State}

theorem apart_updTab (s : State) (x1 : Tabor → Tabor) (h : Apart z s) : Apart z (updTab s x1) := by
  unfold updTab
  repeat' first | with_reducible assumption | intro _ | with_reducible apply apart_sendFault | with_reducible apply apart_setF | with_reducible apply apart_foldl  | with_reducible apply apart_ite | split | dsimp only | with_reducible apply apart_mk

theorem apart_setTask (s : State) (x1 : Task) (h : Apart z s) : Apart z (setTask s x1) := by
  unfold setTask
  repeat' first | with_reducible assumption | intro _ | with_reducible apply apart_updTab | with_reducible apply apart_foldl  | with_reducible apply apart_ite | split | dsimp only | with_reducible apply apart_mk

theorem apart_noteDepth (s : State) (x1 : Nat) (h : Apart z s) : Apart z (noteDepth s x1) := by
  unfold noteDepth
  repeat' first | with_reducible assumption | intro _ | with_reducible apply apart_high | with_reducible apply apart_foldl  | with_reducible apply apart_ite | split | dsimp only | with_reducible apply apart_mk

theorem apart_ringDoorbell (s : State) (x1 : Nat) (x2 : Nat) (x3 : Nat) (h : Apart z s) : Apart z (ringDoorbell s x1 x2 x3).1 := by
  unfold ringDoorbell
  repeat' first | with_reducible assumption | intro _ | with_reducible apply apart_bump | with_reducible apply apart_noteDepth | with_reducible apply apart_sendFault | with_reducible apply apart_setF | with_reducible apply apart_foldl  | with_reducible apply apart_foldl_fst | with_reducible apply apart_foldl_snd | with_reducible apply apart_ite_fst | with_reducible apply apart_ite_snd | with_reducible apply apart_ite | split | dsimp only | with_reducible apply apart_mk

theorem apart_noteCq (s : State) (x1 : Nat) (h : Apart z s) : Apart z (noteCq s x1) := by
  unfold noteCq
  repeat' first | with_reducible assumption | intro _ | with_reducible apply apart_setF | with_reducible apply apart_foldl  | with_reducible apply apart_ite | split | dsimp only | with_reducible apply apart_mk

theorem apart_busyFx (s : State) (x1 : Nat) (x2 : Nat) (x3 : Bool) (x4 : Nat) (x5 : Bool) (h : Apart z s) : Apart z (busyFx s x1 x2 x3 x4 x5) := by
  unfold busyFx
  repeat' first | with_reducible assumption | intro _ | with_reducible apply apart_setF | with_reducible apply apart_foldl  | with_reducible apply apart_ite | split | dsimp only | with_reducible apply apart_mk

theorem apart_showSwage (s : State) (x1 : Nat) (h : Apart z s) : Apart z (showSwage s x1) := by
  unfold showSwage
  repeat' first | with_reducible assumption | intro _ | with_reducible apply apart_setF | with_reducible apply apart_foldl  | with_reducible apply apart_ite | split | dsimp only | with_reducible apply apart_mk

theorem apart_noteStrike (s : State) (x1 : Option Nat) (h : Apart z s) : Apart z (noteStrike s x1) := by
  unfold noteStrike
  repeat' first | with_reducible assumption | intro _ | with_reducible apply apart_showSwage | with_reducible apply apart_foldl  | with_reducible apply apart_ite | split | dsimp only | with_reducible apply apart_mk

theorem apart_showTask (s : State) (x1 : Nat) (x2 : Nat) (x3 : Task) (h : Apart z s) : Apart z (showTask s x1 x2 x3) := by
  unfold showTask
  repeat' first | with_reducible assumption | intro _ | with_reducible apply apart_setF | with_reducible apply apart_foldl  | with_reducible apply apart_ite | split | dsimp only | with_reducible apply apart_mk

theorem apart_assayIdle (s : State) (x1 : Nat) (h : Apart z s) : Apart z (assayIdle s x1) := by
  unfold assayIdle
  repeat' first | with_reducible assumption | intro _ | with_reducible apply apart_setF | with_reducible apply apart_foldl  | with_reducible apply apart_ite | split | dsimp only | with_reducible apply apart_mk

theorem apart_showUnit (s : State) (x1 : Nat) (h : Apart z s) : Apart z (showUnit s x1) := by
  unfold showUnit
  repeat' first | with_reducible assumption | intro _ | with_reducible apply apart_assayIdle | with_reducible apply apart_busyFx | with_reducible apply apart_showSwage | with_reducible apply apart_showTask | with_reducible apply apart_foldl  | with_reducible apply apart_ite | split | dsimp only | with_reducible apply apart_mk

theorem apart_showAssay (s : State)  (h : Apart z s) : Apart z (showAssay s) := by
  unfold showAssay
  repeat' first | with_reducible assumption | intro _ | with_reducible apply apart_assayIdle | with_reducible apply apart_foldl  | with_reducible apply apart_ite | split | dsimp only | with_reducible apply apart_mk

theorem apart_startRun (s : State) (x1 : Task) (x2 : Nat) (x3 : Nat) (h : Apart z s) : Apart z (startRun s x1 x2 x3) := by
  unfold startRun
  repeat' first | with_reducible assumption | intro _ | with_reducible apply apart_bump | with_reducible apply apart_noteStrike | with_reducible apply apart_setTask | with_reducible apply apart_showUnit | with_reducible apply apart_foldl  | with_reducible apply apart_ite | split | dsimp only | with_reducible apply apart_mk

theorem apart_slotEmpties (s : State) (x1 : Nat) (h : Apart z s) : Apart z (slotEmpties s x1) := by
  unfold slotEmpties
  repeat' first | with_reducible assumption | intro _ | with_reducible apply apart_showUnit | with_reducible apply apart_startRun | with_reducible apply apart_foldl  | with_reducible apply apart_ite | split | dsimp only | with_reducible apply apart_mk

theorem apart_countRun (s : State) (x1 : Nat) (x2 : Task) (h : Apart z s) : Apart z (countRun s x1 x2) := by
  unfold countRun
  repeat' first | with_reducible assumption | intro _ | with_reducible apply apart_bump | with_reducible apply apart_foldl  | with_reducible apply apart_ite | split | dsimp only | with_reducible apply apart_mk

theorem apart_taskLeaves (s : State) (x1 : Nat) (x2 : Task) (h : Apart z s) : Apart z (taskLeaves s x1 x2) := by
  unfold taskLeaves
  repeat' first | with_reducible assumption | intro _ | with_reducible apply apart_bump | with_reducible apply apart_countRun | with_reducible apply apart_noteStrike | with_reducible apply apart_setTask | with_reducible apply apart_slotEmpties | with_reducible apply apart_foldl  | with_reducible apply apart_ite | split | dsimp only | with_reducible apply apart_mk

theorem apart_finishNow (s : State) (x1 : Task) (x2 : Nat) (h : Apart z s) : Apart z (finishNow s x1 x2) := by
  unfold finishNow
  repeat' first | with_reducible assumption | intro _ | with_reducible apply apart_setTask | with_reducible apply apart_foldl  | with_reducible apply apart_ite | split | dsimp only | with_reducible apply apart_mk

theorem apart_requestSwap (s : State)  (h : Apart z s) : Apart z (requestSwap s) := by
  unfold requestSwap
  repeat' first | with_reducible assumption | intro _ | with_reducible apply apart_setF | with_reducible apply apart_foldl  | with_reducible apply apart_ite | split | dsimp only | with_reducible apply apart_mk

theorem apart_enterTask (s : State) (x1 : Nat) (x2 : Nat) (x3 : List Nat) (x4 : Bool) (h : Apart z s) : Apart z (enterTask s x1 x2 x3 x4) := by
  unfold enterTask
  repeat' first | with_reducible assumption | intro _ | with_reducible apply apart_bump | with_reducible apply apart_high | with_reducible apply apart_requestSwap | with_reducible apply apart_sendFault | with_reducible apply apart_updTab | with_reducible apply apart_foldl  | with_reducible apply apart_ite | split | dsimp only | with_reducible apply apart_mk

theorem apart_noteStop (s : State) (x1 : Nat) (x2 : Nat) (h : Apart z s) : Apart z (noteStop s x1 x2) := by
  unfold noteStop
  repeat' first | with_reducible assumption | intro _ | with_reducible apply apart_setF | with_reducible apply apart_foldl  | with_reducible apply apart_ite | split | dsimp only | with_reducible apply apart_mk

theorem apart_injectGolden (s : State) (x1 : List Nat) (h : Apart z s) : Apart z (injectGolden s x1) := by
  unfold injectGolden
  repeat' first | with_reducible assumption | intro _ | with_reducible apply apart_setF | with_reducible apply apart_foldl  | with_reducible apply apart_ite | split | dsimp only | with_reducible apply apart_mk

theorem apart_pumpGold (s : State)  (h : Apart z s) : Apart z (pumpGold s) := by
  unfold pumpGold
  repeat' first | with_reducible assumption | intro _ | with_reducible apply apart_injectGolden | with_reducible apply apart_foldl  | with_reducible apply apart_ite | split | dsimp only | with_reducible apply apart_mk

theorem apart_wantGold (s : State) (x1 : Nat) (x2 : Nat) (h : Apart z s) : Apart z (wantGold s x1 x2) := by
  unfold wantGold
  repeat' first | with_reducible assumption | intro _ | with_reducible apply apart_pumpGold | with_reducible apply apart_foldl  | with_reducible apply apart_ite | split | dsimp only | with_reducible apply apart_mk

theorem apart_passHead (s : State) (x1 : Nat) (x2 : Bool) (h : Apart z s) : Apart z (passHead s x1 x2) := by
  unfold passHead
  repeat' first | with_reducible assumption | intro _ | with_reducible apply apart_setF | with_reducible apply apart_foldl  | with_reducible apply apart_ite | split | dsimp only | with_reducible apply apart_mk

theorem apart_admitOffer (s : State) (x1 : Nat) (x2 : Option (List Nat) × List Note) (h : Apart z s) : Apart z (admitOffer s x1 x2) := by
  unfold admitOffer
  repeat' first | with_reducible assumption | intro _ | with_reducible apply apart_enterTask | with_reducible apply apart_noteDepth | with_reducible apply apart_noteStop | with_reducible apply apart_notesFx | with_reducible apply apart_passHead | with_reducible apply apart_pumpGold | with_reducible apply apart_foldl  | with_reducible apply apart_ite | split | dsimp only | with_reducible apply apart_mk

theorem apart_admitHead (s : State) (x0 : Option Nat) (x2 : Nat) (h : Apart z s) : Apart z (admitHead x0 s x2) := by
  unfold admitHead
  repeat' first | with_reducible assumption | intro _ | with_reducible apply apart_admitOffer | with_reducible apply apart_noteStop | with_reducible apply apart_notesFx | with_reducible apply apart_foldl  | with_reducible apply apart_ite | split | dsimp only | with_reducible apply apart_mk

theorem apart_ringEntry (s : State) (x1 : Nat) (x2 : Nat) (x3 : Fld) (x4 : List Nat) (h : Apart z s) : Apart z (ringEntry s x1 x2 x3 x4) := by
  unfold ringEntry
  repeat' first | with_reducible assumption | intro _ | with_reducible apply apart_storeBrand | with_reducible apply apart_tick | with_reducible apply apart_foldl  | with_reducible apply apart_foldl_fst | with_reducible apply apart_foldl_snd | with_reducible apply apart_ite_fst | with_reducible apply apart_ite_snd | with_reducible apply apart_ite | split | dsimp only | with_reducible apply apart_mk

theorem apart_hallmarkLog (s : State) (x1 : Nat) (x2 : Nat) (h : Apart z s) : Apart z (hallmarkLog s x1 x2) := by
  unfold hallmarkLog
  repeat' first | with_reducible assumption | intro _ | with_reducible apply apart_ringEntry | with_reducible apply apart_foldl  | with_reducible apply apart_ite | split | dsimp only | with_reducible apply apart_mk

theorem apart_release (s : State) (x1 : Task) (h : Apart z s) : Apart z (release s x1) := by
  unfold release
  repeat' first | with_reducible assumption | intro _ | with_reducible apply apart_hallmarkLog | with_reducible apply apart_noteCq | with_reducible apply apart_ringEntry | with_reducible apply apart_updTab | with_reducible apply apart_foldl  | with_reducible apply apart_ite | split | dsimp only | with_reducible apply apart_mk

theorem apart_writeTail (s : State) (x1 : Nat) (x2 : Nat) (x3 : Nat) (h : Apart z s) : Apart z (writeTail s x1 x2 x3) := by
  unfold writeTail
  repeat' first | with_reducible assumption | intro _ | with_reducible apply apart_answer | with_reducible apply apart_ringDoorbell | with_reducible apply apart_foldl  | with_reducible apply apart_foldl_fst | with_reducible apply apart_foldl_snd | with_reducible apply apart_ite_fst | with_reducible apply apart_ite_snd | with_reducible apply apart_ite | split | dsimp only | with_reducible apply apart_mk

theorem apart_writeCqHead (s : State) (x1 : Nat) (x2 : Nat) (h : Apart z s) : Apart z (writeCqHead s x1 x2) := by
  unfold writeCqHead
  repeat' first | with_reducible assumption | intro _ | with_reducible apply apart_answer | with_reducible apply apart_noteCq | with_reducible apply apart_setF | with_reducible apply apart_foldl  | with_reducible apply apart_ite | split | dsimp only | with_reducible apply apart_mk

theorem apart_skipFlow (s : State) (x1 : Nat) (h : Apart z s) : Apart z (skipFlow s x1) := by
  unfold skipFlow
  repeat' first | with_reducible assumption | intro _ | with_reducible apply apart_answer | with_reducible apply apart_sendFault | with_reducible apply apart_updTab | with_reducible apply apart_foldl  | with_reducible apply apart_ite | split | dsimp only | with_reducible apply apart_mk

theorem apart_writeInject (s : State) (x1 : Nat) (x2 : Nat) (x3 : Nat) (h : Apart z s) : Apart z (writeInject s x1 x2 x3) := by
  unfold writeInject
  repeat' first | with_reducible assumption | intro _ | with_reducible apply apart_answer | with_reducible apply apart_injectGolden | with_reducible apply apart_setF | with_reducible apply apart_foldl  | with_reducible apply apart_ite | split | dsimp only | with_reducible apply apart_mk

theorem apart_reportDrained (s : State)  (h : Apart z s) : Apart z (reportDrained s) := by
  unfold reportDrained
  repeat' first | with_reducible assumption | intro _ | with_reducible apply apart_sendSync | with_reducible apply apart_sendSyncAll | with_reducible apply apart_foldl  | with_reducible apply apart_ite | split | dsimp only | with_reducible apply apart_mk

end Sys2Proof.Machine
end

