-- ==== Sys2Proof/Laws/ApartSpares.lean ====
section
/-! SUPPORT. Every operation of Machine/Spares.lean is a side effect in the sense of Laws/Apart.lean. -/

namespace Sys2Proof.Machine

variable {z : State}

theorem apart_setUState (s : State) (x1 : Nat) (x2 : Nat) (h : Apart z s) : Apart z (setUState s x1 x2) := by
  unfold setUState
  repeat' first | with_reducible assumption | intro _ | with_reducible apply apart_setF | with_reducible apply apart_foldl  | with_reducible apply apart_ite | split | dsimp only | with_reducible apply apart_mk

theorem apart_recount (s : State) (x1 : Nat) (h : Apart z s) : Apart z (recount s x1) := by
  unfold recount
  repeat' first | with_reducible assumption | intro _ | with_reducible apply apart_setF | with_reducible apply apart_foldl  | with_reducible apply apart_ite | split | dsimp only | with_reducible apply apart_mk

theorem apart_setWhy (s : State) (x1 : Nat) (x2 : Nat) (x3 : Nat) (h : Apart z s) : Apart z (setWhy s x1 x2 x3) := by
  unfold setWhy
  repeat' first | with_reducible assumption | intro _ | with_reducible apply apart_setF | with_reducible apply apart_foldl  | with_reducible apply apart_ite | split | dsimp only | with_reducible apply apart_mk

theorem apart_noteLeave (s : State) (x1 : Nat) (x2 : Nat) (x3 : Nat) (h : Apart z s) : Apart z (noteLeave s x1 x2 x3) := by
  unfold noteLeave
  repeat' first | with_reducible assumption | intro _ | with_reducible apply apart_sendFault | with_reducible apply apart_setF | with_reducible apply apart_setWhy | with_reducible apply apart_foldl  | with_reducible apply apart_ite | split | dsimp only | with_reducible apply apart_mk

theorem apart_leaveRepro (s : State) (x1 : Nat) (x2 : Nat) (x3 : Nat) (h : Apart z s) : Apart z (leaveRepro s x1 x2 x3) := by
  unfold leaveRepro
  repeat' first | with_reducible assumption | intro _ | with_reducible apply apart_noteLeave | with_reducible apply apart_sendSync | with_reducible apply apart_sendSyncAll | with_reducible apply apart_foldl  | with_reducible apply apart_ite | split | dsimp only | with_reducible apply apart_mk

theorem apart_noteExhausted (s : State) (x1 : Nat) (x2 : Nat) (h : Apart z s) : Apart z (noteExhausted s x1 x2) := by
  unfold noteExhausted
  repeat' first | with_reducible assumption | intro _ | with_reducible apply apart_leaveRepro | with_reducible apply apart_sendFault | with_reducible apply apart_setF | with_reducible apply apart_foldl  | with_reducible apply apart_ite | split | dsimp only | with_reducible apply apart_mk

theorem apart_tendHearth (s : State) (x1 : Nat) (h : Apart z s) : Apart z (tendHearth s x1) := by
  unfold tendHearth
  repeat' first | with_reducible assumption | intro _ | with_reducible apply apart_setF | with_reducible apply apart_setUState | with_reducible apply apart_foldl  | with_reducible apply apart_ite | split | dsimp only | with_reducible apply apart_mk

theorem apart_tendHearths (s : State)  (h : Apart z s) : Apart z (tendHearths s) := by
  unfold tendHearths
  repeat' first | with_reducible assumption | intro _ | with_reducible apply apart_recount | with_reducible apply apart_tendHearth | with_reducible apply apart_foldl  | with_reducible apply apart_ite | split | dsimp only | with_reducible apply apart_mk

theorem apart_thEnd (s : State) (x1 : Nat) (x2 : Nat) (h : Apart z s) : Apart z (thEnd s x1 x2) := by
  unfold thEnd
  repeat' first | with_reducible assumption | intro _ | with_reducible apply apart_setF | with_reducible apply apart_foldl  | with_reducible apply apart_ite | split | dsimp only | with_reducible apply apart_mk

theorem apart_mapTouched (s : State)  (h : Apart z s) : Apart z (mapTouched s) := by
  unfold mapTouched
  repeat' first | with_reducible assumption | intro _ | with_reducible apply apart_sendFault | with_reducible apply apart_thEnd | with_reducible apply apart_foldl  | with_reducible apply apart_ite | split | dsimp only | with_reducible apply apart_mk

theorem apart_mapTo (s : State) (x1 : Nat) (x2 : Nat) (x3 : Nat) (h : Apart z s) : Apart z (mapTo s x1 x2 x3) := by
  unfold mapTo
  repeat' first | with_reducible assumption | intro _ | with_reducible apply apart_setF | with_reducible apply apart_setUState | with_reducible apply apart_updTab | with_reducible apply apart_foldl  | with_reducible apply apart_ite | split | dsimp only | with_reducible apply apart_mk

theorem apart_closePort (s : State) (x1 : Task) (h : Apart z s) : Apart z (closePort s x1) := by
  unfold closePort
  repeat' first | with_reducible assumption | intro _ | with_reducible apply apart_foldl  | with_reducible apply apart_ite | split | dsimp only | with_reducible apply apart_mk

theorem apart_returnTask (s : State) (x1 : Task) (h : Apart z s) : Apart z (returnTask s x1) := by
  unfold returnTask
  repeat' first | with_reducible assumption | intro _ | with_reducible apply apart_bump | with_reducible apply apart_closePort | with_reducible apply apart_countRun | with_reducible apply apart_noteStrike | with_reducible apply apart_setTask | with_reducible apply apart_foldl  | with_reducible apply apart_ite | split | dsimp only | with_reducible apply apart_mk

theorem apart_returnTasks (s : State) (x1 : Nat) (h : Apart z s) : Apart z (returnTasks s x1) := by
  unfold returnTasks
  repeat' first | with_reducible assumption | intro _ | with_reducible apply apart_returnTask | with_reducible apply apart_showUnit | with_reducible apply apart_foldl  | with_reducible apply apart_ite | split | dsimp only | with_reducible apply apart_mk

theorem apart_returnBound (s : State) (x1 : Nat) (h : Apart z s) : Apart z (returnBound s x1) := by
  unfold returnBound
  repeat' first | with_reducible assumption | intro _ | with_reducible apply apart_returnTask | with_reducible apply apart_slotEmpties | with_reducible apply apart_foldl  | with_reducible apply apart_ite | split | dsimp only | with_reducible apply apart_mk

theorem apart_leaveService (s : State) (x1 : Nat) (x2 : Bool) (h : Apart z s) : Apart z (leaveService s x1 x2) := by
  unfold leaveService
  repeat' first | with_reducible assumption | intro _ | with_reducible apply apart_bump | with_reducible apply apart_returnBound | with_reducible apply apart_returnTasks | with_reducible apply apart_setF | with_reducible apply apart_setUState | with_reducible apply apart_foldl  | with_reducible apply apart_ite | split | dsimp only | with_reducible apply apart_mk

theorem apart_substitute (s : State) (x1 : Nat) (x2 : Nat) (x3 : Nat) (h : Apart z s) : Apart z (substitute s x1 x2 x3) := by
  unfold substitute
  repeat' first | with_reducible assumption | intro _ | with_reducible apply apart_leaveRepro | with_reducible apply apart_mapTo | with_reducible apply apart_mapTouched | with_reducible apply apart_noteExhausted | with_reducible apply apart_recount | with_reducible apply apart_sendFault | with_reducible apply apart_setF | with_reducible apply apart_tendHearths | with_reducible apply apart_foldl  | with_reducible apply apart_ite | split | dsimp only | with_reducible apply apart_mk

theorem apart_fenceUnit (s : State) (x1 : Nat) (x2 : Bool) (h : Apart z s) : Apart z (fenceUnit s x1 x2) := by
  unfold fenceUnit
  repeat' first | with_reducible assumption | intro _ | with_reducible apply apart_leaveService | with_reducible apply apart_noteExhausted | with_reducible apply apart_recount | with_reducible apply apart_sendFault | with_reducible apply apart_substitute | with_reducible apply apart_tendHearths | with_reducible apply apart_foldl  | with_reducible apply apart_ite | split | dsimp only | with_reducible apply apart_mk

theorem apart_goldenFail (s : State) (x1 : Nat) (h : Apart z s) : Apart z (goldenFail s x1) := by
  unfold goldenFail
  repeat' first | with_reducible assumption | intro _ | with_reducible apply apart_fenceUnit | with_reducible apply apart_sendFault | with_reducible apply apart_foldl  | with_reducible apply apart_ite | split | dsimp only | with_reducible apply apart_mk

theorem apart_goldenNotRun (s : State)  (h : Apart z s) : Apart z (goldenNotRun s) := by
  unfold goldenNotRun
  repeat' first | with_reducible assumption | intro _ | with_reducible apply apart_goldenFail | with_reducible apply apart_foldl  | with_reducible apply apart_ite | split | dsimp only | with_reducible apply apart_mk

theorem apart_reduceOne (s : State) (x1 : Nat × Nat × Nat) (h : Apart z s) : Apart z (reduceOne s x1) := by
  unfold reduceOne
  repeat' first | with_reducible assumption | intro _ | with_reducible apply apart_mapTo | with_reducible apply apart_sendFault | with_reducible apply apart_setF | with_reducible apply apart_foldl  | with_reducible apply apart_ite | split | dsimp only | with_reducible apply apart_mk

theorem apart_countReduce (s : State)  (h : Apart z s) : Apart z (countReduce s) := by
  unfold countReduce
  repeat' first | with_reducible assumption | intro _ | with_reducible apply apart_reduceOne | with_reducible apply apart_foldl  | with_reducible apply apart_ite | split | dsimp only | with_reducible apply apart_mk

theorem apart_mapEntry (s : State) (x0 : List Nat) (x2 : Nat × Nat) (h : Apart z s) : Apart z (mapEntry x0 s x2).2 := by
  unfold mapEntry
  repeat' first | with_reducible assumption | intro _ | with_reducible apply apart_sendFault | with_reducible apply apart_setF | with_reducible apply apart_foldl  | with_reducible apply apart_foldl_fst | with_reducible apply apart_foldl_snd | with_reducible apply apart_ite_fst | with_reducible apply apart_ite_snd | with_reducible apply apart_ite | split | dsimp only | with_reducible apply apart_mk

theorem apart_followUnit (s : State) (x1 : Nat) (h : Apart z s) : Apart z (followUnit s x1) := by
  unfold followUnit
  repeat' first | with_reducible assumption | intro _ | with_reducible apply apart_mapTo | with_reducible apply apart_setUState | with_reducible apply apart_foldl  | with_reducible apply apart_ite | split | dsimp only | with_reducible apply apart_mk

theorem apart_commitMap (s : State)  (h : Apart z s) : Apart z (commitMap s) := by
  unfold commitMap
  repeat' first | with_reducible assumption | intro _ | with_reducible apply apart_followUnit | with_reducible apply apart_mapEntry | with_reducible apply apart_recount | with_reducible apply apart_setF | with_reducible apply apart_tendHearths | with_reducible apply apart_wr | with_reducible apply apart_foldl  | with_reducible apply apart_foldl_fst | with_reducible apply apart_foldl_snd | with_reducible apply apart_ite_fst | with_reducible apply apart_ite_snd | with_reducible apply apart_ite | split | dsimp only | with_reducible apply apart_mk

theorem apart_spareResumes (s : State) (x1 : Nat × Nat × Nat × Nat) (h : Apart z s) : Apart z (spareResumes s x1) := by
  unfold spareResumes
  repeat' first | with_reducible assumption | intro _ | with_reducible apply apart_bump | with_reducible apply apart_high | with_reducible apply apart_sendFault | with_reducible apply apart_setF | with_reducible apply apart_wantGold | with_reducible apply apart_foldl  | with_reducible apply apart_ite | split | dsimp only | with_reducible apply apart_mk

theorem apart_proactiveSwitch (s : State)  (h : Apart z s) : Apart z (proactiveSwitch s) := by
  unfold proactiveSwitch
  repeat' first | with_reducible assumption | intro _ | with_reducible apply apart_mapTo | with_reducible apply apart_mapTouched | with_reducible apply apart_recount | with_reducible apply apart_setF | with_reducible apply apart_setUState | with_reducible apply apart_tendHearths | with_reducible apply apart_foldl  | with_reducible apply apart_ite | split | dsimp only | with_reducible apply apart_mk

theorem apart_crossUnit (s : State) (x1 : Nat) (h : Apart z s) : Apart z (crossUnit s x1) := by
  unfold crossUnit
  repeat' first | with_reducible assumption | intro _ | with_reducible apply apart_recount | with_reducible apply apart_sendFault | with_reducible apply apart_setUState | with_reducible apply apart_foldl  | with_reducible apply apart_ite | split | dsimp only | with_reducible apply apart_mk

theorem apart_measureAges (s : State) (x1 : List Nat) (h : Apart z s) : Apart z (measureAges s x1) := by
  unfold measureAges
  repeat' first | with_reducible assumption | intro _ | with_reducible apply apart_setF | with_reducible apply apart_foldl  | with_reducible apply apart_ite | split | dsimp only | with_reducible apply apart_mk

theorem apart_writeWear (s : State)  (h : Apart z s) : Apart z (writeWear s) := by
  unfold writeWear
  repeat' first | with_reducible assumption | intro _ | with_reducible apply apart_foldl  | with_reducible apply apart_ite | split | dsimp only | with_reducible apply apart_mk

end Sys2Proof.Machine
end

