-- ==== Sys2Proof/Laws/ApartEngine.lean ====
section
/-! SUPPORT. Every operation of Machine/Engine.lean is a side effect in the sense of Laws/Apart.lean. -/

namespace Sys2Proof.Machine

variable {z : State}

theorem apart_taskRan (s : State) (x1 : Task) (x2 : Nat) (x3 : Nat) (h : Apart z s) : Apart z (taskRan s x1 x2 x3) := by
  unfold taskRan
  repeat' first | with_reducible assumption | intro _ | with_reducible apply apart_setTask | with_reducible apply apart_foldl  | with_reducible apply apart_ite | split | dsimp only | with_reducible apply apart_mk

theorem apart_finishWork (s : State) (x1 : Task) (x2 : Work) (h : Apart z s) : Apart z (finishWork s x1 x2) := by
  unfold finishWork
  repeat' first | with_reducible assumption | intro _ | with_reducible apply apart_applyWork | with_reducible apply apart_taskRan | with_reducible apply apart_foldl  | with_reducible apply apart_ite | split | dsimp only | with_reducible apply apart_mk

theorem apart_engineRow (s : State) (x1 : Nat) (x2 : Nat) (x3 : List Nat) (x4 : State → Task → Work) (h : Apart z s) : Apart z (engineRow s x1 x2 x3 x4) := by
  unfold engineRow
  repeat' first | with_reducible assumption | intro _ | with_reducible apply apart_finishWork | with_reducible apply apart_foldl  | with_reducible apply apart_ite | split | dsimp only | with_reducible apply apart_mk

theorem apart_openGate (s : State) (x1 : Nat) (h : Apart z s) : Apart z (openGate s x1) := by
  unfold openGate
  repeat' first | with_reducible assumption | intro _ | with_reducible apply apart_foldl  | with_reducible apply apart_ite | split | dsimp only | with_reducible apply apart_mk

end Sys2Proof.Machine
end

