-- ==== Sys2Proof/Laws/Aside.lean ====
section
/-! SUPPORT. What register writes, memory writes, fault records and sent messages leave alone: the Carillon, the world, the Peal, the
Tabor, the Assay, the plan, the firewall groups, reset and start, spares, identity, sensors, the billet and the latched words. -/

namespace Sys2Proof.Machine

structure Aside (s t : State) : Prop where
  stk : t.stk = s.stk
  car : t.car = s.car
  bell : t.bell = s.bell
  wld : t.wld = s.wld
  peal : t.peal = s.peal
  tabA : t.tabA = s.tabA
  tabB : t.tabB = s.tabB
  tabX : t.tabX = s.tabX
  asy : t.asy = s.asy
  pln : t.pln = s.pln
  fwl : t.fwl = s.fwl
  rst : t.rst = s.rst
  start : t.start = s.start
  spr : t.spr = s.spr
  sec : t.sec = s.sec
  thm : t.thm = s.thm
  bil : t.bil = s.bil
  hi : t.hiStroke = s.hiStroke ∧ t.hiTai = s.hiTai ∧ t.hiTime = s.hiTime ∧ t.hiPps = s.hiPps
  pending : t.pending = s.pending

variable {z : State}

theorem aside_refl (s : State) : Aside s s :=
  ⟨rfl, rfl, rfl, rfl, rfl, rfl, rfl, rfl, rfl, rfl, rfl, rfl, rfl, rfl, rfl, rfl, rfl, ⟨rfl, rfl, rfl, rfl⟩, rfl⟩

theorem aside_ite {c : Prop} [Decidable c] {s t : State} (hs : Aside z s) (ht : Aside z t) : Aside z (if c then s else t) := by
  split <;> assumption

theorem aside_ite_fst {β : Type} {c : Prop} [Decidable c] {a b : State × β} (hs : Aside z a.1) (ht : Aside z b.1) :
    Aside z (if c then a else b).1 := by
  split <;> assumption

theorem aside_ite_snd {β : Type} {c : Prop} [Decidable c] {a b : β × State} (hs : Aside z a.2) (ht : Aside z b.2) :
    Aside z (if c then a else b).2 := by
  split <;> assumption

theorem aside_foldl {β : Type} (f : State → β → State) (l : List β) (s : State) (hs : Aside z s)
    (hf : ∀ s x, Aside z s → Aside z (f s x)) : Aside z (l.foldl f s) := by
  induction l generalizing s with
  | nil => exact hs
  | cons x t ih => exact ih (f s x) (hf s x hs)

theorem aside_foldl_fst {β γ : Type} (f : State × γ → β → State × γ) (l : List β) (a : State × γ) (hs : Aside z a.1)
    (hf : ∀ a x, Aside z a.1 → Aside z (f a x).1) : Aside z (l.foldl f a).1 := by
  induction l generalizing a with
  | nil => exact hs
  | cons x t ih => exact ih (f a x) (hf a x hs)

/-- Changing the registers, the memory, the time, the banks, the channels, the links, the collector, the pins or the answer. -/
theorem aside_mk (e : State) (regs mem time slew aon anv ddr ubf flt pins resp free) (h : Aside z e) :
    Aside z ⟨regs, mem, time, slew, aon, e.hiStroke, e.hiTai, e.hiTime, e.hiPps, e.stk, e.car, e.bell, e.wld, e.peal, e.tabA, e.tabB, e.tabX, e.asy,
      e.pln, anv, ddr, ubf, e.fwl, flt, e.rst, e.start, e.spr, e.sec, e.thm, pins, e.bil, resp, free, e.pending⟩ :=
  ⟨h.stk, h.car, h.bell, h.wld, h.peal, h.tabA, h.tabB, h.tabX, h.asy, h.pln, h.fwl, h.rst, h.start, h.spr, h.sec, h.thm, h.bil, h.hi,
    h.pending⟩

end Sys2Proof.Machine
end

