-- ==== Sys2Proof/Laws/AsideOps.lean ====
section
/-! SUPPORT. Every operation of Machine/Ops.lean is a side effect in the sense of Laws/Aside.lean. -/

namespace Sys2Proof.Machine

variable {z : State}

theorem aside_wr (s : State) (x1 : Nat) (x2 : Nat) (h : Aside z s) : Aside z (wr s x1 x2) := by
  unfold wr
  repeat' first | with_reducible assumption | intro _ | with_reducible apply aside_foldl  | with_reducible apply aside_ite | split | dsimp only | with_reducible apply aside_mk

theorem aside_setF (s : State) (x1 : Fld) (x2 : Nat) (h : Aside z s) : Aside z (setF s x1 x2) := by
  unfold setF
  repeat' first | with_reducible assumption | intro _ | with_reducible apply aside_wr | with_reducible apply aside_foldl  | with_reducible apply aside_ite | split | dsimp only | with_reducible apply aside_mk

theorem aside_bump (s : State) (x1 : Fld) (x2 : Nat) (h : Aside z s) : Aside z (bump s x1 x2) := by
  unfold bump
  repeat' first | with_reducible assumption | intro _ | with_reducible apply aside_setF | with_reducible apply aside_foldl  | with_reducible apply aside_ite | split | dsimp only | with_reducible apply aside_mk

theorem aside_tick (s : State) (x1 : Fld) (h : Aside z s) : Aside z (tick s x1) := by
  unfold tick
  repeat' first | with_reducible assumption | intro _ | with_reducible apply aside_setF | with_reducible apply aside_foldl  | with_reducible apply aside_ite | split | dsimp only | with_reducible apply aside_mk

theorem aside_high (s : State) (x1 : Fld) (x2 : Nat) (h : Aside z s) : Aside z (high s x1 x2) := by
  unfold high
  repeat' first | with_reducible assumption | intro _ | with_reducible apply aside_setF | with_reducible apply aside_foldl  | with_reducible apply aside_ite | split | dsimp only | with_reducible apply aside_mk

theorem aside_set64 (s : State) (x1 : Fld) (x2 : Fld) (x3 : Nat) (h : Aside z s) : Aside z (set64 s x1 x2 x3) := by
  unfold set64
  repeat' first | with_reducible assumption | intro _ | with_reducible apply aside_setF | with_reducible apply aside_foldl  | with_reducible apply aside_ite | split | dsimp only | with_reducible apply aside_mk

theorem aside_fresh (s : State)  (h : Aside z s) : Aside z (fresh s).2 := by
  unfold fresh
  repeat' first | with_reducible assumption | intro _ | with_reducible apply aside_foldl  | with_reducible apply aside_foldl_fst | with_reducible apply aside_foldl_snd | with_reducible apply aside_ite_fst | with_reducible apply aside_ite_snd | with_reducible apply aside_ite | split | dsimp only | with_reducible apply aside_mk

theorem aside_answer (s : State) (x1 : Resp) (h : Aside z s) : Aside z (answer s x1) := by
  unfold answer
  repeat' first | with_reducible assumption | intro _ | with_reducible apply aside_foldl  | with_reducible apply aside_ite | split | dsimp only | with_reducible apply aside_mk

theorem aside_atTime (s : State) (x1 : Nat) (h : Aside z s) : Aside z (atTime s x1) := by
  unfold atTime
  repeat' first | with_reducible assumption | intro _ | with_reducible apply aside_foldl  | with_reducible apply aside_ite | split | dsimp only | with_reducible apply aside_mk

theorem aside_logRec (s : State) (x1 : FaultRec) (h : Aside z s) : Aside z (logRec s x1) := by
  unfold logRec
  repeat' first | with_reducible assumption | intro _ | with_reducible apply aside_setF | with_reducible apply aside_foldl  | with_reducible apply aside_ite | split | dsimp only | with_reducible apply aside_mk

theorem aside_showPins (s : State)  (h : Aside z s) : Aside z (showPins s) := by
  unfold showPins
  repeat' first | with_reducible assumption | intro _ | with_reducible apply aside_setF | with_reducible apply aside_foldl  | with_reducible apply aside_ite | split | dsimp only | with_reducible apply aside_mk

theorem aside_latchSafe (s : State)  (h : Aside z s) : Aside z (latchSafe s) := by
  unfold latchSafe
  repeat' first | with_reducible assumption | intro _ | with_reducible apply aside_setF | with_reducible apply aside_showPins | with_reducible apply aside_foldl  | with_reducible apply aside_ite | split | dsimp only | with_reducible apply aside_mk

theorem aside_reactPlain (s : State) (x1 : Nat) (h : Aside z s) : Aside z (reactPlain s x1) := by
  unfold reactPlain
  repeat' first | with_reducible assumption | intro _ | with_reducible apply aside_latchSafe | with_reducible apply aside_setF | with_reducible apply aside_foldl  | with_reducible apply aside_ite | split | dsimp only | with_reducible apply aside_mk

theorem aside_pushFault (s : State) (x1 : FaultRec) (h : Aside z s) : Aside z (pushFault s x1) := by
  unfold pushFault
  repeat' first | with_reducible assumption | intro _ | with_reducible apply aside_bump | with_reducible apply aside_logRec | with_reducible apply aside_reactPlain | with_reducible apply aside_foldl  | with_reducible apply aside_ite | split | dsimp only | with_reducible apply aside_mk

theorem aside_sendFault (s : State) (x1 : Nat) (x2 : Nat) (x3 : Nat) (x4 : Nat) (h : Aside z s) : Aside z (sendFault s x1 x2 x3 x4) := by
  unfold sendFault
  repeat' first | with_reducible assumption | intro _ | with_reducible apply aside_pushFault | with_reducible apply aside_foldl  | with_reducible apply aside_ite | split | dsimp only | with_reducible apply aside_mk

theorem aside_refuseAccess (s : State) (x1 : Nat) (x2 : Nat) (h : Aside z s) : Aside z (refuseAccess s x1 x2) := by
  unfold refuseAccess
  repeat' first | with_reducible assumption | intro _ | with_reducible apply aside_answer | with_reducible apply aside_sendFault | with_reducible apply aside_foldl  | with_reducible apply aside_ite | split | dsimp only | with_reducible apply aside_mk

theorem aside_deny (s : State) (x1 : Nat) (x2 : Nat) (x3 : Nat) (x4 : Nat) (x5 : Nat) (h : Aside z s) : Aside z (deny s x1 x2 x3 x4 x5) := by
  unfold deny
  repeat' first | with_reducible assumption | intro _ | with_reducible apply aside_sendFault | with_reducible apply aside_set64 | with_reducible apply aside_setF | with_reducible apply aside_foldl  | with_reducible apply aside_ite | split | dsimp only | with_reducible apply aside_mk

theorem aside_setByte (s : State) (x1 : Nat) (x2 : Nat) (h : Aside z s) : Aside z (setByte s x1 x2) := by
  unfold setByte
  repeat' first | with_reducible assumption | intro _ | with_reducible apply aside_foldl  | with_reducible apply aside_ite | split | dsimp only | with_reducible apply aside_mk

theorem aside_poke (s : State) (x1 : Nat) (x2 : List Nat) (h : Aside z s) : Aside z (poke s x1 x2) := by
  induction x2 generalizing s x1 with
  | nil => exact h
  | cons b t ih => exact ih _ _ (aside_setByte _ _ _ h)

theorem aside_setErr (s : State) (x1 : Nat) (x2 : List Nat) (h : Aside z s) : Aside z (setErr s x1 x2) := by
  unfold setErr
  repeat' first | with_reducible assumption | intro _ | with_reducible apply aside_foldl  | with_reducible apply aside_ite | split | dsimp only | with_reducible apply aside_mk

theorem aside_bankDue (s : State) (x1 : Nat) (h : Aside z s) : Aside z (bankDue s x1) := by
  unfold bankDue
  repeat' first | with_reducible assumption | intro _ | with_reducible apply aside_foldl  | with_reducible apply aside_ite | split | dsimp only | with_reducible apply aside_mk

theorem aside_onceCode (s : State) (x1 : Nat) (x2 : Nat) (x3 : Nat) (x4 : Nat) (x5 : Nat) (h : Aside z s) : Aside z (onceCode s x1 x2 x3 x4 x5) := by
  unfold onceCode
  repeat' first | with_reducible assumption | intro _ | with_reducible apply aside_sendFault | with_reducible apply aside_foldl  | with_reducible apply aside_ite | split | dsimp only | with_reducible apply aside_mk

theorem aside_oncePerStroke (s : State) (x1 : Nat) (x2 : Nat) (x3 : Nat) (x4 : Nat) (h : Aside z s) : Aside z (oncePerStroke s x1 x2 x3 x4) := by
  unfold oncePerStroke
  repeat' first | with_reducible assumption | intro _ | with_reducible apply aside_onceCode | with_reducible apply aside_foldl  | with_reducible apply aside_ite | split | dsimp only | with_reducible apply aside_mk

theorem aside_queueWriteback (s : State) (x1 : Nat) (h : Aside z s) : Aside z (queueWriteback s x1) := by
  unfold queueWriteback
  repeat' first | with_reducible assumption | intro _ | with_reducible apply aside_foldl  | with_reducible apply aside_ite | split | dsimp only | with_reducible apply aside_mk

theorem aside_ddrBadLine (s : State) (x1 : Nat) (h : Aside z s) : Aside z (ddrBadLine s x1) := by
  unfold ddrBadLine
  repeat' first | with_reducible assumption | intro _ | with_reducible apply aside_sendFault | with_reducible apply aside_setF | with_reducible apply aside_foldl  | with_reducible apply aside_ite | split | dsimp only | with_reducible apply aside_mk

theorem aside_fabricFx (s : State) (x1 : Nat) (x2 : Bool) (h : Aside z s) : Aside z (fabricFx s x1 x2) := by
  unfold fabricFx
  repeat' first | with_reducible assumption | intro _ | with_reducible apply aside_bump | with_reducible apply aside_sendFault | with_reducible apply aside_set64 | with_reducible apply aside_setF | with_reducible apply aside_foldl  | with_reducible apply aside_ite | split | dsimp only | with_reducible apply aside_mk

theorem aside_countCe (s : State) (x1 : Nat) (h : Aside z s) : Aside z (countCe s x1) := by
  unfold countCe
  repeat' first | with_reducible assumption | intro _ | with_reducible apply aside_bump | with_reducible apply aside_foldl  | with_reducible apply aside_ite | split | dsimp only | with_reducible apply aside_mk

theorem aside_anvilBad (s : State) (x1 : Bool) (x2 : Nat) (h : Aside z s) : Aside z (anvilBad s x1 x2) := by
  unfold anvilBad
  repeat' first | with_reducible assumption | intro _ | with_reducible apply aside_bankDue | with_reducible apply aside_bump | with_reducible apply aside_set64 | with_reducible apply aside_setF | with_reducible apply aside_foldl  | with_reducible apply aside_ite | split | dsimp only | with_reducible apply aside_mk

theorem aside_noteFx (s : State) (x0 : Bool) (x2 : Note) (h : Aside z s) : Aside z (noteFx x0 s x2) := by
  unfold noteFx
  repeat' first | with_reducible assumption | intro _ | with_reducible apply aside_anvilBad | with_reducible apply aside_bankDue | with_reducible apply aside_bump | with_reducible apply aside_countCe | with_reducible apply aside_ddrBadLine | with_reducible apply aside_deny | with_reducible apply aside_fabricFx | with_reducible apply aside_oncePerStroke | with_reducible apply aside_queueWriteback | with_reducible apply aside_sendFault | with_reducible apply aside_set64 | with_reducible apply aside_setF | with_reducible apply aside_foldl  | with_reducible apply aside_ite | split | dsimp only | with_reducible apply aside_mk

theorem aside_notesFx (s : State) (x1 : List Note) (h : Aside z s) : Aside z (notesFx s x1) := by
  unfold notesFx
  repeat' first | with_reducible assumption | intro _ | with_reducible apply aside_noteFx | with_reducible apply aside_foldl  | with_reducible apply aside_ite | split | dsimp only | with_reducible apply aside_mk

theorem aside_inboxWatch (s : State) (x1 : Bool) (x2 : Nat) (x3 : List Nat) (h : Aside z s) : Aside z (inboxWatch s x1 x2 x3) := by
  unfold inboxWatch
  repeat' first | with_reducible assumption | intro _ | with_reducible apply aside_bump | with_reducible apply aside_sendFault | with_reducible apply aside_setF | with_reducible apply aside_foldl  | with_reducible apply aside_ite | split | dsimp only | with_reducible apply aside_mk

theorem aside_dropWriteback (s : State) (x1 : Nat) (h : Aside z s) : Aside z (dropWriteback s x1) := by
  unfold dropWriteback
  repeat' first | with_reducible assumption | intro _ | with_reducible apply aside_foldl  | with_reducible apply aside_ite | split | dsimp only | with_reducible apply aside_mk

theorem aside_tagWrite (s : State) (x1 : Nat) (h : Aside z s) : Aside z (tagWrite s x1) := by
  unfold tagWrite
  repeat' first | with_reducible assumption | intro _ | with_reducible apply aside_foldl  | with_reducible apply aside_ite | split | dsimp only | with_reducible apply aside_mk

theorem aside_putLine (s : State) (x1 : Nat) (x2 : List Nat) (h : Aside z s) : Aside z (putLine s x1 x2) := by
  unfold putLine
  repeat' first | with_reducible assumption | intro _ | with_reducible apply aside_dropWriteback | with_reducible apply aside_inboxWatch | with_reducible apply aside_poke | with_reducible apply aside_setErr | with_reducible apply aside_tagWrite | with_reducible apply aside_foldl  | with_reducible apply aside_ite | split | dsimp only | with_reducible apply aside_mk

theorem aside_putPoison (s : State) (x1 : Nat) (x2 : List Nat) (h : Aside z s) : Aside z (putPoison s x1 x2) := by
  unfold putPoison
  repeat' first | with_reducible assumption | intro _ | with_reducible apply aside_bump | with_reducible apply aside_dropWriteback | with_reducible apply aside_poke | with_reducible apply aside_setErr | with_reducible apply aside_tagWrite | with_reducible apply aside_foldl  | with_reducible apply aside_ite | split | dsimp only | with_reducible apply aside_mk

theorem aside_mergeFx (s : State) (x1 : Note) (h : Aside z s) : Aside z (mergeFx s x1) := by
  unfold mergeFx
  repeat' first | with_reducible assumption | intro _ | with_reducible apply aside_anvilBad | with_reducible apply aside_noteFx | with_reducible apply aside_foldl  | with_reducible apply aside_ite | split | dsimp only | with_reducible apply aside_mk

theorem aside_putPart (s : State) (x1 : Nat) (x2 : Nat) (x3 : List Nat) (h : Aside z s) : Aside z (putPart s x1 x2 x3) := by
  unfold putPart
  repeat' first | with_reducible assumption | intro _ | with_reducible apply aside_dropWriteback | with_reducible apply aside_inboxWatch | with_reducible apply aside_mergeFx | with_reducible apply aside_poke | with_reducible apply aside_putPoison | with_reducible apply aside_setErr | with_reducible apply aside_tagWrite | with_reducible apply aside_foldl  | with_reducible apply aside_ite | split | dsimp only | with_reducible apply aside_mk

theorem aside_storeGo (s : State) (x0 : Nat) (x2 : Nat) (x3 : List Nat) (h : Aside z s) : Aside z (storeGo x0 s x2 x3) := by
  induction x0 generalizing s x2 x3 with
  | zero => exact h
  | succ k ih =>
    unfold storeGo
    repeat' first | with_reducible assumption | intro _ | with_reducible apply ih | with_reducible apply aside_putLine | with_reducible apply aside_putPart | with_reducible apply aside_foldl  | with_reducible apply aside_ite | split | dsimp only | with_reducible apply aside_mk

theorem aside_store (s : State) (x1 : Nat) (x2 : List Nat) (h : Aside z s) : Aside z (store s x1 x2) := by
  unfold store
  repeat' first | with_reducible assumption | intro _ | with_reducible apply aside_storeGo | with_reducible apply aside_foldl  | with_reducible apply aside_ite | split | dsimp only | with_reducible apply aside_mk

theorem aside_storeBrand (s : State) (x1 : Nat) (x2 : Nat) (x3 : List Nat) (h : Aside z s) : Aside z (storeBrand s x1 x2 x3).1 := by
  unfold storeBrand
  repeat' first | with_reducible assumption | intro _ | with_reducible apply aside_deny | with_reducible apply aside_store | with_reducible apply aside_foldl  | with_reducible apply aside_foldl_fst | with_reducible apply aside_foldl_snd | with_reducible apply aside_ite_fst | with_reducible apply aside_ite_snd | with_reducible apply aside_ite | split | dsimp only | with_reducible apply aside_mk

theorem aside_asyCrc (s : State) (x1 : Nat) (h : Aside z s) : Aside z (asyCrc s x1) := by
  unfold asyCrc
  repeat' first | with_reducible assumption | intro _ | with_reducible apply aside_foldl  | with_reducible apply aside_ite | split | dsimp only | with_reducible apply aside_mk

theorem aside_asyStore (s : State) (x1 : Nat) (x2 : List Nat) (h : Aside z s) : Aside z (asyStore s x1 x2) := by
  unfold asyStore
  repeat' first | with_reducible assumption | intro _ | with_reducible apply aside_asyCrc | with_reducible apply aside_store | with_reducible apply aside_foldl  | with_reducible apply aside_ite | split | dsimp only | with_reducible apply aside_mk

theorem aside_bumpsFx (s : State) (x1 : List (Fld × Nat)) (h : Aside z s) : Aside z (bumpsFx s x1) := by
  unfold bumpsFx
  repeat' first | with_reducible assumption | intro _ | with_reducible apply aside_bump | with_reducible apply aside_foldl  | with_reducible apply aside_ite | split | dsimp only | with_reducible apply aside_mk

theorem aside_setsFx (s : State) (x1 : List (Fld × Nat)) (h : Aside z s) : Aside z (setsFx s x1) := by
  unfold setsFx
  repeat' first | with_reducible assumption | intro _ | with_reducible apply aside_setF | with_reducible apply aside_foldl  | with_reducible apply aside_ite | split | dsimp only | with_reducible apply aside_mk

theorem aside_faultsFx (s : State) (x1 : List (Nat × Nat × Nat × Nat)) (h : Aside z s) : Aside z (faultsFx s x1) := by
  unfold faultsFx
  repeat' first | with_reducible assumption | intro _ | with_reducible apply aside_sendFault | with_reducible apply aside_foldl  | with_reducible apply aside_ite | split | dsimp only | with_reducible apply aside_mk

theorem aside_writeAll (s : State) (x1 : Nat) (x2 : List (Nat × List Nat)) (h : Aside z s) : Aside z (writeAll s x1 x2).1 := by
  unfold writeAll
  refine aside_foldl_fst _ _ _ h (fun a p k => ?_)
  unfold writeOne
  exact aside_storeBrand _ _ _ _ k

theorem aside_writesFx (s : State) (x1 : Nat) (x2 : List (Nat × List Nat)) (h : Aside z s) : Aside z (writesFx s x1 x2) := by
  unfold writesFx
  repeat' first | with_reducible assumption | intro _ | with_reducible apply aside_writeAll | with_reducible apply aside_foldl  | with_reducible apply aside_foldl_fst | with_reducible apply aside_foldl_snd | with_reducible apply aside_ite_fst | with_reducible apply aside_ite_snd | with_reducible apply aside_ite | split | dsimp only | with_reducible apply aside_mk

theorem aside_heatFlag (s : State) (x1 : Nat) (h : Aside z s) : Aside z (heatFlag s x1) := by
  unfold heatFlag
  repeat' first | with_reducible assumption | intro _ | with_reducible apply aside_poke | with_reducible apply aside_foldl  | with_reducible apply aside_ite | split | dsimp only | with_reducible apply aside_mk

theorem aside_applyWork (s : State) (x1 : Nat) (x2 : Work) (h : Aside z s) : Aside z (applyWork s x1 x2) := by
  unfold applyWork
  repeat' first | with_reducible assumption | intro _ | with_reducible apply aside_bumpsFx | with_reducible apply aside_faultsFx | with_reducible apply aside_notesFx | with_reducible apply aside_setsFx | with_reducible apply aside_writesFx | with_reducible apply aside_foldl  | with_reducible apply aside_ite | split | dsimp only | with_reducible apply aside_mk

end Sys2Proof.Machine
end

