-- ==== Sys2Proof/Laws/AsideLinks.lean ====
section
/-! SUPPORT. Every operation of Machine/Links.lean is a side effect in the sense of Laws/Aside.lean. -/

namespace Sys2Proof.Machine

variable {z : State}

theorem aside_setLnk (s : State) (x1 : Nat) (x2 : Link) (h : Aside z s) : Aside z (setLnk s x1 x2) := by
  unfold setLnk
  repeat' first | with_reducible assumption | intro _ | with_reducible apply aside_foldl  | with_reducible apply aside_ite | split | dsimp only | with_reducible apply aside_mk

theorem aside_pump (s : State) (x1 : Nat) (h : Aside z s) : Aside z (pump s x1) := by
  unfold pump
  repeat' first | with_reducible assumption | intro _ | with_reducible apply aside_setLnk | with_reducible apply aside_foldl  | with_reducible apply aside_ite | split | dsimp only | with_reducible apply aside_mk

theorem aside_sendCtl (s : State) (x1 : Nat) (x2 : Nat) (h : Aside z s) : Aside z (sendCtl s x1 x2) := by
  unfold sendCtl
  repeat' first | with_reducible assumption | intro _ | with_reducible apply aside_setLnk | with_reducible apply aside_foldl  | with_reducible apply aside_ite | split | dsimp only | with_reducible apply aside_mk

theorem aside_sendMsg (s : State) (x1 : Nat) (x2 : List Nat) (x3 : List (List Nat)) (h : Aside z s) : Aside z (sendMsg s x1 x2 x3) := by
  unfold sendMsg
  repeat' first | with_reducible assumption | intro _ | with_reducible apply aside_pump | with_reducible apply aside_setLnk | with_reducible apply aside_foldl  | with_reducible apply aside_ite | split | dsimp only | with_reducible apply aside_mk

theorem aside_sendTo (s : State) (x1 : Nat) (x2 : List Nat) (x3 : List (List Nat)) (h : Aside z s) : Aside z (sendTo s x1 x2 x3) := by
  unfold sendTo
  repeat' first | with_reducible assumption | intro _ | with_reducible apply aside_sendMsg | with_reducible apply aside_foldl  | with_reducible apply aside_ite | split | dsimp only | with_reducible apply aside_mk

theorem aside_sendSync (s : State) (x1 : Nat) (x2 : Nat) (x3 : Nat) (x4 : Nat) (h : Aside z s) : Aside z (sendSync s x1 x2 x3 x4) := by
  unfold sendSync
  repeat' first | with_reducible assumption | intro _ | with_reducible apply aside_sendTo | with_reducible apply aside_foldl  | with_reducible apply aside_ite | split | dsimp only | with_reducible apply aside_mk

theorem aside_sendSyncAll (s : State) (x1 : Nat) (x2 : Nat) (x3 : Nat) (h : Aside z s) : Aside z (sendSyncAll s x1 x2 x3) := by
  unfold sendSyncAll
  repeat' first | with_reducible assumption | intro _ | with_reducible apply aside_sendSync | with_reducible apply aside_foldl  | with_reducible apply aside_ite | split | dsimp only | with_reducible apply aside_mk

theorem aside_forward (s : State) (x1 : List Nat) (x2 : List (List Nat)) (h : Aside z s) : Aside z (forward s x1 x2) := by
  unfold forward
  repeat' first | with_reducible assumption | intro _ | with_reducible apply aside_sendTo | with_reducible apply aside_foldl  | with_reducible apply aside_ite | split | dsimp only | with_reducible apply aside_mk

theorem aside_takeMsg (s : State) (x1 : Nat) (x2 : List Nat) (x3 : List (List Nat)) (h : Aside z s) : Aside z (takeMsg s x1 x2 x3) := by
  unfold takeMsg
  repeat' first | with_reducible assumption | intro _ | with_reducible apply aside_sendCtl | with_reducible apply aside_setLnk | with_reducible apply aside_foldl  | with_reducible apply aside_ite | split | dsimp only | with_reducible apply aside_mk

theorem aside_noteSync (s : State) (x1 : Nat) (h : Aside z s) : Aside z (noteSync s x1) := by
  unfold noteSync
  repeat' first | with_reducible assumption | intro _ | with_reducible apply aside_setLnk | with_reducible apply aside_foldl  | with_reducible apply aside_ite | split | dsimp only | with_reducible apply aside_mk

theorem aside_syncDown (s : State) (x1 : List Nat) (h : Aside z s) : Aside z (syncDown s x1) := by
  unfold syncDown
  repeat' first | with_reducible assumption | intro _ | with_reducible apply aside_noteSync | with_reducible apply aside_takeMsg | with_reducible apply aside_foldl  | with_reducible apply aside_ite | split | dsimp only | with_reducible apply aside_mk

theorem aside_retrainCause (s : State) (x1 : Nat) (h : Aside z s) : Aside z (retrainCause s x1) := by
  unfold retrainCause
  repeat' first | with_reducible assumption | intro _ | with_reducible apply aside_setF | with_reducible apply aside_setLnk | with_reducible apply aside_foldl  | with_reducible apply aside_ite | split | dsimp only | with_reducible apply aside_mk

theorem aside_replay (s : State) (x1 : Nat) (h : Aside z s) : Aside z (replay s x1) := by
  unfold replay
  repeat' first | with_reducible assumption | intro _ | with_reducible apply aside_retrainCause | with_reducible apply aside_setLnk | with_reducible apply aside_foldl  | with_reducible apply aside_ite | split | dsimp only | with_reducible apply aside_mk

theorem aside_controlFx (s : State) (x1 : Nat) (x2 : List Nat) (h : Aside z s) : Aside z (controlFx s x1 x2) := by
  unfold controlFx
  repeat' first | with_reducible assumption | intro _ | with_reducible apply aside_pump | with_reducible apply aside_replay | with_reducible apply aside_setLnk | with_reducible apply aside_foldl  | with_reducible apply aside_ite | split | dsimp only | with_reducible apply aside_mk

theorem aside_dataFx (s : State) (x1 : Nat) (x2 : List Nat) (h : Aside z s) : Aside z (dataFx s x1 x2) := by
  unfold dataFx
  repeat' first | with_reducible assumption | intro _ | with_reducible apply aside_sendCtl | with_reducible apply aside_sendFault | with_reducible apply aside_setLnk | with_reducible apply aside_foldl  | with_reducible apply aside_ite | split | dsimp only | with_reducible apply aside_mk

theorem aside_badFx (s : State) (x1 : Nat) (h : Aside z s) : Aside z (badFx s x1) := by
  unfold badFx
  repeat' first | with_reducible assumption | intro _ | with_reducible apply aside_bump | with_reducible apply aside_sendCtl | with_reducible apply aside_setLnk | with_reducible apply aside_foldl  | with_reducible apply aside_ite | split | dsimp only | with_reducible apply aside_mk

theorem aside_receiveFrame (s : State) (x1 : Nat) (x2 : List Nat) (h : Aside z s) : Aside z (receiveFrame s x1 x2) := by
  unfold receiveFrame
  repeat' first | with_reducible assumption | intro _ | with_reducible apply aside_badFx | with_reducible apply aside_controlFx | with_reducible apply aside_dataFx | with_reducible apply aside_foldl  | with_reducible apply aside_ite | split | dsimp only | with_reducible apply aside_mk

end Sys2Proof.Machine
end

