-- ==== Sys2Proof/Laws/State.lean ====
section
/-! SUPPORT. The state's fields after each basic update, one lemma each, so that no proof unfolds a record update. -/

namespace Sys2Proof.Machine

variable (s : State)

@[simp] theorem wr_mem (a v : Nat) : (wr s a v).mem = s.mem := rfl
@[simp] theorem wr_time (a v : Nat) : (wr s a v).time = s.time := rfl
@[simp] theorem wr_slew (a v : Nat) : (wr s a v).slew = s.slew := rfl
@[simp] theorem wr_aonTime (a v : Nat) : (wr s a v).aonTime = s.aonTime := rfl
@[simp] theorem wr_hiStroke (a v : Nat) : (wr s a v).hiStroke = s.hiStroke := rfl
@[simp] theorem wr_hiTai (a v : Nat) : (wr s a v).hiTai = s.hiTai := rfl
@[simp] theorem wr_hiTime (a v : Nat) : (wr s a v).hiTime = s.hiTime := rfl
@[simp] theorem wr_hiPps (a v : Nat) : (wr s a v).hiPps = s.hiPps := rfl
@[simp] theorem wr_stk (a v : Nat) : (wr s a v).stk = s.stk := rfl
@[simp] theorem wr_car (a v : Nat) : (wr s a v).car = s.car := rfl
@[simp] theorem wr_bell (a v : Nat) : (wr s a v).bell = s.bell := rfl
@[simp] theorem wr_wld (a v : Nat) : (wr s a v).wld = s.wld := rfl
@[simp] theorem wr_peal (a v : Nat) : (wr s a v).peal = s.peal := rfl
@[simp] theorem wr_tabA (a v : Nat) : (wr s a v).tabA = s.tabA := rfl
@[simp] theorem wr_tabB (a v : Nat) : (wr s a v).tabB = s.tabB := rfl
@[simp] theorem wr_tabX (a v : Nat) : (wr s a v).tabX = s.tabX := rfl
@[simp] theorem wr_asy (a v : Nat) : (wr s a v).asy = s.asy := rfl
@[simp] theorem wr_pln (a v : Nat) : (wr s a v).pln = s.pln := rfl
@[simp] theorem wr_anv (a v : Nat) : (wr s a v).anv = s.anv := rfl
@[simp] theorem wr_ddr (a v : Nat) : (wr s a v).ddr = s.ddr := rfl
@[simp] theorem wr_ubf (a v : Nat) : (wr s a v).ubf = s.ubf := rfl
@[simp] theorem wr_fwl (a v : Nat) : (wr s a v).fwl = s.fwl := rfl
@[simp] theorem wr_flt (a v : Nat) : (wr s a v).flt = s.flt := rfl
@[simp] theorem wr_rst (a v : Nat) : (wr s a v).rst = s.rst := rfl
@[simp] theorem wr_start (a v : Nat) : (wr s a v).start = s.start := rfl
@[simp] theorem wr_spr (a v : Nat) : (wr s a v).spr = s.spr := rfl
@[simp] theorem wr_sec (a v : Nat) : (wr s a v).sec = s.sec := rfl
@[simp] theorem wr_thm (a v : Nat) : (wr s a v).thm = s.thm := rfl
@[simp] theorem wr_pins (a v : Nat) : (wr s a v).pins = s.pins := rfl
@[simp] theorem wr_bil (a v : Nat) : (wr s a v).bil = s.bil := rfl
@[simp] theorem wr_resp (a v : Nat) : (wr s a v).resp = s.resp := rfl
@[simp] theorem wr_free (a v : Nat) : (wr s a v).free = s.free := rfl
@[simp] theorem wr_pending (a v : Nat) : (wr s a v).pending = s.pending := rfl

@[simp] theorem setF_mem (f : Fld) (v : Nat) : (setF s f v).mem = s.mem := rfl
@[simp] theorem setF_time (f : Fld) (v : Nat) : (setF s f v).time = s.time := rfl
@[simp] theorem setF_slew (f : Fld) (v : Nat) : (setF s f v).slew = s.slew := rfl
@[simp] theorem setF_aonTime (f : Fld) (v : Nat) : (setF s f v).aonTime = s.aonTime := rfl
@[simp] theorem setF_hiStroke (f : Fld) (v : Nat) : (setF s f v).hiStroke = s.hiStroke := rfl
@[simp] theorem setF_hiTai (f : Fld) (v : Nat) : (setF s f v).hiTai = s.hiTai := rfl
@[simp] theorem setF_hiTime (f : Fld) (v : Nat) : (setF s f v).hiTime = s.hiTime := rfl
@[simp] theorem setF_hiPps (f : Fld) (v : Nat) : (setF s f v).hiPps = s.hiPps := rfl
@[simp] theorem setF_stk (f : Fld) (v : Nat) : (setF s f v).stk = s.stk := rfl
@[simp] theorem setF_car (f : Fld) (v : Nat) : (setF s f v).car = s.car := rfl
@[simp] theorem setF_bell (f : Fld) (v : Nat) : (setF s f v).bell = s.bell := rfl
@[simp] theorem setF_wld (f : Fld) (v : Nat) : (setF s f v).wld = s.wld := rfl
@[simp] theorem setF_peal (f : Fld) (v : Nat) : (setF s f v).peal = s.peal := rfl
@[simp] theorem setF_tabA (f : Fld) (v : Nat) : (setF s f v).tabA = s.tabA := rfl
@[simp] theorem setF_tabB (f : Fld) (v : Nat) : (setF s f v).tabB = s.tabB := rfl
@[simp] theorem setF_tabX (f : Fld) (v : Nat) : (setF s f v).tabX = s.tabX := rfl
@[simp] theorem setF_asy (f : Fld) (v : Nat) : (setF s f v).asy = s.asy := rfl
@[simp] theorem setF_pln (f : Fld) (v : Nat) : (setF s f v).pln = s.pln := rfl
@[simp] theorem setF_anv (f : Fld) (v : Nat) : (setF s f v).anv = s.anv := rfl
@[simp] theorem setF_ddr (f : Fld) (v : Nat) : (setF s f v).ddr = s.ddr := rfl
@[simp] theorem setF_ubf (f : Fld) (v : Nat) : (setF s f v).ubf = s.ubf := rfl
@[simp] theorem setF_fwl (f : Fld) (v : Nat) : (setF s f v).fwl = s.fwl := rfl
@[simp] theorem setF_flt (f : Fld) (v : Nat) : (setF s f v).flt = s.flt := rfl
@[simp] theorem setF_rst (f : Fld) (v : Nat) : (setF s f v).rst = s.rst := rfl
@[simp] theorem setF_start (f : Fld) (v : Nat) : (setF s f v).start = s.start := rfl
@[simp] theorem setF_spr (f : Fld) (v : Nat) : (setF s f v).spr = s.spr := rfl
@[simp] theorem setF_sec (f : Fld) (v : Nat) : (setF s f v).sec = s.sec := rfl
@[simp] theorem setF_thm (f : Fld) (v : Nat) : (setF s f v).thm = s.thm := rfl
@[simp] theorem setF_pins (f : Fld) (v : Nat) : (setF s f v).pins = s.pins := rfl
@[simp] theorem setF_bil (f : Fld) (v : Nat) : (setF s f v).bil = s.bil := rfl
@[simp] theorem setF_resp (f : Fld) (v : Nat) : (setF s f v).resp = s.resp := rfl
@[simp] theorem setF_free (f : Fld) (v : Nat) : (setF s f v).free = s.free := rfl
@[simp] theorem setF_pending (f : Fld) (v : Nat) : (setF s f v).pending = s.pending := rfl

@[simp] theorem set64_mem (lo hi : Fld) (v : Nat) : (set64 s lo hi v).mem = s.mem := rfl
@[simp] theorem set64_time (lo hi : Fld) (v : Nat) : (set64 s lo hi v).time = s.time := rfl
@[simp] theorem set64_slew (lo hi : Fld) (v : Nat) : (set64 s lo hi v).slew = s.slew := rfl
@[simp] theorem set64_aonTime (lo hi : Fld) (v : Nat) : (set64 s lo hi v).aonTime = s.aonTime := rfl
@[simp] theorem set64_hiStroke (lo hi : Fld) (v : Nat) : (set64 s lo hi v).hiStroke = s.hiStroke := rfl
@[simp] theorem set64_hiTai (lo hi : Fld) (v : Nat) : (set64 s lo hi v).hiTai = s.hiTai := rfl
@[simp] theorem set64_hiTime (lo hi : Fld) (v : Nat) : (set64 s lo hi v).hiTime = s.hiTime := rfl
@[simp] theorem set64_hiPps (lo hi : Fld) (v : Nat) : (set64 s lo hi v).hiPps = s.hiPps := rfl
@[simp] theorem set64_stk (lo hi : Fld) (v : Nat) : (set64 s lo hi v).stk = s.stk := rfl
@[simp] theorem set64_car (lo hi : Fld) (v : Nat) : (set64 s lo hi v).car = s.car := rfl
@[simp] theorem set64_bell (lo hi : Fld) (v : Nat) : (set64 s lo hi v).bell = s.bell := rfl
@[simp] theorem set64_wld (lo hi : Fld) (v : Nat) : (set64 s lo hi v).wld = s.wld := rfl
@[simp] theorem set64_peal (lo hi : Fld) (v : Nat) : (set64 s lo hi v).peal = s.peal := rfl
@[simp] theorem set64_tabA (lo hi : Fld) (v : Nat) : (set64 s lo hi v).tabA = s.tabA := rfl
@[simp] theorem set64_tabB (lo hi : Fld) (v : Nat) : (set64 s lo hi v).tabB = s.tabB := rfl
@[simp] theorem set64_tabX (lo hi : Fld) (v : Nat) : (set64 s lo hi v).tabX = s.tabX := rfl
@[simp] theorem set64_asy (lo hi : Fld) (v : Nat) : (set64 s lo hi v).asy = s.asy := rfl
@[simp] theorem set64_pln (lo hi : Fld) (v : Nat) : (set64 s lo hi v).pln = s.pln := rfl
@[simp] theorem set64_anv (lo hi : Fld) (v : Nat) : (set64 s lo hi v).anv = s.anv := rfl
@[simp] theorem set64_ddr (lo hi : Fld) (v : Nat) : (set64 s lo hi v).ddr = s.ddr := rfl
@[simp] theorem set64_ubf (lo hi : Fld) (v : Nat) : (set64 s lo hi v).ubf = s.ubf := rfl
@[simp] theorem set64_fwl (lo hi : Fld) (v : Nat) : (set64 s lo hi v).fwl = s.fwl := rfl
@[simp] theorem set64_flt (lo hi : Fld) (v : Nat) : (set64 s lo hi v).flt = s.flt := rfl
@[simp] theorem set64_rst (lo hi : Fld) (v : Nat) : (set64 s lo hi v).rst = s.rst := rfl
@[simp] theorem set64_start (lo hi : Fld) (v : Nat) : (set64 s lo hi v).start = s.start := rfl
@[simp] theorem set64_spr (lo hi : Fld) (v : Nat) : (set64 s lo hi v).spr = s.spr := rfl
@[simp] theorem set64_sec (lo hi : Fld) (v : Nat) : (set64 s lo hi v).sec = s.sec := rfl
@[simp] theorem set64_thm (lo hi : Fld) (v : Nat) : (set64 s lo hi v).thm = s.thm := rfl
@[simp] theorem set64_pins (lo hi : Fld) (v : Nat) : (set64 s lo hi v).pins = s.pins := rfl
@[simp] theorem set64_bil (lo hi : Fld) (v : Nat) : (set64 s lo hi v).bil = s.bil := rfl
@[simp] theorem set64_resp (lo hi : Fld) (v : Nat) : (set64 s lo hi v).resp = s.resp := rfl
@[simp] theorem set64_free (lo hi : Fld) (v : Nat) : (set64 s lo hi v).free = s.free := rfl
@[simp] theorem set64_pending (lo hi : Fld) (v : Nat) : (set64 s lo hi v).pending = s.pending := rfl

@[simp] theorem answer_regs (r : Resp) : (answer s r).regs = s.regs := rfl
@[simp] theorem answer_mem (r : Resp) : (answer s r).mem = s.mem := rfl
@[simp] theorem answer_time (r : Resp) : (answer s r).time = s.time := rfl
@[simp] theorem answer_slew (r : Resp) : (answer s r).slew = s.slew := rfl
@[simp] theorem answer_aonTime (r : Resp) : (answer s r).aonTime = s.aonTime := rfl
@[simp] theorem answer_hiStroke (r : Resp) : (answer s r).hiStroke = s.hiStroke := rfl
@[simp] theorem answer_hiTai (r : Resp) : (answer s r).hiTai = s.hiTai := rfl
@[simp] theorem answer_hiTime (r : Resp) : (answer s r).hiTime = s.hiTime := rfl
@[simp] theorem answer_hiPps (r : Resp) : (answer s r).hiPps = s.hiPps := rfl
@[simp] theorem answer_stk (r : Resp) : (answer s r).stk = s.stk := rfl
@[simp] theorem answer_car (r : Resp) : (answer s r).car = s.car := rfl
@[simp] theorem answer_bell (r : Resp) : (answer s r).bell = s.bell := rfl
@[simp] theorem answer_wld (r : Resp) : (answer s r).wld = s.wld := rfl
@[simp] theorem answer_peal (r : Resp) : (answer s r).peal = s.peal := rfl
@[simp] theorem answer_tabA (r : Resp) : (answer s r).tabA = s.tabA := rfl
@[simp] theorem answer_tabB (r : Resp) : (answer s r).tabB = s.tabB := rfl
@[simp] theorem answer_tabX (r : Resp) : (answer s r).tabX = s.tabX := rfl
@[simp] theorem answer_asy (r : Resp) : (answer s r).asy = s.asy := rfl
@[simp] theorem answer_pln (r : Resp) : (answer s r).pln = s.pln := rfl
@[simp] theorem answer_anv (r : Resp) : (answer s r).anv = s.anv := rfl
@[simp] theorem answer_ddr (r : Resp) : (answer s r).ddr = s.ddr := rfl
@[simp] theorem answer_ubf (r : Resp) : (answer s r).ubf = s.ubf := rfl
@[simp] theorem answer_fwl (r : Resp) : (answer s r).fwl = s.fwl := rfl
@[simp] theorem answer_flt (r : Resp) : (answer s r).flt = s.flt := rfl
@[simp] theorem answer_rst (r : Resp) : (answer s r).rst = s.rst := rfl
@[simp] theorem answer_start (r : Resp) : (answer s r).start = s.start := rfl
@[simp] theorem answer_spr (r : Resp) : (answer s r).spr = s.spr := rfl
@[simp] theorem answer_sec (r : Resp) : (answer s r).sec = s.sec := rfl
@[simp] theorem answer_thm (r : Resp) : (answer s r).thm = s.thm := rfl
@[simp] theorem answer_pins (r : Resp) : (answer s r).pins = s.pins := rfl
@[simp] theorem answer_bil (r : Resp) : (answer s r).bil = s.bil := rfl
@[simp] theorem answer_resp (r : Resp) : (answer s r).resp = r := rfl
@[simp] theorem answer_free (r : Resp) : (answer s r).free = s.free := rfl
@[simp] theorem answer_pending (r : Resp) : (answer s r).pending = s.pending := rfl

@[simp] theorem atTime_regs (t : Nat) : (atTime s t).regs = s.regs := rfl
@[simp] theorem atTime_mem (t : Nat) : (atTime s t).mem = s.mem := rfl
@[simp] theorem atTime_time (t : Nat) : (atTime s t).time = max s.time (t % 2 ^ 64) := rfl
@[simp] theorem atTime_slew (t : Nat) : (atTime s t).slew = slewLeft s.slew s.time (max s.time (t % 2 ^ 64)) := rfl
@[simp] theorem atTime_aonTime (t : Nat) : (atTime s t).aonTime = s.aonTime + (max s.time (t % 2 ^ 64) - s.time) := rfl
@[simp] theorem atTime_hiStroke (t : Nat) : (atTime s t).hiStroke = s.hiStroke := rfl
@[simp] theorem atTime_hiTai (t : Nat) : (atTime s t).hiTai = s.hiTai := rfl
@[simp] theorem atTime_hiTime (t : Nat) : (atTime s t).hiTime = s.hiTime := rfl
@[simp] theorem atTime_hiPps (t : Nat) : (atTime s t).hiPps = s.hiPps := rfl
@[simp] theorem atTime_stk (t : Nat) : (atTime s t).stk = s.stk := rfl
@[simp] theorem atTime_car (t : Nat) : (atTime s t).car = s.car := rfl
@[simp] theorem atTime_bell (t : Nat) : (atTime s t).bell = s.bell := rfl
@[simp] theorem atTime_wld (t : Nat) : (atTime s t).wld = s.wld := rfl
@[simp] theorem atTime_peal (t : Nat) : (atTime s t).peal = s.peal := rfl
@[simp] theorem atTime_tabA (t : Nat) : (atTime s t).tabA = s.tabA := rfl
@[simp] theorem atTime_tabB (t : Nat) : (atTime s t).tabB = s.tabB := rfl
@[simp] theorem atTime_tabX (t : Nat) : (atTime s t).tabX = s.tabX := rfl
@[simp] theorem atTime_asy (t : Nat) : (atTime s t).asy = s.asy := rfl
@[simp] theorem atTime_pln (t : Nat) : (atTime s t).pln = s.pln := rfl
@[simp] theorem atTime_anv (t : Nat) : (atTime s t).anv = s.anv := rfl
@[simp] theorem atTime_ddr (t : Nat) : (atTime s t).ddr = s.ddr := rfl
@[simp] theorem atTime_ubf (t : Nat) : (atTime s t).ubf = s.ubf := rfl
@[simp] theorem atTime_fwl (t : Nat) : (atTime s t).fwl = s.fwl := rfl
@[simp] theorem atTime_flt (t : Nat) : (atTime s t).flt = s.flt := rfl
@[simp] theorem atTime_rst (t : Nat) : (atTime s t).rst = s.rst := rfl
@[simp] theorem atTime_start (t : Nat) : (atTime s t).start = s.start := rfl
@[simp] theorem atTime_spr (t : Nat) : (atTime s t).spr = s.spr := rfl
@[simp] theorem atTime_sec (t : Nat) : (atTime s t).sec = s.sec := rfl
@[simp] theorem atTime_thm (t : Nat) : (atTime s t).thm = s.thm := rfl
@[simp] theorem atTime_pins (t : Nat) : (atTime s t).pins = s.pins := rfl
@[simp] theorem atTime_bil (t : Nat) : (atTime s t).bil = s.bil := rfl
@[simp] theorem atTime_resp (t : Nat) : (atTime s t).resp = s.resp := rfl
@[simp] theorem atTime_free (t : Nat) : (atTime s t).free = s.free := rfl
@[simp] theorem atTime_pending (t : Nat) : (atTime s t).pending = s.pending := rfl

@[simp] theorem setByte_regs (a v : Nat) : (setByte s a v).regs = s.regs := rfl
@[simp] theorem setByte_time (a v : Nat) : (setByte s a v).time = s.time := rfl
@[simp] theorem setByte_slew (a v : Nat) : (setByte s a v).slew = s.slew := rfl
@[simp] theorem setByte_aonTime (a v : Nat) : (setByte s a v).aonTime = s.aonTime := rfl
@[simp] theorem setByte_hiStroke (a v : Nat) : (setByte s a v).hiStroke = s.hiStroke := rfl
@[simp] theorem setByte_hiTai (a v : Nat) : (setByte s a v).hiTai = s.hiTai := rfl
@[simp] theorem setByte_hiTime (a v : Nat) : (setByte s a v).hiTime = s.hiTime := rfl
@[simp] theorem setByte_hiPps (a v : Nat) : (setByte s a v).hiPps = s.hiPps := rfl
@[simp] theorem setByte_stk (a v : Nat) : (setByte s a v).stk = s.stk := rfl
@[simp] theorem setByte_car (a v : Nat) : (setByte s a v).car = s.car := rfl
@[simp] theorem setByte_bell (a v : Nat) : (setByte s a v).bell = s.bell := rfl
@[simp] theorem setByte_wld (a v : Nat) : (setByte s a v).wld = s.wld := rfl
@[simp] theorem setByte_peal (a v : Nat) : (setByte s a v).peal = s.peal := rfl
@[simp] theorem setByte_tabA (a v : Nat) : (setByte s a v).tabA = s.tabA := rfl
@[simp] theorem setByte_tabB (a v : Nat) : (setByte s a v).tabB = s.tabB := rfl
@[simp] theorem setByte_tabX (a v : Nat) : (setByte s a v).tabX = s.tabX := rfl
@[simp] theorem setByte_asy (a v : Nat) : (setByte s a v).asy = s.asy := rfl
@[simp] theorem setByte_pln (a v : Nat) : (setByte s a v).pln = s.pln := rfl
@[simp] theorem setByte_anv (a v : Nat) : (setByte s a v).anv = s.anv := rfl
@[simp] theorem setByte_ddr (a v : Nat) : (setByte s a v).ddr = s.ddr := rfl
@[simp] theorem setByte_ubf (a v : Nat) : (setByte s a v).ubf = s.ubf := rfl
@[simp] theorem setByte_fwl (a v : Nat) : (setByte s a v).fwl = s.fwl := rfl
@[simp] theorem setByte_flt (a v : Nat) : (setByte s a v).flt = s.flt := rfl
@[simp] theorem setByte_rst (a v : Nat) : (setByte s a v).rst = s.rst := rfl
@[simp] theorem setByte_start (a v : Nat) : (setByte s a v).start = s.start := rfl
@[simp] theorem setByte_spr (a v : Nat) : (setByte s a v).spr = s.spr := rfl
@[simp] theorem setByte_sec (a v : Nat) : (setByte s a v).sec = s.sec := rfl
@[simp] theorem setByte_thm (a v : Nat) : (setByte s a v).thm = s.thm := rfl
@[simp] theorem setByte_pins (a v : Nat) : (setByte s a v).pins = s.pins := rfl
@[simp] theorem setByte_bil (a v : Nat) : (setByte s a v).bil = s.bil := rfl
@[simp] theorem setByte_resp (a v : Nat) : (setByte s a v).resp = s.resp := rfl
@[simp] theorem setByte_free (a v : Nat) : (setByte s a v).free = s.free := rfl
@[simp] theorem setByte_pending (a v : Nat) : (setByte s a v).pending = s.pending := rfl

@[simp] theorem setErr_regs (a : Nat) (e : List Nat) : (setErr s a e).regs = s.regs := rfl
@[simp] theorem setErr_time (a : Nat) (e : List Nat) : (setErr s a e).time = s.time := rfl
@[simp] theorem setErr_slew (a : Nat) (e : List Nat) : (setErr s a e).slew = s.slew := rfl
@[simp] theorem setErr_aonTime (a : Nat) (e : List Nat) : (setErr s a e).aonTime = s.aonTime := rfl
@[simp] theorem setErr_hiStroke (a : Nat) (e : List Nat) : (setErr s a e).hiStroke = s.hiStroke := rfl
@[simp] theorem setErr_hiTai (a : Nat) (e : List Nat) : (setErr s a e).hiTai = s.hiTai := rfl
@[simp] theorem setErr_hiTime (a : Nat) (e : List Nat) : (setErr s a e).hiTime = s.hiTime := rfl
@[simp] theorem setErr_hiPps (a : Nat) (e : List Nat) : (setErr s a e).hiPps = s.hiPps := rfl
@[simp] theorem setErr_stk (a : Nat) (e : List Nat) : (setErr s a e).stk = s.stk := rfl
@[simp] theorem setErr_car (a : Nat) (e : List Nat) : (setErr s a e).car = s.car := rfl
@[simp] theorem setErr_bell (a : Nat) (e : List Nat) : (setErr s a e).bell = s.bell := rfl
@[simp] theorem setErr_wld (a : Nat) (e : List Nat) : (setErr s a e).wld = s.wld := rfl
@[simp] theorem setErr_peal (a : Nat) (e : List Nat) : (setErr s a e).peal = s.peal := rfl
@[simp] theorem setErr_tabA (a : Nat) (e : List Nat) : (setErr s a e).tabA = s.tabA := rfl
@[simp] theorem setErr_tabB (a : Nat) (e : List Nat) : (setErr s a e).tabB = s.tabB := rfl
@[simp] theorem setErr_tabX (a : Nat) (e : List Nat) : (setErr s a e).tabX = s.tabX := rfl
@[simp] theorem setErr_asy (a : Nat) (e : List Nat) : (setErr s a e).asy = s.asy := rfl
@[simp] theorem setErr_pln (a : Nat) (e : List Nat) : (setErr s a e).pln = s.pln := rfl
@[simp] theorem setErr_anv (a : Nat) (e : List Nat) : (setErr s a e).anv = s.anv := rfl
@[simp] theorem setErr_ddr (a : Nat) (e : List Nat) : (setErr s a e).ddr = s.ddr := rfl
@[simp] theorem setErr_ubf (a : Nat) (e : List Nat) : (setErr s a e).ubf = s.ubf := rfl
@[simp] theorem setErr_fwl (a : Nat) (e : List Nat) : (setErr s a e).fwl = s.fwl := rfl
@[simp] theorem setErr_flt (a : Nat) (e : List Nat) : (setErr s a e).flt = s.flt := rfl
@[simp] theorem setErr_rst (a : Nat) (e : List Nat) : (setErr s a e).rst = s.rst := rfl
@[simp] theorem setErr_start (a : Nat) (e : List Nat) : (setErr s a e).start = s.start := rfl
@[simp] theorem setErr_spr (a : Nat) (e : List Nat) : (setErr s a e).spr = s.spr := rfl
@[simp] theorem setErr_sec (a : Nat) (e : List Nat) : (setErr s a e).sec = s.sec := rfl
@[simp] theorem setErr_thm (a : Nat) (e : List Nat) : (setErr s a e).thm = s.thm := rfl
@[simp] theorem setErr_pins (a : Nat) (e : List Nat) : (setErr s a e).pins = s.pins := rfl
@[simp] theorem setErr_bil (a : Nat) (e : List Nat) : (setErr s a e).bil = s.bil := rfl
@[simp] theorem setErr_resp (a : Nat) (e : List Nat) : (setErr s a e).resp = s.resp := rfl
@[simp] theorem setErr_free (a : Nat) (e : List Nat) : (setErr s a e).free = s.free := rfl
@[simp] theorem setErr_pending (a : Nat) (e : List Nat) : (setErr s a e).pending = s.pending := rfl

end Sys2Proof.Machine
end

