-- ==== Sys2Proof/Laws/Faults.lean ====
section
/-! SUPPORT. Raising a fault record while the collector has room, and granted register accesses. -/

namespace Sys2Proof.Machine

/-- With room in the FIFO a record is queued and nothing else changes (R432). -/
theorem sendFault_eq (s : State) (block code cls unit : Nat) (h : s.flt.fifo.length < 256) :
    sendFault s block code cls unit = { s with flt := { s.flt with fifo := s.flt.fifo ++ [mkRec s block code cls unit] } } := by
  unfold sendFault pushFault
  rw [if_pos h]

/-- A record depends on the stroke and the time only. -/
theorem mkRec_congr {s t : State} (hs : t.stk = s.stk) (ht : t.time = s.time) (block code cls unit : Nat) :
    mkRec t block code cls unit = mkRec s block code cls unit := by
  unfold mkRec strokeLow; rw [hs, ht]

theorem guarded_granted (s : State) (brand kind addr : Nat) (k : State → State) (h : fwDenies s 2 brand kind addr 4 = none) :
    guarded s brand kind addr k = k s := by
  unfold guarded; rw [h]

theorem guarded_denied (s : State) (brand kind addr cls : Nat) (k : State → State) (h : fwDenies s 2 brand kind addr 4 = some cls) :
    guarded s brand kind addr k = answer (deny s 2 cls brand kind addr) .error := by
  unfold guarded; rw [h]

end Sys2Proof.Machine
end

