-- ==== Sys2Proof/Laws/Fields.lean ====
section
/-! SUPPORT. Registers and their fields: what a write leaves in the written field, in the other fields of the word and elsewhere. -/

namespace Sys2Proof.Machine

/- ### Bit fields of a number -/

theorem bits_lt (n lo w : Nat) : bits n lo w < 2 ^ w := Nat.mod_lt _ (Nat.two_pow_pos w)

theorem testBit_bits (n lo w i : Nat) : (bits n lo w).testBit i = (decide (i < w) && n.testBit (lo + i)) := by
  simp [bits, Nat.testBit_mod_two_pow, Nat.testBit_div_two_pow]; rw [Nat.add_comm]

/-- A number as its low part, one field of it and its high part. -/
theorem bits_split (n lo w : Nat) : n = n % 2 ^ lo + 2 ^ lo * (bits n lo w + 2 ^ w * (n / 2 ^ lo / 2 ^ w)) := by
  have h1 := Nat.mod_add_div n (2 ^ lo)
  have h2 := Nat.mod_add_div (n / 2 ^ lo) (2 ^ w)
  unfold bits
  rw [h2]; exact h1.symm

/-- What `setBits` makes of it. -/
theorem setBits_split (n lo w v : Nat) : setBits n lo w v = n % 2 ^ lo + 2 ^ lo * (v % 2 ^ w + 2 ^ w * (n / 2 ^ lo / 2 ^ w)) := by
  have h := bits_split n lo w
  unfold setBits
  have e : n - bits n lo w * 2 ^ lo = n % 2 ^ lo + 2 ^ lo * (2 ^ w * (n / 2 ^ lo / 2 ^ w)) := by
    rw [Nat.mul_add] at h
    rw [Nat.mul_comm (bits n lo w) (2 ^ lo)]
    omega
  rw [e, Nat.mul_add, Nat.mul_comm (v % 2 ^ w) (2 ^ lo)]
  omega

theorem setBits_div (n lo w v : Nat) : setBits n lo w v / 2 ^ lo = v % 2 ^ w + 2 ^ w * (n / 2 ^ lo / 2 ^ w) := by
  rw [setBits_split, Nat.add_comm, Nat.mul_add_div (Nat.two_pow_pos lo), Nat.div_eq_of_lt (Nat.mod_lt _ (Nat.two_pow_pos lo))]
  rfl

/-- The written field holds the written bits. -/
@[simp] theorem bits_setBits_same (n lo w v : Nat) : bits (setBits n lo w v) lo w = v % 2 ^ w := by
  have h := setBits_div n lo w v
  unfold bits at *
  rw [h, Nat.add_mul_mod_self_left, Nat.mod_mod]

theorem setBits_mod (n lo w v : Nat) : setBits n lo w v % 2 ^ lo = n % 2 ^ lo := by
  rw [setBits_split, Nat.add_mul_mod_self_left, Nat.mod_mod]

theorem setBits_high (n lo w v : Nat) : setBits n lo w v / 2 ^ (lo + w) = n / 2 ^ (lo + w) := by
  rw [Nat.pow_add, ← Nat.div_div_eq_div_mul, ← Nat.div_div_eq_div_mul, setBits_div, Nat.add_comm,
    Nat.mul_add_div (Nat.two_pow_pos w), Nat.div_eq_of_lt (Nat.mod_lt _ (Nat.two_pow_pos w))]
  rfl

/-- A field above or below the written one is unchanged. -/
theorem bits_setBits_disjoint (n lo w v lo' w' : Nat) (h : lo + w ≤ lo' ∨ lo' + w' ≤ lo) :
    bits (setBits n lo w v) lo' w' = bits n lo' w' := by
  unfold bits
  rcases h with h | h
  · obtain ⟨k, rfl⟩ := Nat.exists_eq_add_of_le h
    rw [Nat.pow_add, ← Nat.div_div_eq_div_mul, setBits_high, Nat.div_div_eq_div_mul]
  · obtain ⟨k, rfl⟩ := Nat.exists_eq_add_of_le h
    have key : ∀ m : Nat, m / 2 ^ lo' % 2 ^ w' = m % 2 ^ (lo' + w' + k) / 2 ^ lo' % 2 ^ w' := by
      intro m
      apply Nat.eq_of_testBit_eq
      intro i
      simp only [Nat.testBit_mod_two_pow, Nat.testBit_div_two_pow]
      by_cases hi : i < w'
      · have : i + lo' < lo' + w' + k := by omega
        simp [hi, this]
      · simp [hi]
    rw [key (setBits n _ w v), key n, setBits_mod]

/-- Fields that lie within 32 bits: the written word is not cut. -/
theorem setBits_lt (n lo w v : Nat) (hn : n < 2 ^ 32) (h : lo + w ≤ 32) : setBits n lo w v < 2 ^ 32 := by
  have hd : n / 2 ^ (lo + w) < 2 ^ (32 - (lo + w)) := by
    rw [Nat.div_lt_iff_lt_mul (Nat.two_pow_pos _), ← Nat.pow_add]
    have e : 32 - (lo + w) + (lo + w) = 32 := by omega
    rw [e]; exact hn
  have hs := Nat.div_add_mod (setBits n lo w v) (2 ^ (lo + w))
  rw [setBits_high] at hs
  have hm := Nat.mod_lt (setBits n lo w v) (Nat.two_pow_pos (lo + w))
  have hp : 2 ^ (lo + w) * 2 ^ (32 - (lo + w)) = 2 ^ 32 := by
    rw [← Nat.pow_add]; congr 1; omega
  have hle : 2 ^ (lo + w) * (n / 2 ^ (lo + w) + 1) ≤ 2 ^ (lo + w) * 2 ^ (32 - (lo + w)) := Nat.mul_le_mul_left _ hd
  rw [Nat.mul_add, hp] at hle
  omega

/- ### Registers -/

theorem rd_lt (s : State) (a : Nat) : rd s a < 2 ^ 32 := BitVec.isLt _

theorem rd_congr {s t : State} (h : t.regs = s.regs) (a : Nat) : rd t a = rd s a := by unfold rd; rw [h]

theorem getF_congr {s t : State} (h : t.regs = s.regs) (f : Fld) : getF t f = getF s f := by unfold getF; rw [rd_congr h]

theorem getF_lt (s : State) (f : Fld) : getF s f < 2 ^ f.w := bits_lt _ _ _

theorem rd_wr_other (s : State) (a b v : Nat) (h : b ≠ a) : rd (wr s a v) b = rd s b := by
  unfold rd wr; dsimp only; rw [sget_sset_other resetOf _ _ _ _ h]

theorem rd_wr_same (s : State) (a v : Nat) (h : swf resetOf s.regs = true) : rd (wr s a v) a = v % 2 ^ 32 := by
  unfold rd wr; dsimp only
  rw [sget_sset_same resetOf _ _ _ 0 h, BitVec.toNat_ofNat]

theorem rd_setF_other (s : State) (f : Fld) (v b : Nat) (h : b ≠ f.addr) : rd (setF s f v) b = rd s b := rd_wr_other _ _ _ _ h

theorem rd_setF_same (s : State) (f : Fld) (v : Nat) (h : swf resetOf s.regs = true) (hf : f.lo + f.w ≤ 32) :
    rd (setF s f v) f.addr = setBits (rd s f.addr) f.lo f.w v := by
  unfold setF
  rw [rd_wr_same _ _ _ h, Nat.mod_eq_of_lt (setBits_lt _ _ _ _ (rd_lt _ _) hf)]

/-- The written field of a register. -/
theorem getF_setF_same (s : State) (f : Fld) (v : Nat) (h : swf resetOf s.regs = true) (hf : f.lo + f.w ≤ 32) :
    getF (setF s f v) f = v % 2 ^ f.w := by
  unfold getF
  rw [rd_setF_same s f v h hf, bits_setBits_same]

/-- A field of another register. -/
theorem getF_setF_other (s : State) (f g : Fld) (v : Nat) (h : g.addr ≠ f.addr) : getF (setF s f v) g = getF s g := by
  unfold getF
  rw [rd_setF_other s f v g.addr h]

/-- Another field of the same register. -/
theorem getF_setF_beside (s : State) (f g : Fld) (v : Nat) (h : swf resetOf s.regs = true) (hf : f.lo + f.w ≤ 32) (ha : g.addr = f.addr)
    (hd : f.lo + f.w ≤ g.lo ∨ g.lo + g.w ≤ f.lo) : getF (setF s f v) g = getF s g := by
  unfold getF
  rw [ha, rd_setF_same s f v h hf, bits_setBits_disjoint _ _ _ _ _ _ hd]

theorem wr_wf (s : State) (a v : Nat) (h : swf resetOf s.regs = true) : swf resetOf (wr s a v).regs = true :=
  swf_sset resetOf _ _ _ h

theorem setF_wf (s : State) (f : Fld) (v : Nat) (h : swf resetOf s.regs = true) : swf resetOf (setF s f v).regs = true :=
  wr_wf _ _ _ h

theorem bump_wf (s : State) (f : Fld) (n : Nat) (h : swf resetOf s.regs = true) : swf resetOf (bump s f n).regs = true :=
  wr_wf _ _ _ h

theorem getF_bump_same (s : State) (f : Fld) (n : Nat) (h : swf resetOf s.regs = true) (hf : f.lo + f.w ≤ 32) :
    getF (bump s f n) f = min (getF s f + n) (2 ^ f.w - 1) := by
  unfold bump
  rw [getF_setF_same s f _ h hf, Nat.mod_eq_of_lt]
  have := Nat.two_pow_pos f.w
  omega

/- ### Bytes -/

theorem byteAt_setByte_other (s : State) (a b v : Nat) (h : b ≠ a) : byteAt (setByte s a v) b = byteAt s b := by
  unfold byteAt setByte; dsimp only; rw [sget_sset_other zeroByte _ _ _ _ h]

theorem byteAt_setByte_same (s : State) (a v : Nat) (h : Memory.wf s.mem = true) : byteAt (setByte s a v) a = v % 256 := by
  simp only [Memory.wf, Bool.and_eq_true] at h
  unfold byteAt setByte; dsimp only
  rw [sget_sset_same zeroByte _ _ _ 0 h.1.1.1, BitVec.toNat_ofNat]

/-- Bytes outside the poked range are unchanged. -/
theorem byteAt_poke_other (s : State) (a x : Nat) (bs : List Nat) (h : x < a ∨ a + bs.length ≤ x) : byteAt (poke s a bs) x = byteAt s x := by
  induction bs generalizing s a with
  | nil => rfl
  | cons b t ih =>
    simp only [List.length_cons] at h
    unfold poke
    rw [ih _ _ (by omega), byteAt_setByte_other _ _ _ _ (by omega)]

end Sys2Proof.Machine
end

