-- ==== Sys2Proof/Laws/KeptOps.lean ====
section
/-! SUPPORT. Every operation of Machine/Ops.lean keeps the canonical form and the queue. -/

namespace Sys2Proof.Machine

variable {z : State}

theorem kept_wr (s : State) (x1 : Nat) (x2 : Nat) (h : Kept z s) : Kept z (wr s x1 x2) := by
  exact ⟨fun w => swf_sset resetOf _ _ _ (h.regs w), h.mem, h.links, h.pending⟩

theorem kept_setF (s : State) (x1 : Fld) (x2 : Nat) (h : Kept z s) : Kept z (setF s x1 x2) := by
  unfold setF
  repeat' first | with_reducible assumption | intro _ | with_reducible apply links_setAt | with_reducible apply links_map | with_reducible apply kept_wr | with_reducible apply kept_foldl  | with_reducible apply kept_ite | split | dsimp only | with_reducible apply kept_mk | assumption

theorem kept_bump (s : State) (x1 : Fld) (x2 : Nat) (h : Kept z s) : Kept z (bump s x1 x2) := by
  unfold bump
  repeat' first | with_reducible assumption | intro _ | with_reducible apply links_setAt | with_reducible apply links_map | with_reducible apply kept_setF | with_reducible apply kept_foldl  | with_reducible apply kept_ite | split | dsimp only | with_reducible apply kept_mk | assumption

theorem kept_tick (s : State) (x1 : Fld) (h : Kept z s) : Kept z (tick s x1) := by
  unfold tick
  repeat' first | with_reducible assumption | intro _ | with_reducible apply links_setAt | with_reducible apply links_map | with_reducible apply kept_setF | with_reducible apply kept_foldl  | with_reducible apply kept_ite | split | dsimp only | with_reducible apply kept_mk | assumption

theorem kept_high (s : State) (x1 : Fld) (x2 : Nat) (h : Kept z s) : Kept z (high s x1 x2) := by
  unfold high
  repeat' first | with_reducible assumption | intro _ | with_reducible apply links_setAt | with_reducible apply links_map | with_reducible apply kept_setF | with_reducible apply kept_foldl  | with_reducible apply kept_ite | split | dsimp only | with_reducible apply kept_mk | assumption

theorem kept_set64 (s : State) (x1 : Fld) (x2 : Fld) (x3 : Nat) (h : Kept z s) : Kept z (set64 s x1 x2 x3) := by
  unfold set64
  repeat' first | with_reducible assumption | intro _ | with_reducible apply links_setAt | with_reducible apply links_map | with_reducible apply kept_setF | with_reducible apply kept_foldl  | with_reducible apply kept_ite | split | dsimp only | with_reducible apply kept_mk | assumption

theorem kept_fresh (s : State)  (h : Kept z s) : Kept z (fresh s).2 := by
  unfold fresh
  repeat' first | with_reducible assumption | intro _ | with_reducible apply links_setAt | with_reducible apply links_map | with_reducible apply kept_foldl  | with_reducible apply kept_foldl_fst | with_reducible apply kept_foldl_snd | with_reducible apply kept_ite_fst | with_reducible apply kept_ite_snd | with_reducible apply kept_ite | split | dsimp only | with_reducible apply kept_mk | assumption

theorem kept_answer (s : State) (x1 : Resp) (h : Kept z s) : Kept z (answer s x1) := by
  unfold answer
  repeat' first | with_reducible assumption | intro _ | with_reducible apply links_setAt | with_reducible apply links_map | with_reducible apply kept_foldl  | with_reducible apply kept_ite | split | dsimp only | with_reducible apply kept_mk | assumption

theorem kept_atTime (s : State) (x1 : Nat) (h : Kept z s) : Kept z (atTime s x1) := by
  unfold atTime
  repeat' first | with_reducible assumption | intro _ | with_reducible apply links_setAt | with_reducible apply links_map | with_reducible apply kept_foldl  | with_reducible apply kept_ite | split | dsimp only | with_reducible apply kept_mk | assumption

theorem kept_logRec (s : State) (x1 : FaultRec) (h : Kept z s) : Kept z (logRec s x1) := by
  unfold logRec
  repeat' first | with_reducible assumption | intro _ | with_reducible apply links_setAt | with_reducible apply links_map | with_reducible apply kept_setF | with_reducible apply kept_foldl  | with_reducible apply kept_ite | split | dsimp only | with_reducible apply kept_mk | assumption

theorem kept_showPins (s : State)  (h : Kept z s) : Kept z (showPins s) := by
  unfold showPins
  repeat' first | with_reducible assumption | intro _ | with_reducible apply links_setAt | with_reducible apply links_map | with_reducible apply kept_setF | with_reducible apply kept_foldl  | with_reducible apply kept_ite | split | dsimp only | with_reducible apply kept_mk | assumption

theorem kept_latchSafe (s : State)  (h : Kept z s) : Kept z (latchSafe s) := by
  unfold latchSafe
  repeat' first | with_reducible assumption | intro _ | with_reducible apply links_setAt | with_reducible apply links_map | with_reducible apply kept_setF | with_reducible apply kept_showPins | with_reducible apply kept_foldl  | with_reducible apply kept_ite | split | dsimp only | with_reducible apply kept_mk | assumption

theorem kept_reactPlain (s : State) (x1 : Nat) (h : Kept z s) : Kept z (reactPlain s x1) := by
  unfold reactPlain
  repeat' first | with_reducible assumption | intro _ | with_reducible apply links_setAt | with_reducible apply links_map | with_reducible apply kept_latchSafe | with_reducible apply kept_setF | with_reducible apply kept_foldl  | with_reducible apply kept_ite | split | dsimp only | with_reducible apply kept_mk | assumption

theorem kept_pushFault (s : State) (x1 : FaultRec) (h : Kept z s) : Kept z (pushFault s x1) := by
  unfold pushFault
  repeat' first | with_reducible assumption | intro _ | with_reducible apply links_setAt | with_reducible apply links_map | with_reducible apply kept_bump | with_reducible apply kept_logRec | with_reducible apply kept_reactPlain | with_reducible apply kept_foldl  | with_reducible apply kept_ite | split | dsimp only | with_reducible apply kept_mk | assumption

theorem kept_sendFault (s : State) (x1 : Nat) (x2 : Nat) (x3 : Nat) (x4 : Nat) (h : Kept z s) : Kept z (sendFault s x1 x2 x3 x4) := by
  unfold sendFault
  repeat' first | with_reducible assumption | intro _ | with_reducible apply links_setAt | with_reducible apply links_map | with_reducible apply kept_pushFault | with_reducible apply kept_foldl  | with_reducible apply kept_ite | split | dsimp only | with_reducible apply kept_mk | assumption

theorem kept_refuseAccess (s : State) (x1 : Nat) (x2 : Nat) (h : Kept z s) : Kept z (refuseAccess s x1 x2) := by
  unfold refuseAccess
  repeat' first | with_reducible assumption | intro _ | with_reducible apply links_setAt | with_reducible apply links_map | with_reducible apply kept_answer | with_reducible apply kept_sendFault | with_reducible apply kept_foldl  | with_reducible apply kept_ite | split | dsimp only | with_reducible apply kept_mk | assumption

theorem kept_deny (s : State) (x1 : Nat) (x2 : Nat) (x3 : Nat) (x4 : Nat) (x5 : Nat) (h : Kept z s) : Kept z (deny s x1 x2 x3 x4 x5) := by
  unfold deny
  repeat' first | with_reducible assumption | intro _ | with_reducible apply links_setAt | with_reducible apply links_map | with_reducible apply kept_sendFault | with_reducible apply kept_set64 | with_reducible apply kept_setF | with_reducible apply kept_foldl  | with_reducible apply kept_ite | split | dsimp only | with_reducible apply kept_mk | assumption

theorem kept_guarded (s : State) (b k a : Nat) (f : State → State) (h : Kept z s) (hf : ∀ t, Kept z t → Kept z (f t)) :
    Kept z (guarded s b k a f) := by
  unfold guarded
  split
  · exact kept_answer _ _ (kept_deny _ _ _ _ _ _ h)
  · exact hf _ h

theorem kept_setByte (s : State) (x1 : Nat) (x2 : Nat) (h : Kept z s) : Kept z (setByte s x1 x2) := by
  refine ⟨h.regs, fun w => ?_, h.links, h.pending⟩
  have := h.mem w
  simp only [Memory.wf, Bool.and_eq_true] at this ⊢
  exact ⟨⟨⟨swf_sset zeroByte _ _ _ this.1.1.1, this.1.1.2⟩, this.1.2⟩, this.2⟩

theorem kept_poke (s : State) (x1 : Nat) (x2 : List Nat) (h : Kept z s) : Kept z (poke s x1 x2) := by
  induction x2 generalizing s x1 with
  | nil => exact h
  | cons b t ih => exact ih _ _ (kept_setByte _ _ _ h)

theorem kept_setErr (s : State) (x1 : Nat) (x2 : List Nat) (h : Kept z s) : Kept z (setErr s x1 x2) := by
  refine ⟨h.regs, fun w => ?_, h.links, h.pending⟩
  have := h.mem w
  simp only [Memory.wf, Bool.and_eq_true] at this ⊢
  exact ⟨⟨⟨this.1.1.1, swf_sset noErr _ _ _ this.1.1.2⟩, this.1.2⟩, this.2⟩

theorem kept_bankDue (s : State) (x1 : Nat) (h : Kept z s) : Kept z (bankDue s x1) := by
  unfold bankDue
  repeat' first | with_reducible assumption | intro _ | with_reducible apply links_setAt | with_reducible apply links_map | with_reducible apply kept_foldl  | with_reducible apply kept_ite | split | dsimp only | with_reducible apply kept_mk | assumption

theorem kept_onceCode (s : State) (x1 : Nat) (x2 : Nat) (x3 : Nat) (x4 : Nat) (x5 : Nat) (h : Kept z s) : Kept z (onceCode s x1 x2 x3 x4 x5) := by
  unfold onceCode
  repeat' first | with_reducible assumption | intro _ | with_reducible apply links_setAt | with_reducible apply links_map | with_reducible apply kept_sendFault | with_reducible apply kept_foldl  | with_reducible apply kept_ite | split | dsimp only | with_reducible apply kept_mk | assumption

theorem kept_oncePerStroke (s : State) (x1 : Nat) (x2 : Nat) (x3 : Nat) (x4 : Nat) (h : Kept z s) : Kept z (oncePerStroke s x1 x2 x3 x4) := by
  unfold oncePerStroke
  repeat' first | with_reducible assumption | intro _ | with_reducible apply links_setAt | with_reducible apply links_map | with_reducible apply kept_onceCode | with_reducible apply kept_foldl  | with_reducible apply kept_ite | split | dsimp only | with_reducible apply kept_mk | assumption

theorem kept_queueWriteback (s : State) (x1 : Nat) (h : Kept z s) : Kept z (queueWriteback s x1) := by
  exact kept_sameMem h rfl rfl rfl rfl rfl rfl rfl

theorem kept_ddrBadLine (s : State) (x1 : Nat) (h : Kept z s) : Kept z (ddrBadLine s x1) := by
  unfold ddrBadLine
  repeat' first | with_reducible assumption | intro _ | with_reducible apply links_setAt | with_reducible apply links_map | with_reducible apply kept_sendFault | with_reducible apply kept_setF | with_reducible apply kept_foldl  | with_reducible apply kept_ite | split | dsimp only | with_reducible apply kept_mk | assumption

theorem kept_fabricFx (s : State) (x1 : Nat) (x2 : Bool) (h : Kept z s) : Kept z (fabricFx s x1 x2) := by
  unfold fabricFx
  repeat' first | with_reducible assumption | intro _ | with_reducible apply links_setAt | with_reducible apply links_map | with_reducible apply kept_bump | with_reducible apply kept_sendFault | with_reducible apply kept_set64 | with_reducible apply kept_setF | with_reducible apply kept_foldl  | with_reducible apply kept_ite | split | dsimp only | with_reducible apply kept_mk | assumption

theorem kept_countCe (s : State) (x1 : Nat) (h : Kept z s) : Kept z (countCe s x1) := by
  unfold countCe
  repeat' first | with_reducible assumption | intro _ | with_reducible apply links_setAt | with_reducible apply links_map | with_reducible apply kept_bump | with_reducible apply kept_foldl  | with_reducible apply kept_ite | split | dsimp only | with_reducible apply kept_mk | assumption

theorem kept_anvilBad (s : State) (x1 : Bool) (x2 : Nat) (h : Kept z s) : Kept z (anvilBad s x1 x2) := by
  unfold anvilBad
  repeat' first | with_reducible assumption | intro _ | with_reducible apply links_setAt | with_reducible apply links_map | with_reducible apply kept_bankDue | with_reducible apply kept_bump | with_reducible apply kept_set64 | with_reducible apply kept_setF | with_reducible apply kept_foldl  | with_reducible apply kept_ite | split | dsimp only | with_reducible apply kept_mk | assumption

theorem kept_noteFx (s : State) (x0 : Bool) (x2 : Note) (h : Kept z s) : Kept z (noteFx x0 s x2) := by
  unfold noteFx
  repeat' first | with_reducible assumption | intro _ | with_reducible apply links_setAt | with_reducible apply links_map | with_reducible apply kept_anvilBad | with_reducible apply kept_bankDue | with_reducible apply kept_bump | with_reducible apply kept_countCe | with_reducible apply kept_ddrBadLine | with_reducible apply kept_deny | with_reducible apply kept_fabricFx | with_reducible apply kept_oncePerStroke | with_reducible apply kept_queueWriteback | with_reducible apply kept_sendFault | with_reducible apply kept_set64 | with_reducible apply kept_setF | with_reducible apply kept_foldl  | with_reducible apply kept_ite | split | dsimp only | with_reducible apply kept_mk | assumption

theorem kept_notesFx (s : State) (x1 : List Note) (h : Kept z s) : Kept z (notesFx s x1) := by
  unfold notesFx
  repeat' first | with_reducible assumption | intro _ | with_reducible apply links_setAt | with_reducible apply links_map | with_reducible apply kept_noteFx | with_reducible apply kept_foldl  | with_reducible apply kept_ite | split | dsimp only | with_reducible apply kept_mk | assumption

theorem kept_inboxWatch (s : State) (x1 : Bool) (x2 : Nat) (x3 : List Nat) (h : Kept z s) : Kept z (inboxWatch s x1 x2 x3) := by
  unfold inboxWatch
  repeat' first | with_reducible assumption | intro _ | with_reducible apply links_setAt | with_reducible apply links_map | with_reducible apply kept_bump | with_reducible apply kept_sendFault | with_reducible apply kept_setF | with_reducible apply kept_foldl  | with_reducible apply kept_ite | split | dsimp only | with_reducible apply kept_mk | assumption

theorem kept_dropWriteback (s : State) (x1 : Nat) (h : Kept z s) : Kept z (dropWriteback s x1) := by
  exact kept_sameMem h rfl rfl rfl rfl rfl rfl rfl

theorem kept_tagWrite (s : State) (x1 : Nat) (h : Kept z s) : Kept z (tagWrite s x1) := by
  unfold tagWrite
  split
  · exact kept_sameMem h rfl rfl rfl rfl rfl rfl rfl
  · exact h

theorem kept_putLine (s : State) (x1 : Nat) (x2 : List Nat) (h : Kept z s) : Kept z (putLine s x1 x2) := by
  unfold putLine
  repeat' first | with_reducible assumption | intro _ | with_reducible apply links_setAt | with_reducible apply links_map | with_reducible apply kept_dropWriteback | with_reducible apply kept_inboxWatch | with_reducible apply kept_poke | with_reducible apply kept_setErr | with_reducible apply kept_tagWrite | with_reducible apply kept_foldl  | with_reducible apply kept_ite | split | dsimp only | with_reducible apply kept_mk | assumption

theorem kept_putPoison (s : State) (x1 : Nat) (x2 : List Nat) (h : Kept z s) : Kept z (putPoison s x1 x2) := by
  unfold putPoison
  repeat' first | with_reducible assumption | intro _ | with_reducible apply links_setAt | with_reducible apply links_map | with_reducible apply kept_bump | with_reducible apply kept_dropWriteback | with_reducible apply kept_poke | with_reducible apply kept_setErr | with_reducible apply kept_tagWrite | with_reducible apply kept_foldl  | with_reducible apply kept_ite | split | dsimp only | with_reducible apply kept_mk | assumption

theorem kept_mergeFx (s : State) (x1 : Note) (h : Kept z s) : Kept z (mergeFx s x1) := by
  unfold mergeFx
  repeat' first | with_reducible assumption | intro _ | with_reducible apply links_setAt | with_reducible apply links_map | with_reducible apply kept_anvilBad | with_reducible apply kept_noteFx | with_reducible apply kept_foldl  | with_reducible apply kept_ite | split | dsimp only | with_reducible apply kept_mk | assumption

theorem kept_putPart (s : State) (x1 : Nat) (x2 : Nat) (x3 : List Nat) (h : Kept z s) : Kept z (putPart s x1 x2 x3) := by
  unfold putPart
  repeat' first | with_reducible assumption | intro _ | with_reducible apply links_setAt | with_reducible apply links_map | with_reducible apply kept_dropWriteback | with_reducible apply kept_inboxWatch | with_reducible apply kept_mergeFx | with_reducible apply kept_poke | with_reducible apply kept_putPoison | with_reducible apply kept_setErr | with_reducible apply kept_tagWrite | with_reducible apply kept_foldl  | with_reducible apply kept_ite | split | dsimp only | with_reducible apply kept_mk | assumption

theorem kept_storeGo (s : State) (x0 : Nat) (x2 : Nat) (x3 : List Nat) (h : Kept z s) : Kept z (storeGo x0 s x2 x3) := by
  induction x0 generalizing s x2 x3 with
  | zero => exact h
  | succ k ih =>
    unfold storeGo
    repeat' first | assumption | with_reducible apply ih | with_reducible apply kept_putLine | with_reducible apply kept_putPart | with_reducible apply kept_ite | dsimp only

theorem kept_store (s : State) (x1 : Nat) (x2 : List Nat) (h : Kept z s) : Kept z (store s x1 x2) := by
  unfold store
  repeat' first | with_reducible assumption | intro _ | with_reducible apply links_setAt | with_reducible apply links_map | with_reducible apply kept_storeGo | with_reducible apply kept_foldl  | with_reducible apply kept_ite | split | dsimp only | with_reducible apply kept_mk | assumption

theorem kept_storeBrand (s : State) (x1 : Nat) (x2 : Nat) (x3 : List Nat) (h : Kept z s) : Kept z (storeBrand s x1 x2 x3).1 := by
  unfold storeBrand
  repeat' first | with_reducible assumption | intro _ | with_reducible apply links_setAt | with_reducible apply links_map | with_reducible apply kept_deny | with_reducible apply kept_store | with_reducible apply kept_foldl  | with_reducible apply kept_foldl_fst | with_reducible apply kept_foldl_snd | with_reducible apply kept_ite_fst | with_reducible apply kept_ite_snd | with_reducible apply kept_ite | split | dsimp only | with_reducible apply kept_mk | assumption

theorem kept_asyCrc (s : State) (x1 : Nat) (h : Kept z s) : Kept z (asyCrc s x1) := by
  exact kept_sameMem h rfl rfl rfl rfl rfl rfl rfl

theorem kept_asyStore (s : State) (x1 : Nat) (x2 : List Nat) (h : Kept z s) : Kept z (asyStore s x1 x2) := by
  unfold asyStore
  repeat' first | with_reducible assumption | intro _ | with_reducible apply links_setAt | with_reducible apply links_map | with_reducible apply kept_asyCrc | with_reducible apply kept_store | with_reducible apply kept_foldl  | with_reducible apply kept_ite | split | dsimp only | with_reducible apply kept_mk | assumption

theorem kept_bumpsFx (s : State) (x1 : List (Fld × Nat)) (h : Kept z s) : Kept z (bumpsFx s x1) := by
  unfold bumpsFx
  repeat' first | with_reducible assumption | intro _ | with_reducible apply links_setAt | with_reducible apply links_map | with_reducible apply kept_bump | with_reducible apply kept_foldl  | with_reducible apply kept_ite | split | dsimp only | with_reducible apply kept_mk | assumption

theorem kept_setsFx (s : State) (x1 : List (Fld × Nat)) (h : Kept z s) : Kept z (setsFx s x1) := by
  unfold setsFx
  repeat' first | with_reducible assumption | intro _ | with_reducible apply links_setAt | with_reducible apply links_map | with_reducible apply kept_setF | with_reducible apply kept_foldl  | with_reducible apply kept_ite | split | dsimp only | with_reducible apply kept_mk | assumption

theorem kept_faultsFx (s : State) (x1 : List (Nat × Nat × Nat × Nat)) (h : Kept z s) : Kept z (faultsFx s x1) := by
  unfold faultsFx
  repeat' first | with_reducible assumption | intro _ | with_reducible apply links_setAt | with_reducible apply links_map | with_reducible apply kept_sendFault | with_reducible apply kept_foldl  | with_reducible apply kept_ite | split | dsimp only | with_reducible apply kept_mk | assumption

theorem kept_writeAll (s : State) (x1 : Nat) (x2 : List (Nat × List Nat)) (h : Kept z s) : Kept z (writeAll s x1 x2).1 := by
  unfold writeAll
  refine kept_foldl_fst _ _ _ h (fun a p k => ?_)
  unfold writeOne
  exact kept_storeBrand _ _ _ _ k

theorem kept_writesFx (s : State) (x1 : Nat) (x2 : List (Nat × List Nat)) (h : Kept z s) : Kept z (writesFx s x1 x2) := by
  unfold writesFx
  repeat' first | with_reducible assumption | intro _ | with_reducible apply links_setAt | with_reducible apply links_map | with_reducible apply kept_writeAll | with_reducible apply kept_foldl  | with_reducible apply kept_foldl_fst | with_reducible apply kept_foldl_snd | with_reducible apply kept_ite_fst | with_reducible apply kept_ite_snd | with_reducible apply kept_ite | split | dsimp only | with_reducible apply kept_mk | assumption

theorem kept_heatFlag (s : State) (x1 : Nat) (h : Kept z s) : Kept z (heatFlag s x1) := by
  unfold heatFlag
  repeat' first | with_reducible assumption | intro _ | with_reducible apply links_setAt | with_reducible apply links_map | with_reducible apply kept_poke | with_reducible apply kept_foldl  | with_reducible apply kept_ite | split | dsimp only | with_reducible apply kept_mk | assumption

theorem kept_applyWork (s : State) (x1 : Nat) (x2 : Work) (h : Kept z s) : Kept z (applyWork s x1 x2) := by
  unfold applyWork
  repeat' first | with_reducible assumption | intro _ | with_reducible apply links_setAt | with_reducible apply links_map | with_reducible apply kept_bumpsFx | with_reducible apply kept_faultsFx | with_reducible apply kept_notesFx | with_reducible apply kept_setsFx | with_reducible apply kept_writesFx | with_reducible apply kept_foldl  | with_reducible apply kept_ite | split | dsimp only | with_reducible apply kept_mk | assumption

end Sys2Proof.Machine
end

