-- ==== Sys2Proof/Laws/KeptLinks.lean ====
section
/-! SUPPORT. Every operation of Machine/Links.lean keeps the canonical form and the queue. -/

namespace Sys2Proof.Machine

variable {z : State}

theorem kept_setLnk (s : State) (x1 : Nat) (x2 : Link) (h : Kept z s) : Kept z (setLnk s x1 x2) := by
  unfold setLnk
  repeat' first | with_reducible assumption | intro _ | with_reducible apply links_setAt | with_reducible apply links_map | with_reducible apply kept_foldl  | with_reducible apply kept_ite | split | dsimp only | with_reducible apply kept_mk | assumption

theorem kept_pump (s : State) (x1 : Nat) (h : Kept z s) : Kept z (pump s x1) := by
  unfold pump
  repeat' first | with_reducible assumption | intro _ | with_reducible apply links_setAt | with_reducible apply links_map | with_reducible apply kept_setLnk | with_reducible apply kept_foldl  | with_reducible apply kept_ite | split | dsimp only | with_reducible apply kept_mk | assumption

theorem kept_sendCtl (s : State) (x1 : Nat) (x2 : Nat) (h : Kept z s) : Kept z (sendCtl s x1 x2) := by
  unfold sendCtl
  repeat' first | with_reducible assumption | intro _ | with_reducible apply links_setAt | with_reducible apply links_map | with_reducible apply kept_setLnk | with_reducible apply kept_foldl  | with_reducible apply kept_ite | split | dsimp only | with_reducible apply kept_mk | assumption

theorem kept_sendMsg (s : State) (x1 : Nat) (x2 : List Nat) (x3 : List (List Nat)) (h : Kept z s) : Kept z (sendMsg s x1 x2 x3) := by
  unfold sendMsg
  repeat' first | with_reducible assumption | intro _ | with_reducible apply links_setAt | with_reducible apply links_map | with_reducible apply kept_pump | with_reducible apply kept_setLnk | with_reducible apply kept_foldl  | with_reducible apply kept_ite | split | dsimp only | with_reducible apply kept_mk | assumption

theorem kept_sendTo (s : State) (x1 : Nat) (x2 : List Nat) (x3 : List (List Nat)) (h : Kept z s) : Kept z (sendTo s x1 x2 x3) := by
  unfold sendTo
  repeat' first | with_reducible assumption | intro _ | with_reducible apply links_setAt | with_reducible apply links_map | with_reducible apply kept_sendMsg | with_reducible apply kept_foldl  | with_reducible apply kept_ite | split | dsimp only | with_reducible apply kept_mk | assumption

theorem kept_sendSync (s : State) (x1 : Nat) (x2 : Nat) (x3 : Nat) (x4 : Nat) (h : Kept z s) : Kept z (sendSync s x1 x2 x3 x4) := by
  unfold sendSync
  repeat' first | with_reducible assumption | intro _ | with_reducible apply links_setAt | with_reducible apply links_map | with_reducible apply kept_sendTo | with_reducible apply kept_foldl  | with_reducible apply kept_ite | split | dsimp only | with_reducible apply kept_mk | assumption

theorem kept_sendSyncAll (s : State) (x1 : Nat) (x2 : Nat) (x3 : Nat) (h : Kept z s) : Kept z (sendSyncAll s x1 x2 x3) := by
  unfold sendSyncAll
  repeat' first | with_reducible assumption | intro _ | with_reducible apply links_setAt | with_reducible apply links_map | with_reducible apply kept_sendSync | with_reducible apply kept_foldl  | with_reducible apply kept_ite | split | dsimp only | with_reducible apply kept_mk | assumption

theorem kept_forward (s : State) (x1 : List Nat) (x2 : List (List Nat)) (h : Kept z s) : Kept z (forward s x1 x2) := by
  unfold forward
  repeat' first | with_reducible assumption | intro _ | with_reducible apply links_setAt | with_reducible apply links_map | with_reducible apply kept_sendTo | with_reducible apply kept_foldl  | with_reducible apply kept_ite | split | dsimp only | with_reducible apply kept_mk | assumption

theorem kept_takeMsg (s : State) (x1 : Nat) (x2 : List Nat) (x3 : List (List Nat)) (h : Kept z s) : Kept z (takeMsg s x1 x2 x3) := by
  unfold takeMsg
  repeat' first | with_reducible assumption | intro _ | with_reducible apply links_setAt | with_reducible apply links_map | with_reducible apply kept_sendCtl | with_reducible apply kept_setLnk | with_reducible apply kept_foldl  | with_reducible apply kept_ite | split | dsimp only | with_reducible apply kept_mk | assumption

theorem kept_noteSync (s : State) (x1 : Nat) (h : Kept z s) : Kept z (noteSync s x1) := by
  unfold noteSync
  repeat' first | with_reducible assumption | intro _ | with_reducible apply links_setAt | with_reducible apply links_map | with_reducible apply kept_setLnk | with_reducible apply kept_foldl  | with_reducible apply kept_ite | split | dsimp only | with_reducible apply kept_mk | assumption

theorem kept_syncDown (s : State) (x1 : List Nat) (h : Kept z s) : Kept z (syncDown s x1) := by
  unfold syncDown
  repeat' first | with_reducible assumption | intro _ | with_reducible apply links_setAt | with_reducible apply links_map | with_reducible apply kept_noteSync | with_reducible apply kept_takeMsg | with_reducible apply kept_foldl  | with_reducible apply kept_ite | split | dsimp only | with_reducible apply kept_mk | assumption

theorem kept_retrainCause (s : State) (x1 : Nat) (h : Kept z s) : Kept z (retrainCause s x1) := by
  unfold retrainCause
  repeat' first | with_reducible assumption | intro _ | with_reducible apply links_setAt | with_reducible apply links_map | with_reducible apply kept_setF | with_reducible apply kept_setLnk | with_reducible apply kept_foldl  | with_reducible apply kept_ite | split | dsimp only | with_reducible apply kept_mk | assumption

theorem kept_replay (s : State) (x1 : Nat) (h : Kept z s) : Kept z (replay s x1) := by
  unfold replay
  repeat' first | with_reducible assumption | intro _ | with_reducible apply links_setAt | with_reducible apply links_map | with_reducible apply kept_retrainCause | with_reducible apply kept_setLnk | with_reducible apply kept_foldl  | with_reducible apply kept_ite | split | dsimp only | with_reducible apply kept_mk | assumption

theorem kept_controlFx (s : State) (x1 : Nat) (x2 : List Nat) (h : Kept z s) : Kept z (controlFx s x1 x2) := by
  unfold controlFx
  repeat' first | with_reducible assumption | intro _ | with_reducible apply links_setAt | with_reducible apply links_map | with_reducible apply kept_pump | with_reducible apply kept_replay | with_reducible apply kept_setLnk | with_reducible apply kept_foldl  | with_reducible apply kept_ite | split | dsimp only | with_reducible apply kept_mk | assumption

theorem kept_dataFx (s : State) (x1 : Nat) (x2 : List Nat) (h : Kept z s) : Kept z (dataFx s x1 x2) := by
  unfold dataFx
  repeat' first | with_reducible assumption | intro _ | with_reducible apply links_setAt | with_reducible apply links_map | with_reducible apply kept_sendCtl | with_reducible apply kept_sendFault | with_reducible apply kept_setLnk | with_reducible apply kept_foldl  | with_reducible apply kept_ite | split | dsimp only | with_reducible apply kept_mk | assumption

theorem kept_badFx (s : State) (x1 : Nat) (h : Kept z s) : Kept z (badFx s x1) := by
  unfold badFx
  repeat' first | with_reducible assumption | intro _ | with_reducible apply links_setAt | with_reducible apply links_map | with_reducible apply kept_bump | with_reducible apply kept_sendCtl | with_reducible apply kept_setLnk | with_reducible apply kept_foldl  | with_reducible apply kept_ite | split | dsimp only | with_reducible apply kept_mk | assumption

theorem kept_receiveFrame (s : State) (x1 : Nat) (x2 : List Nat) (h : Kept z s) : Kept z (receiveFrame s x1 x2) := by
  unfold receiveFrame
  repeat' first | with_reducible assumption | intro _ | with_reducible apply links_setAt | with_reducible apply links_map | with_reducible apply kept_badFx | with_reducible apply kept_controlFx | with_reducible apply kept_dataFx | with_reducible apply kept_foldl  | with_reducible apply kept_ite | split | dsimp only | with_reducible apply kept_mk | assumption

end Sys2Proof.Machine
end

