-- ==== Sys2Proof/Laws/KeptTabor.lean ====
section
/-! SUPPORT. Every operation of Machine/Tabor.lean keeps the canonical form and the queue. -/

namespace Sys2Proof.Machine

variable {z : State}

theorem kept_updTab (s : State) (x1 : Tabor → Tabor) (h : Kept z s) : Kept z (updTab s x1) := by
  unfold updTab
  repeat' first | with_reducible assumption | intro _ | with_reducible apply links_setAt | with_reducible apply links_map | with_reducible apply kept_sendFault | with_reducible apply kept_setF | with_reducible apply kept_foldl  | with_reducible apply kept_ite | split | dsimp only | with_reducible apply kept_mk | assumption

theorem kept_setTask (s : State) (x1 : Task) (h : Kept z s) : Kept z (setTask s x1) := by
  unfold setTask
  repeat' first | with_reducible assumption | intro _ | with_reducible apply links_setAt | with_reducible apply links_map | with_reducible apply kept_updTab | with_reducible apply kept_foldl  | with_reducible apply kept_ite | split | dsimp only | with_reducible apply kept_mk | assumption

theorem kept_noteDepth (s : State) (x1 : Nat) (h : Kept z s) : Kept z (noteDepth s x1) := by
  unfold noteDepth
  repeat' first | with_reducible assumption | intro _ | with_reducible apply links_setAt | with_reducible apply links_map | with_reducible apply kept_high | with_reducible apply kept_foldl  | with_reducible apply kept_ite | split | dsimp only | with_reducible apply kept_mk | assumption

theorem kept_ringDoorbell (s : State) (x1 : Nat) (x2 : Nat) (x3 : Nat) (h : Kept z s) : Kept z (ringDoorbell s x1 x2 x3).1 := by
  unfold ringDoorbell
  repeat' first | with_reducible assumption | intro _ | with_reducible apply links_setAt | with_reducible apply links_map | with_reducible apply kept_bump | with_reducible apply kept_noteDepth | with_reducible apply kept_sendFault | with_reducible apply kept_setF | with_reducible apply kept_foldl  | with_reducible apply kept_foldl_fst | with_reducible apply kept_foldl_snd | with_reducible apply kept_ite_fst | with_reducible apply kept_ite_snd | with_reducible apply kept_ite | split | dsimp only | with_reducible apply kept_mk | assumption

theorem kept_noteCq (s : State) (x1 : Nat) (h : Kept z s) : Kept z (noteCq s x1) := by
  unfold noteCq
  repeat' first | with_reducible assumption | intro _ | with_reducible apply links_setAt | with_reducible apply links_map | with_reducible apply kept_setF | with_reducible apply kept_foldl  | with_reducible apply kept_ite | split | dsimp only | with_reducible apply kept_mk | assumption

theorem kept_busyFx (s : State) (x1 : Nat) (x2 : Nat) (x3 : Bool) (x4 : Nat) (x5 : Bool) (h : Kept z s) : Kept z (busyFx s x1 x2 x3 x4 x5) := by
  unfold busyFx
  repeat' first | with_reducible assumption | intro _ | with_reducible apply links_setAt | with_reducible apply links_map | with_reducible apply kept_setF | with_reducible apply kept_foldl  | with_reducible apply kept_ite | split | dsimp only | with_reducible apply kept_mk | assumption

theorem kept_showSwage (s : State) (x1 : Nat) (h : Kept z s) : Kept z (showSwage s x1) := by
  unfold showSwage
  repeat' first | with_reducible assumption | intro _ | with_reducible apply links_setAt | with_reducible apply links_map | with_reducible apply kept_setF | with_reducible apply kept_foldl  | with_reducible apply kept_ite | split | dsimp only | with_reducible apply kept_mk | assumption

theorem kept_noteStrike (s : State) (x1 : Option Nat) (h : Kept z s) : Kept z (noteStrike s x1) := by
  unfold noteStrike
  repeat' first | with_reducible assumption | intro _ | with_reducible apply links_setAt | with_reducible apply links_map | with_reducible apply kept_showSwage | with_reducible apply kept_foldl  | with_reducible apply kept_ite | split | dsimp only | with_reducible apply kept_mk | assumption

theorem kept_showTask (s : State) (x1 : Nat) (x2 : Nat) (x3 : Task) (h : Kept z s) : Kept z (showTask s x1 x2 x3) := by
  unfold showTask
  repeat' first | with_reducible assumption | intro _ | with_reducible apply links_setAt | with_reducible apply links_map | with_reducible apply kept_setF | with_reducible apply kept_foldl  | with_reducible apply kept_ite | split | dsimp only | with_reducible apply kept_mk | assumption

theorem kept_assayIdle (s : State) (x1 : Nat) (h : Kept z s) : Kept z (assayIdle s x1) := by
  unfold assayIdle
  repeat' first | with_reducible assumption | intro _ | with_reducible apply links_setAt | with_reducible apply links_map | with_reducible apply kept_setF | with_reducible apply kept_foldl  | with_reducible apply kept_ite | split | dsimp only | with_reducible apply kept_mk | assumption

theorem kept_showUnit (s : State) (x1 : Nat) (h : Kept z s) : Kept z (showUnit s x1) := by
  unfold showUnit
  repeat' first | with_reducible assumption | intro _ | with_reducible apply links_setAt | with_reducible apply links_map | with_reducible apply kept_assayIdle | with_reducible apply kept_busyFx | with_reducible apply kept_showSwage | with_reducible apply kept_showTask | with_reducible apply kept_foldl  | with_reducible apply kept_ite | split | dsimp only | with_reducible apply kept_mk | assumption

theorem kept_showAssay (s : State)  (h : Kept z s) : Kept z (showAssay s) := by
  unfold showAssay
  repeat' first | with_reducible assumption | intro _ | with_reducible apply links_setAt | with_reducible apply links_map | with_reducible apply kept_assayIdle | with_reducible apply kept_foldl  | with_reducible apply kept_ite | split | dsimp only | with_reducible apply kept_mk | assumption

theorem kept_startRun (s : State) (x1 : Task) (x2 : Nat) (x3 : Nat) (h : Kept z s) : Kept z (startRun s x1 x2 x3) := by
  unfold startRun
  repeat' first | with_reducible assumption | intro _ | with_reducible apply links_setAt | with_reducible apply links_map | with_reducible apply kept_bump | with_reducible apply kept_noteStrike | with_reducible apply kept_setTask | with_reducible apply kept_showUnit | with_reducible apply kept_foldl  | with_reducible apply kept_ite | split | dsimp only | with_reducible apply kept_mk | assumption

theorem kept_slotEmpties (s : State) (x1 : Nat) (h : Kept z s) : Kept z (slotEmpties s x1) := by
  unfold slotEmpties
  repeat' first | with_reducible assumption | intro _ | with_reducible apply links_setAt | with_reducible apply links_map | with_reducible apply kept_showUnit | with_reducible apply kept_startRun | with_reducible apply kept_foldl  | with_reducible apply kept_ite | split | dsimp only | with_reducible apply kept_mk | assumption

theorem kept_countRun (s : State) (x1 : Nat) (x2 : Task) (h : Kept z s) : Kept z (countRun s x1 x2) := by
  unfold countRun
  repeat' first | with_reducible assumption | intro _ | with_reducible apply links_setAt | with_reducible apply links_map | with_reducible apply kept_bump | with_reducible apply kept_foldl  | with_reducible apply kept_ite | split | dsimp only | with_reducible apply kept_mk | assumption

theorem kept_taskLeaves (s : State) (x1 : Nat) (x2 : Task) (h : Kept z s) : Kept z (taskLeaves s x1 x2) := by
  unfold taskLeaves
  repeat' first | with_reducible assumption | intro _ | with_reducible apply links_setAt | with_reducible apply links_map | with_reducible apply kept_bump | with_reducible apply kept_countRun | with_reducible apply kept_noteStrike | with_reducible apply kept_setTask | with_reducible apply kept_slotEmpties | with_reducible apply kept_foldl  | with_reducible apply kept_ite | split | dsimp only | with_reducible apply kept_mk | assumption

theorem kept_finishNow (s : State) (x1 : Task) (x2 : Nat) (h : Kept z s) : Kept z (finishNow s x1 x2) := by
  unfold finishNow
  repeat' first | with_reducible assumption | intro _ | with_reducible apply links_setAt | with_reducible apply links_map | with_reducible apply kept_setTask | with_reducible apply kept_foldl  | with_reducible apply kept_ite | split | dsimp only | with_reducible apply kept_mk | assumption

theorem kept_requestSwap (s : State)  (h : Kept z s) : Kept z (requestSwap s) := by
  unfold requestSwap
  repeat' first | with_reducible assumption | intro _ | with_reducible apply links_setAt | with_reducible apply links_map | with_reducible apply kept_setF | with_reducible apply kept_foldl  | with_reducible apply kept_ite | split | dsimp only | with_reducible apply kept_mk | assumption

theorem kept_enterTask (s : State) (x1 : Nat) (x2 : Nat) (x3 : List Nat) (x4 : Bool) (h : Kept z s) : Kept z (enterTask s x1 x2 x3 x4) := by
  unfold enterTask
  repeat' first | with_reducible assumption | intro _ | with_reducible apply links_setAt | with_reducible apply links_map | with_reducible apply kept_bump | with_reducible apply kept_high | with_reducible apply kept_requestSwap | with_reducible apply kept_sendFault | with_reducible apply kept_updTab | with_reducible apply kept_foldl  | with_reducible apply kept_ite | split | dsimp only | with_reducible apply kept_mk | assumption

theorem kept_noteStop (s : State) (x1 : Nat) (x2 : Nat) (h : Kept z s) : Kept z (noteStop s x1 x2) := by
  unfold noteStop
  repeat' first | with_reducible assumption | intro _ | with_reducible apply links_setAt | with_reducible apply links_map | with_reducible apply kept_setF | with_reducible apply kept_foldl  | with_reducible apply kept_ite | split | dsimp only | with_reducible apply kept_mk | assumption

theorem kept_injectGolden (s : State) (x1 : List Nat) (h : Kept z s) : Kept z (injectGolden s x1) := by
  unfold injectGolden
  repeat' first | with_reducible assumption | intro _ | with_reducible apply links_setAt | with_reducible apply links_map | with_reducible apply kept_setF | with_reducible apply kept_foldl  | with_reducible apply kept_ite | split | dsimp only | with_reducible apply kept_mk | assumption

theorem kept_pumpGold (s : State)  (h : Kept z s) : Kept z (pumpGold s) := by
  unfold pumpGold
  repeat' first | with_reducible assumption | intro _ | with_reducible apply links_setAt | with_reducible apply links_map | with_reducible apply kept_injectGolden | with_reducible apply kept_foldl  | with_reducible apply kept_ite | split | dsimp only | with_reducible apply kept_mk | assumption

theorem kept_wantGold (s : State) (x1 : Nat) (x2 : Nat) (h : Kept z s) : Kept z (wantGold s x1 x2) := by
  unfold wantGold
  repeat' first | with_reducible assumption | intro _ | with_reducible apply links_setAt | with_reducible apply links_map | with_reducible apply kept_pumpGold | with_reducible apply kept_foldl  | with_reducible apply kept_ite | split | dsimp only | with_reducible apply kept_mk | assumption

theorem kept_passHead (s : State) (x1 : Nat) (x2 : Bool) (h : Kept z s) : Kept z (passHead s x1 x2) := by
  unfold passHead
  repeat' first | with_reducible assumption | intro _ | with_reducible apply links_setAt | with_reducible apply links_map | with_reducible apply kept_setF | with_reducible apply kept_foldl  | with_reducible apply kept_ite | split | dsimp only | with_reducible apply kept_mk | assumption

theorem kept_admitOffer (s : State) (x1 : Nat) (x2 : Option (List Nat) × List Note) (h : Kept z s) : Kept z (admitOffer s x1 x2) := by
  unfold admitOffer
  repeat' first | with_reducible assumption | intro _ | with_reducible apply links_setAt | with_reducible apply links_map | with_reducible apply kept_enterTask | with_reducible apply kept_noteDepth | with_reducible apply kept_noteStop | with_reducible apply kept_notesFx | with_reducible apply kept_passHead | with_reducible apply kept_pumpGold | with_reducible apply kept_foldl  | with_reducible apply kept_ite | split | dsimp only | with_reducible apply kept_mk | assumption

theorem kept_admitHead (s : State) (x0 : Option Nat) (x2 : Nat) (h : Kept z s) : Kept z (admitHead x0 s x2) := by
  unfold admitHead
  repeat' first | with_reducible assumption | intro _ | with_reducible apply links_setAt | with_reducible apply links_map | with_reducible apply kept_admitOffer | with_reducible apply kept_noteStop | with_reducible apply kept_notesFx | with_reducible apply kept_foldl  | with_reducible apply kept_ite | split | dsimp only | with_reducible apply kept_mk | assumption

theorem kept_ringEntry (s : State) (x1 : Nat) (x2 : Nat) (x3 : Fld) (x4 : List Nat) (h : Kept z s) : Kept z (ringEntry s x1 x2 x3 x4) := by
  unfold ringEntry
  repeat' first | with_reducible assumption | intro _ | with_reducible apply links_setAt | with_reducible apply links_map | with_reducible apply kept_storeBrand | with_reducible apply kept_tick | with_reducible apply kept_foldl  | with_reducible apply kept_foldl_fst | with_reducible apply kept_foldl_snd | with_reducible apply kept_ite_fst | with_reducible apply kept_ite_snd | with_reducible apply kept_ite | split | dsimp only | with_reducible apply kept_mk | assumption

theorem kept_hallmarkLog (s : State) (x1 : Nat) (x2 : Nat) (h : Kept z s) : Kept z (hallmarkLog s x1 x2) := by
  unfold hallmarkLog
  repeat' first | with_reducible assumption | intro _ | with_reducible apply links_setAt | with_reducible apply links_map | with_reducible apply kept_ringEntry | with_reducible apply kept_foldl  | with_reducible apply kept_ite | split | dsimp only | with_reducible apply kept_mk | assumption

theorem kept_release (s : State) (x1 : Task) (h : Kept z s) : Kept z (release s x1) := by
  unfold release
  repeat' first | with_reducible assumption | intro _ | with_reducible apply links_setAt | with_reducible apply links_map | with_reducible apply kept_hallmarkLog | with_reducible apply kept_noteCq | with_reducible apply kept_ringEntry | with_reducible apply kept_updTab | with_reducible apply kept_foldl  | with_reducible apply kept_ite | split | dsimp only | with_reducible apply kept_mk | assumption

theorem kept_writeTail (s : State) (x1 : Nat) (x2 : Nat) (x3 : Nat) (h : Kept z s) : Kept z (writeTail s x1 x2 x3) := by
  unfold writeTail
  repeat' first | with_reducible assumption | intro _ | with_reducible apply links_setAt | with_reducible apply links_map | with_reducible apply kept_answer | with_reducible apply kept_ringDoorbell | with_reducible apply kept_foldl  | with_reducible apply kept_foldl_fst | with_reducible apply kept_foldl_snd | with_reducible apply kept_ite_fst | with_reducible apply kept_ite_snd | with_reducible apply kept_ite | split | dsimp only | with_reducible apply kept_mk | assumption

theorem kept_writeCqHead (s : State) (x1 : Nat) (x2 : Nat) (h : Kept z s) : Kept z (writeCqHead s x1 x2) := by
  unfold writeCqHead
  repeat' first | with_reducible assumption | intro _ | with_reducible apply links_setAt | with_reducible apply links_map | with_reducible apply kept_answer | with_reducible apply kept_noteCq | with_reducible apply kept_setF | with_reducible apply kept_foldl  | with_reducible apply kept_ite | split | dsimp only | with_reducible apply kept_mk | assumption

theorem kept_skipFlow (s : State) (x1 : Nat) (h : Kept z s) : Kept z (skipFlow s x1) := by
  unfold skipFlow
  repeat' first | with_reducible assumption | intro _ | with_reducible apply links_setAt | with_reducible apply links_map | with_reducible apply kept_answer | with_reducible apply kept_sendFault | with_reducible apply kept_updTab | with_reducible apply kept_foldl  | with_reducible apply kept_ite | split | dsimp only | with_reducible apply kept_mk | assumption

theorem kept_writeInject (s : State) (x1 : Nat) (x2 : Nat) (x3 : Nat) (h : Kept z s) : Kept z (writeInject s x1 x2 x3) := by
  unfold writeInject
  repeat' first | with_reducible assumption | intro _ | with_reducible apply links_setAt | with_reducible apply links_map | with_reducible apply kept_answer | with_reducible apply kept_injectGolden | with_reducible apply kept_setF | with_reducible apply kept_foldl  | with_reducible apply kept_ite | split | dsimp only | with_reducible apply kept_mk | assumption

theorem kept_reportDrained (s : State)  (h : Kept z s) : Kept z (reportDrained s) := by
  unfold reportDrained
  repeat' first | with_reducible assumption | intro _ | with_reducible apply links_setAt | with_reducible apply links_map | with_reducible apply kept_sendSync | with_reducible apply kept_sendSyncAll | with_reducible apply kept_foldl  | with_reducible apply kept_ite | split | dsimp only | with_reducible apply kept_mk | assumption

end Sys2Proof.Machine
end

