-- ==== Sys2Proof/Laws/KeptSpares.lean ====
section
/-! SUPPORT. Every operation of Machine/Spares.lean keeps the canonical form and the queue. -/

namespace Sys2Proof.Machine

variable {z : State}

theorem kept_setUState (s : State) (x1 : Nat) (x2 : Nat) (h : Kept z s) : Kept z (setUState s x1 x2) := by
  unfold setUState
  repeat' first | with_reducible assumption | intro _ | with_reducible apply links_setAt | with_reducible apply links_map | with_reducible apply kept_setF | with_reducible apply kept_foldl  | with_reducible apply kept_ite | split | dsimp only | with_reducible apply kept_mk | assumption

theorem kept_recount (s : State) (x1 : Nat) (h : Kept z s) : Kept z (recount s x1) := by
  unfold recount
  repeat' first | with_reducible assumption | intro _ | with_reducible apply links_setAt | with_reducible apply links_map | with_reducible apply kept_setF | with_reducible apply kept_foldl  | with_reducible apply kept_ite | split | dsimp only | with_reducible apply kept_mk | assumption

theorem kept_setWhy (s : State) (x1 : Nat) (x2 : Nat) (x3 : Nat) (h : Kept z s) : Kept z (setWhy s x1 x2 x3) := by
  unfold setWhy
  repeat' first | with_reducible assumption | intro _ | with_reducible apply links_setAt | with_reducible apply links_map | with_reducible apply kept_setF | with_reducible apply kept_foldl  | with_reducible apply kept_ite | split | dsimp only | with_reducible apply kept_mk | assumption

theorem kept_noteLeave (s : State) (x1 : Nat) (x2 : Nat) (x3 : Nat) (h : Kept z s) : Kept z (noteLeave s x1 x2 x3) := by
  unfold noteLeave
  repeat' first | with_reducible assumption | intro _ | with_reducible apply links_setAt | with_reducible apply links_map | with_reducible apply kept_sendFault | with_reducible apply kept_setF | with_reducible apply kept_setWhy | with_reducible apply kept_foldl  | with_reducible apply kept_ite | split | dsimp only | with_reducible apply kept_mk | assumption

theorem kept_leaveRepro (s : State) (x1 : Nat) (x2 : Nat) (x3 : Nat) (h : Kept z s) : Kept z (leaveRepro s x1 x2 x3) := by
  unfold leaveRepro
  repeat' first | with_reducible assumption | intro _ | with_reducible apply links_setAt | with_reducible apply links_map | with_reducible apply kept_noteLeave | with_reducible apply kept_sendSync | with_reducible apply kept_sendSyncAll | with_reducible apply kept_foldl  | with_reducible apply kept_ite | split | dsimp only | with_reducible apply kept_mk | assumption

theorem kept_noteExhausted (s : State) (x1 : Nat) (x2 : Nat) (h : Kept z s) : Kept z (noteExhausted s x1 x2) := by
  unfold noteExhausted
  repeat' first | with_reducible assumption | intro _ | with_reducible apply links_setAt | with_reducible apply links_map | with_reducible apply kept_leaveRepro | with_reducible apply kept_sendFault | with_reducible apply kept_setF | with_reducible apply kept_foldl  | with_reducible apply kept_ite | split | dsimp only | with_reducible apply kept_mk | assumption

theorem kept_tendHearth (s : State) (x1 : Nat) (h : Kept z s) : Kept z (tendHearth s x1) := by
  unfold tendHearth
  repeat' first | with_reducible assumption | intro _ | with_reducible apply links_setAt | with_reducible apply links_map | with_reducible apply kept_setF | with_reducible apply kept_setUState | with_reducible apply kept_foldl  | with_reducible apply kept_ite | split | dsimp only | with_reducible apply kept_mk | assumption

theorem kept_tendHearths (s : State)  (h : Kept z s) : Kept z (tendHearths s) := by
  unfold tendHearths
  repeat' first | with_reducible assumption | intro _ | with_reducible apply links_setAt | with_reducible apply links_map | with_reducible apply kept_recount | with_reducible apply kept_tendHearth | with_reducible apply kept_foldl  | with_reducible apply kept_ite | split | dsimp only | with_reducible apply kept_mk | assumption

theorem kept_thEnd (s : State) (x1 : Nat) (x2 : Nat) (h : Kept z s) : Kept z (thEnd s x1 x2) := by
  unfold thEnd
  repeat' first | with_reducible assumption | intro _ | with_reducible apply links_setAt | with_reducible apply links_map | with_reducible apply kept_setF | with_reducible apply kept_foldl  | with_reducible apply kept_ite | split | dsimp only | with_reducible apply kept_mk | assumption

theorem kept_mapTouched (s : State)  (h : Kept z s) : Kept z (mapTouched s) := by
  unfold mapTouched
  repeat' first | with_reducible assumption | intro _ | with_reducible apply links_setAt | with_reducible apply links_map | with_reducible apply kept_sendFault | with_reducible apply kept_thEnd | with_reducible apply kept_foldl  | with_reducible apply kept_ite | split | dsimp only | with_reducible apply kept_mk | assumption

theorem kept_mapTo (s : State) (x1 : Nat) (x2 : Nat) (x3 : Nat) (h : Kept z s) : Kept z (mapTo s x1 x2 x3) := by
  unfold mapTo
  repeat' first | with_reducible assumption | intro _ | with_reducible apply links_setAt | with_reducible apply links_map | with_reducible apply kept_setF | with_reducible apply kept_setUState | with_reducible apply kept_updTab | with_reducible apply kept_foldl  | with_reducible apply kept_ite | split | dsimp only | with_reducible apply kept_mk | assumption

theorem kept_closePort (s : State) (x1 : Task) (h : Kept z s) : Kept z (closePort s x1) := by
  unfold closePort
  repeat' first | with_reducible assumption | intro _ | with_reducible apply links_setAt | with_reducible apply links_map | with_reducible apply kept_foldl  | with_reducible apply kept_ite | split | dsimp only | with_reducible apply kept_mk | assumption

theorem kept_returnTask (s : State) (x1 : Task) (h : Kept z s) : Kept z (returnTask s x1) := by
  unfold returnTask
  repeat' first | with_reducible assumption | intro _ | with_reducible apply links_setAt | with_reducible apply links_map | with_reducible apply kept_bump | with_reducible apply kept_closePort | with_reducible apply kept_countRun | with_reducible apply kept_noteStrike | with_reducible apply kept_setTask | with_reducible apply kept_foldl  | with_reducible apply kept_ite | split | dsimp only | with_reducible apply kept_mk | assumption

theorem kept_returnTasks (s : State) (x1 : Nat) (h : Kept z s) : Kept z (returnTasks s x1) := by
  unfold returnTasks
  repeat' first | with_reducible assumption | intro _ | with_reducible apply links_setAt | with_reducible apply links_map | with_reducible apply kept_returnTask | with_reducible apply kept_showUnit | with_reducible apply kept_foldl  | with_reducible apply kept_ite | split | dsimp only | with_reducible apply kept_mk | assumption

theorem kept_returnBound (s : State) (x1 : Nat) (h : Kept z s) : Kept z (returnBound s x1) := by
  unfold returnBound
  repeat' first | with_reducible assumption | intro _ | with_reducible apply links_setAt | with_reducible apply links_map | with_reducible apply kept_returnTask | with_reducible apply kept_slotEmpties | with_reducible apply kept_foldl  | with_reducible apply kept_ite | split | dsimp only | with_reducible apply kept_mk | assumption

theorem kept_leaveService (s : State) (x1 : Nat) (x2 : Bool) (h : Kept z s) : Kept z (leaveService s x1 x2) := by
  unfold leaveService
  repeat' first | with_reducible assumption | intro _ | with_reducible apply links_setAt | with_reducible apply links_map | with_reducible apply kept_bump | with_reducible apply kept_returnBound | with_reducible apply kept_returnTasks | with_reducible apply kept_setF | with_reducible apply kept_setUState | with_reducible apply kept_foldl  | with_reducible apply kept_ite | split | dsimp only | with_reducible apply kept_mk | assumption

theorem kept_substitute (s : State) (x1 : Nat) (x2 : Nat) (x3 : Nat) (h : Kept z s) : Kept z (substitute s x1 x2 x3) := by
  unfold substitute
  repeat' first | with_reducible assumption | intro _ | with_reducible apply links_setAt | with_reducible apply links_map | with_reducible apply kept_leaveRepro | with_reducible apply kept_mapTo | with_reducible apply kept_mapTouched | with_reducible apply kept_noteExhausted | with_reducible apply kept_recount | with_reducible apply kept_sendFault | with_reducible apply kept_setF | with_reducible apply kept_tendHearths | with_reducible apply kept_foldl  | with_reducible apply kept_ite | split | dsimp only | with_reducible apply kept_mk | assumption

theorem kept_fenceUnit (s : State) (x1 : Nat) (x2 : Bool) (h : Kept z s) : Kept z (fenceUnit s x1 x2) := by
  unfold fenceUnit
  repeat' first | with_reducible assumption | intro _ | with_reducible apply links_setAt | with_reducible apply links_map | with_reducible apply kept_leaveService | with_reducible apply kept_noteExhausted | with_reducible apply kept_recount | with_reducible apply kept_sendFault | with_reducible apply kept_substitute | with_reducible apply kept_tendHearths | with_reducible apply kept_foldl  | with_reducible apply kept_ite | split | dsimp only | with_reducible apply kept_mk | assumption

theorem kept_goldenFail (s : State) (x1 : Nat) (h : Kept z s) : Kept z (goldenFail s x1) := by
  unfold goldenFail
  repeat' first | with_reducible assumption | intro _ | with_reducible apply links_setAt | with_reducible apply links_map | with_reducible apply kept_fenceUnit | with_reducible apply kept_sendFault | with_reducible apply kept_foldl  | with_reducible apply kept_ite | split | dsimp only | with_reducible apply kept_mk | assumption

theorem kept_goldenNotRun (s : State)  (h : Kept z s) : Kept z (goldenNotRun s) := by
  unfold goldenNotRun
  repeat' first | with_reducible assumption | intro _ | with_reducible apply links_setAt | with_reducible apply links_map | with_reducible apply kept_goldenFail | with_reducible apply kept_foldl  | with_reducible apply kept_ite | split | dsimp only | with_reducible apply kept_mk | assumption

theorem kept_reduceOne (s : State) (x1 : Nat × Nat × Nat) (h : Kept z s) : Kept z (reduceOne s x1) := by
  unfold reduceOne
  repeat' first | with_reducible assumption | intro _ | with_reducible apply links_setAt | with_reducible apply links_map | with_reducible apply kept_mapTo | with_reducible apply kept_sendFault | with_reducible apply kept_setF | with_reducible apply kept_foldl  | with_reducible apply kept_ite | split | dsimp only | with_reducible apply kept_mk | assumption

theorem kept_countReduce (s : State)  (h : Kept z s) : Kept z (countReduce s) := by
  unfold countReduce
  repeat' first | with_reducible assumption | intro _ | with_reducible apply links_setAt | with_reducible apply links_map | with_reducible apply kept_reduceOne | with_reducible apply kept_foldl  | with_reducible apply kept_ite | split | dsimp only | with_reducible apply kept_mk | assumption

theorem kept_mapEntry (s : State) (x0 : List Nat) (x2 : Nat × Nat) (h : Kept z s) : Kept z (mapEntry x0 s x2).2 := by
  unfold mapEntry
  repeat' first | with_reducible assumption | intro _ | with_reducible apply links_setAt | with_reducible apply links_map | with_reducible apply kept_sendFault | with_reducible apply kept_setF | with_reducible apply kept_foldl  | with_reducible apply kept_foldl_fst | with_reducible apply kept_foldl_snd | with_reducible apply kept_ite_fst | with_reducible apply kept_ite_snd | with_reducible apply kept_ite | split | dsimp only | with_reducible apply kept_mk | assumption

theorem kept_followUnit (s : State) (x1 : Nat) (h : Kept z s) : Kept z (followUnit s x1) := by
  unfold followUnit
  repeat' first | with_reducible assumption | intro _ | with_reducible apply links_setAt | with_reducible apply links_map | with_reducible apply kept_mapTo | with_reducible apply kept_setUState | with_reducible apply kept_foldl  | with_reducible apply kept_ite | split | dsimp only | with_reducible apply kept_mk | assumption

theorem kept_commitMap (s : State)  (h : Kept z s) : Kept z (commitMap s) := by
  unfold commitMap
  repeat' first | with_reducible assumption | intro _ | with_reducible apply links_setAt | with_reducible apply links_map | with_reducible apply kept_followUnit | with_reducible apply kept_mapEntry | with_reducible apply kept_recount | with_reducible apply kept_setF | with_reducible apply kept_tendHearths | with_reducible apply kept_wr | with_reducible apply kept_foldl  | with_reducible apply kept_foldl_fst | with_reducible apply kept_foldl_snd | with_reducible apply kept_ite_fst | with_reducible apply kept_ite_snd | with_reducible apply kept_ite | split | dsimp only | with_reducible apply kept_mk | assumption

theorem kept_spareResumes (s : State) (x1 : Nat × Nat × Nat × Nat) (h : Kept z s) : Kept z (spareResumes s x1) := by
  unfold spareResumes
  repeat' first | with_reducible assumption | intro _ | with_reducible apply links_setAt | with_reducible apply links_map | with_reducible apply kept_bump | with_reducible apply kept_high | with_reducible apply kept_sendFault | with_reducible apply kept_setF | with_reducible apply kept_wantGold | with_reducible apply kept_foldl  | with_reducible apply kept_ite | split | dsimp only | with_reducible apply kept_mk | assumption

theorem kept_proactiveSwitch (s : State)  (h : Kept z s) : Kept z (proactiveSwitch s) := by
  unfold proactiveSwitch
  repeat' first | with_reducible assumption | intro _ | with_reducible apply links_setAt | with_reducible apply links_map | with_reducible apply kept_mapTo | with_reducible apply kept_mapTouched | with_reducible apply kept_recount | with_reducible apply kept_setF | with_reducible apply kept_setUState | with_reducible apply kept_tendHearths | with_reducible apply kept_foldl  | with_reducible apply kept_ite | split | dsimp only | with_reducible apply kept_mk | assumption

theorem kept_crossUnit (s : State) (x1 : Nat) (h : Kept z s) : Kept z (crossUnit s x1) := by
  unfold crossUnit
  repeat' first | with_reducible assumption | intro _ | with_reducible apply links_setAt | with_reducible apply links_map | with_reducible apply kept_recount | with_reducible apply kept_sendFault | with_reducible apply kept_setUState | with_reducible apply kept_foldl  | with_reducible apply kept_ite | split | dsimp only | with_reducible apply kept_mk | assumption

theorem kept_measureAges (s : State) (x1 : List Nat) (h : Kept z s) : Kept z (measureAges s x1) := by
  unfold measureAges
  repeat' first | with_reducible assumption | intro _ | with_reducible apply links_setAt | with_reducible apply links_map | with_reducible apply kept_setF | with_reducible apply kept_foldl  | with_reducible apply kept_ite | split | dsimp only | with_reducible apply kept_mk | assumption

theorem kept_writeWear (s : State)  (h : Kept z s) : Kept z (writeWear s) := by
  unfold writeWear
  repeat' first | with_reducible assumption | intro _ | with_reducible apply links_setAt | with_reducible apply links_map | with_reducible apply kept_foldl  | with_reducible apply kept_ite | split | dsimp only | with_reducible apply kept_mk | assumption

end Sys2Proof.Machine
end

