-- ==== Sys2Proof/Laws/KeptStroke.lean ====
section
/-! SUPPORT. Every operation of Machine/Stroke.lean keeps the canonical form and the queue. -/

namespace Sys2Proof.Machine

variable {z : State}

theorem kept_setSource (s : State) (x1 : Nat) (h : Kept z s) : Kept z (setSource s x1) := by
  unfold setSource
  repeat' first | with_reducible assumption | intro _ | with_reducible apply links_setAt | with_reducible apply links_map | with_reducible apply kept_setF | with_reducible apply kept_foldl  | with_reducible apply kept_ite | split | dsimp only | with_reducible apply kept_mk | assumption

theorem kept_takeSource (s : State) (x1 : Nat) (h : Kept z s) : Kept z (takeSource s x1) := by
  unfold takeSource
  repeat' first | with_reducible assumption | intro _ | with_reducible apply links_setAt | with_reducible apply links_map | with_reducible apply kept_sendFault | with_reducible apply kept_setSource | with_reducible apply kept_foldl  | with_reducible apply kept_ite | split | dsimp only | with_reducible apply kept_mk | assumption

theorem kept_computeStarts (s : State)  (h : Kept z s) : Kept z (computeStarts s) := by
  unfold computeStarts
  repeat' first | with_reducible assumption | intro _ | with_reducible apply links_setAt | with_reducible apply links_map | with_reducible apply kept_takeSource | with_reducible apply kept_foldl  | with_reducible apply kept_ite | split | dsimp only | with_reducible apply kept_mk | assumption

theorem kept_bellPulse (s : State) (x1 : Nat) (x2 : Nat) (x3 : Nat) (h : Kept z s) : Kept z (bellPulse s x1 x2 x3) := by
  unfold bellPulse
  repeat' first | with_reducible assumption | intro _ | with_reducible apply links_setAt | with_reducible apply links_map | with_reducible apply kept_foldl  | with_reducible apply kept_ite | split | dsimp only | with_reducible apply kept_mk | assumption

theorem kept_strokePulse (s : State) (x1 : Nat) (h : Kept z s) : Kept z (strokePulse s x1) := by
  unfold strokePulse
  repeat' first | with_reducible assumption | intro _ | with_reducible apply links_setAt | with_reducible apply links_map | with_reducible apply kept_bellPulse | with_reducible apply kept_foldl  | with_reducible apply kept_ite | split | dsimp only | with_reducible apply kept_mk | assumption

theorem kept_dropStroke (s : State)  (h : Kept z s) : Kept z (dropStroke s) := by
  unfold dropStroke
  repeat' first | with_reducible assumption | intro _ | with_reducible apply links_setAt | with_reducible apply links_map | with_reducible apply kept_bump | with_reducible apply kept_setF | with_reducible apply kept_foldl  | with_reducible apply kept_ite | split | dsimp only | with_reducible apply kept_mk | assumption

theorem kept_beginStroke (s : State) (x1 : Nat) (h : Kept z s) : Kept z (beginStroke s x1) := by
  unfold beginStroke
  repeat' first | with_reducible assumption | intro _ | with_reducible apply links_setAt | with_reducible apply links_map | with_reducible apply kept_dropStroke | with_reducible apply kept_sendSyncAll | with_reducible apply kept_strokePulse | with_reducible apply kept_foldl  | with_reducible apply kept_ite | split | dsimp only | with_reducible apply kept_mk | assumption

theorem kept_strokeLoss (s : State)  (h : Kept z s) : Kept z (strokeLoss s) := by
  unfold strokeLoss
  repeat' first | with_reducible assumption | intro _ | with_reducible apply links_setAt | with_reducible apply links_map | with_reducible apply kept_sendFault | with_reducible apply kept_setSource | with_reducible apply kept_foldl  | with_reducible apply kept_ite | split | dsimp only | with_reducible apply kept_mk | assumption

theorem kept_endHold (s : State)  (h : Kept z s) : Kept z (endHold s) := by
  unfold endHold
  repeat' first | with_reducible assumption | intro _ | with_reducible apply links_setAt | with_reducible apply links_map | with_reducible apply kept_setF | with_reducible apply kept_foldl  | with_reducible apply kept_ite | split | dsimp only | with_reducible apply kept_mk | assumption

theorem kept_enterFlywheel (s : State) (x1 : Nat) (x2 : Nat) (h : Kept z s) : Kept z (enterFlywheel s x1 x2) := by
  unfold enterFlywheel
  repeat' first | with_reducible assumption | intro _ | with_reducible apply links_setAt | with_reducible apply links_map | with_reducible apply kept_sendFault | with_reducible apply kept_setF | with_reducible apply kept_setSource | with_reducible apply kept_strokeLoss | with_reducible apply kept_foldl  | with_reducible apply kept_ite | split | dsimp only | with_reducible apply kept_mk | assumption

theorem kept_ignoreEdge (s : State)  (h : Kept z s) : Kept z (ignoreEdge s) := by
  unfold ignoreEdge
  repeat' first | with_reducible assumption | intro _ | with_reducible apply links_setAt | with_reducible apply links_map | with_reducible apply kept_bump | with_reducible apply kept_enterFlywheel | with_reducible apply kept_foldl  | with_reducible apply kept_ite | split | dsimp only | with_reducible apply kept_mk | assumption

theorem kept_acceptEdge (s : State) (x1 : Nat) (h : Kept z s) : Kept z (acceptEdge s x1) := by
  unfold acceptEdge
  repeat' first | with_reducible assumption | intro _ | with_reducible apply links_setAt | with_reducible apply links_map | with_reducible apply kept_beginStroke | with_reducible apply kept_setF | with_reducible apply kept_foldl  | with_reducible apply kept_ite | split | dsimp only | with_reducible apply kept_mk | assumption

theorem kept_filterEdge (s : State) (x1 : Nat) (x2 : Nat) (h : Kept z s) : Kept z (filterEdge s x1 x2) := by
  unfold filterEdge
  repeat' first | with_reducible assumption | intro _ | with_reducible apply links_setAt | with_reducible apply links_map | with_reducible apply kept_acceptEdge | with_reducible apply kept_ignoreEdge | with_reducible apply kept_takeSource | with_reducible apply kept_foldl  | with_reducible apply kept_ite | split | dsimp only | with_reducible apply kept_mk | assumption

theorem kept_spoilSlot (s : State) (x1 : Nat) (h : Kept z s) : Kept z (spoilSlot s x1) := by
  unfold spoilSlot
  repeat' first | with_reducible assumption | intro _ | with_reducible apply links_setAt | with_reducible apply links_map | with_reducible apply kept_foldl  | with_reducible apply kept_ite | split | dsimp only | with_reducible apply kept_mk | assumption

theorem kept_requalify (s : State) (x1 : Nat) (h : Kept z s) : Kept z (requalify s x1) := by
  unfold requalify
  repeat' first | with_reducible assumption | intro _ | with_reducible apply links_setAt | with_reducible apply links_map | with_reducible apply kept_acceptEdge | with_reducible apply kept_endHold | with_reducible apply kept_ignoreEdge | with_reducible apply kept_sendFault | with_reducible apply kept_setF | with_reducible apply kept_setSource | with_reducible apply kept_spoilSlot | with_reducible apply kept_foldl  | with_reducible apply kept_ite | split | dsimp only | with_reducible apply kept_mk | assumption

theorem kept_followGptp (s : State) (x1 : Nat) (h : Kept z s) : Kept z (followGptp s x1) := by
  unfold followGptp
  repeat' first | with_reducible assumption | intro _ | with_reducible apply links_setAt | with_reducible apply links_map | with_reducible apply kept_foldl  | with_reducible apply kept_ite | split | dsimp only | with_reducible apply kept_mk | assumption

theorem kept_shadowMismatch (s : State)  (h : Kept z s) : Kept z (shadowMismatch s) := by
  unfold shadowMismatch
  repeat' first | with_reducible assumption | intro _ | with_reducible apply links_setAt | with_reducible apply links_map | with_reducible apply kept_sendFault | with_reducible apply kept_foldl  | with_reducible apply kept_ite | split | dsimp only | with_reducible apply kept_mk | assumption

theorem kept_swapBank (s : State)  (h : Kept z s) : Kept z (swapBank s) := by
  unfold swapBank
  repeat' first | with_reducible assumption | intro _ | with_reducible apply links_setAt | with_reducible apply links_map | with_reducible apply kept_sendFault | with_reducible apply kept_setF | with_reducible apply kept_shadowMismatch | with_reducible apply kept_foldl  | with_reducible apply kept_ite | split | dsimp only | with_reducible apply kept_mk | assumption

theorem kept_compareUnits (s : State) (x1 : Bool) (h : Kept z s) : Kept z (compareUnits s x1) := by
  unfold compareUnits
  repeat' first | with_reducible assumption | intro _ | with_reducible apply links_setAt | with_reducible apply links_map | with_reducible apply kept_shadowMismatch | with_reducible apply kept_foldl  | with_reducible apply kept_ite | split | dsimp only | with_reducible apply kept_mk | assumption

theorem kept_clearDue (s : State)  (h : Kept z s) : Kept z (clearDue s) := by
  unfold clearDue
  repeat' first | with_reducible assumption | intro _ | with_reducible apply links_setAt | with_reducible apply links_map | with_reducible apply kept_foldl  | with_reducible apply kept_ite | split | dsimp only | with_reducible apply kept_mk | assumption

theorem kept_abandonLaunches (s : State)  (h : Kept z s) : Kept z (abandonLaunches s) := by
  unfold abandonLaunches
  repeat' first | with_reducible assumption | intro _ | with_reducible apply links_setAt | with_reducible apply links_map | with_reducible apply kept_bump | with_reducible apply kept_clearDue | with_reducible apply kept_compareUnits | with_reducible apply kept_sendFault | with_reducible apply kept_foldl  | with_reducible apply kept_ite | split | dsimp only | with_reducible apply kept_mk | assumption

theorem kept_endWatch (s : State)  (h : Kept z s) : Kept z (endWatch s) := by
  unfold endWatch
  repeat' first | with_reducible assumption | intro _ | with_reducible apply links_setAt | with_reducible apply links_map | with_reducible apply kept_setF | with_reducible apply kept_foldl  | with_reducible apply kept_ite | split | dsimp only | with_reducible apply kept_mk | assumption

theorem kept_perStroke (s : State)  (h : Kept z s) : Kept z (perStroke s) := by
  unfold perStroke
  repeat' first | with_reducible assumption | intro _ | with_reducible apply links_setAt | with_reducible apply links_map | with_reducible apply kept_endWatch | with_reducible apply kept_setF | with_reducible apply kept_foldl  | with_reducible apply kept_ite | split | dsimp only | with_reducible apply kept_mk | assumption

theorem kept_announceWindow (s : State)  (h : Kept z s) : Kept z (announceWindow s) := by
  unfold announceWindow
  repeat' first | with_reducible assumption | intro _ | with_reducible apply links_setAt | with_reducible apply links_map | with_reducible apply kept_sendSync | with_reducible apply kept_foldl  | with_reducible apply kept_ite | split | dsimp only | with_reducible apply kept_mk | assumption

theorem kept_endStroke (s : State)  (h : Kept z s) : Kept z (endStroke s) := by
  unfold endStroke
  repeat' first | with_reducible assumption | intro _ | with_reducible apply links_setAt | with_reducible apply links_map | with_reducible apply kept_abandonLaunches | with_reducible apply kept_bump | with_reducible apply kept_clearDue | with_reducible apply kept_sendFault | with_reducible apply kept_foldl  | with_reducible apply kept_ite | split | dsimp only | with_reducible apply kept_mk | assumption

theorem kept_startStroke (s : State) (x1 : Nat) (x2 : Nat) (x3 : Nat) (h : Kept z s) : Kept z (startStroke s x1 x2 x3) := by
  unfold startStroke
  repeat' first | with_reducible assumption | intro _ | with_reducible apply links_setAt | with_reducible apply links_map | with_reducible apply kept_announceWindow | with_reducible apply kept_commitMap | with_reducible apply kept_countReduce | with_reducible apply kept_goldenNotRun | with_reducible apply kept_perStroke | with_reducible apply kept_reportDrained | with_reducible apply kept_setF | with_reducible apply kept_swapBank | with_reducible apply kept_foldl  | with_reducible apply kept_ite | split | dsimp only | with_reducible apply kept_mk | assumption

theorem kept_newStroke (s : State) (x1 : Nat) (x2 : Nat) (x3 : Nat) (h : Kept z s) : Kept z (newStroke s x1 x2 x3) := by
  unfold newStroke
  repeat' first | with_reducible assumption | intro _ | with_reducible apply links_setAt | with_reducible apply links_map | with_reducible apply kept_endStroke | with_reducible apply kept_startStroke | with_reducible apply kept_foldl  | with_reducible apply kept_ite | split | dsimp only | with_reducible apply kept_mk | assumption

theorem kept_setMode (s : State) (x1 : Nat) (h : Kept z s) : Kept z (setMode s x1) := by
  unfold setMode
  repeat' first | with_reducible assumption | intro _ | with_reducible apply links_setAt | with_reducible apply links_map | with_reducible apply kept_setF | with_reducible apply kept_foldl  | with_reducible apply kept_ite | split | dsimp only | with_reducible apply kept_mk | assumption

theorem kept_enterRepro (s : State) (x1 : Nat) (x2 : Nat) (x3 : Nat) (h : Kept z s) : Kept z (enterRepro s x1 x2 x3) := by
  unfold enterRepro
  repeat' first | with_reducible assumption | intro _ | with_reducible apply links_setAt | with_reducible apply links_map | with_reducible apply kept_endStroke | with_reducible apply kept_sendSyncAll | with_reducible apply kept_setMode | with_reducible apply kept_startStroke | with_reducible apply kept_updTab | with_reducible apply kept_foldl  | with_reducible apply kept_ite | split | dsimp only | with_reducible apply kept_mk | assumption

theorem kept_exitRepro (s : State) (x1 : Nat) (x2 : Nat) (x3 : Nat) (h : Kept z s) : Kept z (exitRepro s x1 x2 x3) := by
  unfold exitRepro
  repeat' first | with_reducible assumption | intro _ | with_reducible apply links_setAt | with_reducible apply links_map | with_reducible apply kept_endStroke | with_reducible apply kept_setMode | with_reducible apply kept_startStroke | with_reducible apply kept_foldl  | with_reducible apply kept_ite | split | dsimp only | with_reducible apply kept_mk | assumption

theorem kept_serviceStroke (s : State) (x1 : Nat) (x2 : Nat) (x3 : Nat) (h : Kept z s) : Kept z (serviceStroke s x1 x2 x3) := by
  unfold serviceStroke
  repeat' first | with_reducible assumption | intro _ | with_reducible apply links_setAt | with_reducible apply links_map | with_reducible apply kept_newStroke | with_reducible apply kept_sendSyncAll | with_reducible apply kept_foldl  | with_reducible apply kept_ite | split | dsimp only | with_reducible apply kept_mk | assumption

theorem kept_settleEntry (s : State) (x1 : Nat) (h : Kept z s) : Kept z (settleEntry s x1) := by
  unfold settleEntry
  repeat' first | with_reducible assumption | intro _ | with_reducible apply links_setAt | with_reducible apply links_map | with_reducible apply kept_foldl  | with_reducible apply kept_ite | split | dsimp only | with_reducible apply kept_mk | assumption

theorem kept_settleShadow (s : State) (x1 : Nat) (h : Kept z s) : Kept z (settleShadow s x1) := by
  unfold settleShadow
  repeat' first | with_reducible assumption | intro _ | with_reducible apply links_setAt | with_reducible apply links_map | with_reducible apply kept_foldl  | with_reducible apply kept_ite | split | dsimp only | with_reducible apply kept_mk | assumption

theorem kept_copyList (s : State) (x1 : Nat) (h : Kept z s) : Kept z (copyList s x1).1 := by
  unfold copyList
  repeat' first | with_reducible assumption | intro _ | with_reducible apply links_setAt | with_reducible apply links_map | with_reducible apply kept_notesFx | with_reducible apply kept_storeBrand | with_reducible apply kept_foldl  | with_reducible apply kept_foldl_fst | with_reducible apply kept_foldl_snd | with_reducible apply kept_ite_fst | with_reducible apply kept_ite_snd | with_reducible apply kept_ite | split | dsimp only | with_reducible apply kept_mk | assumption

theorem kept_launchEntry (s : State) (x1 : Nat × Nat) (x2 : Nat) (h : Kept z s) : Kept z (launchEntry s x1 x2) := by
  unfold launchEntry
  repeat' first | with_reducible assumption | intro _ | with_reducible apply links_setAt | with_reducible apply links_map | with_reducible apply kept_copyList | with_reducible apply kept_high | with_reducible apply kept_reportDrained | with_reducible apply kept_sendFault | with_reducible apply kept_settleEntry | with_reducible apply kept_foldl  | with_reducible apply kept_foldl_fst | with_reducible apply kept_foldl_snd | with_reducible apply kept_ite_fst | with_reducible apply kept_ite_snd | with_reducible apply kept_ite | split | dsimp only | with_reducible apply kept_mk | assumption

theorem kept_setTtWord (s : State) (x1 : Nat) (x2 : Nat) (x3 : Nat) (h : Kept z s) : Kept z (setTtWord s x1 x2 x3) := by
  unfold setTtWord
  repeat' first | with_reducible assumption | intro _ | with_reducible apply links_setAt | with_reducible apply links_map | with_reducible apply kept_foldl  | with_reducible apply kept_ite | split | dsimp only | with_reducible apply kept_mk | assumption

theorem kept_writeTimetable (s : State) (x1 : Nat) (x2 : Nat) (h : Kept z s) : Kept z (writeTimetable s x1 x2) := by
  unfold writeTimetable
  repeat' first | with_reducible assumption | intro _ | with_reducible apply links_setAt | with_reducible apply links_map | with_reducible apply kept_answer | with_reducible apply kept_setTtWord | with_reducible apply kept_foldl  | with_reducible apply kept_ite | split | dsimp only | with_reducible apply kept_mk | assumption

end Sys2Proof.Machine
end

