-- ==== Sys2Proof/Laws/KeptBell.lean ====
section
/-! SUPPORT. Every operation of Machine/Bell.lean keeps the canonical form and the queue. -/

namespace Sys2Proof.Machine

variable {z : State}

theorem kept_skewCheck (s : State) (x1 : Nat) (x2 : Nat) (h : Kept z s) : Kept z (skewCheck s x1 x2) := by
  unfold skewCheck
  repeat' first | with_reducible assumption | intro _ | with_reducible apply links_setAt | with_reducible apply links_map | with_reducible apply kept_sendFault | with_reducible apply kept_setF | with_reducible apply kept_foldl  | with_reducible apply kept_ite | split | dsimp only | with_reducible apply kept_mk | assumption

theorem kept_loseBell (s : State)  (h : Kept z s) : Kept z (loseBell s) := by
  unfold loseBell
  repeat' first | with_reducible assumption | intro _ | with_reducible apply links_setAt | with_reducible apply links_map | with_reducible apply kept_sendFault | with_reducible apply kept_setF | with_reducible apply kept_setSource | with_reducible apply kept_takeSource | with_reducible apply kept_foldl  | with_reducible apply kept_ite | split | dsimp only | with_reducible apply kept_mk | assumption

theorem kept_ignoreBell (s : State)  (h : Kept z s) : Kept z (ignoreBell s) := by
  unfold ignoreBell
  repeat' first | with_reducible assumption | intro _ | with_reducible apply links_setAt | with_reducible apply links_map | with_reducible apply kept_bump | with_reducible apply kept_loseBell | with_reducible apply kept_foldl  | with_reducible apply kept_ite | split | dsimp only | with_reducible apply kept_mk | assumption

theorem kept_bellStroke (s : State) (x1 : Nat) (h : Kept z s) : Kept z (bellStroke s x1) := by
  unfold bellStroke
  repeat' first | with_reducible assumption | intro _ | with_reducible apply links_setAt | with_reducible apply links_map | with_reducible apply kept_dropStroke | with_reducible apply kept_setF | with_reducible apply kept_skewCheck | with_reducible apply kept_takeSource | with_reducible apply kept_foldl  | with_reducible apply kept_ite | split | dsimp only | with_reducible apply kept_mk | assumption

theorem kept_returnCheck (s : State) (x1 : Nat) (x2 : Nat) (h : Kept z s) : Kept z (returnCheck s x1 x2) := by
  unfold returnCheck
  repeat' first | with_reducible assumption | intro _ | with_reducible apply links_setAt | with_reducible apply links_map | with_reducible apply kept_sendFault | with_reducible apply kept_setF | with_reducible apply kept_setSource | with_reducible apply kept_skewCheck | with_reducible apply kept_foldl  | with_reducible apply kept_ite | split | dsimp only | with_reducible apply kept_mk | assumption

theorem kept_takeMessage (s : State) (x1 : Nat) (x2 : Nat) (h : Kept z s) : Kept z (takeMessage s x1 x2) := by
  unfold takeMessage
  repeat' first | with_reducible assumption | intro _ | with_reducible apply links_setAt | with_reducible apply links_map | with_reducible apply kept_setF | with_reducible apply kept_foldl  | with_reducible apply kept_ite | split | dsimp only | with_reducible apply kept_mk | assumption

theorem kept_messageLate (s : State)  (h : Kept z s) : Kept z (messageLate s) := by
  unfold messageLate
  repeat' first | with_reducible assumption | intro _ | with_reducible apply links_setAt | with_reducible apply links_map | with_reducible apply kept_bump | with_reducible apply kept_sendFault | with_reducible apply kept_foldl  | with_reducible apply kept_ite | split | dsimp only | with_reducible apply kept_mk | assumption

theorem kept_edgeMessage (s : State) (x1 : Nat) (x2 : Nat) (x3 : Nat) (x4 : Nat) (h : Kept z s) : Kept z (edgeMessage s x1 x2 x3 x4) := by
  unfold edgeMessage
  repeat' first | with_reducible assumption | intro _ | with_reducible apply links_setAt | with_reducible apply links_map | with_reducible apply kept_messageLate | with_reducible apply kept_sendFault | with_reducible apply kept_skewCheck | with_reducible apply kept_takeMessage | with_reducible apply kept_foldl  | with_reducible apply kept_ite | split | dsimp only | with_reducible apply kept_mk | assumption

theorem kept_syncStroke (s : State) (x1 : Nat) (x2 : Nat) (h : Kept z s) : Kept z (syncStroke s x1 x2) := by
  unfold syncStroke
  repeat' first | with_reducible assumption | intro _ | with_reducible apply links_setAt | with_reducible apply links_map | with_reducible apply kept_dropStroke | with_reducible apply kept_foldl  | with_reducible apply kept_ite | split | dsimp only | with_reducible apply kept_mk | assumption

theorem kept_strokeMessage (s : State) (x1 : Nat) (x2 : Nat) (x3 : Nat) (h : Kept z s) : Kept z (strokeMessage s x1 x2 x3) := by
  unfold strokeMessage
  repeat' first | with_reducible assumption | intro _ | with_reducible apply links_setAt | with_reducible apply links_map | with_reducible apply kept_edgeMessage | with_reducible apply kept_returnCheck | with_reducible apply kept_syncStroke | with_reducible apply kept_foldl  | with_reducible apply kept_ite | split | dsimp only | with_reducible apply kept_mk | assumption

theorem kept_calibrate (s : State)  (h : Kept z s) : Kept z (calibrate s) := by
  unfold calibrate
  repeat' first | with_reducible assumption | intro _ | with_reducible apply links_setAt | with_reducible apply links_map | with_reducible apply kept_fresh | with_reducible apply kept_sendFault | with_reducible apply kept_setF | with_reducible apply kept_foldl  | with_reducible apply kept_foldl_fst | with_reducible apply kept_foldl_snd | with_reducible apply kept_ite_fst | with_reducible apply kept_ite_snd | with_reducible apply kept_ite | split | dsimp only | with_reducible apply kept_mk | assumption

end Sys2Proof.Machine
end

