-- ==== Sys2Proof/Laws/KeptWorld.lean ====
section
/-! SUPPORT. Every operation of Machine/World.lean keeps the canonical form and the queue. -/

namespace Sys2Proof.Machine

variable {z : State}

theorem kept_initImage (s : State) (x1 : Nat) (h : Kept z s) : Kept z (initImage s x1) := by
  unfold initImage
  repeat' first | with_reducible assumption | intro _ | with_reducible apply links_setAt | with_reducible apply links_map | with_reducible apply kept_store | with_reducible apply kept_foldl  | with_reducible apply kept_ite | split | dsimp only | with_reducible apply kept_mk | assumption

theorem kept_noteChange (s : State) (x1 : Nat) (x2 : List Nat) (h : Kept z s) : Kept z (noteChange s x1 x2) := by
  unfold noteChange
  repeat' first | with_reducible assumption | intro _ | with_reducible apply links_setAt | with_reducible apply links_map | with_reducible apply kept_foldl  | with_reducible apply kept_ite | split | dsimp only | with_reducible apply kept_mk | assumption

theorem kept_rejectRecord (s : State) (x1 : Nat) (x2 : Nat) (x3 : Nat) (h : Kept z s) : Kept z (rejectRecord s x1 x2 x3) := by
  unfold rejectRecord
  repeat' first | with_reducible assumption | intro _ | with_reducible apply links_setAt | with_reducible apply links_map | with_reducible apply kept_bump | with_reducible apply kept_sendFault | with_reducible apply kept_setF | with_reducible apply kept_foldl  | with_reducible apply kept_ite | split | dsimp only | with_reducible apply kept_mk | assumption

theorem kept_compactVerts (s : State) (x1 : Nat) (h : Kept z s) : Kept z (compactVerts s x1).1 := by
  unfold compactVerts
  repeat' first | with_reducible assumption | intro _ | with_reducible apply links_setAt | with_reducible apply links_map | with_reducible apply kept_store | with_reducible apply kept_foldl  | with_reducible apply kept_foldl_fst | with_reducible apply kept_foldl_snd | with_reducible apply kept_ite_fst | with_reducible apply kept_ite_snd | with_reducible apply kept_ite | split | dsimp only | with_reducible apply kept_mk | assumption

theorem kept_allocVerts (s : State) (x1 : Nat) (x2 : Nat) (h : Kept z s) : Kept z (allocVerts s x1 x2).1 := by
  unfold allocVerts
  repeat' first | with_reducible assumption | intro _ | with_reducible apply links_setAt | with_reducible apply links_map | with_reducible apply kept_compactVerts | with_reducible apply kept_foldl  | with_reducible apply kept_foldl_fst | with_reducible apply kept_foldl_snd | with_reducible apply kept_ite_fst | with_reducible apply kept_ite_snd | with_reducible apply kept_ite | split | dsimp only | with_reducible apply kept_mk | assumption

theorem kept_setPrim (s : State) (x1 : List Nat) (h : Kept z s) : Kept z (setPrim s x1) := by
  unfold setPrim
  repeat' first | with_reducible assumption | intro _ | with_reducible apply links_setAt | with_reducible apply links_map | with_reducible apply kept_allocVerts | with_reducible apply kept_noteChange | with_reducible apply kept_store | with_reducible apply kept_foldl  | with_reducible apply kept_foldl_fst | with_reducible apply kept_foldl_snd | with_reducible apply kept_ite_fst | with_reducible apply kept_ite_snd | with_reducible apply kept_ite | split | dsimp only | with_reducible apply kept_mk | assumption

theorem kept_delPrim (s : State) (x1 : Nat) (h : Kept z s) : Kept z (delPrim s x1) := by
  unfold delPrim
  repeat' first | with_reducible assumption | intro _ | with_reducible apply links_setAt | with_reducible apply links_map | with_reducible apply kept_noteChange | with_reducible apply kept_store | with_reducible apply kept_foldl  | with_reducible apply kept_ite | split | dsimp only | with_reducible apply kept_mk | assumption

theorem kept_setAgent (s : State) (x1 : List Nat) (h : Kept z s) : Kept z (setAgent s x1) := by
  unfold setAgent
  repeat' first | with_reducible assumption | intro _ | with_reducible apply links_setAt | with_reducible apply links_map | with_reducible apply kept_store | with_reducible apply kept_foldl  | with_reducible apply kept_ite | split | dsimp only | with_reducible apply kept_mk | assumption

theorem kept_delAgent (s : State) (x1 : Nat) (h : Kept z s) : Kept z (delAgent s x1) := by
  unfold delAgent
  repeat' first | with_reducible assumption | intro _ | with_reducible apply links_setAt | with_reducible apply links_map | with_reducible apply kept_store | with_reducible apply kept_foldl  | with_reducible apply kept_ite | split | dsimp only | with_reducible apply kept_mk | assumption

theorem kept_setEgo (s : State) (x1 : List Nat) (h : Kept z s) : Kept z (setEgo s x1) := by
  unfold setEgo
  repeat' first | with_reducible assumption | intro _ | with_reducible apply links_setAt | with_reducible apply links_map | with_reducible apply kept_store | with_reducible apply kept_foldl  | with_reducible apply kept_ite | split | dsimp only | with_reducible apply kept_mk | assumption

theorem kept_clearHeat (s : State)  (h : Kept z s) : Kept z (clearHeat s) := by
  unfold clearHeat
  repeat' first | with_reducible assumption | intro _ | with_reducible apply links_setAt | with_reducible apply links_map | with_reducible apply kept_delAgent | with_reducible apply kept_delPrim | with_reducible apply kept_foldl  | with_reducible apply kept_ite | split | dsimp only | with_reducible apply kept_mk | assumption

theorem kept_inconsistent (s : State)  (h : Kept z s) : Kept z (inconsistent s) := by
  unfold inconsistent
  repeat' first | with_reducible assumption | intro _ | with_reducible apply links_setAt | with_reducible apply links_map | with_reducible apply kept_heatFlag | with_reducible apply kept_sendFault | with_reducible apply kept_setF | with_reducible apply kept_foldl  | with_reducible apply kept_ite | split | dsimp only | with_reducible apply kept_mk | assumption

theorem kept_urgentDelta (s : State) (x1 : List Nat) (h : Kept z s) : Kept z (urgentDelta s x1) := by
  unfold urgentDelta
  repeat' first | with_reducible assumption | intro _ | with_reducible apply links_setAt | with_reducible apply links_map | with_reducible apply kept_asyStore | with_reducible apply kept_bump | with_reducible apply kept_heatFlag | with_reducible apply kept_inconsistent | with_reducible apply kept_poke | with_reducible apply kept_sendFault | with_reducible apply kept_setF | with_reducible apply kept_foldl  | with_reducible apply kept_ite | split | dsimp only | with_reducible apply kept_mk | assumption

theorem kept_applyRecord (s : State) (x1 : List Nat) (h : Kept z s) : Kept z (applyRecord s x1) := by
  unfold applyRecord
  repeat' first | with_reducible assumption | intro _ | with_reducible apply links_setAt | with_reducible apply links_map | with_reducible apply kept_bump | with_reducible apply kept_clearHeat | with_reducible apply kept_delAgent | with_reducible apply kept_delPrim | with_reducible apply kept_setAgent | with_reducible apply kept_setEgo | with_reducible apply kept_setPrim | with_reducible apply kept_foldl  | with_reducible apply kept_ite | split | dsimp only | with_reducible apply kept_mk | assumption

theorem kept_movedRp (s : State) (x1 : Nat) (x2 : Fetched) (h : Kept z s) : Kept z (movedRp s x1 x2) := by
  unfold movedRp
  repeat' first | with_reducible assumption | intro _ | with_reducible apply links_setAt | with_reducible apply links_map | with_reducible apply kept_setF | with_reducible apply kept_foldl  | with_reducible apply kept_ite | split | dsimp only | with_reducible apply kept_mk | assumption

theorem kept_consume (s : State) (x1 : Nat) (x2 : Fetched) (h : Kept z s) : Kept z (consume s x1 x2) := by
  unfold consume
  repeat' first | with_reducible assumption | intro _ | with_reducible apply links_setAt | with_reducible apply links_map | with_reducible apply kept_applyRecord | with_reducible apply kept_bump | with_reducible apply kept_movedRp | with_reducible apply kept_rejectRecord | with_reducible apply kept_sendFault | with_reducible apply kept_urgentDelta | with_reducible apply kept_foldl  | with_reducible apply kept_ite | split | dsimp only | with_reducible apply kept_mk | assumption

theorem kept_dmaRecord (s : State) (x1 : Nat) (x2 : List Nat) (h : Kept z s) : Kept z (dmaRecord s x1 x2).1 := by
  unfold dmaRecord
  repeat' first | with_reducible assumption | intro _ | with_reducible apply links_setAt | with_reducible apply links_map | with_reducible apply kept_setF | with_reducible apply kept_storeBrand | with_reducible apply kept_foldl  | with_reducible apply kept_foldl_fst | with_reducible apply kept_foldl_snd | with_reducible apply kept_ite_fst | with_reducible apply kept_ite_snd | with_reducible apply kept_ite | split | dsimp only | with_reducible apply kept_mk | assumption

theorem kept_dmaGo (s : State) (x0 : Nat) (x2 : Nat) (x3 : List Nat) (h : Kept z s) : Kept z (dmaGo x0 s x2 x3).1 := by
  induction x0 generalizing s x2 x3 with
  | zero => exact h
  | succ k ih =>
    unfold dmaGo
    repeat' first | with_reducible assumption | intro _ | with_reducible apply links_setAt | with_reducible apply links_map | with_reducible apply ih | with_reducible apply kept_dmaRecord | with_reducible apply kept_foldl  | with_reducible apply kept_foldl_fst | with_reducible apply kept_foldl_snd | with_reducible apply kept_ite_fst | with_reducible apply kept_ite_snd | with_reducible apply kept_ite | split | dsimp only | with_reducible apply kept_mk | assumption

theorem kept_dmaPump (s : State)  (h : Kept z s) : Kept z (dmaPump s) := by
  unfold dmaPump
  repeat' first | with_reducible assumption | intro _ | with_reducible apply links_setAt | with_reducible apply links_map | with_reducible apply kept_dmaGo | with_reducible apply kept_foldl  | with_reducible apply kept_foldl_fst | with_reducible apply kept_foldl_snd | with_reducible apply kept_ite_fst | with_reducible apply kept_ite_snd | with_reducible apply kept_ite | split | dsimp only | with_reducible apply kept_mk | assumption

theorem kept_receiveDatagram (s : State) (x1 : Nat) (x2 : List Nat) (h : Kept z s) : Kept z (receiveDatagram s x1 x2) := by
  unfold receiveDatagram
  repeat' first | with_reducible assumption | intro _ | with_reducible apply links_setAt | with_reducible apply links_map | with_reducible apply kept_dmaPump | with_reducible apply kept_fresh | with_reducible apply kept_foldl  | with_reducible apply kept_foldl_fst | with_reducible apply kept_foldl_snd | with_reducible apply kept_ite_fst | with_reducible apply kept_ite_snd | with_reducible apply kept_ite | split | dsimp only | with_reducible apply kept_mk | assumption

theorem kept_writeWp (s : State) (x1 : Nat) (x2 : Nat) (h : Kept z s) : Kept z (writeWp s x1 x2) := by
  unfold writeWp
  repeat' first | with_reducible assumption | intro _ | with_reducible apply links_setAt | with_reducible apply links_map | with_reducible apply kept_answer | with_reducible apply kept_bump | with_reducible apply kept_setF | with_reducible apply kept_foldl  | with_reducible apply kept_ite | split | dsimp only | with_reducible apply kept_mk | assumption

theorem kept_intake (s : State) (x0 : Nat → Bool) (x2 : Nat) (h : Kept z s) : Kept z (intake x0 s x2) := by
  unfold intake
  repeat' first | with_reducible assumption | intro _ | with_reducible apply links_setAt | with_reducible apply links_map | with_reducible apply kept_consume | with_reducible apply kept_dmaPump | with_reducible apply kept_notesFx | with_reducible apply kept_foldl  | with_reducible apply kept_ite | split | dsimp only | with_reducible apply kept_mk | assumption

theorem kept_staleMerges (s : State)  (h : Kept z s) : Kept z (staleMerges s) := by
  unfold staleMerges
  repeat' first | with_reducible assumption | intro _ | with_reducible apply links_setAt | with_reducible apply links_map | with_reducible apply kept_setTask | with_reducible apply kept_foldl  | with_reducible apply kept_ite | split | dsimp only | with_reducible apply kept_mk | assumption

theorem kept_pealSeal (s : State)  (h : Kept z s) : Kept z (pealSeal s) := by
  unfold pealSeal
  repeat' first | with_reducible assumption | intro _ | with_reducible apply links_setAt | with_reducible apply links_map | with_reducible apply kept_setF | with_reducible apply kept_foldl  | with_reducible apply kept_ite | split | dsimp only | with_reducible apply kept_mk | assumption

theorem kept_finishCopy (s : State)  (h : Kept z s) : Kept z (finishCopy s) := by
  unfold finishCopy
  repeat' first | with_reducible assumption | intro _ | with_reducible apply links_setAt | with_reducible apply links_map | with_reducible apply kept_store | with_reducible apply kept_foldl  | with_reducible apply kept_ite | split | dsimp only | with_reducible apply kept_mk | assumption

theorem kept_sealHeat (s : State)  (h : Kept z s) : Kept z (sealHeat s) := by
  unfold sealHeat
  repeat' first | with_reducible assumption | intro _ | with_reducible apply links_setAt | with_reducible apply links_map | with_reducible apply kept_finishCopy | with_reducible apply kept_high | with_reducible apply kept_inconsistent | with_reducible apply kept_pealSeal | with_reducible apply kept_set64 | with_reducible apply kept_setF | with_reducible apply kept_showAssay | with_reducible apply kept_staleMerges | with_reducible apply kept_store | with_reducible apply kept_foldl  | with_reducible apply kept_ite | split | dsimp only | with_reducible apply kept_mk | assumption

theorem kept_sealDeferring (s : State)  (h : Kept z s) : Kept z (sealDeferring s) := by
  unfold sealDeferring
  repeat' first | with_reducible assumption | intro _ | with_reducible apply links_setAt | with_reducible apply links_map | with_reducible apply kept_bump | with_reducible apply kept_sealHeat | with_reducible apply kept_sendFault | with_reducible apply kept_foldl  | with_reducible apply kept_ite | split | dsimp only | with_reducible apply kept_mk | assumption

end Sys2Proof.Machine
end

