-- ==== Sys2Proof/Laws/KeptEngine.lean ====
section
/-! SUPPORT. Every operation of Machine/Engine.lean keeps the canonical form and the queue. -/

namespace Sys2Proof.Machine

variable {z : State}

theorem kept_taskRan (s : State) (x1 : Task) (x2 : Nat) (x3 : Nat) (h : Kept z s) : Kept z (taskRan s x1 x2 x3) := by
  unfold taskRan
  repeat' first | with_reducible assumption | intro _ | with_reducible apply links_setAt | with_reducible apply links_map | with_reducible apply kept_setTask | with_reducible apply kept_foldl  | with_reducible apply kept_ite | split | dsimp only | with_reducible apply kept_mk | assumption

theorem kept_finishWork (s : State) (x1 : Task) (x2 : Work) (h : Kept z s) : Kept z (finishWork s x1 x2) := by
  unfold finishWork
  repeat' first | with_reducible assumption | intro _ | with_reducible apply links_setAt | with_reducible apply links_map | with_reducible apply kept_applyWork | with_reducible apply kept_taskRan | with_reducible apply kept_foldl  | with_reducible apply kept_ite | split | dsimp only | with_reducible apply kept_mk | assumption

theorem kept_engineRow (s : State) (x1 : Nat) (x2 : Nat) (x3 : List Nat) (x4 : State → Task → Work) (h : Kept z s) : Kept z (engineRow s x1 x2 x3 x4) := by
  unfold engineRow
  repeat' first | with_reducible assumption | intro _ | with_reducible apply links_setAt | with_reducible apply links_map | with_reducible apply kept_finishWork | with_reducible apply kept_foldl  | with_reducible apply kept_ite | split | dsimp only | with_reducible apply kept_mk | assumption

theorem kept_openGate (s : State) (x1 : Nat) (h : Kept z s) : Kept z (openGate s x1) := by
  unfold openGate
  repeat' first | with_reducible assumption | intro _ | with_reducible apply links_setAt | with_reducible apply links_map | with_reducible apply kept_foldl  | with_reducible apply kept_ite | split | dsimp only | with_reducible apply kept_mk | assumption

end Sys2Proof.Machine
end

