-- ==== Sys2Proof/Laws/KeptFields.lean ====
section
/-! SUPPORT. Every operation of Machine/Fields.lean keeps the canonical form and the queue. -/

namespace Sys2Proof.Machine

variable {z : State}

theorem kept_crucibleRun (s : State) (x1 : Nat) (x2 : Task) (h : Kept z s) : Kept z (crucibleRun s x1 x2) := by
  unfold crucibleRun
  repeat' first | with_reducible assumption | intro _ | with_reducible apply links_setAt | with_reducible apply links_map | with_reducible apply kept_finishWork | with_reducible apply kept_setF | with_reducible apply kept_foldl  | with_reducible apply kept_ite | split | dsimp only | with_reducible apply kept_mk | assumption

theorem kept_runCrucible (s : State) (x1 : Nat) (x2 : Nat) (h : Kept z s) : Kept z (runCrucible s x1 x2) := by
  unfold runCrucible
  repeat' first | with_reducible assumption | intro _ | with_reducible apply links_setAt | with_reducible apply links_map | with_reducible apply kept_crucibleRun | with_reducible apply kept_setF | with_reducible apply kept_foldl  | with_reducible apply kept_ite | split | dsimp only | with_reducible apply kept_mk | assumption

end Sys2Proof.Machine
end

