-- ==== Sys2Proof/Laws/KeptPeal.lean ====
section
/-! SUPPORT. Every operation of Machine/Peal.lean keeps the canonical form and the queue. -/

namespace Sys2Proof.Machine

variable {z : State}

theorem kept_partPlaced (s : State) (x1 : List Nat) (h : Kept z s) : Kept z (partPlaced s x1) := by
  unfold partPlaced
  repeat' first | with_reducible assumption | intro _ | with_reducible apply links_setAt | with_reducible apply links_map | with_reducible apply kept_foldl  | with_reducible apply kept_ite | split | dsimp only | with_reducible apply kept_mk | assumption

theorem kept_forHeat (s : State) (x1 : Nat) (h : Kept z s) : Kept z (forHeat s x1) := by
  unfold forHeat
  repeat' first | with_reducible assumption | intro _ | with_reducible apply links_setAt | with_reducible apply links_map | with_reducible apply kept_foldl  | with_reducible apply kept_ite | split | dsimp only | with_reducible apply kept_mk | assumption

theorem kept_putCost (s : State) (x1 : Nat) (x2 : Nat) (x3 : Nat) (h : Kept z s) : Kept z (putCost s x1 x2 x3) := by
  unfold putCost
  repeat' first | with_reducible assumption | intro _ | with_reducible apply links_setAt | with_reducible apply links_map | with_reducible apply kept_storeBrand | with_reducible apply kept_foldl  | with_reducible apply kept_foldl_fst | with_reducible apply kept_foldl_snd | with_reducible apply kept_ite_fst | with_reducible apply kept_ite_snd | with_reducible apply kept_ite | split | dsimp only | with_reducible apply kept_mk | assumption

theorem kept_setPhase (s : State) (x1 : Nat) (h : Kept z s) : Kept z (setPhase s x1) := by
  unfold setPhase
  repeat' first | with_reducible assumption | intro _ | with_reducible apply links_setAt | with_reducible apply links_map | with_reducible apply kept_setF | with_reducible apply kept_foldl  | with_reducible apply kept_ite | split | dsimp only | with_reducible apply kept_mk | assumption

theorem kept_startLattice (s : State) (x1 : Nat) (h : Kept z s) : Kept z (startLattice s x1) := by
  unfold startLattice
  dsimp only
  with_reducible apply kept_mk
  repeat' first | with_reducible assumption | intro _ | with_reducible apply links_setAt | with_reducible apply links_map | with_reducible apply kept_setF | with_reducible apply kept_foldl  | with_reducible apply kept_ite | split | dsimp only | with_reducible apply kept_mk | assumption

theorem kept_restart (s : State)  (h : Kept z s) : Kept z (restart s) := by
  unfold restart
  repeat' first | with_reducible assumption | intro _ | with_reducible apply links_setAt | with_reducible apply links_map | with_reducible apply kept_setPhase | with_reducible apply kept_foldl  | with_reducible apply kept_ite | split | dsimp only | with_reducible apply kept_mk | assumption

theorem kept_arrive (s : State) (x1 : Nat) (x2 : Nat) (h : Kept z s) : Kept z (arrive s x1 x2) := by
  unfold arrive
  repeat' first | with_reducible assumption | intro _ | with_reducible apply links_setAt | with_reducible apply links_map | with_reducible apply kept_restart | with_reducible apply kept_setF | with_reducible apply kept_startLattice | with_reducible apply kept_taskRan | with_reducible apply kept_foldl  | with_reducible apply kept_ite | split | dsimp only | with_reducible apply kept_mk | assumption

theorem kept_seedAll (s : State)  (h : Kept z s) : Kept z (seedAll s) := by
  unfold seedAll
  repeat' first | with_reducible assumption | intro _ | with_reducible apply links_setAt | with_reducible apply links_map | with_reducible apply kept_putCost | with_reducible apply kept_foldl  | with_reducible apply kept_ite | split | dsimp only | with_reducible apply kept_mk | assumption

theorem kept_copyAndRaise (s : State) (x1 : Nat) (h : Kept z s) : Kept z (copyAndRaise s x1) := by
  unfold copyAndRaise
  repeat' first | with_reducible assumption | intro _ | with_reducible apply links_setAt | with_reducible apply links_map | with_reducible apply kept_putCost | with_reducible apply kept_setPhase | with_reducible apply kept_foldl  | with_reducible apply kept_ite | split | dsimp only | with_reducible apply kept_mk | assumption

theorem kept_estimate (s : State)  (h : Kept z s) : Kept z (estimate s) := by
  unfold estimate
  repeat' first | with_reducible assumption | intro _ | with_reducible apply links_setAt | with_reducible apply links_map | with_reducible apply kept_putCost | with_reducible apply kept_setPhase | with_reducible apply kept_foldl  | with_reducible apply kept_ite | split | dsimp only | with_reducible apply kept_mk | assumption

theorem kept_relax (s : State) (x0 : Nat) (x1 : Nat) (x3 : Nat × Nat) (h : Kept z s) : Kept z (relax x0 x1 s x3) := by
  unfold relax
  repeat' first | with_reducible assumption | intro _ | with_reducible apply links_setAt | with_reducible apply links_map | with_reducible apply kept_putCost | with_reducible apply kept_foldl  | with_reducible apply kept_ite | split | dsimp only | with_reducible apply kept_mk | assumption

theorem kept_expandFront (s : State) (x1 : List Nat) (h : Kept z s) : Kept z (expandFront s x1) := by
  unfold expandFront
  repeat' first | with_reducible assumption | intro _ | with_reducible apply links_setAt | with_reducible apply links_map | with_reducible apply kept_relax | with_reducible apply kept_foldl  | with_reducible apply kept_ite | split | dsimp only | with_reducible apply kept_mk | assumption

theorem kept_clearMap (s : State)  (h : Kept z s) : Kept z (clearMap s) := by
  unfold clearMap
  repeat' first | with_reducible assumption | intro _ | with_reducible apply links_setAt | with_reducible apply links_map | with_reducible apply kept_writesFx | with_reducible apply kept_foldl  | with_reducible apply kept_foldl_fst | with_reducible apply kept_foldl_snd | with_reducible apply kept_ite_fst | with_reducible apply kept_ite_snd | with_reducible apply kept_ite | split | dsimp only | with_reducible apply kept_mk | assumption

theorem kept_latticeDone (s : State)  (h : Kept z s) : Kept z (latticeDone s) := by
  unfold latticeDone
  repeat' first | with_reducible assumption | intro _ | with_reducible apply links_setAt | with_reducible apply links_map | with_reducible apply kept_bump | with_reducible apply kept_clearMap | with_reducible apply kept_setF | with_reducible apply kept_taskRan | with_reducible apply kept_foldl  | with_reducible apply kept_ite | split | dsimp only | with_reducible apply kept_mk | assumption

theorem kept_firstStep (s : State)  (h : Kept z s) : Kept z (firstStep s) := by
  unfold firstStep
  repeat' first | with_reducible assumption | intro _ | with_reducible apply links_setAt | with_reducible apply links_map | with_reducible apply kept_copyAndRaise | with_reducible apply kept_notesFx | with_reducible apply kept_seedAll | with_reducible apply kept_foldl  | with_reducible apply kept_ite | split | dsimp only | with_reducible apply kept_mk | assumption

theorem kept_waveStep (s : State)  (h : Kept z s) : Kept z (waveStep s) := by
  unfold waveStep
  repeat' first | with_reducible assumption | intro _ | with_reducible apply links_setAt | with_reducible apply links_map | with_reducible apply kept_estimate | with_reducible apply kept_expandFront | with_reducible apply kept_firstStep | with_reducible apply kept_latticeDone | with_reducible apply kept_foldl  | with_reducible apply kept_ite | split | dsimp only | with_reducible apply kept_mk | assumption

theorem kept_setFrame (s : State) (x1 : Nat) (x2 : Nat) (x3 : Nat) (h : Kept z s) : Kept z (setFrame s x1 x2 x3) := by
  unfold setFrame
  repeat' first | with_reducible assumption | intro _ | with_reducible apply links_setAt | with_reducible apply links_map | with_reducible apply kept_setF | with_reducible apply kept_foldl  | with_reducible apply kept_ite | split | dsimp only | with_reducible apply kept_mk | assumption

theorem kept_selectOld (s : State)  (h : Kept z s) : Kept z (selectOld s) := by
  unfold selectOld
  repeat' first | with_reducible assumption | intro _ | with_reducible apply links_setAt | with_reducible apply links_map | with_reducible apply kept_sendFault | with_reducible apply kept_setFrame | with_reducible apply kept_foldl  | with_reducible apply kept_ite | split | dsimp only | with_reducible apply kept_mk | assumption

theorem kept_partEnded (s : State) (x1 : Task) (x2 : Nat) (h : Kept z s) : Kept z (partEnded s x1 x2) := by
  unfold partEnded
  repeat' first | with_reducible assumption | intro _ | with_reducible apply links_setAt | with_reducible apply links_map | with_reducible apply kept_forHeat | with_reducible apply kept_selectOld | with_reducible apply kept_setFrame | with_reducible apply kept_foldl  | with_reducible apply kept_ite | split | dsimp only | with_reducible apply kept_mk | assumption

theorem kept_timeUp (s : State) (x1 : Task) (h : Kept z s) : Kept z (timeUp s x1) := by
  unfold timeUp
  repeat' first | with_reducible assumption | intro _ | with_reducible apply links_setAt | with_reducible apply links_map | with_reducible apply kept_finishNow | with_reducible apply kept_partEnded | with_reducible apply kept_taskLeaves | with_reducible apply kept_foldl  | with_reducible apply kept_ite | split | dsimp only | with_reducible apply kept_mk | assumption

end Sys2Proof.Machine
end

