-- ==== Sys2Proof/Laws/KeptHammer.lean ====
section
/-! SUPPORT. Every operation of Machine/Hammer.lean keeps the canonical form and the queue. -/

namespace Sys2Proof.Machine

variable {z : State}

theorem kept_noteCut (s : State) (x1 : Nat) (h : Kept z s) : Kept z (noteCut s x1) := by
  unfold noteCut
  repeat' first | with_reducible assumption | intro _ | with_reducible apply links_setAt | with_reducible apply links_map | with_reducible apply kept_oncePerStroke | with_reducible apply kept_foldl  | with_reducible apply kept_ite | split | dsimp only | with_reducible apply kept_mk | assumption

theorem kept_runStrike (s : State) (x1 : Task) (x2 : Nat) (h : Kept z s) : Kept z (runStrike s x1 x2) := by
  unfold runStrike
  repeat' first | with_reducible assumption | intro _ | with_reducible apply links_setAt | with_reducible apply links_map | with_reducible apply kept_finishWork | with_reducible apply kept_noteCut | with_reducible apply kept_foldl  | with_reducible apply kept_ite | split | dsimp only | with_reducible apply kept_mk | assumption

theorem kept_cutOne (s : State) (x0 : List (Nat × Nat)) (x2 : Task) (h : Kept z s) : Kept z (cutOne x0 s x2) := by
  unfold cutOne
  repeat' first | with_reducible assumption | intro _ | with_reducible apply links_setAt | with_reducible apply links_map | with_reducible apply kept_runStrike | with_reducible apply kept_setTask | with_reducible apply kept_foldl  | with_reducible apply kept_ite | split | dsimp only | with_reducible apply kept_mk | assumption

end Sys2Proof.Machine
end

