-- ==== Sys2Proof/Laws/KeptQuench.lean ====
section
/-! SUPPORT. Every operation of Machine/Quench.lean keeps the canonical form and the queue. -/

namespace Sys2Proof.Machine

variable {z : State}

theorem kept_noteDeadline (s : State) (x1 : Bool) (x2 : Nat) (h : Kept z s) : Kept z (noteDeadline s x1 x2) := by
  unfold noteDeadline
  repeat' first | with_reducible assumption | intro _ | with_reducible apply links_setAt | with_reducible apply links_map | with_reducible apply kept_onceCode | with_reducible apply kept_foldl  | with_reducible apply kept_ite | split | dsimp only | with_reducible apply kept_mk | assumption

theorem kept_runRefine (s : State) (x1 : Task) (x2 : Bool) (x3 : Option (Nat × Nat)) (h : Kept z s) : Kept z (runRefine s x1 x2 x3) := by
  unfold runRefine
  repeat' first | with_reducible assumption | intro _ | with_reducible apply links_setAt | with_reducible apply links_map | with_reducible apply kept_finishWork | with_reducible apply kept_noteDeadline | with_reducible apply kept_foldl  | with_reducible apply kept_ite | split | dsimp only | with_reducible apply kept_mk | assumption

end Sys2Proof.Machine
end

