-- ==== Sys2Proof/Laws/KeptAssay.lean ====
section
/-! SUPPORT. Every operation of Machine/Assay.lean keeps the canonical form and the queue. -/

namespace Sys2Proof.Machine

variable {z : State}

theorem kept_asyFault (s : State) (x1 : Nat) (x2 : Nat) (h : Kept z s) : Kept z (asyFault s x1 x2) := by
  unfold asyFault
  repeat' first | with_reducible assumption | intro _ | with_reducible apply links_setAt | with_reducible apply links_map | with_reducible apply kept_sendFault | with_reducible apply kept_foldl  | with_reducible apply kept_ite | split | dsimp only | with_reducible apply kept_mk | assumption

theorem kept_doubt (s : State)  (h : Kept z s) : Kept z (doubt s) := by
  unfold doubt
  repeat' first | with_reducible assumption | intro _ | with_reducible apply links_setAt | with_reducible apply links_map | with_reducible apply kept_asyFault | with_reducible apply kept_setF | with_reducible apply kept_foldl  | with_reducible apply kept_ite | split | dsimp only | with_reducible apply kept_mk | assumption

theorem kept_recheckUnit (s : State) (x1 : Nat) (h : Kept z s) : Kept z (recheckUnit s x1).2 := by
  unfold recheckUnit
  repeat' first | with_reducible assumption | intro _ | with_reducible apply links_setAt | with_reducible apply links_map | with_reducible apply kept_fresh | with_reducible apply kept_foldl  | with_reducible apply kept_foldl_fst | with_reducible apply kept_foldl_snd | with_reducible apply kept_ite_fst | with_reducible apply kept_ite_snd | with_reducible apply kept_ite | split | dsimp only | with_reducible apply kept_mk | assumption

theorem kept_disagreement (s : State) (x1 : Nat) (h : Kept z s) : Kept z (disagreement s x1) := by
  unfold disagreement
  repeat' first | with_reducible assumption | intro _ | with_reducible apply links_setAt | with_reducible apply links_map | with_reducible apply kept_asyFault | with_reducible apply kept_fenceUnit | with_reducible apply kept_recheckUnit | with_reducible apply kept_sendFault | with_reducible apply kept_setF | with_reducible apply kept_wantGold | with_reducible apply kept_foldl  | with_reducible apply kept_foldl_fst | with_reducible apply kept_foldl_snd | with_reducible apply kept_ite_fst | with_reducible apply kept_ite_snd | with_reducible apply kept_ite | split | dsimp only | with_reducible apply kept_mk | assumption

theorem kept_loadCopy (s : State) (x1 : Nat) (x2 : Nat) (x3 : Nat) (x4 : Nat) (h : Kept z s) : Kept z (loadCopy s x1 x2 x3 x4).1 := by
  unfold loadCopy
  repeat' first | with_reducible assumption | intro _ | with_reducible apply links_setAt | with_reducible apply links_map | with_reducible apply kept_asyStore | with_reducible apply kept_bump | with_reducible apply kept_notesFx | with_reducible apply kept_foldl  | with_reducible apply kept_foldl_fst | with_reducible apply kept_foldl_snd | with_reducible apply kept_ite_fst | with_reducible apply kept_ite_snd | with_reducible apply kept_ite | split | dsimp only | with_reducible apply kept_mk | assumption

theorem kept_recordVerdict (s : State) (x1 : Verdict) (h : Kept z s) : Kept z (recordVerdict s x1) := by
  unfold recordVerdict
  repeat' first | with_reducible assumption | intro _ | with_reducible apply links_setAt | with_reducible apply links_map | with_reducible apply kept_asyStore | with_reducible apply kept_foldl  | with_reducible apply kept_ite | split | dsimp only | with_reducible apply kept_mk | assumption

theorem kept_countVerdict (s : State) (x1 : Verdict) (h : Kept z s) : Kept z (countVerdict s x1) := by
  unfold countVerdict
  repeat' first | with_reducible assumption | intro _ | with_reducible apply links_setAt | with_reducible apply links_map | with_reducible apply kept_bump | with_reducible apply kept_foldl  | with_reducible apply kept_ite | split | dsimp only | with_reducible apply kept_mk | assumption

theorem kept_noteCheck (s : State) (x1 : ACheck) (x2 : Nat) (h : Kept z s) : Kept z (noteCheck s x1 x2) := by
  unfold noteCheck
  repeat' first | with_reducible assumption | intro _ | with_reducible apply links_setAt | with_reducible apply links_map | with_reducible apply kept_bump | with_reducible apply kept_countVerdict | with_reducible apply kept_doubt | with_reducible apply kept_notesFx | with_reducible apply kept_recordVerdict | with_reducible apply kept_foldl  | with_reducible apply kept_ite | split | dsimp only | with_reducible apply kept_mk | assumption

theorem kept_assayCarry (s : State) (x1 : Nat) (x2 : List Nat) (h : Kept z s) : Kept z (assayCarry s x1 x2) := by
  unfold assayCarry
  repeat' first | with_reducible assumption | intro _ | with_reducible apply links_setAt | with_reducible apply links_map | with_reducible apply kept_asyStore | with_reducible apply kept_noteCheck | with_reducible apply kept_foldl  | with_reducible apply kept_ite | split | dsimp only | with_reducible apply kept_mk | assumption

theorem kept_orderFx (s : State) (x1 : Nat) (x2 : Nat) (x3 : Verdict) (h : Kept z s) : Kept z (orderFx s x1 x2 x3) := by
  unfold orderFx
  repeat' first | with_reducible assumption | intro _ | with_reducible apply links_setAt | with_reducible apply links_map | with_reducible apply kept_asyFault | with_reducible apply kept_disagreement | with_reducible apply kept_foldl  | with_reducible apply kept_ite | split | dsimp only | with_reducible apply kept_mk | assumption

theorem kept_orderOne (s : State) (x1 : List Nat) (x2 : Nat) (h : Kept z s) : Kept z (orderOne s x1 x2) := by
  unfold orderOne
  repeat' first | with_reducible assumption | intro _ | with_reducible apply links_setAt | with_reducible apply links_map | with_reducible apply kept_asyFault | with_reducible apply kept_noteCheck | with_reducible apply kept_orderFx | with_reducible apply kept_foldl  | with_reducible apply kept_ite | split | dsimp only | with_reducible apply kept_mk | assumption

theorem kept_orderGo (s : State) (x0 : List Nat) (x1 : Nat) (h : Kept z s) : Kept z (orderGo x0 x1 s) := by
  induction x1 generalizing x0 s with
  | zero => exact h
  | succ k ih =>
    unfold orderGo
    repeat' first | with_reducible assumption | intro _ | with_reducible apply links_setAt | with_reducible apply links_map | with_reducible apply ih | with_reducible apply kept_orderOne | with_reducible apply kept_foldl  | with_reducible apply kept_ite | split | dsimp only | with_reducible apply kept_mk | assumption

theorem kept_copyPlans (s : State) (x1 : Nat) (x2 : List Nat) (h : Kept z s) : Kept z (copyPlans s x1 x2) := by
  unfold copyPlans
  repeat' first | with_reducible assumption | intro _ | with_reducible apply links_setAt | with_reducible apply links_map | with_reducible apply kept_asyFault | with_reducible apply kept_asyStore | with_reducible apply kept_loadCopy | with_reducible apply kept_notesFx | with_reducible apply kept_setErr | with_reducible apply kept_foldl  | with_reducible apply kept_foldl_fst | with_reducible apply kept_foldl_snd | with_reducible apply kept_ite_fst | with_reducible apply kept_ite_snd | with_reducible apply kept_ite | split | dsimp only | with_reducible apply kept_mk | assumption

theorem kept_assayTask (s : State) (x1 : Task) (h : Kept z s) : Kept z (assayTask s x1) := by
  unfold assayTask
  repeat' first | with_reducible assumption | intro _ | with_reducible apply links_setAt | with_reducible apply links_map | with_reducible apply kept_assayCarry | with_reducible apply kept_copyPlans | with_reducible apply kept_orderGo | with_reducible apply kept_setF | with_reducible apply kept_taskRan | with_reducible apply kept_foldl  | with_reducible apply kept_ite | split | dsimp only | with_reducible apply kept_mk | assumption

theorem kept_assayGoldTask (s : State) (x1 : Task) (h : Kept z s) : Kept z (assayGoldTask s x1) := by
  unfold assayGoldTask
  repeat' first | with_reducible assumption | intro _ | with_reducible apply links_setAt | with_reducible apply links_map | with_reducible apply kept_finishWork | with_reducible apply kept_loadCopy | with_reducible apply kept_notesFx | with_reducible apply kept_setF | with_reducible apply kept_taskRan | with_reducible apply kept_foldl  | with_reducible apply kept_foldl_fst | with_reducible apply kept_foldl_snd | with_reducible apply kept_ite_fst | with_reducible apply kept_ite_snd | with_reducible apply kept_ite | split | dsimp only | with_reducible apply kept_mk | assumption

theorem kept_watchSlot (s : State) (x1 : Nat) (x2 : Nat) (x3 : Nat) (x4 : Nat) (h : Kept z s) : Kept z (watchSlot s x1 x2 x3 x4).1 := by
  unfold watchSlot
  repeat' first | with_reducible assumption | intro _ | with_reducible apply links_setAt | with_reducible apply links_map | with_reducible apply kept_asyStore | with_reducible apply kept_countVerdict | with_reducible apply kept_doubt | with_reducible apply kept_notesFx | with_reducible apply kept_foldl  | with_reducible apply kept_foldl_fst | with_reducible apply kept_foldl_snd | with_reducible apply kept_ite_fst | with_reducible apply kept_ite_snd | with_reducible apply kept_ite | split | dsimp only | with_reducible apply kept_mk | assumption

theorem kept_watchOne (s : State)  (h : Kept z s) : Kept z (watchOne s) := by
  unfold watchOne
  repeat' first | with_reducible assumption | intro _ | with_reducible apply links_setAt | with_reducible apply links_map | with_reducible apply kept_orderFx | with_reducible apply kept_orderGo | with_reducible apply kept_watchSlot | with_reducible apply kept_foldl  | with_reducible apply kept_foldl_fst | with_reducible apply kept_foldl_snd | with_reducible apply kept_ite_fst | with_reducible apply kept_ite_snd | with_reducible apply kept_ite | extract_lets | split | dsimp +zetaDelta only | with_reducible apply kept_mk | assumption

theorem kept_watchAll (s : State) (x0 : Nat) (h : Kept z s) : Kept z (watchAll x0 s) := by
  induction x0 generalizing s with
  | zero => exact h
  | succ k ih =>
    unfold watchAll
    repeat' first | with_reducible assumption | intro _ | with_reducible apply links_setAt | with_reducible apply links_map | with_reducible apply ih | with_reducible apply kept_watchOne | with_reducible apply kept_foldl  | with_reducible apply kept_ite | split | dsimp only | with_reducible apply kept_mk | assumption

theorem kept_goldenAtFreeze (s : State)  (h : Kept z s) : Kept z (goldenAtFreeze s) := by
  unfold goldenAtFreeze
  repeat' first | with_reducible assumption | intro _ | with_reducible apply links_setAt | with_reducible apply links_map | with_reducible apply kept_doubt | with_reducible apply kept_goldenFail | with_reducible apply kept_foldl  | with_reducible apply kept_ite | split | dsimp only | with_reducible apply kept_mk | assumption

theorem kept_decideCase (s : State)  (h : Kept z s) : Kept z (decideCase s) := by
  unfold decideCase
  repeat' first | with_reducible assumption | intro _ | with_reducible apply links_setAt | with_reducible apply links_map | with_reducible apply kept_foldl  | with_reducible apply kept_ite | split | dsimp only | with_reducible apply kept_mk | assumption

end Sys2Proof.Machine
end

