-- ==== Sys2Proof/Laws/KeptBellows.lean ====
section
/-! SUPPORT. Every operation of Machine/Bellows.lean keeps the canonical form and the queue. -/

namespace Sys2Proof.Machine

variable {z : State}

theorem kept_remoteFail (s : State) (x1 : Nat) (h : Kept z s) : Kept z (remoteFail s x1) := by
  unfold remoteFail
  repeat' first | with_reducible assumption | intro _ | with_reducible apply links_setAt | with_reducible apply links_map | with_reducible apply kept_sendFault | with_reducible apply kept_foldl  | with_reducible apply kept_ite | split | dsimp only | with_reducible apply kept_mk | assumption

theorem kept_remoteSend (s : State) (x1 : Nat) (x2 : Nat) (x3 : Nat) (x4 : Nat) (x5 : List (List Nat)) (x6 : Remote) (h : Kept z s) : Kept z (remoteSend s x1 x2 x3 x4 x5 x6).1 := by
  unfold remoteSend
  repeat' first | with_reducible assumption | intro _ | with_reducible apply links_setAt | with_reducible apply links_map | with_reducible apply kept_remoteFail | with_reducible apply kept_sendTo | with_reducible apply kept_foldl  | with_reducible apply kept_foldl_fst | with_reducible apply kept_foldl_snd | with_reducible apply kept_ite_fst | with_reducible apply kept_ite_snd | with_reducible apply kept_ite | split | dsimp only | with_reducible apply kept_mk | assumption

theorem kept_readGo (s : State) (x0 : Nat) (x1 : Nat) (x2 : Nat) (x3 : Nat) (h : Kept z s) : Kept z (readGo x0 x1 x2 x3 s).2.2 := by
  induction x1 generalizing s x2 x3 with
  | zero => exact h
  | succ k ih =>
    unfold readGo
    dsimp only
    split
    · exact kept_notesFx _ _ h
    · exact ih _ _ _ (kept_notesFx _ _ h)

theorem kept_ite_move {c : Prop} [Decidable c] {a b : Move} (hs : Kept z a.s) (ht : Kept z b.s) :
    Kept z (if c then a else b).s := by
  split <;> assumption

theorem kept_writeGo (w : Mover) (ls : List (List Nat)) (a n : Nat) (m : Move) (h : Kept z m.s) : Kept z (writeGo w ls a n m).s := by
  induction ls generalizing a n m with
  | nil => exact h
  | cons b t ih =>
    unfold writeGo
    dsimp only
    split
    · exact ih _ _ _ (kept_bump _ _ _ (kept_storeBrand _ _ _ _ h))
    · exact kept_storeBrand _ _ _ _ h

theorem kept_wroteTo (w : Mover) (ls : List (List Nat)) (a n : Nat) (m : Move) (r : State × Bool) (h : Kept z r.1) :
    Kept z (wroteTo w ls a n m r).s :=
  kept_ite_move (kept_bump _ _ _ h) h

theorem kept_askedFor (src : Nat) (m : Move) (r : State × Bool) (h : Kept z r.1) : Kept z (askedFor src m r).s :=
  kept_ite_move h h

theorem kept_putLines (w : Mover) (ls : List (List Nat)) (a n : Nat) (m : Move) (h : Kept z m.s) : Kept z (putLines w ls a n m).s := by
  unfold putLines
  exact kept_ite_move h (kept_ite_move (kept_wroteTo _ _ _ _ _ _ (kept_remoteSend _ _ _ _ _ _ _ h)) (kept_writeGo _ _ _ _ _ h))

theorem kept_putRead (w : Mover) (src dst n : Nat) (m : Move) (r : List (List Nat) × Bool × State) (h : Kept z r.2.2) :
    Kept z (putRead w src dst n m r).s := by
  unfold putRead
  exact kept_ite_move (kept_putLines _ _ _ _ _ h) (kept_putLines _ _ _ _ _ h)

theorem kept_moveChunk (w : Mover) (src dst n : Nat) (m : Move) (h : Kept z m.s) : Kept z (moveChunk w src dst n m).s := by
  unfold moveChunk
  exact kept_ite_move (kept_askedFor _ _ _ (kept_remoteSend _ _ _ _ _ _ _ h)) (kept_putRead _ _ _ _ _ _ (kept_readGo _ _ _ _ _ h))

theorem kept_moveGo (w : Mover) (k src dst n : Nat) (m : Move) (h : Kept z m.s) : Kept z (moveGo w k src dst n m).s := by
  induction k generalizing src dst n m with
  | zero => exact h
  | succ k ih =>
    unfold moveGo
    split
    · exact h
    · exact ih _ _ _ _ (kept_moveChunk _ _ _ _ _ h)

theorem kept_moveLines (w : Mover) (src dst n : Nat) (m : Move) (h : Kept z m.s) : Kept z (moveLines w src dst n m).s :=
  kept_moveGo _ _ _ _ _ _ h

theorem kept_fillGo (w : Mover) (line : List Nat) (k dst n : Nat) (m : Move) (h : Kept z m.s) : Kept z (fillGo w line k dst n m).s := by
  induction k generalizing dst n m with
  | zero => exact h
  | succ k ih =>
    unfold fillGo
    split
    · exact h
    · exact ih _ _ _ (kept_putLines _ _ _ _ _ h)

theorem kept_bellowsFault (s : State) (x1 : Nat) (x2 : Nat) (x3 : Nat) (h : Kept z s) : Kept z (bellowsFault s x1 x2 x3) := by
  unfold bellowsFault
  repeat' first | with_reducible assumption | intro _ | with_reducible apply links_setAt | with_reducible apply links_map | with_reducible apply kept_bump | with_reducible apply kept_sendFault | with_reducible apply kept_set64 | with_reducible apply kept_foldl  | with_reducible apply kept_ite | split | dsimp only | with_reducible apply kept_mk | assumption

theorem kept_endMove (t : Task) (m : Move) (h : Kept z m.s) : Kept z (endMove t m) := by
  unfold endMove
  exact kept_taskRan _ _ _ _ (kept_ite (kept_bellowsFault _ _ _ _ h) h)

theorem kept_refuseLocal (s : State) (x1 : Task) (h : Kept z s) : Kept z (refuseLocal s x1) := by
  unfold refuseLocal
  repeat' first | with_reducible assumption | intro _ | with_reducible apply links_setAt | with_reducible apply links_map | with_reducible apply kept_bump | with_reducible apply kept_sendFault | with_reducible apply kept_taskRan | with_reducible apply kept_foldl  | with_reducible apply kept_ite | split | dsimp only | with_reducible apply kept_mk | assumption

theorem kept_copyTask (s : State) (x1 : Task) (h : Kept z s) : Kept z (copyTask s x1) := by
  unfold copyTask
  exact kept_ite (kept_refuseLocal _ _ h) (kept_endMove _ _ (kept_moveLines _ _ _ _ _ h))

theorem kept_pushHeader (w : Mover) (dst : Nat) (line : List Nat) (m : Move) (h : Kept z m.s) : Kept z (pushHeader w dst line m).s := by
  unfold pushHeader
  split
  · exact h
  · split
    · exact kept_mk m.s _ _ _ _ _ _ _ _ _ _ _ _ _ _ _ _ _ _ _ _ _ _ _ _ _ _ _ _ _ _ _ h id
    · exact kept_putLines _ _ _ _ _ h

theorem kept_pushEntries (w : Mover) (src dst aux : Nat) (hdr : List Nat) (m m' : Move) (h : Kept z m.s)
    (e : pushEntries w src dst aux hdr m = some (some m')) : Kept z m'.s := by
  unfold pushEntries at e
  dsimp only at e
  split at e
  · split at e
    · simp at e
    · simp only [Option.some.injEq] at e; subst e; exact kept_pushHeader _ _ _ _ h
  · split at e
    · simp at e
    · split at e
      · simp at e
      · simp only [Option.some.injEq] at e; subst e; exact kept_pushHeader _ _ _ _ (kept_moveLines _ _ _ _ _ h)

theorem kept_pushWith (s : State) (x1 : Task) (x2 : List Nat) (h : Kept z s) : Kept z (pushWith s x1 x2) := by
  unfold pushWith
  split
  · exact kept_taskRan _ _ _ _ h
  · exact kept_refuseLocal _ _ h
  · next e => exact kept_endMove _ _ (kept_pushEntries _ _ _ _ _ _ _ h e)

theorem kept_pushRead (s : State) (x1 : Task) (x2 : Nat) (x3 : Option (List Nat) × List Note) (h : Kept z s) : Kept z (pushRead s x1 x2 x3) := by
  unfold pushRead
  split
  · exact kept_endMove _ _ (kept_notesFx _ _ h)
  · exact kept_pushWith _ _ _ (kept_notesFx _ _ h)

theorem kept_pushAsked (t : Task) (src : Nat) (r : State × Bool) (h : Kept z r.1) : Kept z (pushAsked t src r) :=
  kept_ite (kept_taskRan _ _ _ _ h) (kept_endMove _ _ h)

theorem kept_pushTask (s : State) (x1 : Task) (h : Kept z s) : Kept z (pushTask s x1) := by
  unfold pushTask
  exact kept_ite (kept_pushAsked _ _ _ (kept_remoteSend _ _ _ _ _ _ _ h)) (kept_pushRead _ _ _ _ h)

theorem kept_bellowsGold (s : State) (x1 : Task) (h : Kept z s) : Kept z (bellowsGold s x1) := by
  unfold bellowsGold
  dsimp only
  split
  · exact kept_endMove _ _ (kept_notesFx _ _ h)
  · split
    · exact kept_endMove _ _ (kept_notesFx _ _ (kept_notesFx _ _ h))
    · split
      · exact kept_endMove _ _ (kept_notesFx _ _ (kept_moveLines _ _ _ _ _ (kept_fillGo _ _ _ _ _ _ (kept_notesFx _ _ (kept_notesFx _ _ h)))))
      · split
        · exact kept_endMove _ _ (kept_notesFx _ _ (kept_moveLines _ _ _ _ _ (kept_fillGo _ _ _ _ _ _ (kept_notesFx _ _ (kept_notesFx _ _ h)))))
        · split
          · next e => exact kept_endMove _ _ (kept_pushEntries _ _ _ _ _ _ _ (kept_notesFx _ _ (kept_moveLines _ _ _ _ _ (kept_fillGo _ _ _ _ _ _ (kept_notesFx _ _ (kept_notesFx _ _ h))))) e)
          · exact kept_endMove _ _ (kept_notesFx _ _ (kept_moveLines _ _ _ _ _ (kept_fillGo _ _ _ _ _ _ (kept_notesFx _ _ (kept_notesFx _ _ h)))))

theorem kept_digestGo (s : State) (x0 : Nat) (x1 : Nat) (x2 : Nat) (x3 : Nat) (x4 : Nat) (h : Kept z s) : Kept z (digestGo x0 x1 x2 x3 x4 s).2 := by
  induction x2 generalizing s x3 x4 with
  | zero => exact h
  | succ k ih =>
    unfold digestGo
    dsimp only
    split
    · exact kept_notesFx _ _ h
    · exact ih _ _ _ (kept_notesFx _ _ h)

theorem kept_digestTask (s : State) (x1 : Task) (h : Kept z s) : Kept z (digestTask s x1) := by
  unfold digestTask
  repeat' first | with_reducible assumption | intro _ | with_reducible apply links_setAt | with_reducible apply links_map | with_reducible apply kept_bump | with_reducible apply kept_digestGo | with_reducible apply kept_finishWork | with_reducible apply kept_sendFault | with_reducible apply kept_taskRan | with_reducible apply kept_foldl  | with_reducible apply kept_foldl_fst | with_reducible apply kept_foldl_snd | with_reducible apply kept_ite_fst | with_reducible apply kept_ite_snd | with_reducible apply kept_ite | split | dsimp only | with_reducible apply kept_mk | assumption

end Sys2Proof.Machine
end

