-- ==== Sys2Proof/Laws/KeptPlace.lean ====
section
/-! SUPPORT. Every operation of Machine/Place.lean keeps the canonical form and the queue. -/

namespace Sys2Proof.Machine

variable {z : State}

theorem kept_putTask (s : State) (x1 : Task) (x2 : Nat) (x3 : Nat) (h : Kept z s) : Kept z (putTask s x1 x2 x3) := by
  unfold putTask
  repeat' first | with_reducible assumption | intro _ | with_reducible apply links_setAt | with_reducible apply links_map | with_reducible apply kept_setTask | with_reducible apply kept_startRun | with_reducible apply kept_updTab | with_reducible apply kept_foldl  | with_reducible apply kept_ite | split | dsimp only | with_reducible apply kept_mk | assumption

theorem kept_endAtPlacement (s : State) (x1 : Task) (x2 : Nat) (h : Kept z s) : Kept z (endAtPlacement s x1 x2) := by
  unfold endAtPlacement
  repeat' first | with_reducible assumption | intro _ | with_reducible apply links_setAt | with_reducible apply links_map | with_reducible apply kept_finishNow | with_reducible apply kept_partEnded | with_reducible apply kept_foldl  | with_reducible apply kept_ite | split | dsimp only | with_reducible apply kept_mk | assumption

theorem kept_placeAt (s : State) (x1 : Task) (x2 : Nat) (x3 : Nat) (h : Kept z s) : Kept z (placeAt s x1 x2 x3) := by
  unfold placeAt
  repeat' first | with_reducible assumption | intro _ | with_reducible apply links_setAt | with_reducible apply links_map | with_reducible apply kept_endAtPlacement | with_reducible apply kept_finishNow | with_reducible apply kept_forHeat | with_reducible apply kept_partPlaced | with_reducible apply kept_putTask | with_reducible apply kept_sendFault | with_reducible apply kept_foldl  | with_reducible apply kept_ite | split | dsimp only | with_reducible apply kept_mk | assumption

theorem kept_displace (s : State) (x1 : Task) (h : Kept z s) : Kept z (displace s x1) := by
  unfold displace
  repeat' first | with_reducible assumption | intro _ | with_reducible apply links_setAt | with_reducible apply links_map | with_reducible apply kept_bump | with_reducible apply kept_setTask | with_reducible apply kept_foldl  | with_reducible apply kept_ite | split | dsimp only | with_reducible apply kept_mk | assumption

theorem kept_placeGoldenTask (s t : State) (u : Task) (h : Kept z s) (e : placeGoldenTask s u = some t) : Kept z t := by
  unfold placeGoldenTask at e
  dsimp only at e
  repeat' split at e
  all_goals first
    | (simp at e; done)
    | (simp only [Option.some.injEq] at e; subst e; first | exact kept_finishNow _ _ _ h | exact kept_putTask _ _ _ _ h | exact kept_putTask _ _ _ _ (kept_displace _ _ h))

theorem kept_placeGo (s : State) (x1 : Nat) (x2 : List Task) (h : Kept z s) : Kept z (placeGo s x1 x2) := by
  induction x2 with
  | nil => exact h
  | cons t l ih =>
    unfold placeGo
    refine kept_ite ih (kept_ite ?_ (kept_ite h (kept_ite ?_ ?_)))
    · split
      · next e => exact kept_placeGoldenTask _ _ _ h e
      · exact ih
    · split
      · exact kept_placeAt _ _ _ _ h
      · exact ih
    · split
      · exact kept_placeAt _ _ _ _ h
      · exact h

end Sys2Proof.Machine
end

