-- ==== Sys2Proof/Laws/KeptMemory.lean ====
section
/-! SUPPORT. Every operation of Machine/Memory.lean keeps the canonical form and the queue. -/

namespace Sys2Proof.Machine

variable {z : State}

theorem kept_writeBack (s : State) (x1 : Nat) (h : Kept z s) : Kept z (writeBack s x1) := by
  unfold writeBack
  repeat' first | with_reducible assumption | intro _ | with_reducible apply links_setAt | with_reducible apply links_map | with_reducible apply kept_dropWriteback | with_reducible apply kept_poke | with_reducible apply kept_setErr | with_reducible apply kept_foldl  | with_reducible apply kept_ite | split | dsimp only | with_reducible apply kept_mk | assumption

theorem kept_countEnd (s : State) (x1 : Nat) (h : Kept z s) : Kept z (countEnd s x1) := by
  unfold countEnd
  repeat' first | with_reducible assumption | intro _ | with_reducible apply links_setAt | with_reducible apply links_map | with_reducible apply kept_setF | with_reducible apply kept_foldl  | with_reducible apply kept_ite | split | dsimp only | with_reducible apply kept_mk | assumption

theorem kept_passEnd (s : State)  (h : Kept z s) : Kept z (passEnd s) := by
  unfold passEnd
  repeat' first | with_reducible assumption | intro _ | with_reducible apply links_setAt | with_reducible apply links_map | with_reducible apply kept_countEnd | with_reducible apply kept_setF | with_reducible apply kept_foldl  | with_reducible apply kept_ite | split | dsimp only | with_reducible apply kept_mk | assumption

theorem kept_scrubNext (s : State) (x1 : Nat) (x2 : Bool) (h : Kept z s) : Kept z (scrubNext s x1 x2) := by
  unfold scrubNext
  repeat' first | with_reducible assumption | intro _ | with_reducible apply links_setAt | with_reducible apply links_map | with_reducible apply kept_passEnd | with_reducible apply kept_foldl  | with_reducible apply kept_ite | split | dsimp only | with_reducible apply kept_mk | assumption

theorem kept_scrubSpare (s : State) (x1 : Nat) (h : Kept z s) : Kept z (scrubSpare s x1) := by
  unfold scrubSpare
  dsimp only
  split
  · exact h
  · exact kept_spareMem (kept_oncePerStroke _ _ _ _ _ (kept_countCe _ _ h)) rfl rfl rfl rfl (swf_sset noErr _ _ _) rfl rfl
  · repeat' first | with_reducible assumption | with_reducible apply kept_sendFault | with_reducible apply kept_setF | with_reducible apply kept_bump

theorem kept_scrubOne (s : State) (x1 : Nat) (x2 : Bool) (h : Kept z s) : Kept z (scrubOne s x1 x2) := by
  unfold scrubOne
  repeat' first | with_reducible assumption | intro _ | with_reducible apply links_setAt | with_reducible apply links_map | with_reducible apply kept_noteFx | with_reducible apply kept_scrubNext | with_reducible apply kept_scrubSpare | with_reducible apply kept_foldl  | with_reducible apply kept_ite | split | dsimp only | with_reducible apply kept_mk | assumption

theorem kept_scrubAt (s : State) (x1 : Nat) (x2 : Bool) (x3 : Bool) (h : Kept z s) : Kept z (scrubAt s x1 x2 x3) := by
  unfold scrubAt
  repeat' first | with_reducible assumption | intro _ | with_reducible apply links_setAt | with_reducible apply links_map | with_reducible apply kept_bump | with_reducible apply kept_scrubOne | with_reducible apply kept_sendFault | with_reducible apply kept_foldl  | with_reducible apply kept_ite | split | dsimp only | with_reducible apply kept_mk | assumption

theorem kept_noSpareBank (s : State) (x1 : Nat) (h : Kept z s) : Kept z (noSpareBank s x1) := by
  unfold noSpareBank
  repeat' first | with_reducible assumption | intro _ | with_reducible apply links_setAt | with_reducible apply links_map | with_reducible apply kept_sendFault | with_reducible apply kept_setF | with_reducible apply kept_foldl  | with_reducible apply kept_ite | split | dsimp only | with_reducible apply kept_mk | assumption

theorem kept_copiedLine (s : State) (x1 : Nat) (h : Kept z s) : Kept z (copiedLine s x1) := by
  unfold copiedLine
  repeat' first | with_reducible assumption | intro _ | with_reducible apply links_setAt | with_reducible apply links_map | with_reducible apply kept_putPoison | with_reducible apply kept_writeBack | with_reducible apply kept_foldl  | with_reducible apply kept_ite | split | dsimp only | with_reducible apply kept_mk | assumption

theorem kept_switchBank (s : State) (x1 : Nat) (x2 : Nat) (x3 : Nat) (h : Kept z s) : Kept z (switchBank s x1 x2 x3) := by
  unfold switchBank
  with_reducible apply kept_sendFault
  with_reducible apply kept_setF
  have k : ∀ u, Kept z u → Kept z { u with mem := { u.mem with spareErrs := u.mem.spareErrs.filter (fun e => e.1 / 4096 != x3) }, spr := { u.spr with wearBanks := insertNew u.spr.wearBanks x2 } } := fun u hu =>
    kept_spareMem hu rfl rfl rfl rfl (swf_filter noErr _ _) rfl rfl
  refine kept_mk _ _ _ _ _ _ _ _ _ _ _ _ _ _ _ _ _ _ _ _ _ _ _ _ _ _ _ _ _ _ _ _ (k _ ?_) id
  repeat' first | with_reducible assumption | intro _ | with_reducible apply kept_setF | with_reducible apply kept_foldl | with_reducible apply kept_copiedLine

theorem kept_patrolStep (s : State)  (h : Kept z s) : Kept z (patrolStep s) := by
  unfold patrolStep
  repeat' first | with_reducible assumption | intro _ | with_reducible apply links_setAt | with_reducible apply links_map | with_reducible apply kept_dropWriteback | with_reducible apply kept_noteFx | with_reducible apply kept_tick | with_reducible apply kept_foldl  | with_reducible apply kept_ite | split | dsimp only | with_reducible apply kept_mk | assumption

theorem kept_setVersion (s : State) (x1 : Nat) (h : Kept z s) : Kept z (setVersion s x1) := by
  unfold setVersion
  repeat' first | with_reducible assumption | intro _ | with_reducible apply links_setAt | with_reducible apply links_map | with_reducible apply kept_foldl  | with_reducible apply kept_ite | split | dsimp only | with_reducible apply kept_mk | assumption

theorem kept_loseChannel (s : State) (x1 : Nat) (h : Kept z s) : Kept z (loseChannel s x1) := by
  unfold loseChannel
  repeat' first | with_reducible assumption | intro _ | with_reducible apply links_setAt | with_reducible apply links_map | with_reducible apply kept_sendFault | with_reducible apply kept_setF | with_reducible apply kept_foldl  | with_reducible apply kept_ite | split | dsimp only | with_reducible apply kept_mk | assumption

theorem kept_subDone (s : State) (x1 : Nat) (h : Kept z s) : Kept z (subDone s x1) := by
  unfold subDone
  repeat' first | with_reducible assumption | intro _ | with_reducible apply links_setAt | with_reducible apply links_map | with_reducible apply kept_wr | with_reducible apply kept_foldl  | with_reducible apply kept_ite | split | dsimp only | with_reducible apply kept_mk | assumption

end Sys2Proof.Machine
end

