-- ==== Sys2Proof/Laws/KeptUbfi.lean ====
section
/-! SUPPORT. Every operation of Machine/Ubfi.lean keeps the canonical form and the queue. -/

namespace Sys2Proof.Machine

variable {z : State}

theorem kept_sendLinkId (s : State) (x1 : Nat) (h : Kept z s) : Kept z (sendLinkId s x1) := by
  unfold sendLinkId
  repeat' first | with_reducible assumption | intro _ | with_reducible apply links_setAt | with_reducible apply links_map | with_reducible apply kept_sendMsg | with_reducible apply kept_foldl  | with_reducible apply kept_ite | split | dsimp only | with_reducible apply kept_mk | assumption

theorem kept_spareLane (s : State) (x1 : Nat) (x2 : Nat) (x3 : Fld) (h : Kept z s) : Kept z (spareLane s x1 x2 x3) := by
  unfold spareLane
  repeat' first | with_reducible assumption | intro _ | with_reducible apply links_setAt | with_reducible apply links_map | with_reducible apply kept_sendFault | with_reducible apply kept_setF | with_reducible apply kept_setLnk | with_reducible apply kept_foldl  | with_reducible apply kept_ite | split | dsimp only | with_reducible apply kept_mk | assumption

theorem kept_linkComesUp (s : State) (x1 : Nat) (h : Kept z s) : Kept z (linkComesUp s x1) := by
  unfold linkComesUp
  repeat' first | with_reducible assumption | intro _ | with_reducible apply links_setAt | with_reducible apply links_map | with_reducible apply kept_bump | with_reducible apply kept_sendCtl | with_reducible apply kept_sendFault | with_reducible apply kept_sendLinkId | with_reducible apply kept_setF | with_reducible apply kept_setLnk | with_reducible apply kept_foldl  | with_reducible apply kept_ite | split | dsimp only | with_reducible apply kept_mk | assumption

theorem kept_startRetrain (s : State) (x1 : Nat) (h : Kept z s) : Kept z (startRetrain s x1) := by
  unfold startRetrain
  repeat' first | with_reducible assumption | intro _ | with_reducible apply links_setAt | with_reducible apply links_map | with_reducible apply kept_retrainCause | with_reducible apply kept_setLnk | with_reducible apply kept_spareLane | with_reducible apply kept_foldl  | with_reducible apply kept_ite | split | dsimp only | with_reducible apply kept_mk | assumption

theorem kept_dropPending (s : State) (x1 : Remote) (h : Kept z s) : Kept z (dropPending s x1) := by
  unfold dropPending
  repeat' first | with_reducible assumption | intro _ | with_reducible apply links_setAt | with_reducible apply links_map | with_reducible apply kept_foldl  | with_reducible apply kept_ite | split | dsimp only | with_reducible apply kept_mk | assumption

theorem kept_foldl_move {β : Type} (f : Move → β → Move) (l : List β) (m : Move) (h : Kept z m.s)
    (hf : ∀ m x, Kept z m.s → Kept z (f m x).s) : Kept z (l.foldl f m).s := by
  induction l generalizing m with
  | nil => exact h
  | cons x t ih => exact ih (f m x) (hf m x h)

theorem kept_sendHeads (s : State) (x1 : Nat) (h : Kept z s) : Kept z (sendHeads s x1) := by
  unfold sendHeads
  refine kept_ite h ?_
  have h1 : Kept z { s with ubf := { s.ubf with heads := s.ubf.heads.filter (fun h => h.1 != x1) } } :=
    kept_mk s _ _ _ _ _ _ _ _ _ _ _ _ _ _ _ _ _ _ _ _ _ _ _ _ _ _ _ _ _ _ _ h id
  dsimp only
  split
  · exact h1
  · refine kept_ite h1 ?_
    have hm := kept_foldl_move (z := z) (fun (m : Move) h => putLines (moverOf { s with ubf := { s.ubf with heads := s.ubf.heads.filter (fun h => h.1 != x1) } } ‹Task› 2) [h.2.2] h.2.1 64 m)
      (s.ubf.heads.filter (fun h => h.1 == x1)) { s := { s with ubf := { s.ubf with heads := s.ubf.heads.filter (fun h => h.1 != x1) } } } h1
      (fun m x k => kept_putLines _ _ _ _ _ k)
    exact kept_setTask _ _ (kept_ite hm (kept_bellowsFault _ _ _ _ hm))

theorem kept_taskFails (s : State) (x1 : Remote) (x2 : Nat) (x3 : Nat) (h : Kept z s) : Kept z (taskFails s x1 x2 x3) := by
  unfold taskFails
  repeat' first | with_reducible assumption | intro _ | with_reducible apply links_setAt | with_reducible apply links_map | with_reducible apply kept_bellowsFault | with_reducible apply kept_setTask | with_reducible apply kept_foldl  | with_reducible apply kept_ite | split | dsimp only | with_reducible apply kept_mk | assumption

theorem kept_remoteError (s : State) (x1 : Remote) (h : Kept z s) : Kept z (remoteError s x1) := by
  unfold remoteError
  repeat' first | with_reducible assumption | intro _ | with_reducible apply links_setAt | with_reducible apply links_map | with_reducible apply kept_answer | with_reducible apply kept_dropPending | with_reducible apply kept_remoteFail | with_reducible apply kept_sendHeads | with_reducible apply kept_taskFails | with_reducible apply kept_foldl  | with_reducible apply kept_ite | split | dsimp only | with_reducible apply kept_mk | assumption

theorem kept_readReturns (s : State) (x1 : Remote) (x2 : Task) (x3 : List (List Nat)) (h : Kept z s) : Kept z (readReturns s x1 x2 x3) := by
  unfold readReturns
  refine kept_ite (kept_pushWith _ _ _ h) ?_
  have hm := kept_putLines (z := z) (moverOf s x2 1) x3 x1.dst x1.len { s := s } h
  generalize putLines (moverOf s x2 1) x3 x1.dst x1.len { s := s } = m at hm
  have h1 : Kept z (if m.st = 0 then m.s else taskFails m.s x1 m.st m.bad) := kept_ite hm (kept_taskFails _ _ _ _ hm)
  dsimp only
  split
  · exact kept_setTask _ _ h1
  · exact h1

theorem kept_remoteOk (s : State) (x1 : Remote) (x2 : List (List Nat)) (h : Kept z s) : Kept z (remoteOk s x1 x2) := by
  unfold remoteOk
  repeat' first | with_reducible assumption | intro _ | with_reducible apply links_setAt | with_reducible apply links_map | with_reducible apply kept_answer | with_reducible apply kept_dropPending | with_reducible apply kept_readReturns | with_reducible apply kept_sendHeads | with_reducible apply kept_foldl  | with_reducible apply kept_ite | split | dsimp only | with_reducible apply kept_mk | assumption

theorem kept_failPending (s : State) (x1 : List Nat) (h : Kept z s) : Kept z (failPending s x1) := by
  unfold failPending
  repeat' first | with_reducible assumption | intro _ | with_reducible apply links_setAt | with_reducible apply links_map | with_reducible apply kept_remoteError | with_reducible apply kept_foldl  | with_reducible apply kept_ite | split | dsimp only | with_reducible apply kept_mk | assumption

theorem kept_orphaned (s : State) (x1 : Nat) (h : Kept z s) : Kept z (orphaned s x1) := by
  unfold orphaned
  repeat' first | with_reducible assumption | intro _ | with_reducible apply links_setAt | with_reducible apply links_map | with_reducible apply kept_failPending | with_reducible apply kept_sendFault | with_reducible apply kept_setF | with_reducible apply kept_showPins | with_reducible apply kept_foldl  | with_reducible apply kept_ite | split | dsimp only | with_reducible apply kept_mk | assumption

theorem kept_noteLost (s : State) (x1 : List Nat) (h : Kept z s) : Kept z (noteLost s x1) := by
  unfold noteLost
  repeat' first | with_reducible assumption | intro _ | with_reducible apply links_setAt | with_reducible apply links_map | with_reducible apply kept_failPending | with_reducible apply kept_leaveRepro | with_reducible apply kept_setF | with_reducible apply kept_foldl  | with_reducible apply kept_ite | split | dsimp only | with_reducible apply kept_mk | assumption

theorem kept_nodesLost (s : State) (x1 : Nat) (h : Kept z s) : Kept z (nodesLost s x1) := by
  unfold nodesLost
  repeat' first | with_reducible assumption | intro _ | with_reducible apply links_setAt | with_reducible apply links_map | with_reducible apply kept_noteLost | with_reducible apply kept_sendFault | with_reducible apply kept_sendSync | with_reducible apply kept_foldl  | with_reducible apply kept_ite | split | dsimp only | with_reducible apply kept_mk | assumption

theorem kept_linkDown (s : State) (x1 : Nat) (h : Kept z s) : Kept z (linkDown s x1) := by
  unfold linkDown
  repeat' first | with_reducible assumption | intro _ | with_reducible apply links_setAt | with_reducible apply links_map | with_reducible apply kept_nodesLost | with_reducible apply kept_orphaned | with_reducible apply kept_setF | with_reducible apply kept_setLnk | with_reducible apply kept_foldl  | with_reducible apply kept_ite | split | dsimp only | with_reducible apply kept_mk | assumption

theorem kept_requestRetrain (s : State) (x1 : Nat) (h : Kept z s) : Kept z (requestRetrain s x1) := by
  unfold requestRetrain
  repeat' first | with_reducible assumption | intro _ | with_reducible apply links_setAt | with_reducible apply links_map | with_reducible apply kept_setF | with_reducible apply kept_setLnk | with_reducible apply kept_startRetrain | with_reducible apply kept_foldl  | with_reducible apply kept_ite | split | dsimp only | with_reducible apply kept_mk | assumption

theorem kept_wrGo (s : State) (x0 : Nat) (x1 : Nat) (x2 : List (List Nat)) (x3 : Nat) (x4 : Nat) (h : Kept z s) : Kept z (wrGo x0 x1 x2 x3 x4 s).1 := by
  induction x2 generalizing x3 x4 s with
  | nil => exact h
  | cons b t ih =>
    unfold wrGo
    exact ih _ _ _ (kept_ite (kept_putPoison _ _ _ (kept_storeBrand _ _ _ _ h)) (kept_storeBrand _ _ _ _ h))

theorem kept_respond (s : State) (x1 : Nat) (x2 : List Nat) (x3 : Nat) (x4 : List (List Nat)) (h : Kept z s) : Kept z (respond s x1 x2 x3 x4) := by
  unfold respond
  repeat' first | with_reducible assumption | intro _ | with_reducible apply links_setAt | with_reducible apply links_map | with_reducible apply kept_sendTo | with_reducible apply kept_foldl  | with_reducible apply kept_ite | split | dsimp only | with_reducible apply kept_mk | assumption

theorem kept_askTime (s : State)  (h : Kept z s) : Kept z (askTime s) := by
  unfold askTime
  repeat' first | with_reducible assumption | intro _ | with_reducible apply links_setAt | with_reducible apply links_map | with_reducible apply kept_sendSync | with_reducible apply kept_foldl  | with_reducible apply kept_ite | split | dsimp only | with_reducible apply kept_mk | assumption

theorem kept_setVehicleTime (s : State) (x1 : Nat) (x2 : Nat) (x3 : Nat) (h : Kept z s) : Kept z (setVehicleTime s x1 x2 x3) := by
  unfold setVehicleTime
  repeat' first | with_reducible assumption | intro _ | with_reducible apply links_setAt | with_reducible apply links_map | with_reducible apply kept_fresh | with_reducible apply kept_foldl  | with_reducible apply kept_foldl_fst | with_reducible apply kept_foldl_snd | with_reducible apply kept_ite_fst | with_reducible apply kept_ite_snd | with_reducible apply kept_ite | split | dsimp only | with_reducible apply kept_mk | assumption

theorem kept_admitNode (s : State) (x1 : Nat) (h : Kept z s) : Kept z (admitNode s x1) := by
  unfold admitNode
  repeat' first | with_reducible assumption | intro _ | with_reducible apply links_setAt | with_reducible apply links_map | with_reducible apply kept_leaveRepro | with_reducible apply kept_setF | with_reducible apply kept_foldl  | with_reducible apply kept_ite | split | dsimp only | with_reducible apply kept_mk | assumption

theorem kept_joinNode (s : State) (x1 : Nat) (x2 : Nat) (h : Kept z s) : Kept z (joinNode s x1 x2) := by
  unfold joinNode
  repeat' first | with_reducible assumption | intro _ | with_reducible apply links_setAt | with_reducible apply links_map | with_reducible apply kept_admitNode | with_reducible apply kept_sendFault | with_reducible apply kept_setF | with_reducible apply kept_showPins | with_reducible apply kept_foldl  | with_reducible apply kept_ite | split | dsimp only | with_reducible apply kept_mk | assumption

end Sys2Proof.Machine
end

