-- ==== Sys2Proof/Laws/KeptMode.lean ====
section
/-! SUPPORT. Every operation of Machine/Mode.lean keeps the canonical form and the queue. -/

namespace Sys2Proof.Machine

variable {z : State}

theorem kept_refuseMode (s : State) (x1 : Nat × Nat × Nat) (h : Kept z s) : Kept z (refuseMode s x1) := by
  unfold refuseMode
  repeat' first | with_reducible assumption | intro _ | with_reducible apply links_setAt | with_reducible apply links_map | with_reducible apply kept_sendFault | with_reducible apply kept_setWhy | with_reducible apply kept_foldl  | with_reducible apply kept_ite | split | dsimp only | with_reducible apply kept_mk | assumption

theorem kept_askRepro (s : State) (x1 : List (Nat × Nat)) (h : Kept z s) : Kept z (askRepro s x1) := by
  unfold askRepro
  repeat' first | with_reducible assumption | intro _ | with_reducible apply links_setAt | with_reducible apply links_map | with_reducible apply kept_refuseMode | with_reducible apply kept_reportDrained | with_reducible apply kept_sendSyncAll | with_reducible apply kept_setF | with_reducible apply kept_foldl  | with_reducible apply kept_ite | split | dsimp only | with_reducible apply kept_mk | assumption

theorem kept_askService (s : State)  (h : Kept z s) : Kept z (askService s) := by
  unfold askService
  repeat' first | with_reducible assumption | intro _ | with_reducible apply links_setAt | with_reducible apply links_map | with_reducible apply kept_sendSyncAll | with_reducible apply kept_setF | with_reducible apply kept_foldl  | with_reducible apply kept_ite | split | dsimp only | with_reducible apply kept_mk | assumption

theorem kept_modeRequest (s : State) (x1 : Nat) (x2 : Nat) (x3 : List (Nat × Nat)) (h : Kept z s) : Kept z (modeRequest s x1 x2 x3) := by
  unfold modeRequest
  repeat' first | with_reducible assumption | intro _ | with_reducible apply links_setAt | with_reducible apply links_map | with_reducible apply kept_answer | with_reducible apply kept_askRepro | with_reducible apply kept_askService | with_reducible apply kept_setWhy | with_reducible apply kept_foldl  | with_reducible apply kept_ite | split | dsimp only | with_reducible apply kept_mk | assumption

theorem kept_cancelRepro (s : State) (x1 : Nat) (h : Kept z s) : Kept z (cancelRepro s x1) := by
  unfold cancelRepro
  repeat' first | with_reducible assumption | intro _ | with_reducible apply links_setAt | with_reducible apply links_map | with_reducible apply kept_refuseMode | with_reducible apply kept_sendSyncAll | with_reducible apply kept_setF | with_reducible apply kept_foldl  | with_reducible apply kept_ite | split | dsimp only | with_reducible apply kept_mk | assumption

theorem kept_modeAtManager (s : State) (x1 : List Nat) (h : Kept z s) : Kept z (modeAtManager s x1) := by
  unfold modeAtManager
  repeat' first | with_reducible assumption | intro _ | with_reducible apply links_setAt | with_reducible apply links_map | with_reducible apply kept_cancelRepro | with_reducible apply kept_leaveRepro | with_reducible apply kept_noteLost | with_reducible apply kept_reportDrained | with_reducible apply kept_foldl  | with_reducible apply kept_ite | split | dsimp only | with_reducible apply kept_mk | assumption

theorem kept_modeAtWorker (s : State) (x1 : List Nat) (h : Kept z s) : Kept z (modeAtWorker s x1) := by
  unfold modeAtWorker
  repeat' first | with_reducible assumption | intro _ | with_reducible apply links_setAt | with_reducible apply links_map | with_reducible apply kept_noteLeave | with_reducible apply kept_reportDrained | with_reducible apply kept_sendSync | with_reducible apply kept_setF | with_reducible apply kept_foldl  | with_reducible apply kept_ite | split | dsimp only | with_reducible apply kept_mk | assumption

end Sys2Proof.Machine
end

