-- ==== Sys2Proof/Laws/KeptReset.lean ====
section
/-! SUPPORT. Every operation of Machine/Reset.lean keeps the canonical form and the queue. -/

namespace Sys2Proof.Machine

variable {z : State}

/-- Part of the registers, and part of the memory or none of it. -/
theorem kept_part {s t : State} (h : Kept z s) (f : Nat × Word → Bool) (p : Host.Cell → Bool) (q : Nat × List Nat → Bool)
    (hr : t.regs = s.regs.filter f) (hc : t.mem.cells = s.mem.cells.filter p) (he : t.mem.errs = s.mem.errs.filter q)
    (hf : t.mem.fabErrs = []) (hx : t.mem.spareErrs = [])
    (hu : s.ubf.links.length = 4 → t.ubf.links.length = 4) (hp : t.pending = s.pending) : Kept z t := by
  refine ⟨fun w => ?_, fun w => ?_, fun w => hu (h.links w), hp.trans h.pending⟩
  · rw [hr]; exact swf_filter resetOf _ _ (h.regs w)
  · have := h.mem w
    simp only [Memory.wf, Bool.and_eq_true] at this ⊢
    rw [hc, he, hf, hx]
    exact ⟨⟨⟨swf_filter zeroByte _ _ this.1.1.1, swf_filter noErr _ _ this.1.1.2⟩, rfl⟩, rfl⟩

theorem filter_none {α : Type} (l : List α) : ([] : List α) = l.filter (fun _ => false) :=
  (List.filter_eq_nil_iff.2 (fun _ _ => Bool.false_ne_true)).symm

theorem kept_coldState (s : State)  (h : Kept z s) : Kept z (coldState s) := by
  unfold coldState
  dsimp only
  exact kept_setF _ _ _ (kept_setF _ _ _ (kept_setF _ _ _
    (kept_part h (fun p => coldKeeps p.1) (fun _ => false) (fun _ => false) rfl (filter_none _) (filter_none _) rfl rfl (fun w => by first | exact w | rfl) rfl)))

theorem kept_warmState (s : State)  (h : Kept z s) : Kept z (warmState s) := by
  unfold warmState
  dsimp only
  exact kept_setF _ _ _ (kept_setF _ _ _ (kept_setF _ _ _ (kept_setF _ _ _ (kept_foldl _ _ _
    (kept_part h (fun p => warmKeeps p.1) (fun c => decide (ddrBase ≤ c.1)) (fun c => decide (ddrBase ≤ c.1)) rfl rfl rfl rfl rfl (fun w => by first | exact w | rfl) rfl)
    (fun _ _ k => kept_setF _ _ _ k)))))

theorem kept_resetTo (s : State) (x1 : Nat) (h : Kept z s) : Kept z (resetTo s x1) := by
  unfold resetTo
  repeat' first | with_reducible assumption | intro _ | with_reducible apply links_setAt | with_reducible apply links_map | with_reducible apply kept_coldState | with_reducible apply kept_warmState | with_reducible apply kept_foldl  | with_reducible apply kept_ite | split | dsimp only | with_reducible apply kept_mk | assumption

theorem kept_assertSource (s : State) (x1 : Nat) (x2 : Nat) (h : Kept z s) : Kept z (assertSource s x1 x2) := by
  unfold assertSource
  repeat' first | with_reducible assumption | intro _ | with_reducible apply links_setAt | with_reducible apply links_map | with_reducible apply kept_resetTo | with_reducible apply kept_foldl  | with_reducible apply kept_ite | split | dsimp only | with_reducible apply kept_mk | assumption

theorem kept_warmEscalate (s : State) (x1 : Nat) (h : Kept z s) : Kept z (warmEscalate s x1) := by
  unfold warmEscalate
  repeat' first | with_reducible assumption | intro _ | with_reducible apply links_setAt | with_reducible apply links_map | with_reducible apply kept_assertSource | with_reducible apply kept_sendFault | with_reducible apply kept_foldl  | with_reducible apply kept_ite | split | dsimp only | with_reducible apply kept_mk | assumption

theorem kept_holdSource (s : State) (x1 : Nat) (h : Kept z s) : Kept z (holdSource s x1) := by
  unfold holdSource
  repeat' first | with_reducible assumption | intro _ | with_reducible apply links_setAt | with_reducible apply links_map | with_reducible apply kept_foldl  | with_reducible apply kept_ite | split | dsimp only | with_reducible apply kept_mk | assumption

theorem kept_freeSource (s : State) (x1 : Nat) (h : Kept z s) : Kept z (freeSource s x1) := by
  unfold freeSource
  repeat' first | with_reducible assumption | intro _ | with_reducible apply links_setAt | with_reducible apply links_map | with_reducible apply kept_foldl  | with_reducible apply kept_ite | split | dsimp only | with_reducible apply kept_mk | assumption

theorem kept_endScan (s : State)  (h : Kept z s) : Kept z (endScan s) := by
  unfold endScan
  repeat' first | with_reducible assumption | intro _ | with_reducible apply links_setAt | with_reducible apply links_map | with_reducible apply kept_foldl  | with_reducible apply kept_ite | split | dsimp only | with_reducible apply kept_mk | assumption

theorem kept_countEpisode (s : State)  (h : Kept z s) : Kept z (countEpisode s) := by
  unfold countEpisode
  repeat' first | with_reducible assumption | intro _ | with_reducible apply links_setAt | with_reducible apply links_map | with_reducible apply kept_bump | with_reducible apply kept_setF | with_reducible apply kept_foldl  | with_reducible apply kept_ite | split | dsimp only | with_reducible apply kept_mk | assumption

theorem kept_showLost (s : State)  (h : Kept z s) : Kept z (showLost s) := by
  unfold showLost
  repeat' first | with_reducible assumption | intro _ | with_reducible apply links_setAt | with_reducible apply links_map | with_reducible apply kept_sendFault | with_reducible apply kept_setF | with_reducible apply kept_foldl  | with_reducible apply kept_ite | split | dsimp only | with_reducible apply kept_mk | assumption

theorem kept_latchStraps (s : State) (x1 : Nat) (x2 : Nat) (h : Kept z s) : Kept z (latchStraps s x1 x2) := by
  unfold latchStraps
  repeat' first | with_reducible assumption | intro _ | with_reducible apply links_setAt | with_reducible apply links_map | with_reducible apply kept_setF | with_reducible apply kept_foldl  | with_reducible apply kept_ite | split | dsimp only | with_reducible apply kept_mk | assumption

theorem kept_endEpisode (s : State)  (h : Kept z s) : Kept z (endEpisode s) := by
  unfold endEpisode
  repeat' first | with_reducible assumption | intro _ | with_reducible apply links_setAt | with_reducible apply links_map | with_reducible apply kept_foldl  | with_reducible apply kept_ite | split | dsimp only | with_reducible apply kept_mk | assumption

theorem kept_bootRuns (s : State)  (h : Kept z s) : Kept z (bootRuns s) := by
  unfold bootRuns
  repeat' first | with_reducible assumption | intro _ | with_reducible apply links_setAt | with_reducible apply links_map | with_reducible apply kept_setF | with_reducible apply kept_foldl  | with_reducible apply kept_ite | split | dsimp only | with_reducible apply kept_mk | assumption

theorem kept_phase5 (s : State)  (h : Kept z s) : Kept z (phase5 s) := by
  unfold phase5
  repeat' first | with_reducible assumption | intro _ | with_reducible apply links_setAt | with_reducible apply links_map | with_reducible apply kept_setF | with_reducible apply kept_foldl  | with_reducible apply kept_ite | split | dsimp only | with_reducible apply kept_mk | assumption

end Sys2Proof.Machine
end

