-- ==== Sys2Proof/Laws/KeptPlan.lean ====
section
/-! SUPPORT. Every operation of Machine/Plan.lean keeps the canonical form and the queue. -/

namespace Sys2Proof.Machine

variable {z : State}

theorem kept_nodeHammers (s : State)  (h : Kept z s) : Kept z (nodeHammers s).2 := by
  unfold nodeHammers
  repeat' first | with_reducible assumption | intro _ | with_reducible apply links_setAt | with_reducible apply links_map | with_reducible apply kept_fresh | with_reducible apply kept_foldl  | with_reducible apply kept_foldl_fst | with_reducible apply kept_foldl_snd | with_reducible apply kept_ite_fst | with_reducible apply kept_ite_snd | with_reducible apply kept_ite | split | dsimp only | with_reducible apply kept_mk | assumption

theorem kept_sendCan (s : State) (x1 : Nat) (x2 : List CanFrame) (h : Kept z s) : Kept z (sendCan s x1 x2) := by
  unfold sendCan
  repeat' first | with_reducible assumption | intro _ | with_reducible apply links_setAt | with_reducible apply links_map | with_reducible apply kept_foldl  | with_reducible apply kept_ite | split | dsimp only | with_reducible apply kept_mk | assumption

theorem kept_handOver (s : State) (x1 : List Nat) (h : Kept z s) : Kept z (handOver s x1) := by
  unfold handOver
  repeat' first | with_reducible assumption | intro _ | with_reducible apply links_setAt | with_reducible apply links_map | with_reducible apply kept_bump | with_reducible apply kept_sendCan | with_reducible apply kept_setF | with_reducible apply kept_foldl  | with_reducible apply kept_ite | split | dsimp only | with_reducible apply kept_mk | assumption

theorem kept_keepDelivered (s : State) (x1 : List Pose) (h : Kept z s) : Kept z (keepDelivered s x1) := by
  unfold keepDelivered
  repeat' first | with_reducible assumption | intro _ | with_reducible apply links_setAt | with_reducible apply links_map | with_reducible apply kept_asyStore | with_reducible apply kept_foldl  | with_reducible apply kept_ite | split | dsimp only | with_reducible apply kept_mk | assumption

theorem kept_warmDue (s : State)  (h : Kept z s) : Kept z (warmDue s) := by
  unfold warmDue
  repeat' first | with_reducible assumption | intro _ | with_reducible apply links_setAt | with_reducible apply links_map | with_reducible apply kept_warmEscalate | with_reducible apply kept_foldl  | with_reducible apply kept_ite | split | dsimp only | with_reducible apply kept_mk | assumption

theorem kept_planPins (s : State) (x1 : Nat) (h : Kept z s) : Kept z (planPins s x1) := by
  unfold planPins
  repeat' first | with_reducible assumption | intro _ | with_reducible apply links_setAt | with_reducible apply links_map | with_reducible apply kept_showPins | with_reducible apply kept_foldl  | with_reducible apply kept_ite | split | dsimp only | with_reducible apply kept_mk | assumption

theorem kept_caseFx (s : State) (x1 : Nat) (h : Kept z s) : Kept z (caseFx s x1) := by
  unfold caseFx
  repeat' first | with_reducible assumption | intro _ | with_reducible apply links_setAt | with_reducible apply links_map | with_reducible apply kept_asyFault | with_reducible apply kept_bump | with_reducible apply kept_foldl  | with_reducible apply kept_ite | split | dsimp only | with_reducible apply kept_mk | assumption

theorem kept_sendPlan (s : State) (x1 : Decided) (x2 : Nat) (h : Kept z s) : Kept z (sendPlan s x1 x2) := by
  unfold sendPlan
  repeat' first | with_reducible assumption | intro _ | with_reducible apply links_setAt | with_reducible apply links_map | with_reducible apply kept_bump | with_reducible apply kept_caseFx | with_reducible apply kept_handOver | with_reducible apply kept_keepDelivered | with_reducible apply kept_nodeHammers | with_reducible apply kept_foldl  | with_reducible apply kept_foldl_fst | with_reducible apply kept_foldl_snd | with_reducible apply kept_ite_fst | with_reducible apply kept_ite_snd | with_reducible apply kept_ite | split | dsimp only | with_reducible apply kept_mk | assumption

theorem kept_settlePlan (s : State) (x1 : Nat) (h : Kept z s) : Kept z (settlePlan s x1) := by
  unfold settlePlan
  repeat' first | with_reducible assumption | intro _ | with_reducible apply links_setAt | with_reducible apply links_map | with_reducible apply kept_planPins | with_reducible apply kept_warmDue | with_reducible apply kept_foldl  | with_reducible apply kept_ite | split | dsimp only | with_reducible apply kept_mk | assumption

theorem kept_sendNow (s : State) (x1 : Decided) (h : Kept z s) : Kept z (sendNow s x1) := by
  unfold sendNow
  repeat' first | with_reducible assumption | intro _ | with_reducible apply links_setAt | with_reducible apply links_map | with_reducible apply kept_sendPlan | with_reducible apply kept_settlePlan | with_reducible apply kept_foldl  | with_reducible apply kept_ite | split | dsimp only | with_reducible apply kept_mk | assumption

end Sys2Proof.Machine
end

