-- ==== Sys2Proof/Laws/KeptEngineDone.lean ====
section
/-! SUPPORT. Every operation of Machine/EngineDone.lean keeps the canonical form and the queue. -/

namespace Sys2Proof.Machine

variable {z : State}

theorem kept_fieldDone (s : State) (x1 : Task) (h : Kept z s) : Kept z (fieldDone s x1) := by
  unfold fieldDone
  repeat' first | with_reducible assumption | intro _ | with_reducible apply links_setAt | with_reducible apply links_map | with_reducible apply kept_setF | with_reducible apply kept_foldl  | with_reducible apply kept_ite | split | dsimp only | with_reducible apply kept_mk | assumption

theorem kept_assayDone (s : State)  (h : Kept z s) : Kept z (assayDone s) := by
  unfold assayDone
  repeat' first | with_reducible assumption | intro _ | with_reducible apply links_setAt | with_reducible apply links_map | with_reducible apply kept_decideCase | with_reducible apply kept_goldenAtFreeze | with_reducible apply kept_sendNow | with_reducible apply kept_setF | with_reducible apply kept_foldl  | with_reducible apply kept_ite | split | dsimp only | with_reducible apply kept_mk | assumption

theorem kept_doneFx (s : State) (x1 : Task) (h : Kept z s) : Kept z (doneFx s x1) := by
  unfold doneFx
  repeat' first | with_reducible assumption | intro _ | with_reducible apply links_setAt | with_reducible apply links_map | with_reducible apply kept_assayDone | with_reducible apply kept_fieldDone | with_reducible apply kept_partEnded | with_reducible apply kept_foldl  | with_reducible apply kept_ite | split | dsimp only | with_reducible apply kept_mk | assumption

end Sys2Proof.Machine
end

