-- ==== Sys2Proof/Laws/KeptFaults.lean ====
section
/-! SUPPORT. Every operation of Machine/Faults.lean keeps the canonical form and the queue. -/

namespace Sys2Proof.Machine

variable {z : State}

theorem kept_reactFence (s : State) (x1 : FaultRec) (h : Kept z s) : Kept z (reactFence s x1) := by
  unfold reactFence
  repeat' first | with_reducible assumption | intro _ | with_reducible apply links_setAt | with_reducible apply links_map | with_reducible apply kept_fenceUnit | with_reducible apply kept_foldl  | with_reducible apply kept_ite | split | dsimp only | with_reducible apply kept_mk | assumption

theorem kept_reactWarm (s : State) (x1 : FaultRec) (h : Kept z s) : Kept z (reactWarm s x1) := by
  unfold reactWarm
  repeat' first | with_reducible assumption | intro _ | with_reducible apply links_setAt | with_reducible apply links_map | with_reducible apply kept_reactPlain | with_reducible apply kept_foldl  | with_reducible apply kept_ite | split | dsimp only | with_reducible apply kept_mk | assumption

theorem kept_reactCold (s : State) (x1 : FaultRec) (h : Kept z s) : Kept z (reactCold s x1) := by
  unfold reactCold
  repeat' first | with_reducible assumption | intro _ | with_reducible apply links_setAt | with_reducible apply links_map | with_reducible apply kept_reactPlain | with_reducible apply kept_foldl  | with_reducible apply kept_ite | split | dsimp only | with_reducible apply kept_mk | assumption

theorem kept_react (s : State) (x1 : FaultRec) (x2 : Nat) (h : Kept z s) : Kept z (react s x1 x2) := by
  unfold react
  repeat' first | with_reducible assumption | intro _ | with_reducible apply links_setAt | with_reducible apply links_map | with_reducible apply kept_reactCold | with_reducible apply kept_reactFence | with_reducible apply kept_reactPlain | with_reducible apply kept_reactWarm | with_reducible apply kept_foldl  | with_reducible apply kept_ite | split | dsimp only | with_reducible apply kept_mk | assumption

theorem kept_acceptFault (s : State)  (h : Kept z s) : Kept z (acceptFault s) := by
  unfold acceptFault
  repeat' first | with_reducible assumption | intro _ | with_reducible apply links_setAt | with_reducible apply links_map | with_reducible apply kept_logRec | with_reducible apply kept_react | with_reducible apply kept_foldl  | with_reducible apply kept_ite | split | dsimp only | with_reducible apply kept_mk | assumption

theorem kept_clearFirst (s : State) (x1 : Nat) (h : Kept z s) : Kept z (clearFirst s x1) := by
  unfold clearFirst
  repeat' first | with_reducible assumption | intro _ | with_reducible apply links_setAt | with_reducible apply links_map | with_reducible apply kept_answer | with_reducible apply kept_setF | with_reducible apply kept_foldl  | with_reducible apply kept_ite | split | dsimp only | with_reducible apply kept_mk | assumption

theorem kept_dropFaultN (s : State)  (h : Kept z s) : Kept z (dropFaultN s) := by
  unfold dropFaultN
  repeat' first | with_reducible assumption | intro _ | with_reducible apply links_setAt | with_reducible apply links_map | with_reducible apply kept_showPins | with_reducible apply kept_foldl  | with_reducible apply kept_ite | split | dsimp only | with_reducible apply kept_mk | assumption

theorem kept_abortOpen (s : State)  (h : Kept z s) : Kept z (abortOpen s) := by
  unfold abortOpen
  repeat' first | with_reducible assumption | intro _ | with_reducible apply links_setAt | with_reducible apply links_map | with_reducible apply kept_thEnd | with_reducible apply kept_foldl  | with_reducible apply kept_ite | split | dsimp only | with_reducible apply kept_mk | assumption

theorem kept_loseRole (s : State) (x1 : Nat) (h : Kept z s) : Kept z (loseRole s x1) := by
  unfold loseRole
  repeat' first | with_reducible assumption | intro _ | with_reducible apply links_setAt | with_reducible apply links_map | with_reducible apply kept_abortOpen | with_reducible apply kept_dropFaultN | with_reducible apply kept_sendFault | with_reducible apply kept_foldl  | with_reducible apply kept_ite | split | dsimp only | with_reducible apply kept_mk | assumption

end Sys2Proof.Machine
end

