-- ==== Sys2Proof/Laws/KeptTwoHand.lean ====
section
/-! SUPPORT. Every operation of Machine/TwoHand.lean keeps the canonical form and the queue. -/

namespace Sys2Proof.Machine

variable {z : State}

theorem kept_thResult (s : State) (x1 : Nat) (x2 : Nat) (h : Kept z s) : Kept z (thResult s x1 x2) := by
  unfold thResult
  repeat' first | with_reducible assumption | intro _ | with_reducible apply links_setAt | with_reducible apply links_map | with_reducible apply kept_setF | with_reducible apply kept_foldl  | with_reducible apply kept_ite | split | dsimp only | with_reducible apply kept_mk | assumption

theorem kept_thForeign (s : State)  (h : Kept z s) : Kept z (thForeign s) := by
  unfold thForeign
  repeat' first | with_reducible assumption | intro _ | with_reducible apply links_setAt | with_reducible apply links_map | with_reducible apply kept_answer | with_reducible apply kept_sendFault | with_reducible apply kept_foldl  | with_reducible apply kept_ite | split | dsimp only | with_reducible apply kept_mk | assumption

theorem kept_openGroup (s : State) (x1 : Nat) (x2 : Nat) (x3 : Bool) (h : Kept z s) : Kept z (openGroup s x1 x2 x3) := by
  unfold openGroup
  repeat' first | with_reducible assumption | intro _ | with_reducible apply links_setAt | with_reducible apply links_map | with_reducible apply kept_answer | with_reducible apply kept_setF | with_reducible apply kept_thForeign | with_reducible apply kept_thResult | with_reducible apply kept_foldl  | with_reducible apply kept_ite | split | dsimp only | with_reducible apply kept_mk | assumption

theorem kept_stageWord (s : State) (x1 : Nat) (x2 : Nat) (x3 : Nat) (h : Kept z s) : Kept z (stageWord s x1 x2 x3) := by
  unfold stageWord
  repeat' first | with_reducible assumption | intro _ | with_reducible apply links_setAt | with_reducible apply links_map | with_reducible apply kept_answer | with_reducible apply kept_thForeign | with_reducible apply kept_foldl  | with_reducible apply kept_ite | split | dsimp only | with_reducible apply kept_mk | assumption

theorem kept_closeGroup (s : State) (x1 : Nat) (x2 : Nat) (h : Kept z s) : Kept z (closeGroup s x1 x2) := by
  unfold closeGroup
  repeat' first | with_reducible assumption | intro _ | with_reducible apply links_setAt | with_reducible apply links_map | with_reducible apply kept_answer | with_reducible apply kept_setF | with_reducible apply kept_thForeign | with_reducible apply kept_foldl  | with_reducible apply kept_ite | split | dsimp only | with_reducible apply kept_mk | assumption

theorem kept_abortGroup (s : State) (x1 : Nat) (x2 : Nat) (h : Kept z s) : Kept z (abortGroup s x1 x2) := by
  unfold abortGroup
  repeat' first | with_reducible assumption | intro _ | with_reducible apply links_setAt | with_reducible apply links_map | with_reducible apply kept_answer | with_reducible apply kept_thEnd | with_reducible apply kept_thForeign | with_reducible apply kept_foldl  | with_reducible apply kept_ite | split | dsimp only | with_reducible apply kept_mk | assumption

theorem kept_groupTakes (s : State) (x1 : Nat) (x2 : List (Nat × Nat)) (h : Kept z s) : Kept z (groupTakes s x1 x2) := by
  unfold groupTakes
  repeat' first | with_reducible assumption | intro _ | with_reducible apply links_setAt | with_reducible apply links_map | with_reducible apply kept_bankDue | with_reducible apply kept_sendFault | with_reducible apply kept_setF | with_reducible apply kept_wr | with_reducible apply kept_foldl  | with_reducible apply kept_ite | split | dsimp only | with_reducible apply kept_mk | assumption

theorem kept_commitGroup (s : State) (x1 : Nat) (h : Kept z s) : Kept z (commitGroup s x1) := by
  unfold commitGroup
  repeat' first | with_reducible assumption | intro _ | with_reducible apply links_setAt | with_reducible apply links_map | with_reducible apply kept_groupTakes | with_reducible apply kept_setF | with_reducible apply kept_thEnd | with_reducible apply kept_foldl  | with_reducible apply kept_ite | split | dsimp only | with_reducible apply kept_mk | assumption

theorem kept_commitBy (s : State) (x1 : Nat) (x2 : Nat) (h : Kept z s) : Kept z (commitBy s x1 x2) := by
  unfold commitBy
  repeat' first | with_reducible assumption | intro _ | with_reducible apply links_setAt | with_reducible apply links_map | with_reducible apply kept_answer | with_reducible apply kept_commitGroup | with_reducible apply kept_sendFault | with_reducible apply kept_thEnd | with_reducible apply kept_thForeign | with_reducible apply kept_thResult | with_reducible apply kept_foldl  | with_reducible apply kept_ite | split | dsimp only | with_reducible apply kept_mk | assumption

theorem kept_digestWord (s : State) (x1 : Nat) (x2 : Nat) (x3 : Nat) (x4 : Nat) (h : Kept z s) : Kept z (digestWord s x1 x2 x3 x4) := by
  unfold digestWord
  repeat' first | with_reducible assumption | intro _ | with_reducible apply links_setAt | with_reducible apply links_map | with_reducible apply kept_answer | with_reducible apply kept_thForeign | with_reducible apply kept_foldl  | with_reducible apply kept_ite | split | dsimp only | with_reducible apply kept_mk | assumption

theorem kept_ctrlWrite (s : State) (x1 : Nat) (x2 : Nat) (x3 : Nat) (h : Kept z s) : Kept z (ctrlWrite s x1 x2 x3) := by
  unfold ctrlWrite
  repeat' first | with_reducible assumption | intro _ | with_reducible apply links_setAt | with_reducible apply links_map | with_reducible apply kept_abortGroup | with_reducible apply kept_answer | with_reducible apply kept_closeGroup | with_reducible apply kept_commitBy | with_reducible apply kept_openGroup | with_reducible apply kept_thForeign | with_reducible apply kept_foldl  | with_reducible apply kept_ite | split | dsimp only | with_reducible apply kept_mk | assumption

theorem kept_thCtrl (s : State) (b g : Nat) (f : State → State) (h : Kept z s) (hf : ∀ t, Kept z t → Kept z (f t)) :
    Kept z (thCtrl s b g f) :=
  kept_ite (kept_answer _ _ h) (kept_guarded _ _ _ _ _ h hf)

end Sys2Proof.Machine
end

