-- ==== Sys2Proof/Laws/KeptStart.lean ====
section
/-! SUPPORT. Every operation of Machine/Start.lean keeps the canonical form and the queue. -/

namespace Sys2Proof.Machine

variable {z : State}

theorem kept_raisePhase (s : State) (x1 : Nat) (h : Kept z s) : Kept z (raisePhase s x1) := by
  unfold raisePhase
  repeat' first | with_reducible assumption | intro _ | with_reducible apply links_setAt | with_reducible apply links_map | with_reducible apply kept_setF | with_reducible apply kept_foldl  | with_reducible apply kept_ite | split | dsimp only | with_reducible apply kept_mk | assumption

theorem kept_writeRec (s : State) (x1 : JRec) (h : Kept z s) : Kept z (writeRec s x1) := by
  unfold writeRec
  repeat' first | with_reducible assumption | intro _ | with_reducible apply links_setAt | with_reducible apply links_map | with_reducible apply kept_setF | with_reducible apply kept_foldl  | with_reducible apply kept_ite | split | dsimp only | with_reducible apply kept_mk | assumption

theorem kept_mergeCopy (s : State)  (h : Kept z s) : Kept z (mergeCopy s) := by
  unfold mergeCopy
  repeat' first | with_reducible assumption | intro _ | with_reducible apply links_setAt | with_reducible apply links_map | with_reducible apply kept_setF | with_reducible apply kept_foldl  | with_reducible apply kept_ite | split | dsimp only | with_reducible apply kept_mk | assumption

theorem kept_closeAttempt (s : State)  (h : Kept z s) : Kept z (closeAttempt s) := by
  unfold closeAttempt
  repeat' first | with_reducible assumption | intro _ | with_reducible apply links_setAt | with_reducible apply links_map | with_reducible apply kept_writeRec | with_reducible apply kept_foldl  | with_reducible apply kept_ite | split | dsimp only | with_reducible apply kept_mk | assumption

theorem kept_startFails (s : State) (x1 : Nat) (h : Kept z s) : Kept z (startFails s x1) := by
  unfold startFails
  repeat' first | with_reducible assumption | intro _ | with_reducible apply links_setAt | with_reducible apply links_map | with_reducible apply kept_sendFault | with_reducible apply kept_setF | with_reducible apply kept_writeRec | with_reducible apply kept_foldl  | with_reducible apply kept_ite | split | dsimp only | with_reducible apply kept_mk | assumption

theorem kept_comeUpBanked (s : State)  (h : Kept z s) : Kept z (comeUpBanked s) := by
  unfold comeUpBanked
  repeat' first | with_reducible assumption | intro _ | with_reducible apply links_setAt | with_reducible apply links_map | with_reducible apply kept_setF | with_reducible apply kept_showPins | with_reducible apply kept_foldl  | with_reducible apply kept_ite | split | dsimp only | with_reducible apply kept_mk | assumption

theorem kept_useSlot (s : State) (x1 : SlotImage) (x2 : Nat) (h : Kept z s) : Kept z (useSlot s x1 x2) := by
  unfold useSlot
  repeat' first | with_reducible assumption | intro _ | with_reducible apply links_setAt | with_reducible apply links_map | with_reducible apply kept_sendFault | with_reducible apply kept_setF | with_reducible apply kept_foldl  | with_reducible apply kept_ite | split | dsimp only | with_reducible apply kept_mk | assumption

theorem kept_askVersion (s : State)  (h : Kept z s) : Kept z (askVersion s) := by
  unfold askVersion
  repeat' first | with_reducible assumption | intro _ | with_reducible apply kept_fresh | dsimp only | with_reducible apply kept_mk | assumption

theorem kept_beginAttempt (s : State)  (h : Kept z s) : Kept z (beginAttempt s) := by
  unfold beginAttempt
  repeat' first | with_reducible assumption | intro _ | with_reducible apply links_setAt | with_reducible apply links_map | with_reducible apply kept_askVersion | with_reducible apply kept_setF | with_reducible apply kept_startFails | with_reducible apply kept_writeRec | with_reducible apply kept_foldl  | with_reducible apply kept_ite | split | dsimp only | with_reducible apply kept_mk | assumption

theorem kept_decideCold (s : State)  (h : Kept z s) : Kept z (decideCold s) := by
  unfold decideCold
  repeat' first | with_reducible assumption | intro _ | with_reducible apply links_setAt | with_reducible apply links_map | with_reducible apply kept_beginAttempt | with_reducible apply kept_comeUpBanked | with_reducible apply kept_setF | with_reducible apply kept_writeRec | with_reducible apply kept_foldl  | with_reducible apply kept_ite | split | dsimp only | with_reducible apply kept_mk | assumption

theorem kept_loadQueue (s : State) (x1 : Nat) (h : Kept z s) : Kept z (loadQueue s x1) := by
  unfold loadQueue
  repeat' first | with_reducible assumption | intro _ | with_reducible apply links_setAt | with_reducible apply links_map | with_reducible apply kept_set64 | with_reducible apply kept_setF | with_reducible apply kept_foldl  | with_reducible apply kept_ite | split | dsimp only | with_reducible apply kept_mk | assumption

theorem kept_loadWord (s : State) (x1 : Nat × Nat) (h : Kept z s) : Kept z (loadWord s x1) := by
  unfold loadWord
  repeat' first | with_reducible assumption | intro _ | with_reducible apply links_setAt | with_reducible apply links_map | with_reducible apply kept_wr | with_reducible apply kept_foldl  | with_reducible apply kept_ite | split | dsimp only | with_reducible apply kept_mk | assumption

theorem kept_loadPresent (s : State)  (h : Kept z s) : Kept z (loadPresent s) := by
  unfold loadPresent
  repeat' first | with_reducible assumption | intro _ | with_reducible apply links_setAt | with_reducible apply links_map | with_reducible apply kept_setF | with_reducible apply kept_foldl  | with_reducible apply kept_ite | split | dsimp only | with_reducible apply kept_mk | assumption

theorem kept_loadThresh (s : State)  (h : Kept z s) : Kept z (loadThresh s) := by
  unfold loadThresh
  repeat' first | with_reducible assumption | intro _ | with_reducible apply links_setAt | with_reducible apply links_map | with_reducible apply kept_setF | with_reducible apply kept_foldl  | with_reducible apply kept_ite | split | dsimp only | with_reducible apply kept_mk | assumption

theorem kept_loadWear (s : State)  (h : Kept z s) : Kept z (loadWear s) := by
  unfold loadWear
  repeat' first | with_reducible assumption | intro _ | with_reducible apply links_setAt | with_reducible apply links_map | with_reducible apply kept_sendFault | with_reducible apply kept_foldl  | with_reducible apply kept_ite | split | dsimp only | with_reducible apply kept_mk | assumption

theorem kept_loadUnit (s : State) (x1 : Nat) (h : Kept z s) : Kept z (loadUnit s x1) := by
  unfold loadUnit
  repeat' first | with_reducible assumption | intro _ | with_reducible apply links_setAt | with_reducible apply links_map | with_reducible apply kept_setF | with_reducible apply kept_foldl  | with_reducible apply kept_ite | split | dsimp only | with_reducible apply kept_mk | assumption

theorem kept_loadUnits (s : State)  (h : Kept z s) : Kept z (loadUnits s) := by
  unfold loadUnits
  repeat' first | with_reducible assumption | intro _ | with_reducible apply links_setAt | with_reducible apply links_map | with_reducible apply kept_loadUnit | with_reducible apply kept_recount | with_reducible apply kept_setF | with_reducible apply kept_foldl  | with_reducible apply kept_ite | split | dsimp only | with_reducible apply kept_mk | assumption

theorem kept_mapBank (ret : List Nat) (a : List Nat × State) (l : Nat) (h : Kept z a.2) : Kept z (mapBank ret a l).2 := by
  unfold mapBank
  exact kept_setF _ _ _ (kept_setF _ _ _ h)

theorem kept_formMap (s : State)  (h : Kept z s) : Kept z (formMap s) := by
  unfold formMap
  with_reducible apply kept_setF
  with_reducible apply kept_foldl_snd
  · with_reducible apply kept_foldl
    · exact h
    · intro _ _ k
      exact kept_ite (kept_setF _ _ _ k) k
  · intro _ _ k
    exact kept_mapBank _ _ _ k

theorem kept_clearRange (s : State) (x1 : Nat) (x2 : Nat) (h : Kept z s) : Kept z (clearRange s x1 x2) := by
  refine ⟨h.regs, fun w => ?_, h.links, h.pending⟩
  have := h.mem w
  simp only [Memory.wf, Bool.and_eq_true] at this ⊢
  exact ⟨⟨⟨swf_filter zeroByte _ _ this.1.1.1, swf_filter noErr _ _ this.1.1.2⟩, this.1.2⟩, this.2⟩

theorem kept_zeroRing (s : State) (x1 : Nat) (h : Kept z s) : Kept z (zeroRing s x1) := by
  unfold zeroRing
  repeat' first | with_reducible assumption | intro _ | with_reducible apply links_setAt | with_reducible apply links_map | with_reducible apply kept_clearRange | with_reducible apply kept_tagWrite | with_reducible apply kept_foldl  | with_reducible apply kept_ite | split | dsimp only | with_reducible apply kept_mk | assumption

theorem kept_zeroRings (s : State) (x0 : Bool) (h : Kept z s) : Kept z (zeroRings x0 s) := by
  unfold zeroRings
  repeat' first | with_reducible assumption | intro _ | with_reducible apply links_setAt | with_reducible apply links_map | with_reducible apply kept_zeroRing | with_reducible apply kept_foldl  | with_reducible apply kept_ite | split | dsimp only | with_reducible apply kept_mk | assumption

theorem kept_gradeLinks (s : State)  (h : Kept z s) : Kept z (gradeLinks s) := by
  unfold gradeLinks
  repeat' first | with_reducible assumption | intro _ | with_reducible apply links_setAt | with_reducible apply links_map | with_reducible apply kept_setF | with_reducible apply kept_foldl  | with_reducible apply kept_ite | split | dsimp only | with_reducible apply kept_mk | assumption

theorem kept_loadBillet (s : State) (x1 : Billet) (h : Kept z s) : Kept z (loadBillet s x1) := by
  unfold loadBillet
  repeat' first | with_reducible assumption | intro _ | with_reducible apply links_setAt | with_reducible apply links_map | with_reducible apply kept_formMap | with_reducible apply kept_gradeLinks | with_reducible apply kept_loadPresent | with_reducible apply kept_loadQueue | with_reducible apply kept_loadThresh | with_reducible apply kept_loadUnits | with_reducible apply kept_loadWear | with_reducible apply kept_loadWord | with_reducible apply kept_setF | with_reducible apply kept_zeroRings | with_reducible apply kept_foldl  | with_reducible apply kept_ite | split | dsimp only | with_reducible apply kept_mk | assumption

theorem kept_accept (s : State) (x1 : SlotImage) (h : Kept z s) : Kept z (accept s x1) := by
  unfold accept
  repeat' first | with_reducible assumption | intro _ | with_reducible apply links_setAt | with_reducible apply links_map | with_reducible apply kept_loadBillet | with_reducible apply kept_setF | with_reducible apply kept_foldl  | with_reducible apply kept_ite | split | dsimp only | with_reducible apply kept_mk | assumption

theorem kept_tryOther (s : State)  (h : Kept z s) : Kept z (tryOther s) := by
  unfold tryOther
  repeat' first | with_reducible assumption | intro _ | with_reducible apply links_setAt | with_reducible apply links_map | with_reducible apply kept_accept | with_reducible apply kept_startFails | with_reducible apply kept_useSlot | with_reducible apply kept_foldl  | with_reducible apply kept_ite | split | dsimp only | with_reducible apply kept_mk | assumption

theorem kept_startGroup (s : State) (x1 : Nat) (h : Kept z s) : Kept z (startGroup s x1) := by
  unfold startGroup
  repeat' first | with_reducible assumption | intro _ | with_reducible apply links_setAt | with_reducible apply links_map | with_reducible apply kept_setF | with_reducible apply kept_thResult | with_reducible apply kept_wr | with_reducible apply kept_foldl  | with_reducible apply kept_ite | split | dsimp only | with_reducible apply kept_mk | assumption

end Sys2Proof.Machine
end

