-- ==== Sys2Proof/Laws/KeptEmber.lean ====
section
/-! SUPPORT. Every operation of Machine/Ember.lean keeps the canonical form and the queue. -/

namespace Sys2Proof.Machine

variable {z : State}

theorem kept_clearClass (s : State) (x1 : Nat) (h : Kept z s) : Kept z (clearClass s x1) := by
  unfold clearClass
  repeat' first | with_reducible assumption | intro _ | with_reducible apply links_setAt | with_reducible apply links_map | with_reducible apply kept_setF | with_reducible apply kept_setUState | with_reducible apply kept_foldl  | with_reducible apply kept_ite | split | dsimp only | with_reducible apply kept_mk | assumption

theorem kept_assign (s : State) (x1 : Nat) (x2 : List Nat) (h : Kept z s) : Kept z (assign s x1 x2) := by
  unfold assign
  repeat' first | with_reducible assumption | intro _ | with_reducible apply links_setAt | with_reducible apply links_map | with_reducible apply kept_mapTo | with_reducible apply kept_setF | with_reducible apply kept_foldl  | with_reducible apply kept_ite | split | dsimp only | with_reducible apply kept_mk | assumption

theorem kept_mapClass (s : State) (x1 : Nat) (h : Kept z s) : Kept z (mapClass s x1) := by
  unfold mapClass
  repeat' first | with_reducible assumption | intro _ | with_reducible apply links_setAt | with_reducible apply links_map | with_reducible apply kept_assign | with_reducible apply kept_clearClass | with_reducible apply kept_recount | with_reducible apply kept_foldl  | with_reducible apply kept_ite | split | dsimp only | with_reducible apply kept_mk | assumption

theorem kept_mapAll (s : State)  (h : Kept z s) : Kept z (mapAll s) := by
  unfold mapAll
  repeat' first | with_reducible assumption | intro _ | with_reducible apply links_setAt | with_reducible apply links_map | with_reducible apply kept_mapClass | with_reducible apply kept_tendHearths | with_reducible apply kept_foldl  | with_reducible apply kept_ite | split | dsimp only | with_reducible apply kept_mk | assumption

theorem kept_retireAtStart (s : State) (x1 : Nat) (h : Kept z s) : Kept z (retireAtStart s x1) := by
  unfold retireAtStart
  repeat' first | with_reducible assumption | intro _ | with_reducible apply links_setAt | with_reducible apply links_map | with_reducible apply kept_setF | with_reducible apply kept_foldl  | with_reducible apply kept_ite | split | dsimp only | with_reducible apply kept_mk | assumption

theorem kept_loadTables (s : State)  (h : Kept z s) : Kept z (loadTables s) := by
  unfold loadTables
  repeat' first | with_reducible assumption | intro _ | with_reducible apply links_setAt | with_reducible apply links_map | with_reducible apply kept_setF | with_reducible apply kept_foldl  | with_reducible apply kept_ite | split | dsimp only | with_reducible apply kept_mk | assumption

theorem kept_placeGolden (s : State)  (h : Kept z s) : Kept z (placeGolden s) := by
  unfold placeGolden
  repeat' first | with_reducible assumption | intro _ | with_reducible apply links_setAt | with_reducible apply links_map | with_reducible apply kept_asyStore | with_reducible apply kept_store | with_reducible apply kept_foldl  | with_reducible apply kept_ite | split | dsimp only | with_reducible apply kept_mk | assumption

theorem kept_placeImages (s : State) (x1 : Nat × Nat) (h : Kept z s) : Kept z (placeImages s x1) := by
  unfold placeImages
  repeat' first | with_reducible assumption | intro _ | with_reducible apply links_setAt | with_reducible apply links_map | with_reducible apply kept_initImage | with_reducible apply kept_foldl  | with_reducible apply kept_ite | split | dsimp only | with_reducible apply kept_mk | assumption

theorem kept_startEmber (s : State) (x1 : List (Nat × List Nat)) (x2 : Nat) (h : Kept z s) : Kept z (startEmber s x1 x2) := by
  unfold startEmber
  repeat' first | with_reducible assumption | intro _ | with_reducible apply links_setAt | with_reducible apply links_map | with_reducible apply kept_assign | with_reducible apply kept_clearClass | with_reducible apply kept_computeStarts | with_reducible apply kept_placeImages | with_reducible apply kept_recount | with_reducible apply kept_setF | with_reducible apply kept_foldl  | with_reducible apply kept_ite | split | dsimp only | with_reducible apply kept_mk | assumption

theorem kept_takeForService (s : State)  (h : Kept z s) : Kept z (takeForService s) := by
  unfold takeForService
  repeat' first | with_reducible assumption | intro _ | with_reducible apply links_setAt | with_reducible apply links_map | with_reducible apply kept_computeStarts | with_reducible apply kept_foldl  | with_reducible apply kept_ite | split | dsimp only | with_reducible apply kept_mk | assumption

theorem kept_setActive (s : State) (x1 : List Nat) (x2 : List Nat) (h : Kept z s) : Kept z (setActive s x1 x2) := by
  unfold setActive
  repeat' first | with_reducible assumption | intro _ | with_reducible apply links_setAt | with_reducible apply links_map | with_reducible apply kept_set64 | with_reducible apply kept_setF | with_reducible apply kept_foldl  | with_reducible apply kept_ite | split | dsimp only | with_reducible apply kept_mk | assumption

theorem kept_testUnit (s : State) (x0 : List Nat) (x2 : Nat) (h : Kept z s) : Kept z (testUnit x0 s x2) := by
  unfold testUnit
  repeat' first | with_reducible assumption | intro _ | with_reducible apply links_setAt | with_reducible apply links_map | with_reducible apply kept_bump | with_reducible apply kept_setUState | with_reducible apply kept_foldl  | with_reducible apply kept_ite | split | dsimp only | with_reducible apply kept_mk | assumption

theorem kept_startExhausted (s : State) (x1 : Nat) (h : Kept z s) : Kept z (startExhausted s x1) := by
  unfold startExhausted
  repeat' first | with_reducible assumption | intro _ | with_reducible apply links_setAt | with_reducible apply links_map | with_reducible apply kept_sendFault | with_reducible apply kept_setF | with_reducible apply kept_foldl  | with_reducible apply kept_ite | split | dsimp only | with_reducible apply kept_mk | assumption

theorem kept_appIsReady (s : State)  (h : Kept z s) : Kept z (appIsReady s) := by
  unfold appIsReady
  repeat' first | with_reducible assumption | intro _ | with_reducible apply links_setAt | with_reducible apply links_map | with_reducible apply kept_raisePhase | with_reducible apply kept_setF | with_reducible apply kept_takeForService | with_reducible apply kept_foldl  | with_reducible apply kept_ite | split | dsimp only | with_reducible apply kept_mk | assumption

theorem kept_advance (s : State) (x1 : Bool) (h : Kept z s) : Kept z (advance s x1) := by
  unfold advance
  repeat' first | with_reducible assumption | intro _ | with_reducible apply links_setAt | with_reducible apply links_map | with_reducible apply kept_sendFault | with_reducible apply kept_foldl  | with_reducible apply kept_ite | split | dsimp only | with_reducible apply kept_mk | assumption

theorem kept_emptyPeal (s : State)  (h : Kept z s) : Kept z (emptyPeal s) := by
  unfold emptyPeal
  repeat' first | with_reducible assumption | intro _ | with_reducible apply links_setAt | with_reducible apply links_map | with_reducible apply kept_setF | with_reducible apply kept_foldl  | with_reducible apply kept_ite | split | dsimp only | with_reducible apply kept_mk | assumption

theorem kept_fullClock (s : State)  (h : Kept z s) : Kept z (fullClock s) := by
  unfold fullClock
  repeat' first | with_reducible assumption | intro _ | with_reducible apply links_setAt | with_reducible apply links_map | with_reducible apply kept_setF | with_reducible apply kept_foldl  | with_reducible apply kept_ite | split | dsimp only | with_reducible apply kept_mk | assumption

theorem kept_enterService (s : State) (x1 : Nat) (x2 : Nat) (h : Kept z s) : Kept z (enterService s x1 x2) := by
  unfold enterService
  repeat' first | with_reducible assumption | intro _ | with_reducible apply links_setAt | with_reducible apply links_map | with_reducible apply kept_emptyPeal | with_reducible apply kept_fullClock | with_reducible apply kept_mapAll | with_reducible apply kept_placeImages | with_reducible apply kept_setF | with_reducible apply kept_foldl  | with_reducible apply kept_ite | split | dsimp only | with_reducible apply kept_mk | assumption

end Sys2Proof.Machine
end

