-- ==== Sys2Proof/Laws/KeptBanked.lean ====
section
/-! SUPPORT. Every operation of Machine/Banked.lean keeps the canonical form and the queue. -/

namespace Sys2Proof.Machine

variable {z : State}

theorem kept_kick (s : State) (x1 : Nat) (x2 : Nat) (h : Kept z s) : Kept z (kick s x1 x2) := by
  unfold kick
  repeat' first | with_reducible assumption | intro _ | with_reducible apply links_setAt | with_reducible apply links_map | with_reducible apply kept_answer | with_reducible apply kept_foldl  | with_reducible apply kept_ite | split | dsimp only | with_reducible apply kept_mk | assumption

theorem kept_warmRequest (s : State) (x1 : Nat) (x2 : Nat) (h : Kept z s) : Kept z (warmRequest s x1 x2) := by
  unfold warmRequest
  repeat' first | with_reducible assumption | intro _ | with_reducible apply links_setAt | with_reducible apply links_map | with_reducible apply kept_answer | with_reducible apply kept_sendFault | with_reducible apply kept_foldl  | with_reducible apply kept_ite | split | dsimp only | with_reducible apply kept_mk | assumption

end Sys2Proof.Machine
end

