-- ==== Sys2Proof/Laws/KeptThermal.lean ====
section
/-! SUPPORT. Every operation of Machine/Thermal.lean keeps the canonical form and the queue. -/

namespace Sys2Proof.Machine

variable {z : State}

theorem kept_excludeSensor (s : State) (x1 : Nat) (h : Kept z s) : Kept z (excludeSensor s x1) := by
  unfold excludeSensor
  repeat' first | with_reducible assumption | intro _ | with_reducible apply links_setAt | with_reducible apply links_map | with_reducible apply kept_bump | with_reducible apply kept_sendFault | with_reducible apply kept_foldl  | with_reducible apply kept_ite | split | dsimp only | with_reducible apply kept_mk | assumption

theorem kept_countOff (s : State) (x1 : List Int) (h : Kept z s) : Kept z (countOff s x1) := by
  unfold countOff
  repeat' first | with_reducible assumption | intro _ | with_reducible apply links_setAt | with_reducible apply links_map | with_reducible apply kept_foldl  | with_reducible apply kept_ite | split | dsimp only | with_reducible apply kept_mk | assumption

theorem kept_judgeSensors (s : State) (x1 : List Int) (h : Kept z s) : Kept z (judgeSensors s x1) := by
  unfold judgeSensors
  repeat' first | with_reducible assumption | intro _ | with_reducible apply links_setAt | with_reducible apply links_map | with_reducible apply kept_countOff | with_reducible apply kept_excludeSensor | with_reducible apply kept_foldl  | with_reducible apply kept_ite | split | dsimp only | with_reducible apply kept_mk | assumption

theorem kept_showSensor (s : State) (x0 : List Int) (x2 : Nat) (h : Kept z s) : Kept z (showSensor x0 s x2) := by
  unfold showSensor
  repeat' first | with_reducible assumption | intro _ | with_reducible apply links_setAt | with_reducible apply links_map | with_reducible apply kept_setF | with_reducible apply kept_foldl  | with_reducible apply kept_ite | split | dsimp only | with_reducible apply kept_mk | assumption

theorem kept_failRegion (s : State) (x1 : Nat) (h : Kept z s) : Kept z (failRegion s x1) := by
  unfold failRegion
  repeat' first | with_reducible assumption | intro _ | with_reducible apply links_setAt | with_reducible apply links_map | with_reducible apply kept_sendFault | with_reducible apply kept_foldl  | with_reducible apply kept_ite | split | dsimp only | with_reducible apply kept_mk | assumption

theorem kept_showHottest (s : State) (x1 : List Int) (h : Kept z s) : Kept z (showHottest s x1) := by
  unfold showHottest
  repeat' first | with_reducible assumption | intro _ | with_reducible apply links_setAt | with_reducible apply links_map | with_reducible apply kept_setF | with_reducible apply kept_foldl  | with_reducible apply kept_ite | split | dsimp only | with_reducible apply kept_mk | assumption

theorem kept_takeStep (s : State) (x1 : Nat) (h : Kept z s) : Kept z (takeStep s x1) := by
  unfold takeStep
  repeat' first | with_reducible assumption | intro _ | with_reducible apply links_setAt | with_reducible apply links_map | with_reducible apply kept_bump | with_reducible apply kept_sendFault | with_reducible apply kept_setF | with_reducible apply kept_foldl  | with_reducible apply kept_ite | split | dsimp only | with_reducible apply kept_mk | assumption

theorem kept_judgeCritical (s : State) (x1 : List Int) (h : Kept z s) : Kept z (judgeCritical s x1) := by
  unfold judgeCritical
  repeat' first | with_reducible assumption | intro _ | with_reducible apply links_setAt | with_reducible apply links_map | with_reducible apply kept_sendFault | with_reducible apply kept_setF | with_reducible apply kept_takeStep | with_reducible apply kept_foldl  | with_reducible apply kept_ite | split | dsimp only | with_reducible apply kept_mk | assumption

theorem kept_judgeThrottle (s : State) (x1 : Int) (x2 : Nat) (h : Kept z s) : Kept z (judgeThrottle s x1 x2) := by
  unfold judgeThrottle
  repeat' first | with_reducible assumption | intro _ | with_reducible apply links_setAt | with_reducible apply links_map | with_reducible apply kept_foldl  | with_reducible apply kept_ite | split | dsimp only | with_reducible apply kept_mk | assumption

theorem kept_countThrottled (s : State) (x1 : Nat) (h : Kept z s) : Kept z (countThrottled s x1) := by
  unfold countThrottled
  repeat' first | with_reducible assumption | intro _ | with_reducible apply links_setAt | with_reducible apply links_map | with_reducible apply kept_bump | with_reducible apply kept_foldl  | with_reducible apply kept_ite | split | dsimp only | with_reducible apply kept_mk | assumption

theorem kept_drainFaults (s : State) (x0 : Nat) (h : Kept z s) : Kept z (drainFaults x0 s) := by
  induction x0 generalizing s with
  | zero => exact h
  | succ k ih =>
    unfold drainFaults
    repeat' first | with_reducible assumption | intro _ | with_reducible apply links_setAt | with_reducible apply links_map | with_reducible apply ih | with_reducible apply kept_acceptFault | with_reducible apply kept_foldl  | with_reducible apply kept_ite | split | dsimp only | with_reducible apply kept_mk | assumption

end Sys2Proof.Machine
end

