-- ==== Sys2Proof/Laws/KeptIdentity.lean ====
section
/-! SUPPORT. Every operation of Machine/Identity.lean keeps the canonical form and the queue. -/

namespace Sys2Proof.Machine

variable {z : State}

theorem kept_requestReport (s : State)  (h : Kept z s) : Kept z (requestReport s) := by
  unfold requestReport
  repeat' first | with_reducible assumption | intro _ | with_reducible apply links_setAt | with_reducible apply links_map | with_reducible apply kept_answer | with_reducible apply kept_sendFault | with_reducible apply kept_setF | with_reducible apply kept_foldl  | with_reducible apply kept_ite | split | dsimp only | with_reducible apply kept_mk | assumption

theorem kept_stageUnlock (s : State) (x1 : Nat) (h : Kept z s) : Kept z (stageUnlock s x1) := by
  unfold stageUnlock
  repeat' first | with_reducible assumption | intro _ | with_reducible apply links_setAt | with_reducible apply links_map | with_reducible apply kept_closeGroup | with_reducible apply kept_openGroup | with_reducible apply kept_stageWord | with_reducible apply kept_foldl  | with_reducible apply kept_ite | split | dsimp only | with_reducible apply kept_mk | assumption

theorem kept_submitToken (s : State)  (h : Kept z s) : Kept z (submitToken s) := by
  unfold submitToken
  repeat' first | with_reducible assumption | intro _ | with_reducible apply links_setAt | with_reducible apply links_map | with_reducible apply kept_answer | with_reducible apply kept_fresh | with_reducible apply kept_sendFault | with_reducible apply kept_setF | with_reducible apply kept_stageUnlock | with_reducible apply kept_foldl  | with_reducible apply kept_foldl_fst | with_reducible apply kept_foldl_snd | with_reducible apply kept_ite_fst | with_reducible apply kept_ite_snd | with_reducible apply kept_ite | split | dsimp only | with_reducible apply kept_mk | assumption

end Sys2Proof.Machine
end

