-- ==== Sys2Proof/Laws/KeptRegAccess.lean ====
section
/-! SUPPORT. Every operation of Machine/RegAccess.lean keeps the canonical form and the queue. -/

namespace Sys2Proof.Machine

variable {z : State}

theorem kept_latchHi (s : State) (x1 : Nat) (h : Kept z s) : Kept z (latchHi s x1) := by
  unfold latchHi
  repeat' first | with_reducible assumption | intro _ | with_reducible apply links_setAt | with_reducible apply links_map | with_reducible apply kept_foldl  | with_reducible apply kept_ite | split | dsimp only | with_reducible apply kept_mk | assumption

theorem kept_clearRc (s : State) (x1 : Nat) (x2 : RegRow) (x3 : Nat) (h : Kept z s) : Kept z (clearRc s x1 x2 x3) := by
  unfold clearRc
  repeat' first | with_reducible assumption | intro _ | with_reducible apply links_setAt | with_reducible apply links_map | with_reducible apply kept_wr | with_reducible apply kept_foldl  | with_reducible apply kept_ite | split | dsimp only | with_reducible apply kept_mk | assumption

theorem kept_readAt (s : State) (x1 : Nat) (x2 : Nat) (x3 : Nat) (x4 : Nat) (h : Kept z s) : Kept z (readAt s x1 x2 x3 x4) := by
  unfold readAt
  repeat' first | with_reducible assumption | intro _ | with_reducible apply links_setAt | with_reducible apply links_map | with_reducible apply kept_answer | with_reducible apply kept_clearRc | with_reducible apply kept_latchHi | with_reducible apply kept_refuseAccess | with_reducible apply kept_foldl  | with_reducible apply kept_ite | split | dsimp only | with_reducible apply kept_mk | assumption

theorem kept_regAccess (s : State) (b k a w : Nat) (f : State → State) (h : Kept z s) (hf : ∀ t, Kept z t → Kept z (f t)) :
    Kept z (regAccess s b k a w f) := by
  unfold regAccess
  refine kept_ite (kept_answer _ _ h) (kept_ite (hf _ h) ?_)
  split
  · exact kept_answer _ _ (kept_deny _ _ _ _ _ _ h)
  · exact hf _ h

theorem kept_readReg (s : State) (x1 : Nat) (x2 : Nat) (x3 : Nat) (x4 : Nat) (h : Kept z s) : Kept z (readReg s x1 x2 x3 x4) := by
  unfold readReg
  repeat' first | with_reducible assumption | intro _ | with_reducible apply links_setAt | with_reducible apply links_map | with_reducible apply kept_readAt | with_reducible apply kept_regAccess | with_reducible apply kept_foldl  | with_reducible apply kept_ite | split | dsimp only | with_reducible apply kept_mk | assumption

theorem kept_writeWord (s : State) (x1 : Nat) (x2 : RegRow) (x3 : Nat) (x4 : Nat) (h : Kept z s) : Kept z (writeWord s x1 x2 x3 x4) := by
  unfold writeWord
  repeat' first | with_reducible assumption | intro _ | with_reducible apply links_setAt | with_reducible apply links_map | with_reducible apply kept_wr | with_reducible apply kept_foldl  | with_reducible apply kept_ite | split | dsimp only | with_reducible apply kept_mk | assumption

theorem kept_writeVersion (s : State) (x1 : Nat) (h : Kept z s) : Kept z (writeVersion s x1) := by
  unfold writeVersion
  repeat' first | with_reducible assumption | intro _ | with_reducible apply links_setAt | with_reducible apply links_map | with_reducible apply kept_answer | with_reducible apply kept_setVersion | with_reducible apply kept_foldl  | with_reducible apply kept_ite | split | dsimp only | with_reducible apply kept_mk | assumption

theorem kept_writeRetrain (s : State) (x1 : Nat) (x2 : Nat) (h : Kept z s) : Kept z (writeRetrain s x1 x2) := by
  unfold writeRetrain
  repeat' first | with_reducible assumption | intro _ | with_reducible apply links_setAt | with_reducible apply links_map | with_reducible apply kept_answer | with_reducible apply kept_requestRetrain | with_reducible apply kept_foldl  | with_reducible apply kept_ite | split | dsimp only | with_reducible apply kept_mk | assumption

theorem kept_writeBankCtrl (s : State) (x1 : RegRow) (x2 : Nat) (x3 : Nat) (h : Kept z s) : Kept z (writeBankCtrl s x1 x2 x3) := by
  unfold writeBankCtrl
  repeat' first | with_reducible assumption | intro _ | with_reducible apply links_setAt | with_reducible apply links_map | with_reducible apply kept_answer | with_reducible apply kept_requestSwap | with_reducible apply kept_writeWord | with_reducible apply kept_foldl  | with_reducible apply kept_ite | split | dsimp only | with_reducible apply kept_mk | assumption

theorem kept_writeStart (s : State) (x1 : Nat) (h : Kept z s) : Kept z (writeStart s x1) := by
  unfold writeStart
  repeat' first | with_reducible assumption | intro _ | with_reducible apply links_setAt | with_reducible apply links_map | with_reducible apply kept_answer | with_reducible apply kept_appIsReady | with_reducible apply kept_foldl  | with_reducible apply kept_ite | split | dsimp only | with_reducible apply kept_mk | assumption

theorem kept_writeAttest (s : State) (x1 : RegRow) (x2 : Nat) (x3 : Nat) (h : Kept z s) : Kept z (writeAttest s x1 x2 x3) := by
  unfold writeAttest
  repeat' first | with_reducible assumption | intro _ | with_reducible apply links_setAt | with_reducible apply links_map | with_reducible apply kept_answer | with_reducible apply kept_requestReport | with_reducible apply kept_writeWord | with_reducible apply kept_foldl  | with_reducible apply kept_ite | split | dsimp only | with_reducible apply kept_mk | assumption

theorem kept_writeGroup (s : State) (x1 : Nat) (x2 : Nat) (x3 : Nat) (h : Kept z s) : Kept z (writeGroup s x1 x2 x3) := by
  unfold writeGroup
  repeat' first | with_reducible assumption | intro _ | with_reducible apply links_setAt | with_reducible apply links_map | with_reducible apply kept_answer | with_reducible apply kept_ctrlWrite | with_reducible apply kept_digestWord | with_reducible apply kept_foldl  | with_reducible apply kept_ite | split | dsimp only | with_reducible apply kept_mk | assumption

/-- An operation that may answer a state answers one that is kept. -/
def KeptO (z : State) (o : Option State) : Prop := ∀ t, o = some t → Kept z t

theorem keptO_some {t : State} (h : Kept z t) : KeptO z (some t) := fun u e => by simp only [Option.some.injEq] at e; exact e ▸ h

theorem keptO_none : KeptO z none := fun _ e => by simp at e

theorem keptO_ite {c : Prop} [Decidable c] {a b : Option State} (ha : KeptO z a) (hb : KeptO z b) : KeptO z (if c then a else b) := by
  split <;> assumption

theorem keptO_special (s : State) (brand a v hw : Nat) (r : RegRow) (h : Kept z s) : KeptO z (special s brand a v hw r) := by
  unfold special
  repeat' first | with_reducible assumption | with_reducible apply keptO_ite | with_reducible apply keptO_some | with_reducible exact keptO_none | with_reducible apply kept_modeRequest | with_reducible apply kept_kick | with_reducible apply kept_warmRequest | with_reducible apply kept_writeStart | with_reducible apply kept_writeBankCtrl | with_reducible apply kept_writeTimetable | with_reducible apply kept_writeTail | with_reducible apply kept_writeCqHead | with_reducible apply kept_skipFlow | with_reducible apply kept_writeInject | with_reducible apply kept_writeWp | with_reducible apply kept_writeAttest | with_reducible apply kept_writeVersion | with_reducible apply kept_writeRetrain | with_reducible apply kept_writeGroup | with_reducible apply kept_clearFirst | with_reducible apply kept_stageWord | with_reducible apply kept_answer | with_reducible apply kept_ite

theorem kept_writeAt (s : State) (x1 : Nat) (x2 : Nat) (x3 : Nat) (x4 : Nat) (x5 : Nat) (h : Kept z s) : Kept z (writeAt s x1 x2 x3 x4 x5) := by
  unfold writeAt
  refine kept_ite (kept_refuseAccess _ _ _ h) ?_
  split
  · exact kept_refuseAccess _ _ _ h
  · dsimp only
    split
    · next e => exact keptO_special _ _ _ _ _ _ h _ e
    · exact kept_answer _ _ (kept_writeWord _ _ _ _ _ h)

theorem kept_writeReg (s : State) (x1 : Nat) (x2 : Nat) (x3 : Nat) (x4 : Nat) (x5 : Nat) (h : Kept z s) : Kept z (writeReg s x1 x2 x3 x4 x5) := by
  unfold writeReg
  repeat' first | with_reducible assumption | intro _ | with_reducible apply links_setAt | with_reducible apply links_map | with_reducible apply kept_regAccess | with_reducible apply kept_writeAt | with_reducible apply kept_foldl  | with_reducible apply kept_ite | split | dsimp only | with_reducible apply kept_mk | assumption

theorem kept_memLines (s : State) (x1 : Nat) (x2 : Nat) (h : Kept z s) : Kept z (memLines s x1 x2).1 := by
  induction x1 generalizing s x2 with
  | zero => exact h
  | succ k ih =>
    unfold memLines
    repeat' first | with_reducible assumption | intro _ | with_reducible apply links_setAt | with_reducible apply links_map | with_reducible apply ih | with_reducible apply kept_notesFx | with_reducible apply kept_foldl  | with_reducible apply kept_foldl_fst | with_reducible apply kept_foldl_snd | with_reducible apply kept_ite_fst | with_reducible apply kept_ite_snd | with_reducible apply kept_ite | split | dsimp only | with_reducible apply kept_mk | assumption

theorem kept_memRead (s : State) (x1 : Nat) (x2 : Nat) (h : Kept z s) : Kept z (memRead s x1 x2) := by
  unfold memRead
  repeat' first | with_reducible assumption | intro _ | with_reducible apply links_setAt | with_reducible apply links_map | with_reducible apply kept_answer | with_reducible apply kept_memLines | with_reducible apply kept_foldl  | with_reducible apply kept_foldl_fst | with_reducible apply kept_foldl_snd | with_reducible apply kept_ite_fst | with_reducible apply kept_ite_snd | with_reducible apply kept_ite | split | dsimp only | with_reducible apply kept_mk | assumption

theorem kept_remoteAccess (s : State) (x1 : Nat) (x2 : Nat) (x3 : Nat) (x4 : List Nat) (x5 : Nat) (h : Kept z s) : Kept z (remoteAccess s x1 x2 x3 x4 x5) := by
  unfold remoteAccess
  repeat' first | with_reducible assumption | intro _ | with_reducible apply links_setAt | with_reducible apply links_map | with_reducible apply kept_answer | with_reducible apply kept_remoteFail | with_reducible apply kept_remoteSend | with_reducible apply kept_foldl  | with_reducible apply kept_foldl_fst | with_reducible apply kept_foldl_snd | with_reducible apply kept_ite_fst | with_reducible apply kept_ite_snd | with_reducible apply kept_ite | split | dsimp only | with_reducible apply kept_mk | assumption

theorem kept_memAccess (s : State) (x1 : Nat) (x2 : Nat) (x3 : Nat) (x4 : List Nat) (x5 : Nat) (h : Kept z s) : Kept z (memAccess s x1 x2 x3 x4 x5) := by
  unfold memAccess
  repeat' first | with_reducible assumption | intro _ | with_reducible apply links_setAt | with_reducible apply links_map | with_reducible apply kept_answer | with_reducible apply kept_deny | with_reducible apply kept_memRead | with_reducible apply kept_readReg | with_reducible apply kept_remoteAccess | with_reducible apply kept_store | with_reducible apply kept_writeReg | with_reducible apply kept_foldl  | with_reducible apply kept_ite | split | dsimp only | with_reducible apply kept_mk | assumption

end Sys2Proof.Machine
end

