-- ==== Sys2Proof/Laws/Keys.lean ====
section
/-! SUPPORT. The lengths of digests, keys and signatures. -/

namespace Sys2Proof.Laws

open Sys2Proof Sys2Proof.Machine

@[simp] theorem beBytes_length (k n : Nat) : (beBytes k n).length = k := by
  induction k with
  | zero => rfl
  | succ k ih => simp [beBytes, ih]

theorem beBytes_byte (k n : Nat) : ∀ b ∈ beBytes k n, b < 256 := by
  induction k with
  | zero => simp [beBytes]
  | succ k ih => simp only [beBytes, List.mem_cons, forall_eq_or_imp]; exact ⟨Nat.mod_lt _ (by decide), ih⟩

theorem flatMap_beBytes_length (k : Nat) (l : List Nat) : (l.flatMap (beBytes k)).length = k * l.length := by
  induction l with
  | nil => rfl
  | cons a t ih => simp [ih, Nat.mul_add, Nat.add_comm]

theorem foldl_sm3Round_length (w : List Nat) (l : List Nat) (v : List Nat) (h : v.length = 8) :
    (l.foldl (sm3Round w) v).length = 8 := by
  induction l generalizing v with
  | nil => exact h
  | cons j t ih => exact ih _ rfl

theorem sm3Blocks_length (k : Nat) (v bs : List Nat) (h : v.length = 8) : (sm3Blocks k v bs).length = 8 := by
  induction k generalizing v bs with
  | zero => exact h
  | succ k ih => exact ih _ _ (by simp [sm3Block, foldl_sm3Round_length _ _ _ h, h])

@[simp] theorem sm3_length (bs : List Nat) : (sm3 bs).length = 32 := by
  simp only [sm3]
  rw [flatMap_beBytes_length, sm3Blocks_length _ _ _ rfl]

theorem sm3_byte (bs : List Nat) : ∀ b ∈ sm3 bs, b < 256 := by
  simp only [sm3, List.mem_flatMap]
  rintro b ⟨a, -, h⟩
  exact beBytes_byte 4 a b h

@[simp] theorem keyId_length (key : List Nat) : (keyId key).length = 8 := by simp [keyId]

@[simp] theorem deviceId_length (k : Sec) : (deviceId k).length = 8 := keyId_length _

@[simp] theorem devicePublic_length (k : Sec) : (devicePublic k).length = 64 := by simp [devicePublic, sm2Public, pointBytes]

@[simp] theorem signature_length (k : Sec) (c : Nat) (b : List Nat) : (signature k c b).length = 64 := by simp [signature, sm2Sign]

/-- A signature's bytes are bytes. -/
theorem signature_byte (k : Sec) (c : Nat) (b : List Nat) : ∀ x ∈ signature k c b, x < 256 := by
  simp only [signature, sm2Sign, List.mem_append]
  rintro x (h | h)
  · exact beBytes_byte _ _ x h
  · exact beBytes_byte _ _ x h

end Sys2Proof.Laws
end

