-- ==== Sys2Proof/Laws/Wire.lean ====
section
/-! SUPPORT. Sending, passing on and taking messages change the links and nothing else. -/

namespace Sys2Proof.Machine

/-- Nothing but the links differs. -/
def Wire (s t : State) : Prop := t = { s with ubf := t.ubf }

variable {z : State}

theorem wire_refl (s : State) : Wire s s := rfl

theorem wire_setLnk (s : State) (i : Nat) (l : Link) (h : Wire z s) : Wire z (setLnk s i l) := by
  unfold Wire at *; unfold setLnk; rw [h]

theorem wire_pump (s : State) (i : Nat) (h : Wire z s) : Wire z (pump s i) := by
  unfold pump; split
  · exact wire_setLnk _ _ _ h
  · exact h

theorem wire_sendCtl (s : State) (i nak : Nat) (h : Wire z s) : Wire z (sendCtl s i nak) := wire_setLnk _ _ _ h

theorem wire_sendMsg (s : State) (i : Nat) (hdr : List Nat) (fs : List (List Nat)) (h : Wire z s) : Wire z (sendMsg s i hdr fs) := by
  unfold sendMsg; dsimp only; split
  · exact h
  · exact wire_pump _ _ (wire_setLnk _ _ _ h)

theorem wire_sendTo (s : State) (n : Nat) (hdr : List Nat) (fs : List (List Nat)) (h : Wire z s) : Wire z (sendTo s n hdr fs) := by
  unfold sendTo; split
  · exact wire_sendMsg _ _ _ _ h
  · exact h

theorem wire_sendSync (s : State) (typ n a b : Nat) (h : Wire z s) : Wire z (sendSync s typ n a b) := wire_sendTo _ _ _ _ h

theorem wire_foldl {β : Type} (f : State → β → State) (l : List β) (s : State) (h : Wire z s) (hf : ∀ s x, Wire z s → Wire z (f s x)) :
    Wire z (l.foldl f s) := by
  induction l generalizing s with
  | nil => exact h
  | cons x t ih => exact ih _ (hf _ _ h)

theorem wire_sendSyncAll (s : State) (typ a b : Nat) (h : Wire z s) : Wire z (sendSyncAll s typ a b) :=
  wire_foldl _ _ _ h (fun _ _ k => wire_sendSync _ _ _ _ _ k)

theorem wire_forward (s : State) (hdr : List Nat) (fs : List (List Nat)) (h : Wire z s) : Wire z (forward s hdr fs) := wire_sendTo _ _ _ _ h

theorem wire_takeMsg (s : State) (i : Nat) (hdr : List Nat) (fs : List (List Nat)) (h : Wire z s) : Wire z (takeMsg s i hdr fs) := by
  unfold takeMsg; dsimp only; split
  · exact wire_sendCtl _ _ _ (wire_setLnk _ _ _ h)
  · exact h

theorem wire_noteSync (s : State) (i : Nat) (h : Wire z s) : Wire z (noteSync s i) := wire_setLnk _ _ _ h

theorem wire_syncDown (s : State) (hdr : List Nat) (h : Wire z s) : Wire z (syncDown s hdr) := wire_noteSync _ _ (wire_takeMsg _ _ _ _ h)

/-- The registers, and so every field of them, are untouched. -/
theorem Wire.regs {s t : State} (h : Wire s t) : t.regs = s.regs := by rw [h]

theorem Wire.flt {s t : State} (h : Wire s t) : t.flt = s.flt := by rw [h]

theorem Wire.mem {s t : State} (h : Wire s t) : t.mem = s.mem := by rw [h]

end Sys2Proof.Machine
end

