-- ==== Sys2Proof/WellFormed.lean ====
section
/-! DEFINITION. Well-formed commands: operands within the ranges the spec gives what they name. `exec` answers every command, well
formed or not; what it does with a register number or a link that does not exist is in its own rule. -/

namespace Sys2Proof

/-- A brand is one byte (R419). -/
def okBrand (b : Nat) : Bool := decide (b < 0x100)

/-- A physical address is below 2^48 (R13, R31). -/
def okAddr (a : Nat) : Bool := decide (a < 2 ^ 48)

/-- A register word is 32 bits (R16). -/
def okWord (v : Nat) : Bool := decide (v < 2 ^ 32)

/-- A vehicle time is 64 bits of TAI ns (R40). -/
def okTime (t : Nat) : Bool := decide (t < 2 ^ 64)

/-- Bytes: every entry below 256. -/
def okBytes (l : List Nat) : Bool := l.all (fun b => decide (b < 256))

/-- n bytes. -/
def okBlock (n : Nat) (l : List Nat) : Bool := decide (l.length = n) && okBytes l

/-- A maintenance command's identity and nonce (R471). -/
def okNonce (obj : List Nat) (nonce : Nat) : Bool := okBytes obj && okWord nonce

/-- The physical units of the engine classes 0 to 8 (R25). -/
def unitCount (cls : Nat) : Nat := [18, 9, 5, 24, 144, 5, 9, 2, 8].getD cls 0

/-- A message's header is 32 bytes (R382), on one of 4 links (R376). -/
def okMsg (link : Nat) (hdr : List Nat) : Bool := decide (link < 4) && okBlock 32 hdr

/-- What the boot ROM reads from a slot: bytes and a 32-byte digest (R497). -/
def okSlot (x : SlotImage) : Bool := okBytes x.raw && decide (x.raw.length ≤ 0x1000000)

def Instr.wf : Instr → Bool
  | .registerWrite b a w v hw => okBrand b && okAddr a && decide (w ≤ 64) && okWord v && okWord hw
  | .rcRead b a hw => okBrand b && okAddr a && okWord hw
  | .loWordRead b a => okBrand b && okAddr a
  | .strokeInEdge t _ | .strokeInMissing t | .flywheelStroke t | .computedStroke t | .strokeInstant t | .gptpLost t => okTime t
  | .gptpRestored r => okTime r.at_ && okTime r.gptp
  | .holdoverExpired t | .launchStart t | .launchCopyDone t | .reproStroke t | .bellEdge t _ => okTime t
  | .bellMissing t | .calWindowOpen t | .calPulse t _ | .strokeMessageLate t | .planDue t | .worldSeal t => okTime t
  | .sealMaxExpired t | .sealComplete t | .pealBarrier t | .pealSelectOfs t | .pealEnd t | .assayLoadDone t => okTime t
  | .assayGridDone t | .assayFreeze t | .stopPlanRepeat t | .reproEnter t | .reproExit t | .bankSwitch t => okTime t
  | .heartbeatTick t | .bankedReport t | .spareReady t | .proactiveSwitch t | .ppsEdge t _ => okTime t
  | .entryDue t i | .launchLate t i => okTime t && decide (i < 256)
  | .swapReq b | .modeReqService b | .attestReq b | .appReady b | .clrFirst b => okBrand b
  | .timetableWrite b a v | .thStageWrite b a v => okBrand b && okAddr a && okWord v
  | .targetFix ds => ds.all okWord
  | .ringWpWrite b r v => okBrand b && decide (r < 2) && okWord v
  | .networkDatagram r bs => decide (r < 2) && okBytes bs
  | .pad r | .primSet r | .primDel r | .agentSet r | .agentDel r | .ego r | .heatClear r | .sealMark r | .unknownRecord r =>
    decide (r < 2)
  | .repairStatic u | .buildStatic u | .buildDyn u | .crucibleDrainEnd u | .crucibleGolden u => decide (u < unitCount 1)
  | .repair u | .build u | .pealGolden u => decide (u < unitCount 2)
  | .expand u | .swageGolden u => decide (u < unitCount 3)
  | .strike u | .hammerGolden u => decide (u < unitCount 4)
  | .select u | .merge u | .tongsGolden u => decide (u < unitCount 5)
  | .refine u | .quenchGolden u => decide (u < unitCount 6)
  | .assay u | .assayGolden u => decide (u < unitCount 7)
  | .copy u | .fill u | .listPush u | .bellowsGolden u => decide (u < unitCount 0)
  | .digest u => decide (u < unitCount 8)
  | .strikeCut t k done => okTime t && decide (k < 2) && done.all (fun p => decide (p.1 < unitCount 4))
  | .inboxWrite b k line => okBrand b && decide (k < 32) && okBlock 64 line
  | .inboxClear b m => okBrand b && okWord m
  | .gatherOffset t k => okTime t && decide (k < 2)
  | .quenchDeadline t ps => okTime t && ps.all (fun p => decide (p.1 < unitCount 6))
  | .deltaWatchCheck | .stagingCopyDone | .completionRelease | .bankRetire | .bankCopyDone | .patrolScrub => true
  | .subResetPcie | .faultAccept | .coldEscalate | .pairTakeoverDone | .refclkLost | .pwrGoodFall | .pwrGoodRise => true
  | .clockFailRetry | .journalDecide | .ddrSweepDone | .startTimeout | .wdogExpire | .wearRecordWrite | .attestDone => true
  | .debugSubmit | .throttleStepApply | .maintenanceColdReset => true
  | .canFrameSent c _ => decide (c < 2)
  | .doorbell b q v | .cqHeadWrite b q v => okBrand b && decide (q < 64) && okWord v
  | .commandAdmit q | .nop q | .bankSwap q => decide (q < 64)
  | .taskPlace c => decide (c < 9)
  | .gateOpen g => decide (g < 6)
  | .engineTaskDone c u | .engineFence c u _ => decide (c < 9) && decide (u < unitCount c)
  | .flowSkip b f => okBrand b && decide (f < 256)
  | .goldenInject b w => okBrand b && okWord w
  | .modeReqRepro b os => okBrand b && os.all (fun p => decide (p.1 < 16))
  | .anvilWriteback l => okAddr l && decide (l % 64 = 0)
  | .scrub t b asy => okTime t && decide (b < (if asy then 32 else 1088))
  | .scrubForced b asy => decide (b < (if asy then 32 else 1088))
  | .mr4Poll c r v => decide (c < 6) && decide (r < 2) && decide (v < 256)
  | .ddrRefresh c => decide (c < 6)
  | .ddrSrTimeout t m => okTime t && decide (m < 64)
  | .ddrVerWrite b v => okBrand b && okWord v
  | .subResetDdr c _ => decide (c < 6)
  | .subResetEth m => decide (m < 4)
  | .linkTrain l x y => decide (l < 4) && decide (x ≤ 9) && decide (y ≤ 9)
  | .retrain l | .replayTimeout l | .heartbeat l => decide (l < 4)
  | .retrainFail t l | .syncTimeout t l => okTime t && decide (l < 4)
  | .ubfRetrainReq b l => okBrand b && decide (l < 4)
  | .skpReceive l es => decide (l < 4) && decide (es.length ≤ 9)
  | .flitReceive l f => decide (l < 4) && okBlock 36 f
  | .controlFlit l p => decide (l < 4) && okBlock 32 p
  | .wr l h ls | .rdr l h ls => okMsg l h && ls.all (okBlock 64)
  | .wack l h | .rd l h | .mode l h | .linkId l h => okMsg l h
  | .remoteTimeout g => decide (g < 2 ^ 32)
  | .stroke t h | .cal t h | .admitMessage t h => okTime t && okBlock 32 h
  | .timeReq t l h | .timeRsp t l h => okTime t && okMsg l h
  | .workerAdmit t n _ => okTime t && decide (n < 16)
  | .goldenCompare g => okWord g
  | .thOpen b g _ | .thClose b g | .thCommit b g | .thAbort b g => okBrand b && decide (g < 9)
  | .thTimeout g => decide (g < 9)
  | .faultRecord b c k u => decide (b < 256) && decide (c < 4096) && decide (k < 8) && decide (u < 256)
  | .lockstepMismatch p => decide (p < 3)
  | .clockOutOfTol d _ | .domainQualified d _ | .domainQualTimeout d => decide (1 ≤ d ∧ d ≤ 8)
  | .resetPinAssert p | .resetPinRelease p => decide (p < 2)
  | .releaseBegin r n => decide (r < 4) && decide (n < 16)
  | .billetVerify a b => okSlot a && okSlot b
  | .rpmbCheck a => okBytes a.frame && decide (a.frame.length ≤ 284) && okBytes a.mac && decide (a.mac.length ≤ 32)
  | .startCommit _ => true
  | .emberQuickTest ps bs ms => ps.all (fun e => decide (e < 234)) && bs.all (fun b => decide (b < 1088)) && okWord ms
  | .ddrTrained m => decide (m < 64)
  | .selfTestDone fs _ => fs.all (fun e => decide (e < 234))
  | .osLoadDone d => okBlock 32 d
  | .fullService t ms _ => okTime t && okWord ms
  | .startFail c => decide (1 ≤ c ∧ c ≤ 0x0C)
  | .readJournal o n k => okNonce o n && okWord k
  | .clearJournal o n | .restart o n => okNonce o n
  | .writeSlot o n k off bs => okNonce o n && decide (k < 2) && decide (off + bs.length ≤ 0x1000000) && okBytes bs
  | .wdogKick b v | .swWarmReq b v => okBrand b && okWord v
  | .wearEval _ hot ce => hot.all (fun r => decide (r < 9)) && ce.all (fun p => decide (p.1 < 1088))
  | .proactiveStart _ => true
  | .drainDone e _ => decide (e < 224)
  | .sensorUpdate t rs => okTime t && decide (rs.length = 64)
  | .thermalTrip r => decide (r < 9)
  | .registerRead b a w => okBrand b && okAddr a && decide (w ≤ 64)
  | .memoryAccess b k a bs _ => okBrand b && decide (k < 3) && okAddr a && okBytes bs
  | .tapInstruction i => decide (i < 16)

end Sys2Proof
end

