-- ==== Sys2Proof/Tests/Slice0.lean ====
section
/-! SUPPORT. The model's own tests: small states built by the helpers, a witness of the hypotheses of every statement, clause by clause,
and a few single steps with results worked out from the spec. -/

namespace Sys2Proof.Tests

set_option linter.unusedVariables false
set_option Elab.async false

open Sys2Proof Sys2Proof.Machine

def put (s : State) (l : List (Fld × Nat)) : State := l.foldl (fun s p => setF s p.1 p.2) s
/-- Keys of a device for tests: a secret, a vendor root key and the stepping A1 (GB/T 32918 computed outside the model). -/
def goodSec : Sec :=
  { State.reset.sec with
    secret := List.range 32, stepping := 1, rpmbNonce := List.replicate 16 5,
    root := beBytes 64 0x3CBB3D1177FFA1A21BB054AE613455EB409A77593D17221808977ECBFB0586479CF75393C8D257997F3FC1DF9E952449746FD75ED1307E4DD493AE3DD0A800BD }
/-- A manager in service with a period of 10 ms, taking strokes from STROKE_IN, with valid gPTP. -/
def mgr : State := { put State.reset [(TOP_MODE_MODE, 0), (UBF_NODE_CFG_ROLE, 1), (CAR_PERIOD, 10000), (CAR_STATUS_SOURCE, 0), (CAR_STATUS_GPTP_VALID, 1)] with
  sec := goodSec, stk := { State.reset.stk with takeFrom := some 0 } }
def wrk : State := { put State.reset [(TOP_MODE_MODE, 0), (UBF_NODE_CFG_ROLE, 2), (UBF_NODE_CFG_NODE_ID, 1), (CAR_PERIOD, 10000), (CAR_STATUS_SOURCE, 3)] with
  sec := goodSec, stk := { State.reset.stk with takeFrom := some 0 }, bell := { State.reset.bell with admitted := true } }
/-- The firewall's Anvil group committed, one region open to every brand. -/
def opened (s : State) : State :=
  ([(2, 0x0FFFFFFF), (4, 0xFFFFFFFF), (5, 0xFFFFFFFF), (6, 0xFFFFFFFF), (7, 0xFFFFFFFF), (10, 1)] : List (Nat × Nat)).foldl
    (fun s p => wr s (0x41200000 + 4 * p.1) p.2) (setF s (FWL_TH_SEQ 0) 1)

/-- A manager whose ring 0 of 4 KiB at 0x4000 holds the given bytes; the staging image begins at 0x100000. -/
def ringed (bs : List Nat) : State :=
  { poke (put (opened mgr) [(CRU_RING_BASE_LO 0, 0x4000), (CRU_RING_SIZE 0, 4096), (CRU_RING_WP 0, bs.length), (CRU_RING_SIZE 1, 4096)]) 0x4000 bs with
    wld := { State.reset.wld with staging := 0x100000 } }
/-- A record of the given type and length with sequence number 5. -/
def record (typ len : Nat) (l : List (Nat × Nat × Nat)) : List Nat := layout len ([(0, 1, typ), (2, 2, len), (4, 4, 5)] ++ l)

/-- A command of a class and opcode with more fields. -/
def command (cls opc : Nat) (l : List (Nat × Nat × Nat)) : List Nat := layout 64 ([(0, 1, opc), (1, 1, cls)] ++ l)
/-- A device with one task, running on physical unit 0 of its class. -/
def running (s : State) (k : Task) : State :=
  { s with tabA := { s.tabA with tasks := [k], nextId := 8 }, tabB := { s.tabB with tasks := [k], nextId := 8 } }
/-- Task 7 of queue 3, running on engine e. -/
def task (cmd : List Nat) (e : Nat) : Task := { id := 7, queue := 3, num := 0, cmd := cmd, pri := 1, loc := .running e }

def st0 : State := { mgr with stk := { mgr.stk with any := true, inst := 1000, time := 800, no := 5 } }

/-- A device at full service: every unit of its grade is mapped. -/
def served (s : State) : State :=
  put s ((RST_START_PHASE, 12) :: ((List.range 11).flatMap (fun c => (List.range (gradeCount s.bil.grade c)).flatMap (fun l => [(mapV c l, 1),
    (mapP c l, l)]))))
/-- Group g committed, one region open to every brand. -/
def openedFor (g : Nat) (s : State) : State :=
  ([(2, 0xFFFFFFFF), (4, 0xFFFFFFFF), (5, 0xFFFFFFFF), (6, 0xFFFFFFFF), (7, 0xFFFFFFFF), (10, 1)] : List (Nat × Nat)).foldl
    (fun s p => wr s (0x41200000 + 0x1000 * g + 4 * p.1) p.2) (setF s (FWL_TH_SEQ g) 1)

/-- Queue 3 of brand 2 with a ring of 16 commands at 0x2000, the given command waiting in its first slot. -/
def queued (cmd : List Nat) : State :=
  poke (put (opened st0) [(TAB_Q_CFG_LOG2SIZE 3, 4), (TAB_Q_CFG_EN 3, 1), (TAB_Q_CFG_BRAND 3, 2), (TAB_Q_BASE_LO 3, 0x2000), (TAB_Q_CFG2_PRODUCER
    3, 2),
    (TAB_Q_CFG2_CLSMASK 3, 0x3FF), (TAB_Q_TAIL 3, 1)]) 0x2000 cmd

/-- Link i up, its fields as given. -/
def linked (s : State) (i : Nat) (l : Link) : State := put (setLnk s i l) [(UBF_L_STATUS_STATE i, 2)]
/-- A flit with its checksum under a sequence number. -/
def flit (q : Nat) (bs : List Nat) : List Nat := bs ++ leBytes 4 (crc32c (bs ++ [q]))

/-- A golden task whose tag 7 is logged in the three rings with hallmark 99, unit 2 of the Hammers and the given status. -/
def golden (st : Nat) : State :=
  let s := put st0 [(HLM_LOG_BASE_LO, 0x1000), (HLM_LOG_SIZE, 4096), (HLM_LOG_WR, 1), (TAB_CLOG_BASE_LO, 0x2000), (TAB_CLOG_SIZE, 4096),
    (TAB_CLOG_WR, 1),
    (TAB_Q_CQBASE_LO 63, 0x3000), (TAB_Q_CFG_LOG2CQ 63, 4), (TAB_Q_CQ_WR 63, 1)]
  let s := poke s 0x1000 (leBytes 4 7 ++ leBytes 4 0 ++ leBytes 8 99)
  let s := poke s 0x2000 (leBytes 4 7 ++ [2, 4])
  let s := poke s 0x3000 (leBytes 4 7 ++ [st])
  { s with bil := { s.bil with goldenHm := [(7, 99)] } }

/-- A stop plan decided (R270). -/
def dec4 : Decided := { case := 4 }
/-- Register words from field values. -/
def pack (l : List (Fld × Nat)) : List (Nat × Nat) :=
  l.foldl (fun m p => sset (fun _ => 0) m p.1.addr (nget m p.1.addr + 2 ^ p.1.lo * p.2)) []
/-- The golden command of logical unit l of a class. -/
def goldenCommand (c l : Nat) : List Nat :=
  layout 64 [(1, 1, c), (3, 1, 0x19), (6, 2, l), (12, 4, goldTag c l)]
/-- A manager's billet of the smallest grade that passes every content check. -/
def goodBillet : Billet :=
  { grade := 24, regs := pack [(CAR_PERIOD, 10000), (CAR_SEAL_OFS, 2000000), (CAR_PLAN_DUE, 9000000), (PEL_SEL_OFS, 3000000), (PEL_END_OFS, 4000000),
      (HAM_CUT_OFS0, 3000000), (HAM_CUT_OFS1, 4000000), (TNG_GATHER_OFS0, 3000000), (TNG_GATHER_OFS1, 4000000), (QNC_DL_OFS, 5000000),
      (ASY_FREEZE_OFS, 8000000), (CRU_CFG0_CLAMP, 1024), (HAM_CFG0_MARGIN, 8), (ASY_CFG0_CO_MIN, 2), (ASY_CFG1_CO_DECEL, 256),
      (ASY_CFG1_STOP_DECEL, 256), (ASY_VALIDITY, 1000), (THM_CFG_T_RELEASE, 60), (THM_CFG_T_THROTTLE, 90), (THM_CFG_T_CRIT, 110),
      (CRU_ZBAND_LO, 1), (CRU_ZBAND_HI, 2048), (ASY_CAN_ID_ID, 0x100),
      (SWG_FOOT_NSPH, 1), (CRU_CFG0_REACH, 1000), (DDR_CFG_POP, 0x3F)] |>.foldr (fun p m => sset (fun _ => 0) m p.1 p.2)
        [((SWG_FOOT 1).addr, 0x64), (0x41200000, 0x300000), (0x41200008, 0x3FFFFF), (0x41200028, 9)]
    queues := (List.range 63).map (fun q => layout 32 [(0, 8, 0x100000 + 1024 * q), (8, 1, 4), (10, 1, 0x30), (14, 1, 2), (16, 8, 0x200000 + 256 *
      q), (24, 1, 4)]) ++
      [layout 32 [(0, 8, 0x300000), (8, 1, 7), (9, 1, 7), (10, 1, 0x3F), (11, 1, 2), (14, 1, 0x20), (16, 8, 0x310000), (24, 1, 7)]]
    timetable := [0x08000000, 100 * 65536 + 63, 0x320000, 0x10000]
    golden := [(0x320000, (List.range 7).flatMap (fun c => (List.range (gradeCount 24 c)).flatMap (goldenCommand c)))] }
/-- The certificate of a leaf that carries every usage, signed by that root. -/
def goodCert : List Nat :=
  layout 16 [(0, 4, 0x54434A48), (4, 2, 1), (6, 1, 3), (7, 1, 15)] ++ keyId goodSec.root ++
    beBytes 64 0x837B1D4334C3AD6A43115705710C3189623A55791F5398FF80214AF654611E567405A1A15AD779E582CAE705631E340612E05E72A12F68855C22F1910D3584C9
      ++ List.replicate 8 0 ++
    beBytes 64 0x0FA4A55FC7DE3F54770F52BD72BC565FA019633AF0A5CCE66FE97B89ACED65D018B921C2F4A917529F5782F2A2E73BDF6C957FDA0713DEADE4C73985B7D50490
/-- A body with the leaf's chain and a signature. -/
def signedObject (body : List Nat) (sig : Nat) : List Nat := body ++ [1, 0, 0, 0] ++ goodCert ++ beBytes 64 sig
/-- A device record of grade 48. -/
def goodRecord : List Nat :=
  signedObject (layout 16 [(0, 4, 0x52444A48), (4, 2, 1), (6, 1, 1), (7, 1, 48)] ++ beBytes 64
    0x83AB4FF0A8E01B4739136E3CA18ABCC8EA7D26ABC4250BE6173BDC9B2A6E4CB1D2AE9BFA8882392970DF028FD1A7F7BEB867F9F177401AC519FD0263164DCA20 ++
    List.replicate 1256 0)
    0x125A1E4C87B50425F88734CF7A500AC74D9B52EB78BCF26176DC4C6832FC2F755608ED33CC17B99DC24160EC673C805E9CAF73799F9D5FDF4EC5EFC97DFAB3F3
/-- A section table entry. -/
def entry (t ofs len : Nat) (digest : List Nat) : List Nat := layout 16 [(0, 2, t), (8, 4, ofs), (12, 4, len)] ++ digest
/-- A slot with five sections of which DEVICE alone has bytes; `flags` of the DEVICE section. -/
def slotOf (flags sig : Nat) : SlotImage :=
  let dev := layout 32 [(0, 1, 24), (1, 1, 1), (2, 2, flags), (4, 2, 1)]
  { raw := layout 64 [(0, 4, 0x42564A48), (4, 2, 1), (6, 2, 5), (12, 4, 2140), (16, 4, 416), (20, 1, 1), (24, 4, 576), (28, 4, 1564)] ++
      entry 1 384 32 (sm3 dev) ++ [2, 3, 4, 0xA].flatMap (fun t => entry t 384 0 (sm3 [])) ++ beBytes 64 sig ++ List.replicate 16 0 ++ dev ++
      goodCert ++ goodRecord
    content := goodBillet }
def goodSlot : SlotImage :=
  slotOf 0 0x87849FE0C589480A0A344542B087A9467B8AF5A1C033EA8F7C64EC66533193CDA90C6B4A159D26D9753B90ED9E46998713C36DC858C412EF7E21C4FC324E0132
/-- The same with NO_RPMB. -/
def freeSlot : SlotImage :=
  slotOf 2 0x1ED4619B7792B304AC54737E1E55D50DD211075A2E993BD01ABC5C72E9945F1704661E9176AA329DB438A450883B9732535F8A03C77CF58153D78317226F80A9
/-- An answer of an eMMC keyed by this device, with MIN_VER 0. -/
def goodAnswer : RpmbAnswer :=
  let f := layout 8 [(0, 4, 0x42524A48)] ++ deviceId goodSec ++ List.replicate 240 0 ++ goodSec.rpmbNonce ++ List.replicate 10 0 ++ [4, 0]
  { frame := f, mac := hmac sha256 (rpmbKey goodSec) f }
/-- A debug token of SCOPE 5 for the nonce 77. -/
def goodToken : List Nat :=
  signedObject (layout 4 [(0, 4, 0x54444A48)] ++ deviceId goodSec ++ layout 12 [(0, 4, 77), (4, 4, 5)])
    0x748126C6F561CD9D1DFAC1A513127238CAD989BA0FC6C651DA696353AF789C3BB1A9E4EE48E62EA6B2F9AB0AC1AC37E82244E158206F23EA831B62A5CF6891DE
/-- A maintenance command. -/
def goodCommand : List Nat :=
  signedObject (layout 8 [(0, 1, 1)])
    0xC6601F4CF302333EAE3E069D0EDFA46DB0376132C30A5CEF81EE62CDEF67FC0768253C536EB8D4A725238089D2DEB625DFC5EB35AF6A3BE2749D91F9EAA425EE

/-- Bank 40 due, and every physical bank in use. -/
def allUsed : State := { State.reset with
  regs := (0x40810000 + 40 * 4, 40) :: (List.range' 0 1088).map (fun p => (0x40820000 + p * 4, (0x20000 : Word)))
  anv := { State.reset.anv with due := [40] } }

theorem goodCert_ok : certOk goodSec.root 15 goodCert = true := by decide +kernel

/-- The leaf's key signs whatever it verifies, for every usage. -/
theorem goodChain (u : Nat) (msg sig : List Nat) (hu : u < 4) (h : sm2Verify ((goodCert.drop 24).take 64) msg sig = true) :
    signedBy goodSec.root goodCert 1 u msg sig = true := by
  have hc : certBytes goodCert 0 = goodCert := by decide +kernel
  have hb : ∀ u < 4, bit (fldAt goodCert 7 1) u = true := by decide +kernel
  have hn : within 1 3 1 = true := rfl
  simp only [signedBy, chainLeaf, hc, goodCert_ok, if_true, hn, hb u hu, h, Bool.and_true]

set_option maxRecDepth 100000 in
theorem goodObject (obj : List Nat) (body u : Nat) (hu : u < 4) (hn : fldAt obj body 1 = 1) (hz : zeroAt obj (body + 1) 3 = true)
    (hl : obj.length = body + 4 + 160 + 64) (hc : (obj.drop (body + 4)).take 160 = goodCert)
    (h : sm2Verify ((goodCert.drop 24).take 64) (obj.take (body + 164)) (obj.drop (body + 164)) = true) :
    objectOk goodSec.root obj body u = true := by
  have e : obj.length - 64 = body + 164 := by omega
  simp only [objectOk, hn, hz, Nat.mul_one, e, hc, goodChain u _ _ hu h, Bool.and_true, Bool.true_and]
  rw [hl]; simp

set_option maxRecDepth 100000 in
theorem goodSlot_chain : chainOk goodSec goodSlot = true := by
  have h1 : fldAt goodSlot.raw 20 1 = 1 := by decide +kernel
  have h2 : slotPart goodSlot (fldAt goodSlot.raw 16 4) 160 = goodCert := by decide +kernel
  simp only [chainOk, h1, h2, Nat.mul_one]
  exact goodChain 0 _ _ (by decide) (by decide +kernel)

set_option maxRecDepth 100000 in
theorem goodSlot_record : recordOk goodSec goodSlot = true := by
  have h1 : deviceRecord goodSlot = goodRecord := by decide +kernel
  have h2 : (fldAt goodRecord 0 4 == 0x52444A48 && fldAt goodRecord 4 2 == 1 && zeroAt goodRecord 8 8 && zeroAt goodRecord 1134 2) = true := by
    decide +kernel
  have h3 : (fldAt goodRecord 6 1 == goodSec.stepping) = true := by decide +kernel
  have h4 : ((goodRecord.drop 16).take 64 == devicePublic goodSec) = true := by decide +kernel
  simp only [recordOk, h1, h2, h3, h4, Bool.and_true,
    goodObject goodRecord 1336 3 (by decide) (by decide +kernel) (by decide +kernel) (by decide +kernel) (by decide +kernel) (by decide +kernel)]

set_option maxRecDepth 100000 in
theorem goodSlot_authentic : authentic goodSec goodSlot = true := by
  have h1 : headerOk goodSlot = true := by decide +kernel
  have h2 : sectionsStand goodSec goodSlot = true := by decide +kernel
  simp only [authentic, h1, h2, goodSlot_chain, goodSlot_record, Bool.and_true]

set_option maxRecDepth 100000 in
theorem goodCommand_ok : commandOk goodSec.root goodCommand = true := by
  have h1 : goodCommand.length - 68 - 160 * 1 = 8 := by decide +kernel
  have h2 := goodObject goodCommand 8 1 (by decide) (by decide +kernel) (by decide +kernel) (by decide +kernel) (by decide +kernel) (by
    decide +kernel)
  have h3 : (fldAt goodCommand 8 1 == 1) = true := by decide +kernel
  simp only [commandOk, List.any_cons, h1, h2, h3, Bool.and_true, Bool.true_or]

theorem goodCommand_taken (s : State) (h : isBanked s = true ∧ s.start.nonces.contains 77 = true ∧ s.sec = goodSec) :
    maintained s goodCommand 77 = true := by
  simp only [maintained, h.1, h.2.1, h.2.2, goodCommand_ok, Bool.and_true]

set_option maxRecDepth 100000 in
theorem goodToken_signed : objectOk goodSec.root goodToken 24 2 = true :=
  goodObject goodToken 24 2 (by decide) (by decide +kernel) (by decide +kernel) (by decide +kernel) (by decide +kernel) (by decide +kernel)

theorem goodToken_device : deviceId goodSec = (goodToken.drop 4).take 8 := by decide +kernel

theorem goodToken_ok (s : State) (hs : s.sec = goodSec) (ht : (tokenBytes s).take (92 + 160 * fldAt (tokenBytes s) 24 1) = goodToken)
    (h : fldAt (tokenBytes s) 0 4 = 0x54444A48 ∧ ((tokenBytes s).drop 4).take 8 = (goodToken.drop 4).take 8 ∧
      fldAt (tokenBytes s) 12 4 = getF s DBG_NONCE ∧ fldAt (tokenBytes s) 16 4 < 8 ∧ zeroAt (tokenBytes s) 20 4 = true) :
    tokenOk s (tokenBytes s) = true := by
  obtain ⟨h1, h2, h3, h4, h5⟩ := h
  simp only [tokenOk, hs, ht, goodToken_signed, goodToken_device, h1, h2, h3, h5, decide_eq_true h4, BEq.rfl, Bool.and_true]

set_option maxRecDepth 100000 in
theorem goodSlot_verifies (s : State) (hs : s.sec = goodSec) (h : roleOk s (billetOf goodSec goodSlot) = true) : slotCause s goodSlot = 0 := by
  have h1 : gradeOk (billetOf goodSec goodSlot) = true := by decide +kernel
  have h2 : contentOk (billetOf goodSec goodSlot) = true := by decide +kernel
  have h3 : ddrConfigOk (billetOf goodSec goodSlot) = true := by decide +kernel
  simp only [slotCause, hs, goodSlot_authentic, if_true, contentCause]
  simp [h, h1, h2, h3]

theorem sget_used (n k j : Nat) (h : j < n) :
    sget resetOf ((List.range' k n).map (fun p => (0x40820000 + p * 4, (0x20000 : Word)))) (0x40820000 + (k + j) * 4) = 0x20000 := by
  induction n generalizing k j with
  | zero => omega
  | succ n ih =>
    rw [List.range'_succ, List.map_cons, sget]
    cases j with
    | zero => simp
    | succ j =>
      rw [if_neg (by omega), show k + (j + 1) = k + 1 + j from by omega]
      exact ih (k + 1) j (by omega)

theorem allUsed_spares : freeSpares allUsed = [] := by
  have h : ∀ p, p < 1088 → flag allUsed (ANV_BANK_CE_IN_USE p) = true := by
    intro p hp
    have h1 : rd allUsed (0x40820000 + p * 4) = 0x20000 := by
      unfold rd allUsed
      simp only [sget]
      rw [if_neg (by omega)]
      have := sget_used 1088 0 p hp
      rw [Nat.zero_add] at this
      rw [this]; rfl
    simp only [flag, getF, h1]; decide
  unfold freeSpares
  rw [List.filter_eq_nil_iff]
  intro p hp
  simp [h p (List.mem_range.mp hp)]

/- ### Witnesses: states and operands that meet each statement's hypotheses -/

theorem witness_heatNumbersRunFromOne :
    (∃ (s : State) (at_ : Nat), s.Inv ∧ s.wld.sealPending = true ∧ (inRepro s = true ∧ s.wld.markReached = true ∨ inRepro s = false ∧ ringEmpty s 0
      = true ∧ ringEmpty s 1 = true ∧ s.wld.copying = false)) ∧
    (∃ (s : State) (at_ : Nat), s.Inv ∧ s.wld.sealPending = true ∧ inRepro s = false ∧ s.wld.sealTime + getF s CRU_CFG1_SEAL_MAX * 1000 ≤ at_ ∧
      unappliedAll s ≠ 0) ∧
    (∃ (s : State) (k : Task), tGold k = false ∧ k.redisp = false ∧ cHeat k.cmd = 0) :=
  ⟨⟨{ put mgr [(TOP_MODE_MODE, 2)] with wld := { mgr.wld with sealPending := true } }, 2000000, by decide +kernel, by decide +kernel, Or.inr ⟨by
    decide +kernel, by decide +kernel, by decide +kernel, by decide +kernel⟩⟩,
   ⟨{ put (ringed (record 1 48 [])) [(TOP_MODE_MODE, 2)] with wld := { mgr.wld with sealPending := true, cut := some (48, 0) } }, 2000000, by
     decide +kernel⟩,
   ⟨mgr, (task (command 4 1 []) 56), by decide +kernel⟩⟩

theorem witness_writesWaitForTheSwap : ∃ (s : State) (brand : Nat) (addr : Nat) (value : Nat) (hw : Nat), getF s CAR_BANK_CTRL_SWAP_REQ = 1 ∧
  0x40410000 ≤ addr ∧ addr < 0x40411000 ∧ addr % 4 = 0 ∧ fwDenies s 2 brand 1 addr 4 = none :=
  ⟨put mgr [(CAR_BANK_CTRL_SWAP_REQ, 1)], 2, 0x40410008, 77, 0, by decide +kernel⟩

theorem witness_priorityComesFromTheCommandOrItsQueue : ∃ (s : State) (q : Nat) (c : List Nat) (ns : List Note), q < 64 ∧ (tasks s).length < 65536
  ∧ (injectDue s q = some c ∧ ns = [] ∨ injectDue s q = none ∧ qHead s q ≠ qTail s q ∧ readBrand s 0x21 (slotAddr s q (qHead s q)) = (some c, ns))
  ∧ admitStop (notesFx s ns) q c = 0 :=
  ⟨(queued (command 0 1 [])), 3, (command 0 1 []), [], by decide +kernel, by decide +kernel, Or.inr ⟨by decide +kernel, by decide +kernel, by
    decide +kernel⟩, by decide +kernel⟩

theorem witness_latticeAgeCountsSeals : ∃ (h : Nat) (k : Nat), 0 < h ∧ h < 2 ^ 32 ∧ k < 2 ^ 32 - 1 :=
  ⟨0xFFFFFFFE, 3, by decide +kernel⟩

theorem witness_refusedRegisterAccessesChangeNothingElse :
    (∃ (s : State) (brand : Nat) (addr : Nat) (width : Nat) (value : Nat) (hw : Nat), (width ≠ 4 ∨ addr % 4 ≠ 0) ∧ regBase ≤ addr ∧ addr <
      0x42000000 ∧ tapOffers brand addr = false ∧ fwDenies s 2 brand 0 addr width = none ∧ fwDenies s 2 brand 1 addr width = none ∧
      s.flt.fifo.length < 256 ∧ blockOf addr ≤ 0x1E) ∧
    (∃ (s : State) (brand : Nat) (addr : Nat) (width : Nat) (value : Nat) (hw : Nat) (cls : Nat), s.Inv ∧ brand < 256 ∧ addr < 2 ^ 48 ∧ regBase ≤
      addr ∧ addr < 0x44000000 ∧ tapOffers brand addr = false ∧ fwDenies s 2 brand 1 addr width = some cls ∧ s.flt.fifo.length < 256) :=
  ⟨⟨State.reset, 2, 0x40000101, 4, 7, 0, by decide +kernel⟩,
   ⟨mgr, 0x77, CAR_STATUS.addr, 4, 0, 0, 0, by decide +kernel⟩⟩

theorem witness_grantedReadsAnswerTheShownBits :
    (∃ (s : State) (brand : Nat) (addr : Nat) (hw : Nat) (r : RegRow), s.Inv ∧ addr % 4 = 0 ∧ regBase ≤ addr ∧ addr < 0x44000000 ∧ rowAt addr =
      some r ∧ fwDenies s 2 brand 0 addr 4 = none) ∧
    (∃ (s : State) (brand : Nat), fwDenies s 2 brand 0 CAR_STROKE_LO.addr 4 = none ∧ fwDenies s 2 brand 0 CAR_STROKE_TAI_LO.addr 4 = none ∧
      fwDenies s 2 brand 0 CAR_TIME_LO.addr 4 = none) :=
  ⟨⟨mgr, 2, CAR_STATUS.addr, 1, (rowAt CAR_STATUS.addr).getD ⟨0,0,0,0,0,0,0,0,0,0,0,0⟩, by decide +kernel⟩,
   ⟨{ mgr with time := 2^40+5 }, 2, by decide +kernel⟩⟩

theorem witness_grantedWriteTakesTheWritableBits : ∃ (s : State) (brand : Nat) (addr : Nat) (value : Nat) (hw : Nat) (r : RegRow), s.Inv ∧ addr % 4
  = 0 ∧ regBase ≤ addr ∧ addr < 0x44000000 ∧ rowAt addr = some r ∧ fwDenies s 2 brand 1 addr 4 = none ∧ special s brand addr (value % 2 ^ 32) hw r
  = none :=
  ⟨mgr, 2, BEL_CFG_OUT_EN.addr, 1, 0, (rowAt BEL_CFG_OUT_EN.addr).getD ⟨0,0,0,0,0,0,0,0,0,0,0,0⟩, by decide +kernel⟩

theorem witness_writtenBitsFollowTheAccessCodes :
    (∃ (r : RegRow) (old : Nat) (v : Nat) (hw : Nat) (i : Nat), r.wo = 0 ∧ Nat.land r.rw r.w1c = 0 ∧ Nat.land r.rw r.w1s = 0 ∧ Nat.land r.w1c r.w1s
      = 0 ∧ r.rw.testBit i = true) ∧
    (∃ (r : RegRow) (old : Nat) (v : Nat) (hw : Nat) (i : Nat), r.wo = 0 ∧ Nat.land r.rw r.w1c = 0 ∧ Nat.land r.rw r.w1s = 0 ∧ Nat.land r.w1c r.w1s
      = 0 ∧ r.w1s.testBit i = true) ∧
    (∃ (r : RegRow) (old : Nat) (v : Nat) (hw : Nat) (i : Nat), r.wo = 0 ∧ Nat.land r.rw r.w1c = 0 ∧ Nat.land r.rw r.w1s = 0 ∧ Nat.land r.w1c r.w1s
      = 0 ∧ r.w1c.testBit i = true) ∧
    (∃ (r : RegRow) (old : Nat) (v : Nat) (hw : Nat) (i : Nat), r.wo = 0 ∧ Nat.land r.rw r.w1c = 0 ∧ Nat.land r.rw r.w1s = 0 ∧ Nat.land r.w1c r.w1s
      = 0 ∧ r.rw.testBit i = false ∧ r.w1s.testBit i = false ∧ r.w1c.testBit i = false) :=
  ⟨⟨((rowAt CAR_REPRO_T0_LO.addr).getD ⟨0,0,0,0,0,0,0,0,0,0,0,0⟩), 5, 3, 1, 0, by decide +kernel⟩,
   ⟨((rowAt CAR_BANK_CTRL_SWAP_REQ.addr).getD ⟨0,0,0,0,0,0,0,0,0,0,0,0⟩), 5, 3, 1, 0, by decide +kernel⟩,
   ⟨((rowAt TNG_INBOX_STATUS.addr).getD ⟨0,0,0,0,0,0,0,0,0,0,0,0⟩), 5, 3, 1, 0, by decide +kernel⟩,
   ⟨((rowAt CAR_STATUS.addr).getD ⟨0,0,0,0,0,0,0,0,0,0,0,0⟩), 5, 3, 1, 0, by decide +kernel⟩⟩

theorem witness_strokeInEdgeIsFiltered :
    (∃ (s : State) (at_ : Nat) (highNs : Nat), s.Inv ∧ isWorker s = false ∧ takesStrokes s = true ∧ gptpPrimary s = false ∧ onFlywheel s = false ∧
      source s = 0 ∧ inRepro s = false ∧ 50 ≤ highNs ∧ gptpValid s = true ∧ (∀ last, s.stk.lastAccepted = some last → period s ≤ 2 * (at_ - last))) ∧
    (∃ (s : State) (at_ : Nat) (highNs : Nat), s.Inv ∧ isWorker s = false ∧ takesStrokes s = true ∧ gptpPrimary s = false ∧ onFlywheel s = false ∧
      source s = 0 ∧ inRepro s = false ∧ highNs < 50 ∧ s.stk.ignored < 8) :=
  ⟨⟨mgr, 20000007, 60, by decide +kernel⟩,
   ⟨mgr, 20000007, 40, by decide +kernel⟩⟩

theorem witness_strokesGoOnWithoutStrokeIn :
    (∃ (s : State) (at_ : Nat) (last : Nat), s.Inv ∧ takesStrokes s = true ∧ isManager s = true ∧ source s = 0 ∧ s.stk.lastAccepted = some last ∧ 3
      * period s ≤ 2 * (at_ - last) ∧ gptpValid s = true ∧ s.flt.fifo.length < 256) ∧
    (∃ (s : State) (at_ : Nat) (a : _), takesStrokes s = true ∧ isManager s = true ∧ inRepro s = false ∧ onFlywheel s = true ∧ s.stk.anchor = some
      a ∧ a < at_ ∧ (at_ - a) % period s = 0 ∧ s.stk.changeAt ≤ at_) ∧
    (∃ (s : State) (at_ : Nat), takesStrokes s = true ∧ isManager s = true ∧ inRepro s = false ∧ gptpPrimary s = true ∧ (source s = 2 ∨ source s =
      5) ∧ s.stk.takeFrom.getD 0 ≤ at_ ∧ epoch s ≤ at_ ∧ (at_ - epoch s) % period s = 0) :=
  ⟨⟨{ mgr with stk := { mgr.stk with lastAccepted := some 1000 } }, 15001000, 1000, by decide +kernel⟩,
   ⟨{ put mgr [(CAR_STATUS_SOURCE, 1)] with stk := { mgr.stk with anchor := some 1000, changeAt := 2000 } }, 20001000, 1000, by decide +kernel⟩,
   ⟨put mgr [(CAR_STATUS_SOURCE, 2), (CAR_SRC_CFG, 1)], 30000000, by decide +kernel⟩⟩

theorem witness_gptpLossHoldoverAndReturn :
    (∃ (s : State) (at_ : Nat) (gptp : Nat), s.Inv ∧ s.flt.fifo.length < 256 ∧ gptpValid s = true ∧ s.pln.strokeLoss = false ∧ source s = 1) ∧
    (∃ (s : State) (at_ : Nat) (gptp : Nat) (h : _), s.Inv ∧ s.flt.fifo.length < 256 ∧ gptpValid s = false ∧ s.stk.holdStart = some h ∧ h +
      1000000000 ≤ at_ ∧ at_ < 2 ^ 64 ∧ source s = 5) ∧
    (∃ (s : State) (at_ : Nat) (gptp : Nat), s.Inv ∧ s.flt.fifo.length < 256 ∧ gptpValid s = false ∧ source s = 5) :=
  ⟨⟨{ put mgr [(CAR_STATUS_SOURCE, 1)] with stk := { mgr.stk with anchor := some 1000, changeAt := 2000 } }, 5, 0, by decide +kernel⟩,
   ⟨{ put mgr [(CAR_STATUS_SOURCE, 5), (CAR_STATUS_GPTP_VALID, 0)] with stk := { mgr.stk with holdStart := some 7 } }, 1000000007, 0, 7, by
     decide +kernel⟩,
   ⟨{ put mgr [(CAR_STATUS_SOURCE, 5), (CAR_STATUS_GPTP_VALID, 0)] with stk := { mgr.stk with holdStart := some 7 } }, 1000, 0, by decide +kernel⟩⟩

theorem witness_strokeInstantMakesTheWaitingStrokeCurrent :
    (∃ (s : State) (at_ : Nat) (n : Nat) (tai : Nat) (inst : Nat), s.Inv ∧ s.stk.awaiting = some (n, tai, inst) ∧ flag s TOP_MODE_REQ_PEND = false
      ∧ inst ≤ at_ ∧ inRepro s = false ∧ (isManager s = true → s.stk.lastStroke = none ∨ s.stk.lastStroke = some (n, tai))) ∧
    (∃ (s : State) (at_ : Nat) (n : Nat) (tai : Nat) (inst : Nat), s.Inv ∧ s.stk.awaiting = some (n, tai, inst) ∧ flag s TOP_MODE_REQ_PEND = false
      ∧ inst ≤ at_ ∧ inRepro s = false ∧ (isManager s = true → s.stk.lastStroke = none ∨ s.stk.lastStroke = some (n, tai)) ∧ missedGolden s = [] ∧
      s.fwl.mapPending = none ∧ s.spr.vacant = [] ∧ s.flt.fifo.length + 4 ≤ 256) ∧
    (∃ (s : State) (at_ : Nat) (n : Nat) (tai : Nat) (inst : Nat), s.Inv ∧ s.stk.awaiting = some (n, tai, inst) ∧ flag s TOP_MODE_REQ_PEND = false
      ∧ inRepro s = true ∧ reproBusy (atTime s at_) = false) ∧
    (∃ (s : State) (at_ : Nat) (n : Nat) (tai : Nat) (inst : Nat), s.Inv ∧ s.stk.awaiting = some (n, tai, inst) ∧ flag s TOP_MODE_REQ_PEND = false
      ∧ inRepro s = true ∧ reproBusy (atTime s at_) = false ∧ missedGolden s = [] ∧ s.fwl.mapPending = none ∧ s.spr.vacant = [] ∧ s.flt.fifo.length
      + 4 ≤ 256) :=
  ⟨⟨{ mgr with stk := { mgr.stk with awaiting := some (9, 90000000, 90000200) } }, 90000300, 9, 90000000, 90000200, by decide +kernel⟩,
   ⟨{ mgr with stk := { mgr.stk with awaiting := some (9, 90000000, 90000200) } }, 90000300, 9, 90000000, 90000200, by decide +kernel⟩,
   ⟨{ put mgr [(TOP_MODE_MODE, 1)] with stk := { mgr.stk with awaiting := some (9, 90000000, 90000200) } }, 90000300, 9, 90000000, 90000200, by
     decide +kernel⟩,
   ⟨{ put mgr [(TOP_MODE_MODE, 1)] with stk := { mgr.stk with awaiting := some (9, 90000000, 90000200) } }, 90000300, 9, 90000000, 90000200, by
     decide +kernel⟩⟩

theorem witness_timetableEntriesFallDueLaunchOrAreLate :
    (∃ (s : State) (at_ : Nat) (idx : Nat), s.Inv ∧ liveWords s = shadowWords s ∧ s.car.shadowSettled = s.car.settled ∧ s.flt.fifo.length < 256 ∧
      mayLaunch s = true ∧ (strokeEntries s).contains idx = true ∧ s.stk.inst + eOffset (liveWords s) idx ≤ at_ ∧ s.car.settled.contains idx =
      false ∧ s.car.due.any (fun p => p.1 == idx) = false ∧ s.car.copying.any (fun c => c.1 == idx) = false ∧ s.car.shadowDue = s.car.due) ∧
    (∃ (s : State) (at_ : Nat) (idx : Nat) (due : _) (rest : _) (bs : _), s.Inv ∧ liveWords s = shadowWords s ∧ s.car.shadowSettled = s.car.settled
      ∧ s.flt.fifo.length < 256 ∧ s.car.due = (idx, due) :: rest ∧ s.car.shadowDue = s.car.due ∧ s.car.copying = none ∧ (inRepro s = true ∨ at_ ≤
      lateAt s idx) ∧ eCount (liveWords s) idx ≤ qFree s (eQueue (liveWords s) idx) ∧ ((rdBytes s 0x20 (eList (liveWords s) idx) (eCount (liveWords
      s) idx * 64)).run []).1 = some bs ∧ ((rdBytes s 0x20 (eList (liveWords s) idx) (eCount (liveWords s) idx * 64)).run []).2 = [] ∧
      s.flt.fifo.length + 8 * eCount (liveWords s) idx < 256) ∧
    (∃ (s : State) (at_ : Nat) (idx : Nat) (due : _) (rest : _) (ns : _), s.Inv ∧ liveWords s = shadowWords s ∧ s.car.shadowSettled = s.car.settled
      ∧ s.flt.fifo.length < 256 ∧ s.car.due = (idx, due) :: rest ∧ s.car.shadowDue = s.car.due ∧ s.car.copying = none ∧ (inRepro s = true ∨ at_ ≤
      lateAt s idx) ∧ eCount (liveWords s) idx ≤ qFree s (eQueue (liveWords s) idx) ∧ ((rdBytes s 0x20 (eList (liveWords s) idx) (eCount (liveWords
      s) idx * 64)).run []).1 = none ∧ ((rdBytes s 0x20 (eList (liveWords s) idx) (eCount (liveWords s) idx * 64)).run []).2 = ns ∧
      s.flt.fifo.length + 4 * ns.length < 256) ∧
    (∃ (s : State) (at_ : Nat) (idx : Nat) (q : _) (n : _), s.Inv ∧ liveWords s = shadowWords s ∧ s.car.shadowSettled = s.car.settled ∧
      s.flt.fifo.length < 256 ∧ s.car.copying = some (idx, q, n) ∧ q < 64 ∧ getF s (TAB_Q_CFG2_PRODUCER q) = 0x20 ∧ getF s (TAB_Q_CFG_EN q) = 1 ∧
      sub32 ((qTail s q + n) % 2 ^ 32) (qTail s q) ≤ qSize s q ∧ sub32 ((qTail s q + n) % 2 ^ 32) (qHead s q) ≤ qSize s q) ∧
    (∃ (s : State) (at_ : Nat) (idx : Nat) (q : _) (n : _), s.Inv ∧ liveWords s = shadowWords s ∧ s.car.shadowSettled = s.car.settled ∧
      s.flt.fifo.length < 256 ∧ s.car.copying = some (idx, q, n) ∧ q < 64 ∧ getF s (TAB_Q_CFG2_PRODUCER q) ≠ 0x20) :=
  ⟨⟨{ opened mgr with stk := { mgr.stk with any := true, inst := 1000, no := 4 }, car := { mgr.car with bank0 := [(0, 0x08000064), (1, 0x10003), (2, 0x1000), (3, 0x10000)], shadow0 := [(0, 0x08000064), (1, 0x10003), (2, 0x1000), (3, 0x10000)] } }, 1200, 0, by decide +kernel⟩,
   ⟨{ put (opened mgr) [(TAB_Q_CFG_LOG2SIZE 3, 4), (TAB_Q_CFG_EN 3, 1), (TAB_Q_BASE_LO 3, 0x2000)] with stk := { mgr.stk with any := true, inst := 1000, no := 4 }, car := { mgr.car with due := [(0, 1100)], shadowDue := [(0, 1100)], bank0 := [(0, 0x08000064), (1, 0x10003), (2, 0x1000), (3, 0x10000)], shadow0 := [(0, 0x08000064), (1, 0x10003), (2, 0x1000), (3, 0x10000)] } }, 1300, 0, 1100, [], (List.replicate 64 0), by decide +kernel⟩,
   ⟨{ ({ put (opened mgr) [(TAB_Q_CFG_LOG2SIZE 3, 4), (TAB_Q_CFG_EN 3, 1), (TAB_Q_BASE_LO 3, 0x2000)] with stk := { mgr.stk with any := true, inst := 1000, no := 4 }, car := { mgr.car with due := [(0, 1100)], shadowDue := [(0, 1100)], bank0 := [(0, 0x08000064), (1, 0x10003), (2, 0x1000), (3, 0x10000)], shadow0 := [(0, 0x08000064), (1, 0x10003), (2, 0x1000), (3, 0x10000)] } } : State) with mem := { mgr.mem with errs := [(0x1000, poison)] } }, 1300, 0, 1100, [], [.bad 0x1000], by decide +kernel⟩,
   ⟨{ put (opened mgr) [(TAB_Q_CFG_LOG2SIZE 3, 4), (TAB_Q_CFG_EN 3, 1), (TAB_Q_CFG2_PRODUCER 3, 0x20), (TAB_Q_BASE_LO 3, 0x2000)] with stk := { mgr.stk with any := true, inst := 1000, no := 4 }, car := { mgr.car with copying := some (0, 3, 1), bank0 := [(0, 0x08000064), (1, 0x10003), (2, 0x1000), (3, 0x10000)], shadow0 := [(0, 0x08000064), (1, 0x10003), (2, 0x1000), (3, 0x10000)] } }, 1300, 0, 3, 1, by decide +kernel⟩,
   ⟨{ put (opened mgr) [(TAB_Q_CFG_LOG2SIZE 3, 4), (TAB_Q_CFG_EN 3, 1), (TAB_Q_BASE_LO 3, 0x2000)] with stk := { mgr.stk with any := true, inst := 1000, no := 4 }, car := { mgr.car with copying := some (0, 3, 1), bank0 := [(0, 0x08000064), (1, 0x10003), (2, 0x1000), (3, 0x10000)], shadow0 := [(0, 0x08000064), (1, 0x10003), (2, 0x1000), (3, 0x10000)] } }, 1300, 0, 3, 1, by decide +kernel⟩⟩

theorem witness_timetableEntriesFallDueLaunchOrAreLate_2 :
    (∃ (s : State) (at_ : Nat) (idx : Nat), s.Inv ∧ liveWords s = shadowWords s ∧ s.car.shadowSettled = s.car.settled ∧ s.flt.fifo.length < 256 ∧
      mayLaunch s = true ∧ inRepro s = false ∧ (strokeEntries s).contains idx = true ∧ s.car.settled.contains idx = false ∧ s.car.copying.any (fun
      c => c.1 == idx) = false ∧ lateAt s idx ≤ at_ ∧ s.car.shadowDue = s.car.due) ∧
    (∃ (s : State) (at_ : Nat) (idx : Nat), s.Inv ∧ liveWords s = shadowWords s ∧ s.car.shadowSettled = s.car.settled ∧ s.flt.fifo.length < 256 ∧
      mayLaunch s = true ∧ (strokeEntries s).contains idx = true ∧ s.stk.inst + eOffset (liveWords s) idx ≤ at_ ∧ s.car.settled.contains idx =
      false ∧ s.car.due.any (fun p => p.1 == idx) = true ∧ s.car.copying.any (fun c => c.1 == idx) = false ∧ s.car.shadowDue = []) :=
  ⟨⟨{ opened mgr with stk := { mgr.stk with any := true, inst := 1000, no := 4 }, car := { mgr.car with bank0 := [(0, 0x08000064), (1, 0x10003), (2, 0x1000), (3, 0x10000)], shadow0 := [(0, 0x08000064), (1, 0x10003), (2, 0x1000), (3, 0x10000)] } }, 4000000, 0, by decide +kernel⟩,
   ⟨{ opened mgr with stk := { mgr.stk with any := true, inst := 1000, no := 4 }, car := { mgr.car with due := [(0, 1100)], bank0 := [(0, 0x08000064), (1, 0x10003), (2, 0x1000), (3, 0x10000)], shadow0 := [(0, 0x08000064), (1, 0x10003), (2, 0x1000), (3, 0x10000)] } }, 1300, 0, by decide +kernel⟩⟩

theorem witness_timetableWritesGoToTheInactiveBank :
    (∃ (s : State) (brand : Nat), s.Inv ∧ fwDenies s 2 brand 1 CAR_BANK_CTRL.addr 4 = none) ∧
    (∃ (s : State) (brand : Nat) (addr : Nat) (value : Nat), s.Inv ∧ flag s CAR_BANK_CTRL_SWAP_REQ = false ∧ 0x40410000 ≤ addr ∧ addr < 0x40411000
      ∧ addr % 4 = 0 ∧ fwDenies s 2 brand 1 addr 4 = none) :=
  ⟨⟨mgr, 2, by decide +kernel⟩,
   ⟨mgr, 2, 0x40410008, 77, by decide +kernel⟩⟩

theorem witness_workersTakeStrokesFromTheBellLine :
    (∃ (s : State) (at_ : Nat) (highNs : Nat), s.Inv ∧ isWorker s = true ∧ s.bell.admitted = true ∧ s.ubf.orphan = false ∧ source s = 3 ∧ 20 ≤
      highNs ∧ inCalWindow s at_ = false ∧ waitsRepro s = false ∧ s.flt.fifo.length < 256 ∧ (∀ last, s.bell.lastAccepted = some last → period s ≤ 2
      * (at_ - last))) ∧
    (∃ (s : State) (at_ : Nat) (highNs : Nat) (last : _), s.Inv ∧ isWorker s = true ∧ s.bell.admitted = true ∧ s.ubf.orphan = false ∧ source s = 3
      ∧ s.bell.lastAccepted = some last ∧ inCalWindow s at_ = false ∧ (highNs < 20 ∨ 2 * (at_ - last) < period s) ∧ s.bell.ignored < 8) ∧
    (∃ (s : State) (at_ : Nat) (highNs : Nat), s.Inv ∧ isWorker s = true ∧ s.bell.admitted = true ∧ s.ubf.orphan = false ∧ source s = 3 ∧ 3 *
      period s ≤ 2 * (at_ - bellSince s) ∧ s.flt.fifo.length < 256) ∧
    (∃ (s : State) (at_ : Nat) (highNs : Nat), s.Inv ∧ isWorker s = true ∧ s.bell.admitted = true ∧ s.ubf.orphan = false ∧ source s = 6 ∧ 3 *
      period s ≤ 2 * (at_ - bellSince s) ∧ s.flt.fifo.length < 255) ∧
    (∃ (s : State) (at_ : Nat) (hdr : List Nat), s.Inv ∧ isWorker s = true ∧ hTarget hdr = nodeId s ∧ s.bell.admitted = true ∧ s.ubf.orphan = false
      ∧ source s = 3 ∧ s.bell.edgeAt = none) :=
  ⟨⟨{ wrk with bell := { wrk.bell with lastAccepted := some 1000 } }, 10001000, 30, by decide +kernel⟩,
   ⟨{ wrk with bell := { wrk.bell with lastAccepted := some 1000 } }, 10001000, 10, 1000, by decide +kernel⟩,
   ⟨{ wrk with bell := { wrk.bell with lastAccepted := some 1000 } }, 15001000, 0, by decide +kernel⟩,
   ⟨put ({ wrk with bell := { wrk.bell with lastAccepted := some 1000 } }) [(CAR_STATUS_SOURCE, 6)], 15001000, 0, by decide +kernel⟩,
   ⟨wrk, 5, (mkHdr 16 3 0 0 1 0 7 0 9000), by decide +kernel⟩⟩

theorem witness_workersTakeStrokesFromTheBellLine_2 :
    (∃ (s : State) (at_ : Nat) (hdr : List Nat) (e : _) (n : _) (tai : _) (inst : _), s.Inv ∧ isWorker s = true ∧ hTarget hdr = nodeId s ∧
      s.bell.admitted = true ∧ s.ubf.orphan = false ∧ source s = 3 ∧ s.bell.edgeAt = some e ∧ s.bell.guessed = true ∧ s.bell.late = false ∧ at_ ≤ e
      + 100000 ∧ at_ ≤ e + period s / 2 ∧ inRepro s = false ∧ s.stk.awaiting = some (n, tai, inst) ∧ s.flt.fifo.length < 256) ∧
    (∃ (s : State) (at_ : Nat) (hdr : List Nat) (e : _), s.Inv ∧ isWorker s = true ∧ s.bell.edgeAt = some e ∧ s.bell.guessed = true ∧ s.bell.late =
      false ∧ e + 100000 ≤ at_ ∧ s.flt.fifo.length < 256) :=
  ⟨⟨{ wrk with bell := { wrk.bell with edgeAt := some 50, guessed := true }, stk := { wrk.stk with awaiting := some (6, 40, 250) } }, 90, (mkHdr 16
    3 0 0 1 0 7 0 9000), 50, 6, 40, 250, by decide +kernel⟩,
   ⟨{ wrk with bell := { wrk.bell with edgeAt := some 50, guessed := true } }, 100050, [], 50, by decide +kernel⟩⟩

theorem witness_bellCalibration :
    (∃ (s : State) (at_ : Nat) (highNs : Nat) (hdr : List Nat) (delays : List Nat), s.Inv ∧ isManager s = true ∧ s.bell.window = some (at_, 170000)
      ∧ s.time ≤ at_ ∧ flag s BEL_CFG_OUT_EN = true) ∧
    (∃ (s : State) (at_ : Nat) (highNs : Nat) (hdr : List Nat) (delays : List Nat), s.Inv ∧ isWorker s = true ∧ s.bell.admitted = false ∧ 20 ≤
      highNs ∧ (s.bell.calTimes.length < 16 ∨ s.bell.calEdges.length + 1 < 16)) ∧
    (∃ (s : State) (at_ : Nat) (highNs : Nat) (hdr : List Nat) (delays : List Nat), s.Inv ∧ isWorker s = true ∧ s.bell.admitted = false ∧ 20 ≤
      highNs ∧ 16 ≤ s.bell.calTimes.length ∧ 16 ≤ s.bell.calEdges.length + 1 ∧ s.flt.fifo.length < 256) ∧
    (∃ (s : State) (at_ : Nat) (highNs : Nat) (hdr : List Nat) (delays : List Nat), s.Inv ∧ isWorker s = true ∧ hTarget hdr = nodeId s ∧
      s.bell.admitted = false ∧ hAddr hdr = 0 ∧ (s.bell.calEdges.length < 16 ∨ s.bell.calTimes.length + 1 < 16)) ∧
    (∃ (s : State) (at_ : Nat) (highNs : Nat) (hdr : List Nat) (delays : List Nat), s.Inv ∧ isWorker s = true ∧ hTarget hdr = nodeId s ∧ hAddr hdr
      ≠ 0) :=
  ⟨⟨{ put mgr [(BEL_CFG_OUT_EN, 1)] with stk := { mgr.stk with any := true, time := 100 }, bell := { mgr.bell with window := some (5000100, 170000) } }, 5000100, 0, [], [], by decide +kernel⟩,
   ⟨{ wrk with bell := { wrk.bell with admitted := false } }, 77, 30, [], [], by decide +kernel⟩,
   ⟨{ wrk with bell := { wrk.bell with admitted := false, calTimes := List.replicate 16 100, calEdges := List.replicate 15 2500 } }, 300, 30, [],
     [], by decide +kernel⟩,
   ⟨{ wrk with bell := { wrk.bell with admitted := false } }, 0, 0, (mkHdr 19 3 0 0 1 0 0 0 5000), [], by decide +kernel⟩,
   ⟨{ wrk with bell := { wrk.bell with admitted := false } }, 0, 0, (mkHdr 19 3 0 0 1 0 6 0 5000), [], by decide +kernel⟩⟩

theorem witness_bellCalibration_2 : ∃ (s : State) (at_ : Nat) (highNs : Nat) (hdr : List Nat) (delays : List Nat), s.Inv ∧ isManager s = true ∧
  s.bell.targetFixed = false :=
  ⟨mgr, 0, 0, [], [180, 320], by decide +kernel⟩

theorem witness_planMessagesAreHandedOver :
    (∃ (s : State) (at_ : Nat) (d : _), s.Inv ∧ isManager s = true ∧ inRepro s = false ∧ s.stk.any = true ∧ s.stk.planDone = false ∧
      s.pln.strokeLoss = false ∧ s.stk.inst + getF s CAR_PLAN_DUE ≤ at_ ∧ s.pln.decided = some d ∧ s.flt.warmPending = false ∧ s.flt.fifo.length <
      254) ∧
    (∃ (s : State) (at_ : Nat), isManager s = true ∧ inRepro s = false ∧ s.stk.any = true ∧ s.stk.planDone = false ∧ s.pln.strokeLoss = false ∧
      s.stk.inst + getF s CAR_PLAN_DUE ≤ at_ ∧ s.pln.decided = none ∧ s.flt.fifo.length < 256) ∧
    (∃ (s : State) (at_ : Nat), isManager s = true ∧ mode s ≠ 3 ∧ s.pln.strokeLoss = true ∧ s.flt.warmPending = false) :=
  ⟨⟨{ put mgr [] with stk := { st0.stk with planDone := false }, pln := { st0.pln with decided := some dec4 } }, 9010000, dec4, by decide +kernel⟩,
   ⟨{ st0 with stk := { st0.stk with planDone := false } }, 9000000, by decide +kernel⟩,
   ⟨{ st0 with pln := { st0.pln with strokeLoss := true } }, 9000000, by decide +kernel⟩⟩

theorem witness_recordsChangeTheStagingHeat :
    (∃ (s : State) (r : Nat) (f : Fetched), s.Inv ∧ mayTake s r = true ∧ fetchRecord s r = (f, []) ∧ f.reason = 0 ∧ f.typ = fldAt f.data 0 1 ∧
      checkRecord s r f.data = 0 ∧ s.wld.stalled = [] ∧ (s.mem.errs = [] ∧ s.wld.staging + imageLen ≤ anvilEnd ∧ (inboxBase s + 2048 ≤
      s.wld.staging ∨ s.wld.staging + imageLen ≤ inboxBase s)) ∧ s.flt.fifo.length < 254 ∧ f.typ = 1 ∧ urgentSet f.data = false) ∧
    (∃ (s : State) (r : Nat) (f : Fetched), s.Inv ∧ mayTake s r = true ∧ fetchRecord s r = (f, []) ∧ f.reason = 0 ∧ f.typ = fldAt f.data 0 1 ∧
      checkRecord s r f.data = 0 ∧ s.wld.stalled = [] ∧ (s.mem.errs = [] ∧ s.wld.staging + imageLen ≤ anvilEnd ∧ (inboxBase s + 2048 ≤
      s.wld.staging ∨ s.wld.staging + imageLen ≤ inboxBase s)) ∧ s.flt.fifo.length < 254 ∧ f.typ = 2 ∧ present (primEntry (peek s) s.wld.staging
      (fldAt f.data 16 2)) = true) ∧
    (∃ (s : State) (r : Nat) (f : Fetched), s.Inv ∧ mayTake s r = true ∧ fetchRecord s r = (f, []) ∧ f.reason = 0 ∧ f.typ = fldAt f.data 0 1 ∧
      checkRecord s r f.data = 0 ∧ s.wld.stalled = [] ∧ (s.mem.errs = [] ∧ s.wld.staging + imageLen ≤ anvilEnd ∧ (inboxBase s + 2048 ≤
      s.wld.staging ∨ s.wld.staging + imageLen ≤ inboxBase s)) ∧ s.flt.fifo.length < 254 ∧ f.typ = 3 ∧ urgentSet f.data = false) ∧
    (∃ (s : State) (r : Nat) (f : Fetched), s.Inv ∧ mayTake s r = true ∧ fetchRecord s r = (f, []) ∧ f.reason = 0 ∧ f.typ = fldAt f.data 0 1 ∧
      checkRecord s r f.data = 0 ∧ s.wld.stalled = [] ∧ (s.mem.errs = [] ∧ s.wld.staging + imageLen ≤ anvilEnd ∧ (inboxBase s + 2048 ≤
      s.wld.staging ∨ s.wld.staging + imageLen ≤ inboxBase s)) ∧ s.flt.fifo.length < 254 ∧ f.typ = 4 ∧ agentNh (agentEntry (peek s) s.wld.staging
      (fldAt f.data 16 2)) ≠ 0) ∧
    (∃ (s : State) (r : Nat) (f : Fetched), s.Inv ∧ mayTake s r = true ∧ fetchRecord s r = (f, []) ∧ f.reason = 0 ∧ f.typ = fldAt f.data 0 1 ∧
      checkRecord s r f.data = 0 ∧ s.wld.stalled = [] ∧ (s.mem.errs = [] ∧ s.wld.staging + imageLen ≤ anvilEnd ∧ (inboxBase s + 2048 ≤
      s.wld.staging ∨ s.wld.staging + imageLen ≤ inboxBase s)) ∧ s.flt.fifo.length < 254 ∧ f.typ = 5) :=
  ⟨⟨(ringed (record 1 48 [])), 0, (fetchRecord ((ringed (record 1 48 []))) 0).1, by decide +kernel⟩,
   ⟨(poke (ringed (record 2 32 [])) (0x100000 + primOff + 18 - 18) (1 :: List.replicate 31 0)), 0, (fetchRecord ((poke (ringed (record 2 32 []))
     (0x100000 + primOff + 18 - 18) (1 :: List.replicate 31 0))) 0).1, by decide +kernel⟩,
   ⟨(ringed (record 3 704 [(18, 1, 1), (56, 2, 1), (62, 1, 1)])), 0, (fetchRecord ((ringed (record 3 704 [(18, 1, 1), (56, 2, 1), (62, 1, 1)])))
     0).1, by decide +kernel⟩,
   ⟨(poke (ringed (record 4 32 [])) (0x100000 + agentOff) [0, 0, 1]), 0, (fetchRecord ((poke (ringed (record 4 32 [])) (0x100000 + agentOff) [0, 0,
     1])) 0).1, by decide +kernel⟩,
   ⟨(ringed (record 5 32 [])), 0, (fetchRecord ((ringed (record 5 32 []))) 0).1, by decide +kernel⟩⟩

theorem witness_recordsChangeTheStagingHeat_2 :
    (∃ (s : State) (r : Nat) (f : Fetched), s.Inv ∧ mayTake s r = true ∧ fetchRecord s r = (f, []) ∧ f.reason = 0 ∧ f.typ = fldAt f.data 0 1 ∧
      checkRecord s r f.data = 0 ∧ s.wld.stalled = [] ∧ (s.mem.errs = [] ∧ s.wld.staging + imageLen ≤ anvilEnd ∧ (inboxBase s + 2048 ≤
      s.wld.staging ∨ s.wld.staging + imageLen ≤ inboxBase s)) ∧ s.flt.fifo.length < 254 ∧ f.typ = 6) ∧
    (∃ (s : State) (r : Nat) (f : Fetched), s.Inv ∧ mayTake s r = true ∧ fetchRecord s r = (f, []) ∧ f.reason = 0 ∧ f.typ = fldAt f.data 0 1 ∧
      checkRecord s r f.data = 0 ∧ s.wld.stalled = [] ∧ (s.mem.errs = [] ∧ s.wld.staging + imageLen ≤ anvilEnd ∧ (inboxBase s + 2048 ≤
      s.wld.staging ∨ s.wld.staging + imageLen ≤ inboxBase s)) ∧ s.flt.fifo.length < 254 ∧ f.typ = 0x0F ∧ inRepro s = true ∧ s.wld.sealPending =
      true) ∧
    (∃ (s : State) (r : Nat) (f : Fetched), s.Inv ∧ mayTake s r = true ∧ fetchRecord s r = (f, []) ∧ f.reason = 0 ∧ f.typ = fldAt f.data 0 1 ∧
      checkRecord s r f.data = 0 ∧ s.wld.stalled = [] ∧ (s.mem.errs = [] ∧ s.wld.staging + imageLen ≤ anvilEnd ∧ (inboxBase s + 2048 ≤
      s.wld.staging ∨ s.wld.staging + imageLen ≤ inboxBase s)) ∧ s.flt.fifo.length < 254 ∧ f.typ = 0x0F ∧ inRepro s = false) ∧
    (∃ (s : State) (r : Nat) (f : Fetched), s.Inv ∧ mayTake s r = true ∧ fetchRecord s r = (f, []) ∧ f.reason = 0 ∧ f.typ = fldAt f.data 0 1 ∧
      checkRecord s r f.data = 0 ∧ s.wld.stalled = [] ∧ (s.mem.errs = [] ∧ s.wld.staging + imageLen ≤ anvilEnd ∧ (inboxBase s + 2048 ≤
      s.wld.staging ∨ s.wld.staging + imageLen ≤ inboxBase s)) ∧ s.flt.fifo.length < 254 ∧ f.typ = 1 ∧ urgentSet f.data = true ∧ inRepro s = false
      ∧ getF s CRU_HEAT_SEALED ≠ 0 ∧ s.asy.nDelta < 256 ∧ (inboxBase s + 2048 ≤ asyBase ∨ asyBase + 0x800000 ≤ inboxBase s) ∧ heatImg s + imageLen
      ≤ anvilEnd) :=
  ⟨⟨(ringed (record 6 16 [])), 0, (fetchRecord ((ringed (record 6 16 []))) 0).1, by decide +kernel⟩,
   ⟨{ put (ringed (record 15 16 [])) [(TOP_MODE_MODE, 1)] with wld := { State.reset.wld with staging := 0x100000, sealPending := true } }, 0,
     (fetchRecord ({ put (ringed (record 15 16 [])) [(TOP_MODE_MODE, 1)] with wld := { State.reset.wld with staging := 0x100000, sealPending := true } }) 0).1, by decide +kernel⟩,
   ⟨(ringed (record 15 16 [])), 0, (fetchRecord ((ringed (record 15 16 []))) 0).1, by decide +kernel⟩,
   ⟨(setF { ringed (record 1 48 [(1, 1, 1)]) with time := 5 } CRU_HEAT_SEALED 3), 0, (fetchRecord ((setF
     { ringed (record 1 48 [(1, 1, 1)]) with time := 5 } CRU_HEAT_SEALED 3)) 0).1, by decide +kernel⟩⟩

theorem witness_recordsEnterTheRingsOrAreRejected :
    (∃ (s : State) (r : Nat) (f : Fetched), s.Inv ∧ mayTake s r = true ∧ fetchRecord s r = (f, []) ∧ f.reason = 0 ∧ s.wld.stalled = [] ∧ f.typ = 0) ∧
    (∃ (s : State) (r : Nat) (f : Fetched), s.Inv ∧ mayTake s r = true ∧ fetchRecord s r = (f, []) ∧ f.reason = 0 ∧ s.wld.stalled = [] ∧ [0, 1, 2,
      3, 4, 5, 6, 0x0F].contains f.typ = false ∧ fldAt f.data 0 1 = f.typ ∧ s.flt.fifo.length < 256) ∧
    (∃ (s : State) (r : Nat) (f : Fetched), s.Inv ∧ mayTake s r = true ∧ fetchRecord s r = (f, []) ∧ f.reason = 0 ∧ s.wld.stalled = [] ∧ [1, 2, 3,
      4, 5, 6, 0x0F].contains f.typ = true ∧ fldAt f.data 0 1 = f.typ ∧ checkRecord s r f.data ≠ 0 ∧ s.flt.fifo.length < 256) ∧
    (∃ (s : State) (brand : Nat) (r : Nat) (value : Nat) (bytes : List Nat), s.Inv ∧ r < 2 ∧ s.bil.networkRing = some r ∧ s.wld.stalled = [] ∧
      fldAt bytes 2 2 = bytes.length ∧ 16 ≤ bytes.length ∧ bytes.length % 16 = 0 ∧ ringWp s r + bytes.length ≤ ringSize s r ∧ 16 + ahead s r
      (ringWp s r) (ringRp s r) + bytes.length ≤ ringSize s r ∧ s.mem.errs = [] ∧ s.start.swept = true ∧ (inboxBase s + 2048 ≤ (ringBase s r +
      ringWp s r) ∨ (ringBase s r + ringWp s r) + bytes.length ≤ inboxBase s) ∧ targetOf s (ringBase s r + ringWp s r) = some 0 ∧ fwDenies s 0 0x41
      1 (ringBase s r + ringWp s r) bytes.length = none) ∧
    (∃ (s : State) (brand : Nat) (r : Nat) (value : Nat) (bytes : List Nat), s.Inv ∧ r < 2 ∧ fwDenies s 2 brand 1 (CRU_RING_WP r).addr 4 = none ∧
      value % 16 = 0 ∧ value < ringSize s r ∧ ahead s r (ringWp s r) (ringRp s r) + ahead s r value (ringWp s r) + 16 ≤ ringSize s r) :=
  ⟨⟨(ringed (record 0 16 [])), 0, (fetchRecord ((ringed (record 0 16 []))) 0).1, by decide +kernel⟩,
   ⟨(ringed (record 9 16 [])), 0, (fetchRecord ((ringed (record 9 16 []))) 0).1, by decide +kernel⟩,
   ⟨(ringed (record 1 64 [])), 0, (fetchRecord ((ringed (record 1 64 []))) 0).1, by decide +kernel⟩,
   ⟨{ ringed [] with start := { State.reset.start with swept := true }, bil := { State.reset.bil with networkRing := some 0 } }, 0, 0, 0, (record 1
     48 []), by decide +kernel⟩,
   ⟨ringed [], 2, 0, 32, [], by decide +kernel⟩⟩

theorem witness_recordsEnterTheRingsOrAreRejected_2 : ∃ (s : State) (brand : Nat) (r : Nat) (value : Nat) (bytes : List Nat), s.Inv ∧ r < 2 ∧
  fwDenies s 2 brand 1 (CRU_RING_WP r).addr 4 = none ∧ (value % 16 ≠ 0 ∨ ringSize s r ≤ value ∨ ringSize s r < ahead s r (ringWp s r) (ringRp s r)
  + ahead s r value (ringWp s r) + 16) :=
  ⟨ringed [], 2, 0, 33, [], by decide +kernel⟩

theorem witness_sealingMakesTheStagingHeatCurrent :
    (∃ (s : State) (at_ : Nat), s.Inv ∧ inRepro s = false ∧ s.tabA = s.tabB ∧ s.flt.fifo.length < 250 ∧ s.stk.any = true ∧ s.stk.inst + getF s
      CAR_SEAL_OFS ≤ at_ ∧ s.wld.sealedFor ≠ some s.stk.no ∧ s.wld.sealPending = false) ∧
    (∃ (s : State) (at_ : Nat), s.Inv ∧ inRepro s = false ∧ s.tabA = s.tabB ∧ s.flt.fifo.length < 250 ∧ s.wld.sealPending = true ∧ ringEmpty s 0 =
      true ∧ ringEmpty s 1 = true ∧ s.wld.copying = false ∧ (s.mem.errs = [] ∧ s.wld.staging + imageLen ≤ anvilEnd ∧ (inboxBase s + 2048 ≤
      s.wld.staging ∨ s.wld.staging + imageLen ≤ inboxBase s)) ∧ SealApart s) ∧
    (∃ (s : State) (at_ : Nat), s.Inv ∧ inRepro s = false ∧ s.tabA = s.tabB ∧ s.flt.fifo.length < 250 ∧ s.wld.sealPending = true ∧ s.wld.sealTime +
      getF s CRU_CFG1_SEAL_MAX * 1000 ≤ at_ ∧ unappliedAll s ≠ 0 ∧ s.wld.copying = false ∧ (s.mem.errs = [] ∧ s.wld.staging + imageLen ≤ anvilEnd ∧
      (inboxBase s + 2048 ≤ s.wld.staging ∨ s.wld.staging + imageLen ≤ inboxBase s)) ∧ SealApart s) ∧
    (∃ (s : State) (at_ : Nat), s.Inv ∧ inRepro s = false ∧ s.tabA = s.tabB ∧ s.flt.fifo.length < 250 ∧ s.wld.copying = true ∧ s.mem.errs = [] ∧
      s.wld.staging + imageLen ≤ anvilEnd ∧ InboxApart s s.wld.staging imageLen ∧ (heatImg s + imageLen ≤ s.wld.staging ∨ s.wld.staging + imageLen
      ≤ heatImg s) ∧ CopyInside s) :=
  ⟨⟨{ mgr with stk := { mgr.stk with any := true, inst := 1000, time := 800, no := 5 } }, 2000000, by decide +kernel⟩,
   ⟨{ put mgr [(TOP_MODE_MODE, 2)] with wld := { mgr.wld with sealPending := true, staging := 0x100000 } }, 2000000, by decide +kernel⟩,
   ⟨{ put (ringed (record 1 48 [])) [(TOP_MODE_MODE, 2)] with wld := { mgr.wld with sealPending := true, staging := 0x100000, cut := some (48, 0) } }, 2000000, by decide +kernel⟩,
   ⟨(set64 { ringed [] with wld := { mgr.wld with staging := 0x1000000, copying := true, copyAgent := [4] } } HAM_HEAT_IMG_LO HAM_HEAT_IMG_HI
     0x200000), 1, by decide +kernel⟩⟩

theorem witness_crucibleTasksExecuteOrWait :
    (∃ (s : State) (u : Nat) (k : Task), s.Inv ∧ taskById s k.id = some k ∧ engineTask s 1 u [1] = some k ∧ olderRuns s k.heat = false) ∧
    (∃ (s : State) (u : Nat) (k : Task), s.Inv ∧ taskById s k.id = some k ∧ engineTask s 1 u [2] = some k ∧ olderRuns s k.heat = false) ∧
    (∃ (s : State) (u : Nat) (k : Task), s.Inv ∧ taskById s k.id = some k ∧ engineTask s 1 u [3] = some k ∧ olderRuns s k.heat = false) ∧
    (∃ (s : State) (u : Nat) (k : Task), s.Inv ∧ taskById s k.id = some k ∧ engineTask s 1 u [3] = some k ∧ olderRuns s k.heat = true) ∧
    (∃ (s : State) (u : Nat) (k : Task), s.Inv ∧ taskById s k.id = some k ∧ engineTask s 1 u [1, 2, 3] = some k ∧ flag s (CRU_U_STATUS_DRAIN_WAIT
      u) = true ∧ olderRuns s k.heat = false) :=
  ⟨⟨(running mgr (task (command 1 1 []) 18)), 0, (task (command 1 1 []) 18), by decide +kernel⟩,
   ⟨(running mgr (task (command 1 2 []) 18)), 0, (task (command 1 2 []) 18), by decide +kernel⟩,
   ⟨(running mgr (task (command 1 3 []) 18)), 0, (task (command 1 3 []) 18), by decide +kernel⟩,
   ⟨(let k : Task := { task (command 1 3 []) 18 with heat := 5 }; let s := running mgr k; let o : Task :=
     { task (command 4 1 []) 57 with id := 6, heat := 3 }; { s with tabA := { s.tabA with tasks := [k, o] }, tabB := { s.tabB with tasks := [k, o] } }), 0, { (task (command 1 3 []) 18) with heat := 5 }, by decide +kernel⟩,
   ⟨(running (put mgr [(CRU_U_STATUS_DRAIN_WAIT 0, 1)]) (task (command 1 3 []) 18)), 0, (task (command 1 3 []) 18), by decide +kernel⟩⟩

theorem witness_crucibleTasksExecuteOrWait_2 : ∃ (s : State) (u : Nat) (k : Task), s.Inv ∧ taskById s k.id = some k ∧ engineTask s 1 u [0x10] =
  some k :=
  ⟨(running mgr (task (command 1 16 [(3, 1, 0x11)]) 18)), 0, (task (command 1 16 [(3, 1, 0x11)]) 18), by decide +kernel⟩

theorem witness_thePealWavefrontAdvancesAndEnds :
    (∃ (s : State) (u : Nat) (at_ : Nat) (k : Task), s.Inv ∧ engineTask s 2 u [1] = some k ∧ pealOn s = true ∧ s.peal.arrived.contains (partNo
      k.cmd) = false ∧ k.redisp = false ∧ s.peal.phase = 0 ∧ validBuf s = none) ∧
    (∃ (s : State) (u : Nat) (at_ : Nat) (k : Task), s.Inv ∧ engineTask s 2 u [1] = some k ∧ pealOn s = true ∧ s.peal.arrived.contains (partNo
      k.cmd) = false ∧ k.redisp = false ∧ s.peal.phase = 1) ∧
    (∃ (s : State) (u : Nat) (at_ : Nat) (k : Task), s.Inv ∧ engineTask s 2 u [2] = some k ∧ pealOn s = true ∧ s.peal.arrived.contains (partNo
      k.cmd) = false ∧ k.redisp = false ∧ s.peal.phase = 0) ∧
    (∃ (s : State) (u : Nat) (at_ : Nat) (k : Task), s.Inv ∧ engineTask s 2 u [2] = some k ∧ pealOn s = true ∧ s.peal.arrived.contains (partNo
      k.cmd) = false ∧ k.redisp = false ∧ s.peal.phase = 1) ∧
    (∃ (s : State) (u : Nat) (at_ : Nat) (k : Task), s.Inv ∧ allArrived s = true ∧ s.peal.phase = 1 ∧ validBuf s = none ∧ Grants s 0 (pealBrand s)
      0 0 anvilEnd ∧ (heatInfo s s.peal.heat).img + 64 ≤ anvilEnd ∧ sBase s + 0x800040 ≤ anvilEnd ∧ goalAddr s + 32 * ngoal s + 64 ≤ anvilEnd ∧
      s.mem.errs = [] ∧ s.start.swept = true ∧ (inboxBase s + 2048 ≤ (bufBase s s.peal.buf) ∨ (bufBase s s.peal.buf) + 0x800000 ≤ inboxBase s) ∧
      bufBase s s.peal.buf + 0x800000 ≤ anvilEnd ∧ (∀ j ∈ pealRunning s, Grants s 0 (qBrand s j.queue) 1 (bufBase s s.peal.buf) 0x800000)) :=
  ⟨⟨(running (put st0 [(PEL_CFG0_EN, 1), (PEL_CFG0_BAND, 256)]) (task (command 2 1 [(24, 1, 1), (25, 1, 1), (26, 1, 2)]) 27)), 0, 0, (task (command
    2 1 [(24, 1, 1), (25, 1, 1), (26, 1, 2)]) 27), by decide +kernel⟩,
   ⟨{ ((running (put st0 [(PEL_CFG0_EN, 1), (PEL_CFG0_BAND, 256)]) (task (command 2 1 [(24, 1, 1), (25, 1, 1), (26, 1, 2)]) 27)) : State) with peal := { arrived := [0], phase := 1 } }, 0, 0, (task (command 2 1 [(24, 1, 1), (25, 1, 1), (26, 1, 2)]) 27), by decide +kernel⟩,
   ⟨(running (put st0 [(PEL_CFG0_EN, 1), (PEL_CFG0_BAND, 256)]) (task (command 2 2 [(24, 1, 1), (25, 1, 1), (26, 1, 2)]) 27)), 0, 0, (task (command
     2 2 [(24, 1, 1), (25, 1, 1), (26, 1, 2)]) 27), by decide +kernel⟩,
   ⟨{ ((running (put st0 [(PEL_CFG0_EN, 1), (PEL_CFG0_BAND, 256)]) (task (command 2 2 [(24, 1, 1), (25, 1, 1), (26, 1, 2)]) 27)) : State) with peal := { arrived := [0], phase := 1 } }, 0, 0, (task (command 2 2 [(24, 1, 1), (25, 1, 1), (26, 1, 2)]) 27), by decide +kernel⟩,
   ⟨{ ((running ({ (set64 (set64 (setF (opened (put st0 [(PEL_CFG0_EN, 1), (PEL_CFG0_BAND, 256)])) (TAB_Q_CFG_BRAND 3) 0x20) PEL_BUF_BASE0_LO PEL_BUF_BASE0_HI 0x4000000) PEL_CHG_BASE_LO PEL_CHG_BASE_HI 0x300000) with start := { State.reset.start with swept := true } }) (task (command 2 2 [(24, 1, 1), (26, 1, 1)]) 27)) : State) with peal := { arrived := [0], phase := 1, fixed := some (1, 0, 1, 1), parts := [0] } }, 0, 2000, task [] 0, by decide +kernel⟩⟩

theorem witness_thePealWavefrontAdvancesAndEnds_2 :
    (∃ (s : State) (u : Nat) (at_ : Nat) (k : Task) (lo : _) (hi : _), s.Inv ∧ allArrived s = true ∧ s.peal.phase = 3 ∧ s.peal.opens.filter (fun n
      => decide (costAt s n < s.peal.hi)) = [] ∧ nextBand s s.peal.hi = some (lo, hi)) ∧
    (∃ (s : State) (u : Nat) (at_ : Nat) (k : Task), s.Inv ∧ allArrived s = true ∧ s.peal.phase = 3 ∧ s.peal.opens.filter (fun n => decide (costAt
      s n < s.peal.hi)) = [] ∧ nextBand s s.peal.hi = none ∧ s.peal.buf < 2 ∧ s.tabA = s.tabB ∧ s.mem.errs = [] ∧ s.start.swept = true ∧ (inboxBase
      s + 2048 ≤ (chgBase s) ∨ (chgBase s) + 2048 ≤ inboxBase s) ∧ chgBase s + 2048 ≤ anvilEnd ∧ (∀ j ∈ pealRunning s, Grants s 0 (qBrand s
      j.queue) 1 (chgBase s) 2048)) ∧
    (∃ (s : State) (u : Nat) (at_ : Nat) (k : Task) (b : _), s.Inv ∧ pealOn s = true ∧ inRepro s = false ∧ flag s PEL_FRAME_SELECTED = false ∧
      s.stk.inst + getF s PEL_SEL_OFS ≤ at_ ∧ validBuf s = some b ∧ latAge (getF s CRU_HEAT_SEALED) (getF s (PEL_LAT_HEAT b)) ≤ getF s
      PEL_CFG0_AGE_MAX) ∧
    (∃ (s : State) (u : Nat) (at_ : Nat) (k : Task), s.Inv ∧ pealOn s = true ∧ inRepro s = false ∧ flag s PEL_FRAME_SELECTED = false ∧ s.stk.inst +
      getF s PEL_SEL_OFS ≤ at_ ∧ validBuf s = none ∧ s.flt.fifo.length < 256) ∧
    (∃ (s : State) (u : Nat) (at_ : Nat) (k : Task), s.Inv ∧ inRepro s = false ∧ pealLeft s ≠ [] ∧ s.stk.inst + getF s PEL_END_OFS ≤ at_ ∧ s.tabA =
      s.tabB ∧ ((tasks s).map (·.id)).Nodup ∧ s.peal.heat = getF s CRU_HEAT_SEALED ∧ s.flt.fifo.length < 250 ∧ s.peal.buf < 2 ∧ (pealLeft s).all
      (fun j => j.swage.isNone && match j.loc with | .running e => classOfE e == 2 && (prefetchOn s e).isNone | _ => true) = true) :=
  ⟨⟨{ ((running ({ (set64 (set64 (setF (opened (put st0 [(PEL_CFG0_EN, 1), (PEL_CFG0_BAND, 256)])) (TAB_Q_CFG_BRAND 3) 0x20) PEL_BUF_BASE0_LO PEL_BUF_BASE0_HI 0x4000000) PEL_CHG_BASE_LO PEL_CHG_BASE_HI 0x300000) with start := { State.reset.start with swept := true } }) (task (command 2 2 [(24, 1, 1), (26, 1, 1)]) 27)) : State) with peal := { arrived := [0], phase := 3, fixed := some (1, 0, 1, 1), parts := [0], opens := [5], hi := 0 } }, 0, 2000, task [] 0, 0, 256, by decide +kernel⟩,
   ⟨{ ((running ({ (set64 (set64 (setF (opened (put st0 [(PEL_CFG0_EN, 1), (PEL_CFG0_BAND, 256)])) (TAB_Q_CFG_BRAND 3) 0x20) PEL_BUF_BASE0_LO PEL_BUF_BASE0_HI 0x4000000) PEL_CHG_BASE_LO PEL_CHG_BASE_HI 0x300000) with start := { State.reset.start with swept := true } }) (task (command 2 2 [(24, 1, 1), (26, 1, 1)]) 27)) : State) with peal := { arrived := [0], phase := 3, full := true, fixed := some (1, 0, 1, 1), parts := [0], opens := [], hi := 0 } }, 0, 2000, task [] 0, by decide +kernel⟩,
   ⟨(put st0 [(PEL_CFG0_EN, 1), (PEL_LAT_STATE 1, 2), (PEL_LAT_HEAT 1, 3), (CRU_HEAT_SEALED, 4), (PEL_CFG0_AGE_MAX, 10)]), 0, 2000000, task [] 0,
     1, by decide +kernel⟩,
   ⟨(put st0 [(PEL_CFG0_EN, 1)]), 0, 2000000, task [] 0, by decide +kernel⟩,
   ⟨(running (put st0 [(PEL_CFG0_EN, 1), (PEL_CFG0_BAND, 256)]) (task (command 2 2 [(24, 1, 1), (26, 1, 1)]) 27)), 0, 20000000, (task (command 2 2
     [(24, 1, 1), (26, 1, 1)]) 27), by decide +kernel⟩⟩

theorem witness_thePealWavefrontAdvancesAndEnds_3 : ∃ (s : State) (u : Nat) (at_ : Nat) (k : Task), s.Inv ∧ taskById s k.id = some k ∧ engineTask s
  2 u [0x10] = some k :=
  ⟨(running (put st0 [(PEL_CFG0_EN, 1), (PEL_CFG0_BAND, 256)]) (task (command 2 16 [(3, 1, 0x11)]) 27)), 0, 0, (task (command 2 16 [(3, 1, 0x11)])
    27), by decide +kernel⟩

theorem witness_swageQuenchAndDigestTasksExecute :
    (∃ (s : State) (u : Nat) (k : Task), taskById s k.id = some k ∧ engineTask s 3 u [1] = some k) ∧
    (∃ (s : State) (u : Nat) (k : Task), taskById s k.id = some k ∧ engineTask s 3 u [0x10] = some k) ∧
    (∃ (s : State) (u : Nat) (at_ : Nat) (phases : List (Nat × Nat × Nat)) (k : _), taskById s k.id = some k ∧ engineTask s 6 u [1] = some k) ∧
    (∃ (s : State) (u : Nat) (at_ : Nat) (phases : List (Nat × Nat × Nat)), inRepro s = false ∧ s.stk.inst + getF s QNC_DL_OFS ≤ at_ ∧ (List.range
      9).all (fun v => ((engineTask s 6 v [1]).all (fun k => k.heat != getF s CRU_HEAT_SEALED))) = true) ∧
    (∃ (s : State) (u : Nat) (at_ : Nat) (phases : List (Nat × Nat × Nat)) (k : _) (v : Nat), inRepro s = false ∧ s.stk.inst + getF s QNC_DL_OFS ≤
      at_ ∧ v < 9 ∧ engineTask s 6 v [1] = some k ∧ k.punit = v ∧ taskById s k.id = some k ∧ k.heat = getF s CRU_HEAT_SEALED ∧ (List.range 9).all
      (fun x => x == v || (engineTask s 6 x [1]).all (fun j => j.heat != getF s CRU_HEAT_SEALED)) = true) :=
  ⟨⟨(running st0 (task (command 3 1 []) 32)), 0, (task (command 3 1 []) 32), by decide +kernel⟩,
   ⟨(running st0 (task (command 3 16 [(3, 1, 0x11)]) 32)), 0, (task (command 3 16 [(3, 1, 0x11)]) 32), by decide +kernel⟩,
   ⟨(running st0 (task (command 6 1 []) 205)), 0, 0, [], (task (command 6 1 []) 205), by decide +kernel⟩,
   ⟨st0, 0, 20000000, [], by decide +kernel⟩,
   ⟨(running st0 { (task (command 6 1 []) 205) with heat := 0 }), 0, 20000000, [], { (task (command 6 1 []) 205) with heat := 0 }, 0, by
     decide +kernel⟩⟩

theorem witness_swageQuenchAndDigestTasksExecute_2 :
    (∃ (s : State) (u : Nat) (at_ : Nat) (phases : List (Nat × Nat × Nat)) (k : _), taskById s k.id = some k ∧ engineTask s 6 u [2] = some k) ∧
    (∃ (s : State) (u : Nat) (h : Nat) (k : Task) (s' : State), taskById s k.id = some k ∧ engineTask s 8 u [1] = some k ∧ digestGo (qBrand s
      k.queue) (bf k.cmd 32 8) (bf k.cmd 24 8 / 64) (bf k.cmd 16 8) 0 s = (some h, s')) ∧
    (∃ (s : State) (u : Nat) (h : Nat) (k : Task) (s' : State), taskById s k.id = some k ∧ engineTask s 8 u [1] = some k ∧ digestGo (qBrand s
      k.queue) (bf k.cmd 32 8) (bf k.cmd 24 8 / 64) (bf k.cmd 16 8) 0 s = (none, s')) :=
  ⟨⟨(running st0 (task (command 6 2 [(3, 1, 0x11)]) 205)), 0, 0, [], (task (command 6 2 [(3, 1, 0x11)]) 205), by decide +kernel⟩,
   ⟨(running (put (opened st0) [(TAB_Q_CFG_BRAND 3, 2)]) (task (command 8 1 [(16, 8, 64), (24, 8, 64), (40, 8, 256)]) 216)), 0, ((digestGo (qBrand
     (running (put (opened st0) [(TAB_Q_CFG_BRAND 3, 2)]) (task (command 8 1 [(16, 8, 64), (24, 8, 64), (40, 8, 256)]) 216)) 3) 0 1 64 0 (running
     (put (opened st0) [(TAB_Q_CFG_BRAND 3, 2)]) (task (command 8 1 [(16, 8, 64), (24, 8, 64), (40, 8, 256)]) 216))).1.getD 0), (task (command 8 1
     [(16, 8, 64), (24, 8, 64), (40, 8, 256)]) 216), (digestGo (qBrand (running (put (opened st0) [(TAB_Q_CFG_BRAND 3, 2)]) (task (command 8 1
     [(16, 8, 64), (24, 8, 64), (40, 8, 256)]) 216)) 3) 0 1 64 0 (running (put (opened st0) [(TAB_Q_CFG_BRAND 3, 2)]) (task (command 8 1 [(16, 8,
     64), (24, 8, 64), (40, 8, 256)]) 216))).2, by decide +kernel⟩,
   ⟨(running (opened st0) (task (command 8 1 [(16, 8, 64), (24, 8, 64), (40, 8, 256)]) 216)), 0, 0, (task (command 8 1 [(16, 8, 64), (24, 8, 64),
     (40, 8, 256)]) 216), (digestGo (qBrand (running (opened st0) (task (command 8 1 [(16, 8, 64), (24, 8, 64), (40, 8, 256)]) 216)) 3) 0 1 64 0
     (running (opened st0) (task (command 8 1 [(16, 8, 64), (24, 8, 64), (40, 8, 256)]) 216))).2, by decide +kernel⟩⟩

theorem witness_hammerTasksExecuteAndAreCut :
    (∃ (s : State) (u : Nat) (at_ : Nat) (i : Nat) (done : List (Nat × Nat)) (k : Task) (k' : _), taskById s k.id = some k ∧ engineTask s 4 u [1] =
      some k ∧ cutPassed s k = false ∧ withSwage s k = some k') ∧
    (∃ (s : State) (u : Nat) (at_ : Nat) (i : Nat) (done : List (Nat × Nat)) (k : Task), taskById s k.id = some k ∧ engineTask s 4 u [1] = some k ∧
      cutPassed s k = true) ∧
    (∃ (s : State) (u : Nat) (at_ : Nat) (i : Nat) (done : List (Nat × Nat)) (k : Task) (k' : _), taskById s k.id = some k ∧ engineTask s 4 u [2] =
      some k ∧ withSwage s k = some k') ∧
    (∃ (s : State) (u : Nat) (at_ : Nat) (i : Nat) (done : List (Nat × Nat)) (k : Task), taskById s k.id = some k ∧ i < 2 ∧ inRepro s = false ∧
      s.stk.inst + (if i = 0 then getF s HAM_CUT_OFS0 else getF s HAM_CUT_OFS1) ≤ at_ ∧ cutTasks s i = [k] ∧ k.loc = .ready ∧ s.tabA = s.tabB) :=
  ⟨⟨(running st0 { (task (command 4 1 []) 56) with heat := 3, swage := some 32 }), 0, 0, 0, [],
    { (task (command 4 1 []) 56) with heat := 3, swage := some 32 }, { (task (command 4 1 []) 56) with heat := 3, swage := some 32 }, by
    decide +kernel⟩,
   ⟨(running { st0 with tabX := { st0.tabX with gates := [cutGate 0, cutGate 1] } } (task (command 4 1 [(57, 1, 1)]) 56)), 0, 0, 0, [], (task
     (command 4 1 [(57, 1, 1)]) 56), by decide +kernel⟩,
   ⟨(running st0 { (task (command 4 2 [(3, 1, 0x11)]) 56) with swage := some 32 }), 0, 0, 0, [],
     { (task (command 4 2 [(3, 1, 0x11)]) 56) with swage := some 32 }, { (task (command 4 2 [(3, 1, 0x11)]) 56) with swage := some 32 }, by
     decide +kernel⟩,
   ⟨(running st0 { (task (command 4 1 [(57, 1, 1)]) 56) with heat := 0, loc := .ready }), 0, 9000000, 0, [],
     { (task (command 4 1 [(57, 1, 1)]) 56) with heat := 0, loc := .ready }, by decide +kernel⟩⟩

theorem witness_tongsTasksExecuteAndTheInboxTakesLines :
    (∃ (s : State) (u : Nat) (at_ : Nat) (i : Nat) (k : _), taskById s k.id = some k ∧ engineTask s 5 u [1] = some k) ∧
    (∃ (s : State) (u : Nat) (at_ : Nat) (i : Nat) (k : _), taskById s k.id = some k ∧ engineTask s 5 u [2] = some k) ∧
    (∃ (s : State) (u : Nat) (at_ : Nat) (i : Nat) (k : _), taskById s k.id = some k ∧ engineTask s 5 u [0x10] = some k ∧ s.tabA = s.tabB) ∧
    (∃ (s : State) (u : Nat) (at_ : Nat) (i : Nat), i < 2 ∧ inRepro s = false ∧ s.stk.inst + (if i = 0 then getF s TNG_GATHER_OFS0 else getF s
      TNG_GATHER_OFS1) ≤ at_) ∧
    (∃ (s : State) (brand : Nat) (slot : Nat) (mask : Nat) (line : List Nat), s.Inv ∧ slot < 32 ∧ line.length = 64 ∧ targetOf s (inboxBase s + 64 *
      slot) = some 0 ∧ fwDenies s 0 brand 1 (inboxBase s + 64 * slot) 64 = none) :=
  ⟨⟨(running st0 (task (command 5 1 []) 200)), 0, 0, 0, (task (command 5 1 []) 200), by decide +kernel⟩,
   ⟨(running st0 (task (command 5 2 []) 200)), 0, 0, 0, (task (command 5 2 []) 200), by decide +kernel⟩,
   ⟨(running st0 (task (command 5 16 [(3, 1, 0x11)]) 200)), 0, 0, 0, (task (command 5 16 [(3, 1, 0x11)]) 200), by decide +kernel⟩,
   ⟨st0, 0, 20000000, 1, by decide +kernel⟩,
   ⟨(put (opened mgr) [(TNG_INBOX_BASE_LO, 0x4000), (TNG_INBOX_STATUS, 7)]), 2, 31, 5, List.replicate 64 7, by decide +kernel⟩⟩

theorem witness_tongsTasksExecuteAndTheInboxTakesLines_2 :
    (∃ (s : State) (brand : Nat) (slot : Nat) (mask : Nat) (line : List Nat), s.Inv ∧ slot < 32 ∧ line.length = 64 ∧ targetOf s (inboxBase s + 64 *
      slot) = some 0 ∧ fwDenies s 0 brand 1 (inboxBase s + 64 * slot) 64 = none ∧ inboxBase s % 64 = 0 ∧ bit (fldAt line 20 4) 0 = true ∧ fldAt
      line 24 8 = sealedStroke s) ∧
    (∃ (s : State) (brand : Nat) (slot : Nat) (mask : Nat) (line : List Nat) (cls : _), s.Inv ∧ slot < 32 ∧ line.length = 64 ∧ targetOf s
      (inboxBase s + 64 * slot) = some 0 ∧ fwDenies s 0 brand 1 (inboxBase s + 64 * slot) 64 = some cls) ∧
    (∃ (s : State) (brand : Nat) (slot : Nat) (mask : Nat) (line : List Nat), s.Inv ∧ slot < 32 ∧ line.length = 64 ∧ fwDenies s 2 brand 1
      TNG_INBOX_STATUS.addr 4 = none) :=
  ⟨⟨(put (opened mgr) [(TNG_INBOX_BASE_LO, 0x4000), (TNG_INBOX_STATUS, 7)]), 2, 31, 5, (layout 64 [(20, 4, 1)]), by decide +kernel⟩,
   ⟨(put mgr [(TNG_INBOX_BASE_LO, 0x4000), (FWL_TH_SEQ 0, 1)]), 2, 0, 5, List.replicate 64 7, (fwDenies (put mgr [(TNG_INBOX_BASE_LO, 0x4000),
     (FWL_TH_SEQ 0, 1)]) 0 2 1 0x4000 64).getD 0, by decide +kernel⟩,
   ⟨(put (opened mgr) [(TNG_INBOX_BASE_LO, 0x4000), (TNG_INBOX_STATUS, 7)]), 2, 31, 5, List.replicate 64 7, by decide +kernel⟩⟩

theorem witness_theAssayLoadsWatchesAndFreezes :
    (∃ (s : State) (at_ : Nat), s.Inv ∧ s.asy.loading = true ∧ NoErrs s ∧ s.flt.fifo.length < 250 ∧ heatImg s + imageLen ≤ anvilEnd ∧ heatImg s %
      64 = 0 ∧ (inboxBase s + 2048 ≤ asyBase ∨ asyBase + 0x800000 ≤ inboxBase s)) ∧
    (∃ (s : State) (at_ : Nat), s.Inv ∧ s.asy.gridding = true ∧ NoErrs s ∧ s.flt.fifo.length < 250 ∧ (inboxBase s + 2048 ≤ asyBase ∨ asyBase +
      0x800000 ≤ inboxBase s)) ∧
    (∃ (s : State) (u : Nat) (at_ : Nat) (k : _), taskById s k.id = some k ∧ engineTask s 7 u [1] = some k ∧ s.tabA = s.tabB) ∧
    (∃ (s : State) (u : Nat) (at_ : Nat) (k : _), taskById s k.id = some k ∧ engineTask s 7 u [2] = some k ∧ s.tabA = s.tabB) ∧
    (∃ (s : State) (u : Nat) (at_ : Nat) (c : _), s.asy.watching = true ∧ s.asy.frozen = false ∧ s.asy.task = some c ∧ s.asy.deltaSeen <
      s.asy.nDelta ∧ s.asy.carry = none ∧ s.asy.chosen = none) :=
  ⟨⟨{ (put st0 [(TNG_INBOX_BASE_LO, 0x4000), (HAM_HEAT_IMG_LO, 0x100000)]) with asy := { st0.asy with loading := true } }, 50, by decide +kernel⟩,
   ⟨{ (put st0 [(TNG_INBOX_BASE_LO, 0x4000), (HAM_HEAT_IMG_LO, 0x100000)]) with asy := { st0.asy with gridding := true } }, 50000, by decide +kernel⟩,
   ⟨(running st0 (task (command 7 1 []) 214)), 0, 0, (task (command 7 1 []) 214), by decide +kernel⟩,
   ⟨(running st0 (task (command 7 2 [(3, 1, 0x11)]) 214)), 0, 0, (task (command 7 2 [(3, 1, 0x11)]) 214), by decide +kernel⟩,
   ⟨{ st0 with asy := { st0.asy with watching := true, task := some [], nDelta := 2 } }, 0, 0, [], by decide +kernel⟩⟩

theorem witness_theAssayLoadsWatchesAndFreezes_2 :
    (∃ (s : State) (u : Nat) (at_ : Nat), s.stk.any = true ∧ inRepro s = false ∧ isManager s = true ∧ s.asy.frozen = false ∧ s.asy.watching = false
      ∧ s.asy.goldenPass = true ∧ s.pln.strokeLoss = false ∧ s.flt.takeover = none ∧ islandDown s = false ∧ s.stk.inst + getF s ASY_FREEZE_OFS ≤
      at_) ∧
    (∃ (s : State) (u : Nat) (at_ : Nat), s.stk.any = true ∧ inRepro s = false ∧ isManager s = true ∧ s.asy.frozen = false ∧ s.asy.watching = true
      ∧ s.asy.goldenPass = true ∧ s.pln.strokeLoss = false ∧ s.flt.takeover = none ∧ islandDown s = false ∧ s.stk.inst + getF s ASY_FREEZE_OFS ≤
      at_) :=
  ⟨⟨{ st0 with asy := { st0.asy with goldenPass := true } }, 0, 9000000, by decide +kernel⟩,
   ⟨{ st0 with asy := { st0.asy with goldenPass := true, watching := true, task := some [], nDelta := 2 } }, 0, 9000000, by decide +kernel⟩⟩

set_option maxRecDepth 100000 in
theorem witness_bellowsTasksExecute :
    (∃ (s : State) (u : Nat) (k : Task), taskById s k.id = some k ∧ engineTask s 0 u [1] = some k ∧ leaksLocal s (bf k.cmd 16 8) (bf k.cmd 32 4)
      (bf k.cmd 24 8) = false) ∧
    (∃ (s : State) (u : Nat) (k : Task), taskById s k.id = some k ∧ engineTask s 0 u [1] = some k ∧ leaksLocal s (bf k.cmd 16 8) (bf k.cmd 32 4)
      (bf k.cmd 24 8) = true) ∧
    (∃ (s : State) (u : Nat) (k : Task), taskById s k.id = some k ∧ engineTask s 0 u [2] = some k) ∧
    (∃ (s : State) (u : Nat) (k : Task) (hdr : _) (ns : _) (m : _), taskById s k.id = some k ∧ engineTask s 0 u [3] = some k ∧ bf k.cmd 16 8 <
      remoteBase ∧ readBrand s (qBrand s k.queue) (bf k.cmd 16 8) = (some hdr, ns) ∧ pushEntries (moverOf s k 2) (bf k.cmd 16 8) (bf k.cmd 24 8)
      (bf k.cmd 40 8) hdr ⟨notesFx s ns, [], 0, 0⟩ = some (some m)) ∧
    (∃ (s : State) (u : Nat) (k : Task) (ns : _), taskById s k.id = some k ∧ engineTask s 0 u [3] = some k ∧ bf k.cmd 16 8 < remoteBase ∧ readBrand
      s (qBrand s k.queue) (bf k.cmd 16 8) = (none, ns)) :=
  ⟨⟨(running (opened st0) (task (command 0 1 [(16, 8, 64), (24, 8, 128), (32, 4, 64)]) 0)), 0, (task (command 0 1 [(16, 8, 64), (24, 8, 128), (32,
    4, 64)]) 0), by decide +kernel⟩,
   ⟨(running (put st0 [(TNG_LOCAL_SIZE, 4096)]) (task (command 0 1 [(16, 8, 0), (24, 8, 0x800000000000), (32, 4, 64)]) 0)), 0, (task (command 0 1
     [(16, 8, 0), (24, 8, 0x800000000000), (32, 4, 64)]) 0), by decide +kernel⟩,
   ⟨(running (opened st0) (task (command 0 2 [(24, 8, 128), (32, 4, 64), (40, 8, 5)]) 0)), 0, (task (command 0 2 [(24, 8, 128), (32, 4, 64), (40,
     8, 5)]) 0), by decide +kernel⟩,
   ⟨(running (put (opened st0) [(TAB_Q_CFG_BRAND 3, 2)]) (task (command 0 3 [(16, 8, 64), (24, 8, 128), (40, 8, 256)]) 0)), 0, (task (command 0 3
     [(16, 8, 64), (24, 8, 128), (40, 8, 256)]) 0), (List.replicate 64 0), [], (match pushEntries (moverOf ((running (put (opened st0)
     [(TAB_Q_CFG_BRAND 3, 2)]) (task (command 0 3 [(16, 8, 64), (24, 8, 128), (40, 8, 256)]) 0))) ((task (command 0 3 [(16, 8, 64), (24, 8, 128),
     (40, 8, 256)]) 0)) 2) 64 128 256 (List.replicate 64 0) ⟨((running (put (opened st0) [(TAB_Q_CFG_BRAND 3, 2)]) (task (command 0 3 [(16, 8, 64),
     (24, 8, 128), (40, 8, 256)]) 0))), [], 0, 0⟩ with | some (some m) => m | _ => ⟨((running (put (opened st0) [(TAB_Q_CFG_BRAND 3, 2)]) (task
     (command 0 3 [(16, 8, 64), (24, 8, 128), (40, 8, 256)]) 0))), [], 0, 0⟩), by decide +kernel⟩,
   ⟨(running (opened st0) (task (command 0 3 [(16, 8, 64), (24, 8, 128), (40, 8, 256)]) 0)), 0, (task (command 0 3 [(16, 8, 64), (24, 8, 128), (40,
     8, 256)]) 0), (readBrand ((running (opened st0) (task (command 0 3 [(16, 8, 64), (24, 8, 128), (40, 8, 256)]) 0))) (qBrand ((running (opened
     st0) (task (command 0 3 [(16, 8, 64), (24, 8, 128), (40, 8, 256)]) 0))) 3) 64).2, by decide +kernel⟩⟩

set_option maxRecDepth 100000 in
theorem witness_bellowsTasksExecute_2 : ∃ (s : State) (u : Nat) (k : Task) (b : _) (pat : _) (hdr : _) (m : _), taskById s k.id = some k ∧
  engineTask s 0 u [0x10] = some k ∧ readBrand s (qBrand s k.queue) (goldSet k) = (some b, []) ∧ ((rdBytes s (qBrand s k.queue) (fldAt b 16 8)
  8).run []).1 = some pat ∧ ((rdBytes s (qBrand s k.queue) (fldAt b 16 8) 8).run []).2 = [] ∧ (goldMove s k b pat).st = 0 ∧ readBrand (goldMove s k
  b pat).s (qBrand s k.queue) (fldAt b 24 8) = (some hdr, []) ∧ pushEntries (moverOf s k 1) (fldAt b 24 8) (goldDst k + 0x1040) (goldDst k +
  0x1080) hdr (goldMove s k b pat) = some (some m) :=
  ⟨(running (put (opened st0) [(TAB_Q_CFG_BRAND 3, 2)]) (task (command 0 16 [(3, 1, 0x11), (16, 8, 0x8000), (24, 8, 0x10000)]) 0)), 0, (task
    (command 0 16 [(3, 1, 0x11), (16, 8, 0x8000), (24, 8, 0x10000)]) 0), (List.replicate 64 0), (List.replicate 8 0), (List.replicate 64 0), (match
    pushEntries (moverOf ((running (put (opened st0) [(TAB_Q_CFG_BRAND 3, 2)]) (task (command 0 16 [(3, 1, 0x11), (16, 8, 0x8000), (24, 8,
    0x10000)]) 0))) ((task (command 0 16 [(3, 1, 0x11), (16, 8, 0x8000), (24, 8, 0x10000)]) 0)) 1) 0 (goldDst ((task (command 0 16 [(3, 1, 0x11),
    (16, 8, 0x8000), (24, 8, 0x10000)]) 0)) + 0x1040) (goldDst ((task (command 0 16 [(3, 1, 0x11), (16, 8, 0x8000), (24, 8, 0x10000)]) 0)) +
    0x1080) (List.replicate 64 0) (goldMove ((running (put (opened st0) [(TAB_Q_CFG_BRAND 3, 2)]) (task (command 0 16 [(3, 1, 0x11), (16, 8,
    0x8000), (24, 8, 0x10000)]) 0))) ((task (command 0 16 [(3, 1, 0x11), (16, 8, 0x8000), (24, 8, 0x10000)]) 0)) (List.replicate 64 0)
    (List.replicate 8 0)) with | some (some m) => m | _ => ⟨((running (put (opened st0) [(TAB_Q_CFG_BRAND 3, 2)]) (task (command 0 16 [(3, 1,
    0x11), (16, 8, 0x8000), (24, 8, 0x10000)]) 0))), [], 0, 0⟩), by decide +kernel⟩

theorem witness_modesChangeOnRequestAtAStroke :
    (∃ (s : State) (brand : Nat) (link : Nat) (others : List (Nat × Nat)) (hdr : List Nat), s.Inv ∧ mayRequest brand = true ∧ isManager s = true ∧
      inRepro s = false ∧ refusal s others = none ∧ fwDenies s 2 brand 1 TOP_MODE_REQ.addr 4 = none) ∧
    (∃ (s : State) (brand : Nat) (link : Nat) (others : List (Nat × Nat)) (hdr : List Nat) (why : _), s.Inv ∧ mayRequest brand = true ∧ isManager s
      = true ∧ inRepro s = false ∧ refusal s others = some why ∧ fwDenies s 2 brand 1 TOP_MODE_REQ.addr 4 = none ∧ s.flt.fifo.length < 256) ∧
    (∃ (s : State) (brand : Nat) (link : Nat) (others : List (Nat × Nat)) (hdr : List Nat), s.Inv ∧ mayRequest brand = true ∧ isManager s = true ∧
      inRepro s = true ∧ fwDenies s 2 brand 1 TOP_MODE_REQ.addr 4 = none) ∧
    (∃ (s : State) (brand : Nat) (link : Nat) (others : List (Nat × Nat)) (hdr : List Nat), s.Inv ∧ mayRequest brand = false ∧ fwDenies s 2 brand 1
      TOP_MODE_REQ.addr 4 = none) ∧
    (∃ (s : State) (brand : Nat) (link : Nat) (others : List (Nat × Nat)) (hdr : List Nat), s.Inv ∧ link < 4 ∧ hTarget hdr = nodeId s ∧ isManager s
      = true ∧ flag s TOP_MODE_REQ_PEND = true ∧ inRepro s = false ∧ hAddr hdr = 1 ∧ hBody hdr = 0) :=
  ⟨⟨(served mgr), 2, 0, [], [], by decide +kernel⟩,
   ⟨(put mgr [(RST_START_PHASE, 12)]), 2, 0, [(1, 3)], [], (refusal (put mgr [(RST_START_PHASE, 12)]) [(1, 3)]).getD (0, 0, 0), by decide +kernel⟩,
   ⟨(put (put mgr [(RST_START_PHASE, 12)]) [(TOP_MODE_MODE, 1)]), 2, 0, [], [], by decide +kernel⟩,
   ⟨(openedFor 2 mgr), 0x20, 0, [], [], by decide +kernel⟩,
   ⟨put mgr [(TOP_MODE_REQ_PEND, 1)], 0, 0, [], (mkHdr 0x1F 3 0 1 0 0 1 0 0), by decide +kernel⟩⟩

theorem witness_modesChangeOnRequestAtAStroke_2 :
    (∃ (s : State) (brand : Nat) (link : Nat) (others : List (Nat × Nat)) (hdr : List Nat), s.Inv ∧ link < 4 ∧ hTarget hdr = nodeId s ∧ isManager s
      = true ∧ flag s TOP_MODE_REQ_PEND = true ∧ inRepro s = false ∧ hAddr hdr = 2 ∧ hBody hdr = 0) ∧
    (∃ (s : State) (brand : Nat) (link : Nat) (others : List (Nat × Nat)) (hdr : List Nat), s.Inv ∧ link < 4 ∧ hTarget hdr = nodeId s ∧ isManager s
      = false ∧ inRepro s = true ∧ hAddr hdr = 0 ∧ hBody hdr = 0) ∧
    (∃ (s : State) (brand : Nat) (link : Nat) (others : List (Nat × Nat)) (hdr : List Nat), s.Inv ∧ link < 4 ∧ hTarget hdr = nodeId s ∧ isManager s
      = false ∧ inRepro s = false ∧ hAddr hdr = 1 ∧ refusalHere s = (0, 0)) ∧
    (∃ (s : State) (brand : Nat) (link : Nat) (others : List (Nat × Nat)) (hdr : List Nat), s.Inv ∧ link < 4 ∧ hTarget hdr = nodeId s ∧ isManager s
      = false ∧ (hAddr hdr = 2 ∨ hAddr hdr = 3)) ∧
    (∃ (s : State) (brand : Nat) (link : Nat) (others : List (Nat × Nat)) (hdr : List Nat), s.Inv ∧ link < 4 ∧ hTarget hdr = nodeId s ∧ isManager s
      = false ∧ inRepro s = false ∧ hAddr hdr = 0) :=
  ⟨⟨put mgr [(TOP_MODE_REQ_PEND, 1)], 0, 0, [], (mkHdr 0x1F 3 0 1 0 0 2 0 0), by decide +kernel⟩,
   ⟨put wrk [(TOP_MODE_MODE, 1)], 0, 0, [], (mkHdr 0x1F 3 0 0 1 0 0 0 0), by decide +kernel⟩,
   ⟨served wrk, 0, 0, [], (mkHdr 0x1F 3 0 0 1 0 1 0 0), by decide +kernel⟩,
   ⟨wrk, 0, 0, [], (mkHdr 0x1F 3 0 0 1 0 3 0 0), by decide +kernel⟩,
   ⟨put wrk [(TOP_MODE_REQ_PEND, 1)], 0, 0, [], (mkHdr 0x1F 3 0 0 1 0 0 0 0), by decide +kernel⟩⟩

theorem witness_modesChangeOnRequestAtAStroke_3 :
    (∃ (s : State) (at_ : Nat) (n : Nat) (tai : Nat) (inst : Nat), s.Inv ∧ s.stk.awaiting = some (n, tai, inst) ∧ inst ≤ at_ ∧ (mayEnter s ||
      mayFollow s) = true) ∧
    (∃ (s : State) (at_ : Nat) (n : Nat) (tai : Nat) (inst : Nat), s.Inv ∧ s.stk.awaiting = some (n, tai, inst) ∧ inst ≤ at_ ∧ inRepro s = true ∧
      flag s TOP_MODE_REQ_PEND = true ∧ reproBusy (atTime s at_) = false) :=
  ⟨⟨{ put mgr [(TOP_MODE_REQ_PEND, 1), (CAR_REPRO_BASE_LO, 77)] with ubf := { mgr.ubf with reproSet := true }, stk := { mgr.stk with awaiting := some (9, 90000000, 90000200) } }, 90000300, 9, 90000000, 90000200, by decide +kernel⟩,
   ⟨{ put mgr [(TOP_MODE_MODE, 1), (TOP_MODE_REQ_PEND, 1), (TAB_STATUS_PINNED, 1)] with stk := { mgr.stk with awaiting := some (9, 90000000, 90000200) } }, 90000300, 9, 90000000, 90000200, by decide +kernel⟩⟩

theorem witness_queuesTakeDoorbells :
    (∃ (s : State) (brand : Nat) (q : Nat) (v : Nat), s.Inv ∧ q < 64 ∧ v < 2 ^ 32 ∧ fwDenies s 2 brand 1 (TAB_Q_TAIL q).addr 4 = none ∧ brand =
      getF s (TAB_Q_CFG2_PRODUCER q) ∧ getF s (TAB_Q_CFG_EN q) = 1 ∧ sub32 v (qTail s q) ≤ qSize s q ∧ sub32 v (qHead s q) ≤ qSize s q) ∧
    (∃ (s : State) (brand : Nat) (q : Nat) (v : Nat), s.Inv ∧ q < 64 ∧ v < 2 ^ 32 ∧ fwDenies s 2 brand 1 (TAB_Q_TAIL q).addr 4 = none ∧ brand =
      getF s (TAB_Q_CFG2_PRODUCER q) ∧ getF s (TAB_Q_CFG_EN q) = 1 ∧ sub32 v (qTail s q) ≤ qSize s q ∧ qSize s q < sub32 v (qHead s q)) ∧
    (∃ (s : State) (brand : Nat) (q : Nat) (v : Nat), s.Inv ∧ q < 64 ∧ v < 2 ^ 32 ∧ fwDenies s 2 brand 1 (TAB_Q_TAIL q).addr 4 = none ∧ brand ≠
      getF s (TAB_Q_CFG2_PRODUCER q) ∧ s.flt.fifo.length < 256) ∧
    (∃ (s : State) (brand : Nat) (q : Nat) (v : Nat), s.Inv ∧ q < 64 ∧ v < 2 ^ 32 ∧ fwDenies s 2 brand 1 (TAB_Q_CQ_HEAD q).addr 4 = none ∧ sub32 v
      (getF s (TAB_Q_CQ_HEAD q)) ≤ sub32 (getF s (TAB_Q_CQ_WR q)) (getF s (TAB_Q_CQ_HEAD q))) ∧
    (∃ (s : State) (brand : Nat) (q : Nat) (v : Nat), s.Inv ∧ q < 64 ∧ v < 2 ^ 32 ∧ fwDenies s 2 brand 1 (TAB_Q_CQ_HEAD q).addr 4 = none ∧ sub32
      (getF s (TAB_Q_CQ_WR q)) (getF s (TAB_Q_CQ_HEAD q)) < sub32 v (getF s (TAB_Q_CQ_HEAD q))) :=
  ⟨⟨(queued []), 2, 3, 2, by decide +kernel⟩,
   ⟨(put (queued []) [(TAB_Q_TAIL 3, 16)]), 2, 3, 17, by decide +kernel⟩,
   ⟨(queued []), 3, 3, 2, by decide +kernel⟩,
   ⟨(put (queued []) [(TAB_Q_CQ_WR 3, 5)]), 2, 3, 5, by decide +kernel⟩,
   ⟨(put (queued []) [(TAB_Q_CQ_WR 3, 5)]), 2, 3, 6, by decide +kernel⟩⟩

theorem witness_admissionTakesTheCommandAtHead :
    (∃ (s : State) (q : Nat) (c : List Nat), s.Inv ∧ q < 64 ∧ (tasks s).length < 65536 ∧ injectDue s q = none ∧ qHead s q ≠ qTail s q ∧ readBrand s
      0x21 (slotAddr s q (qHead s q)) = (some c, []) ∧ admitStop s q c = 0 ∧ headerBad s q c = false ∧ itsTurn s q = true ∧ (cOrd c = true → (cSeq
      c + 65536 - flowNext s (cFlow c)) % 65536 < 32768 ∧ flowHolds s (cFlow c) (cSeq c) = false) ∧ s.tabA = s.tabB ∧ cCls c ≠ 9 ∧ cCls c ≠ 15) ∧
    (∃ (s : State) (q : Nat) (c : List Nat), s.Inv ∧ q < 64 ∧ (tasks s).length < 65536 ∧ injectDue s q = none ∧ qHead s q ≠ qTail s q ∧ readBrand s
      0x21 (slotAddr s q (qHead s q)) = (some c, []) ∧ admitStop s q c = 0 ∧ headerBad s q c = false ∧ itsTurn s q = true ∧ (cOrd c = true → (cSeq
      c + 65536 - flowNext s (cFlow c)) % 65536 < 32768 ∧ flowHolds s (cFlow c) (cSeq c) = false) ∧ s.tabA = s.tabB ∧ cCls c = 15) ∧
    (∃ (s : State) (q : Nat) (c : List Nat), s.Inv ∧ q < 64 ∧ (tasks s).length < 65536 ∧ injectDue s q = none ∧ qHead s q ≠ qTail s q ∧ readBrand s
      0x21 (slotAddr s q (qHead s q)) = (some c, []) ∧ admitStop s q c = 0 ∧ headerBad s q c = false ∧ itsTurn s q = true ∧ (cOrd c = true → (cSeq
      c + 65536 - flowNext s (cFlow c)) % 65536 < 32768 ∧ flowHolds s (cFlow c) (cSeq c) = false) ∧ s.tabA = s.tabB ∧ cCls c = 9 ∧ cOpc c = 1 ∧
      zeroAt c 16 48 = true) :=
  ⟨⟨(queued (command 0 1 [])), 3, (command 0 1 []), by decide +kernel⟩,
   ⟨(queued (command 15 0 [])), 3, (command 15 0 []), by decide +kernel⟩,
   ⟨(queued (command 9 1 [])), 3, (command 9 1 []), by decide +kernel⟩⟩

theorem witness_tasksArePlacedAndLeave :
    (∃ (s : State) (cls : Nat) (l : Nat) (e : Nat) (unit : Nat) (k : _) (rest : _), s.tabA = s.tabB ∧ taskById s k.id = some k ∧ cls ≤ 8 ∧
      readyList s cls = k :: rest ∧ held s k = false ∧ tGold k = false ∧ freeEngines s cls ≠ [] ∧ inRepro s = false ∧ chooseEngine s cls k = some
      (l, e) ∧ bodyBad s (atEngine k l e) = false ∧ k.status ≠ 2 ∧ (resolveHeat s (atEngine k l e)).isSome ∧ (cls = 2 → k.redisp = false →
      s.peal.heat = (resolveHeat s (atEngine k l e)).getD 0 ∧ partConflict s k.cmd = false)) ∧
    (∃ (s : State) (cls : Nat) (l : Nat) (e : Nat) (unit : Nat) (g : _), s.tabA = s.tabB ∧ gateReady s g = true) ∧
    (∃ (s : State) (cls : Nat) (l : Nat) (e : Nat) (unit : Nat) (k : _), s.tabA = s.tabB ∧ taskById s k.id = some k ∧ cls ≤ 8 ∧ unit < physCount
      cls ∧ runningOn s (classBase cls + unit) = some k ∧ taskDone s k = true ∧ (tCls k ≠ 1 ∧ tCls k ≠ 2 ∧ tCls k ≠ 7 ∨ tGold k = true) ∧
      (prefetchOn s (classBase cls + unit)).all (fun j => j.id != k.id) = true) ∧
    (∃ (s : State) (cls : Nat) (l : Nat) (e : Nat) (unit : Nat) (k : _), s.tabA = s.tabB ∧ taskById s k.id = some k ∧ unit < physCount 1 ∧
      runningOn s (classBase 1 + unit) = some k ∧ taskDone s k = true ∧ tCls k = 1 ∧ tGold k = false ∧ cOpc k.cmd = 3 ∧ k.status = 0 ∧ k.heat =
      getF s CRU_HEAT_SEALED ∧ (prefetchOn s (classBase 1 + unit)).all (fun j => j.id != k.id) = true) :=
  ⟨⟨(running (put (queued []) [(TAB_Q_HEAD 3, 1), (mapV 0 0, 1), (SPR_COUNT_LOGICAL 0, 1)])
    { task (command 0 1 [(16, 8, 64), (24, 8, 128), (32, 4, 64)]) 0 with loc := .ready }), 0, 0, 0, 0,
    { task (command 0 1 [(16, 8, 64), (24, 8, 128), (32, 4, 64)]) 0 with loc := .ready }, [], by decide +kernel⟩,
   ⟨(put st0 [(PEL_FRAME_SELECTED, 1)]), 0, 0, 0, 0, 2, by decide +kernel⟩,
   ⟨(running st0 { task (command 0 1 []) 0 with ran := true }), 0, 0, 0, 0, { task (command 0 1 []) 0 with ran := true }, by decide +kernel⟩,
   ⟨(running st0 { task (command 1 3 []) 18 with ran := true }), 0, 0, 0, 0, { task (command 1 3 []) 18 with ran := true }, by decide +kernel⟩⟩

theorem witness_completionsAreReleasedAndUnitsFenced :
    (∃ (s : State) (brand : Nat) (flow : Nat) (k : _), s.Inv ∧ releaseNext s = some k ∧ k.queue < 64) ∧
    (∃ (s : State) (brand : Nat) (flow : Nat), s.Inv ∧ fwDenies s 2 brand 1 TAB_FLOW_SKIP.addr 4 = none ∧ flow < 256 ∧ flowHolds s flow (flowNext s
      flow) = false ∧ s.tabA = s.tabB ∧ s.flt.fifo.length < 256) ∧
    (∃ (s : State) (brand : Nat) (word15 : Nat) (cls : Nat) (unit : Nat) (shared : Bool), s.Inv ∧ fwDenies s 2 brand 1 (TAB_GINJ 15).addr 4 = none
      ∧ 2 ≤ brand ∧ brand ≤ 4 ∧ getF s TAB_GINJ_STATUS = 0) ∧
    (∃ (s : State) (brand : Nat) (word15 : Nat) (cls : Nat) (unit : Nat) (shared : Bool), s.Inv ∧ fwDenies s 2 brand 1 (TAB_GINJ 15).addr 4 = none
      ∧ getF s TAB_GINJ_STATUS = 1) ∧
    (∃ (s : State) (brand : Nat) (word15 : Nat) (cls : Nat) (unit : Nat) (shared : Bool), s.Inv ∧ cls ≤ 8 ∧ unit < physCount cls ∧ ustate s
      (classBase cls + unit) < 4) :=
  ⟨⟨(running (queued []) { task (command 0 1 []) 0 with loc := .finished }), 0, 0, { task (command 0 1 []) 0 with loc := .finished }, by
    decide +kernel⟩,
   ⟨mgr, 2, 9, by decide +kernel⟩,
   ⟨mgr, 2, 77, 0, 0, false, by decide +kernel⟩,
   ⟨(put mgr [(TAB_GINJ_STATUS, 1)]), 2, 0, 0, 0, false, by decide +kernel⟩,
   ⟨mgr, 0, 0, 4, 3, false, by decide +kernel⟩⟩

theorem witness_completionsAreReleasedAndUnitsFenced_2 : ∃ (s : State) (brand : Nat) (word15 : Nat) (cls : Nat) (unit : Nat) (shared : Bool), s.Inv
  ∧ cls ≤ 8 ∧ unit < physCount cls ∧ 4 ≤ ustate s (classBase cls + unit) :=
  ⟨(put mgr [(SPR_U_STATE_STATE (classBase 4 + 3), 4)]), 0, 0, 4, 3, false, by decide +kernel⟩

theorem witness_anvilLinesAreCorrectedAndScrubbed :
    (∃ (s : State) (at_ : Nat) (line : Nat) (bank : Nat) (assay : Bool) (fix : List Nat), s.Inv ∧ s.mem.writeback.contains line = true ∧ line % 64
      = 0 ∧ lineCheck (errAt s line) = .corrected fix) ∧
    (∃ (s : State) (at_ : Nat) (line : Nat) (bank : Nat) (assay : Bool) (fix : List Nat) (k : _) (l : _), s.Inv ∧ scrubs s bank assay = true ∧
      s.time ≤ at_ ∧ at_ < 2 ^ 64 ∧ scrubSlot s bank assay at_ = some k ∧ k = at_ / 15625 ∧ scrubLine s bank assay = some l ∧ (readLine s l).2 = []
      ∧ (assay = false → nget s.anv.scrubPtr bank % 4096 ≠ 4095)) ∧
    (∃ (s : State) (at_ : Nat) (line : Nat) (bank : Nat) (assay : Bool) (fix : List Nat) (k : _) (l : _), s.Inv ∧ scrubs s bank assay = true ∧
      scrubSlot s bank assay s.time = some k ∧ k < s.time / 15625 ∧ scrubLine s bank assay = some l ∧ (readLine s l).2 = [] ∧ (assay = false → nget
      s.anv.scrubPtr bank % 4096 ≠ 4095) ∧ s.flt.fifo.length < 256) :=
  ⟨⟨{ mgr with mem := { mgr.mem with errs := [(128, List.replicate 36 0 ++ [5])], writeback := [128] } }, 0, 128, 0, false, List.replicate 36 0 ++
    [5], by decide +kernel⟩,
   ⟨(put mgr [(ANV_MAP 40, 40)]), 62600, 0, 40, false, [], 4, ((scrubLine (put mgr [(ANV_MAP 40, 40)]) 40 false).getD 0), by decide +kernel⟩,
   ⟨{ (put mgr [(ANV_MAP 40, 40)]) with time := 62600, anv := { mgr.anv with late := [(40, 2)] } }, 0, 0, 40, false, [], 2, ((scrubLine (put mgr
     [(ANV_MAP 40, 40)]) 40 false).getD 0), by decide +kernel⟩⟩

theorem witness_failingBanksAreReplaced :
    (∃ (s : State) (at_ : Nat) (l : Nat) (pb : Nat) (n : Nat) (rest : _), s.Inv ∧ l < 1024 ∧ pb < 1088 ∧ n < 1088 ∧ pb ≠ n ∧ s.anv.copyOf = none ∧
      nextDue s = some (l, pb) ∧ freeSpares s = n :: rest) ∧
    (∃ (s : State) (at_ : Nat) (l : Nat) (pb : Nat) (n : Nat), s.Inv ∧ l < 1024 ∧ pb < 1088 ∧ n < 1088 ∧ pb ≠ n ∧ s.anv.copyOf = none ∧ nextDue s =
      some (l, pb) ∧ freeSpares s = [] ∧ s.anv.noSpareSeen.contains pb = false ∧ s.flt.fifo.length < 256) ∧
    (∃ (s : State) (at_ : Nat) (l : Nat) (pb : Nat) (n : Nat), s.Inv ∧ l < 1024 ∧ pb < 1088 ∧ n < 1088 ∧ pb ≠ n ∧ s.anv.copyOf = some (l, pb, n) ∧
      s.anv.copied = none) ∧
    (∃ (s : State) (at_ : Nat) (l : Nat) (pb : Nat) (n : Nat) (c : _), s.Inv ∧ l < 1024 ∧ pb < 1088 ∧ n < 1088 ∧ pb ≠ n ∧ s.anv.copyOf = some (l,
      pb, n) ∧ s.anv.copied = some c ∧ c ≤ s.stk.inst ∧ s.stk.inst ≤ at_ ∧ s.mem.errs = [] ∧ s.flt.fifo.length < 256) :=
  ⟨⟨{ (put st0 [(ANV_MAP 40, 40)]) with anv := { st0.anv with due := [40] } }, 0, ((nextDue
    { (put st0 [(ANV_MAP 40, 40)]) with anv := { st0.anv with due := [40] } }).getD (0, 0)).1, 40, (freeSpares
    { (put st0 [(ANV_MAP 40, 40)]) with anv := { st0.anv with due := [40] } }).headD 0, (freeSpares
    { (put st0 [(ANV_MAP 40, 40)]) with anv := { st0.anv with due := [40] } }).tail, by decide +kernel⟩,
   ⟨allUsed, 0, 40, 40, 41, ⟨by decide +kernel, by decide +kernel, by decide +kernel, by decide +kernel, by decide +kernel, by decide +kernel, by
     decide +kernel, allUsed_spares, by decide +kernel, by decide +kernel⟩⟩,
   ⟨{ st0 with anv := { st0.anv with copyOf := some (40, 40, 1030) } }, 0, 40, 40, 1030, by decide +kernel⟩,
   ⟨{ st0 with anv := { st0.anv with copyOf := some (40, 40, 1030), copied := some 900 } }, 5000, 40, 40, 1030, 900, by decide +kernel⟩⟩

theorem witness_ddrIsKeptAndSubresetsEnd :
    (∃ (s : State) (at_ : Nat) (ch : Nat) (value : Nat) (mask : Nat) (brand : Nat), s.Inv ∧ ch < 6 ∧ getF s (DDR_CH_STATUS_TRAINED ch) ≠ 0) ∧
    (∃ (s : State) (at_ : Nat) (ch : Nat) (value : Nat) (mask : Nat) (brand : Nat), s.Inv ∧ ch < 6 ∧ getF s (DDR_CH_STATUS_TRAINED ch) ≠ 0) ∧
    (∃ (s : State) (at_ : Nat) (ch : Nat) (value : Nat) (mask : Nat) (brand : Nat), s.Inv ∧ ch < 6 ∧ getF s DDR_CFG_SCRUB_H ≠ 0 ∧ s.start.swept =
      true ∧ ddrSize s ≠ 0 ∧ (readLine s (ddrBase + s.ddr.patrol * 64)).2 = []) ∧
    (∃ (s : State) (at_ : Nat) (ch : Nat) (value : Nat) (mask : Nat) (brand : Nat), s.Inv ∧ ch < 6 ∧ s.rst.reach = 3 ∧ s.rst.warmAt + 10000 ≤
      (atTime s at_).aonTime) ∧
    (∃ (s : State) (at_ : Nat) (ch : Nat) (value : Nat) (mask : Nat) (brand : Nat), s.Inv ∧ ch < 6 ∧ fwDenies s 2 brand 1 DDR_VER.addr 4 = none) :=
  ⟨⟨{ put st0 [(DDR_CH_STATUS_TRAINED 2, 1), (DDR_CFG_SCRUB_H, 24), (DDR_SIZE_LO, 4096), (DDR_MAP_ACTIVE, 5)] with start := { st0.start with swept := true } }, 0, 2, 0x83, 0, 0, by decide +kernel⟩,
   ⟨{ put st0 [(DDR_CH_STATUS_TRAINED 2, 1), (DDR_CFG_SCRUB_H, 24), (DDR_SIZE_LO, 4096), (DDR_MAP_ACTIVE, 5)] with start := { st0.start with swept := true } }, 0, 2, 0, 0, 0, by decide +kernel⟩,
   ⟨{ put st0 [(DDR_CH_STATUS_TRAINED 2, 1), (DDR_CFG_SCRUB_H, 24), (DDR_SIZE_LO, 4096), (DDR_MAP_ACTIVE, 5)] with start := { st0.start with swept := true } }, 0, 0, 0, 0, 0, by decide +kernel⟩,
   ⟨{ { put st0 [(DDR_CH_STATUS_TRAINED 2, 1), (DDR_CFG_SCRUB_H, 24), (DDR_SIZE_LO, 4096), (DDR_MAP_ACTIVE, 5)] with start := { st0.start with swept := true } } with rst := { st0.rst with reach := 3, warmAt := 50 } }, 20000, 0, 0, 1, 0, by decide +kernel⟩,
   ⟨mgr, 0, 0, 0x1FF, 0, 2, by decide +kernel⟩⟩

theorem witness_ddrIsKeptAndSubresetsEnd_2 :
    (∃ (s : State) (ch : Nat) (mac : Nat), s.Inv ∧ ch < 6 ∧ getF s (DDR_CH_STATUS_TRAINED ch) ≠ 0 ∧ s.flt.fifo.length < 255) ∧
    (∃ (s : State) (ch : Nat) (mac : Nat), s.Inv ∧ ch < 6 ∧ getF s (DDR_CH_STATUS_TRAINED ch) ≠ 0 ∧ s.flt.fifo.length < 255 ∧ getF s
      (DDR_CH_STATUS_LOST ch) = 0) ∧
    (∃ (s : State) (ch : Nat) (mac : Nat), s.Inv ∧ mac < 4) ∧
    (∃ (s : State) (ch : Nat) (mac : Nat), s.Inv) :=
  ⟨⟨(put { put st0 [(DDR_CH_STATUS_TRAINED 2, 1), (DDR_CFG_SCRUB_H, 24), (DDR_SIZE_LO, 4096), (DDR_MAP_ACTIVE, 5)] with start := { st0.start with swept := true } } [(SPR_COUNT_LOGICAL 0, 1)]), 2, 0, by decide +kernel⟩,
   ⟨{ put st0 [(DDR_CH_STATUS_TRAINED 2, 1), (DDR_CFG_SCRUB_H, 24), (DDR_SIZE_LO, 4096), (DDR_MAP_ACTIVE, 5)] with start := { st0.start with swept := true } }, 2, 0, by decide +kernel⟩,
   ⟨mgr, 0, 3, by decide +kernel⟩,
   ⟨mgr, 0, 0, by decide +kernel⟩⟩

theorem witness_memoryAccessesGoThroughTheFirewall :
    (∃ (s : State) (brand : Nat) (kind : Nat) (addr : Nat) (len : Nat) (bytes : List Nat), s.Inv ∧ 0 < bytes.length ∧ 0 < len ∧ addr + bytes.length
      ≤ anvilEnd ∧ fwDenies s 0 brand 1 addr bytes.length = none) ∧
    (∃ (s : State) (brand : Nat) (kind : Nat) (addr : Nat) (len : Nat) (bytes : List Nat), s.Inv ∧ 0 < bytes.length ∧ 0 < len ∧ addr + bytes.length
      ≤ anvilEnd ∧ fwDenies s 0 brand 1 addr bytes.length = none ∧ s.mem.errs = []) ∧
    (∃ (s : State) (brand : Nat) (kind : Nat) (addr : Nat) (len : Nat) (bytes : List Nat) (l : _), s.Inv ∧ 0 < bytes.length ∧ 0 < len ∧ addr + len
      ≤ anvilEnd ∧ kind ≠ 1 ∧ fwDenies s 0 brand kind addr len = none ∧ addr % 64 + len ≤ 64 ∧ portLine s addr = (some l, [])) ∧
    (∃ (s : State) (brand : Nat) (kind : Nat) (addr : Nat) (len : Nat) (bytes : List Nat) (cls : _), s.Inv ∧ 0 < bytes.length ∧ 0 < len ∧ addr +
      bytes.length ≤ anvilEnd ∧ fwDenies s 0 brand 1 addr bytes.length = some cls ∧ s.flt.fifo.length < 256) ∧
    (∃ (s : State) (brand : Nat) (kind : Nat) (addr : Nat) (len : Nat) (bytes : List Nat), s.Inv ∧ 0 < bytes.length ∧ 0 < len ∧ targetOf s addr =
      none ∧ addr < remoteBase) :=
  ⟨⟨(opened mgr), 2, 0, 70, 3, [1, 2, 3], by decide +kernel⟩,
   ⟨(opened mgr), 2, 0, 70, 3, [1, 2, 3], by decide +kernel⟩,
   ⟨(opened mgr), 2, 0, 70, 3, [1], ((portLine (opened mgr) 70).1.getD []), by decide +kernel⟩,
   ⟨mgr, 9, 1, 70, 1, [1, 2], ((fwDenies mgr 0 9 1 70 2).getD 0), by decide +kernel⟩,
   ⟨mgr, 2, 0, 0x50000000, 1, [1], by decide +kernel⟩⟩

theorem witness_linksTrainRetrainAndGoDown :
    (∃ (s : State) (at_ : Nat) (link : Nat) (brand : Nat) (bad : Nat), s.Inv ∧ link < 4 ∧ s.flt.fifo.length < 250 ∧ mayTrain s link = true ∧ (lnk s
      link).wasUp = false) ∧
    (∃ (s : State) (at_ : Nat) (link : Nat) (brand : Nat) (bad : Nat), s.Inv ∧ link < 4 ∧ s.flt.fifo.length < 250 ∧ mayTrain s link = true ∧ (lnk s
      link).wasUp = true) ∧
    (∃ (s : State) (at_ : Nat) (link : Nat) (brand : Nat) (bad : Nat), s.Inv ∧ link < 4 ∧ s.flt.fifo.length < 250 ∧ mayTrain s link = true ∧ (lnk s
      link).wasUp = false ∧ bad < 9 ∧ getF s (UBF_L_STATUS_TX_BAD link) = 0xF) ∧
    (∃ (s : State) (at_ : Nat) (link : Nat) (brand : Nat) (bad : Nat), s.Inv ∧ link < 4 ∧ s.flt.fifo.length < 250 ∧ linkState s link = 2 ∧ (lnk s
      link).badLane = none) ∧
    (∃ (s : State) (at_ : Nat) (link : Nat) (brand : Nat) (bad : Nat), s.Inv ∧ link < 4 ∧ s.flt.fifo.length < 250 ∧ linkState s link = 1 ∧ ((lnk s
      link).attempts + 1 < 3 ∨ (lnk s link).wasUp = false)) :=
  ⟨⟨mgr, 0, 1, 0, 0, by decide +kernel⟩,
   ⟨(setLnk mgr 1 { wasUp := true }), 0, 1, 0, 0, by decide +kernel⟩,
   ⟨(put mgr [(UBF_L_STATUS_TX_BAD 1, 0xF)]), 0, 1, 0, 3, by decide +kernel⟩,
   ⟨(linked mgr 1 {}), 0, 1, 0, 0, by decide +kernel⟩,
   ⟨(put mgr [(UBF_L_STATUS_STATE 1, 1)]), 9, 1, 0, 0, by decide +kernel⟩⟩

theorem witness_linksTrainRetrainAndGoDown_2 :
    (∃ (s : State) (at_ : Nat) (link : Nat) (brand : Nat) (bad : Nat), s.Inv ∧ link < 4 ∧ s.flt.fifo.length < 250 ∧ linkState s link = 1 ∧ 3 ≤ (lnk
      s link).attempts + 1 ∧ (lnk s link).wasUp = true ∧ s.ubf.pending = []) ∧
    (∃ (s : State) (at_ : Nat) (link : Nat) (brand : Nat) (bad : Nat), s.Inv ∧ link < 4 ∧ s.flt.fifo.length < 250 ∧ linkState s link = 2 ∧ (lnk s
      link).syncAt + 200000 ≤ at_ ∧ s.ubf.pending = []) ∧
    (∃ (s : State) (at_ : Nat) (link : Nat) (brand : Nat) (bad : Nat), s.Inv ∧ link < 4 ∧ s.flt.fifo.length < 250 ∧ linkState s link = 0 ∧ fwDenies
      s 2 brand 1 (UBF_L_CTRL link).addr 4 = none) :=
  ⟨⟨(put (setLnk mgr 1 { attempts := 2, wasUp := true }) [(UBF_L_STATUS_STATE 1, 1)]), 9, 1, 0, 0, by decide +kernel⟩,
   ⟨(linked mgr 1 {}), 200000, 1, 0, 0, by decide +kernel⟩,
   ⟨(setLnk mgr 1 { attempts := 2, downed := true }), 0, 1, 2, 0, by decide +kernel⟩⟩

theorem witness_flitsAreCheckedAcknowledgedAndReplayed :
    (∃ (s : State) (link : Nat) (frame : List Nat) (errs : List Nat) (payload : List Nat), s.Inv ∧ link < 4 ∧ linkUp s link = true ∧ getF s UBF_CFG
      = 0) ∧
    (∃ (s : State) (link : Nat) (frame : List Nat) (errs : List Nat) (payload : List Nat), s.Inv ∧ link < 4 ∧ linkUp s link = true ∧ fldAt frame 32
      4 = crc32c (frame.take 32 ++ [(lnk s link).rxSeq])) ∧
    (∃ (s : State) (link : Nat) (frame : List Nat) (errs : List Nat) (payload : List Nat), s.Inv ∧ link < 4 ∧ linkUp s link = true ∧ fldAt frame 32
      4 ≠ crc32c (frame.take 32 ++ [(lnk s link).rxSeq]) ∧ fldAt frame 32 4 ≠ crc32c (frame.take 32 ++ [0x80])) ∧
    (∃ (s : State) (link : Nat) (frame : List Nat) (errs : List Nat) (payload : List Nat), s.Inv ∧ link < 4 ∧ linkUp s link = true) ∧
    (∃ (s : State) (link : Nat) (frame : List Nat) (errs : List Nat) (payload : List Nat), s.Inv ∧ link < 4 ∧ linkUp s link = true ∧ (lnk s
      link).replay ≠ [] ∧ (lnk s link).replays = 0 ∧ s.flt.fifo.length < 256) :=
  ⟨⟨(linked mgr 1 {}), 1, [], [1, 2, 0, 4], [], by decide +kernel⟩,
   ⟨(linked mgr 1 { rxSeq := 127 }), 1, (flit 127 (List.range 32)), [], [], by decide +kernel⟩,
   ⟨(linked mgr 1 {}), 1, (flit 127 (List.range 32)), [], [], by decide +kernel⟩,
   ⟨(linked mgr 1 { replay := [[1, 2]] }), 1, [], [], [0, 5, 0, 6, 0, 7, 0, 8, 0], by decide +kernel⟩,
   ⟨(linked mgr 1 { replay := [[1, 2]] }), 1, [], [], [], by decide +kernel⟩⟩

theorem witness_remoteAccessesAreServedAndEnd :
    (∃ (s : State) (link : Nat) (hdr : List Nat) (line : List Nat), s.Inv ∧ carries s link hdr = true ∧ hTarget hdr = nodeId s ∧ line.length = 64 ∧
      hAddr hdr % 64 = 0 ∧ targetOf s (hAddr hdr) = some 0 ∧ fwDenies s 0 (0x50 + hOrigin hdr) 1 (hAddr hdr) 64 = none ∧ bit (hArg hdr) 0 = false) ∧
    (∃ (s : State) (link : Nat) (hdr : List Nat) (line : List Nat) (cls : _), s.Inv ∧ carries s link hdr = true ∧ hTarget hdr = nodeId s ∧
      line.length = 64 ∧ hAddr hdr % 64 = 0 ∧ targetOf s (hAddr hdr) = some 0 ∧ fwDenies s 0 (0x50 + hOrigin hdr) 1 (hAddr hdr) 64 = some cls ∧
      s.flt.fifo.length < 256) ∧
    (∃ (s : State) (link : Nat) (hdr : List Nat) (line : List Nat), s.Inv ∧ carries s link hdr = true ∧ hTarget hdr = nodeId s ∧ line.length = 64 ∧
      hAddr hdr % 64 ≠ 0) ∧
    (∃ (s : State) (link : Nat) (hdr : List Nat) (line : List Nat), s.Inv ∧ carries s link hdr = true ∧ hTarget hdr = nodeId s ∧ line.length = 64 ∧
      hAddr hdr % 64 = 0 ∧ hArg hdr = 64 ∧ readBrand s (0x50 + hOrigin hdr) (hAddr hdr) = (some line, [])) ∧
    (∃ (s : State) (link : Nat) (hdr : List Nat) (line : List Nat), s.Inv ∧ carries s link hdr = true ∧ hTarget hdr = nodeId s ∧ line.length = 64 ∧
      hAddr hdr % 64 ≠ 0) :=
  ⟨⟨(openedFor 0 mgr), 1, (mkHdr 1 3 0 2 0 0 256 0 0), (List.replicate 64 7), by decide +kernel⟩,
   ⟨(put mgr [(FWL_TH_SEQ 0, 1)]), 1, (mkHdr 1 3 0 2 0 0 256 0 0), (List.replicate 64 7), ((fwDenies (put mgr [(FWL_TH_SEQ 0, 1)]) 0 0x52 1 256
     64).getD 0), by decide +kernel⟩,
   ⟨(openedFor 0 mgr), 1, (mkHdr 1 3 0 2 0 0 257 0 0), (List.replicate 64 7), by decide +kernel⟩,
   ⟨(openedFor 0 mgr), 1, (mkHdr 3 3 0 2 0 0 256 64 0), ((readLine (openedFor 0 mgr) 256).1.getD []), by decide +kernel⟩,
   ⟨(openedFor 0 mgr), 1, (mkHdr 3 3 0 2 0 0 257 64 0), (List.replicate 64 7), by decide +kernel⟩⟩

theorem witness_remoteAccessesAreServedAndEnd_2 :
    (∃ (s : State) (link : Nat) (hdr : List Nat) (lines : List (List Nat)) (r : Remote) (k : Task), s.Inv ∧ carries s link hdr = true ∧ hTarget hdr
      = nodeId s ∧ pendingTag s (hTag hdr) = some r ∧ s.flt.fifo.length < 250 ∧ r.kind = 6 ∧ hArg hdr = 0) ∧
    (∃ (s : State) (link : Nat) (hdr : List Nat) (lines : List (List Nat)) (r : Remote) (k : Task), s.Inv ∧ carries s link hdr = true ∧ hTarget hdr
      = nodeId s ∧ pendingTag s (hTag hdr) = some r ∧ s.flt.fifo.length < 250 ∧ r.kind = 0 ∧ hArg hdr = 0 ∧ s.ubf.heads = [] ∧ s.tabA = s.tabB) ∧
    (∃ (s : State) (link : Nat) (hdr : List Nat) (lines : List (List Nat)) (r : Remote) (k : Task), s.Inv ∧ carries s link hdr = true ∧ hTarget hdr
      = nodeId s ∧ pendingTag s (hTag hdr) = some r ∧ s.flt.fifo.length < 250 ∧ r.kind = 7 ∧ hArg hdr = 0) ∧
    (∃ (s : State) (link : Nat) (hdr : List Nat) (lines : List (List Nat)) (r : Remote) (k : Task), s.Inv ∧ carries s link hdr = true ∧ hTarget hdr
      = nodeId s ∧ pendingTag s (hTag hdr) = some r ∧ s.flt.fifo.length < 250 ∧ r.kind = 1 ∧ hArg hdr = 0 ∧ s.ubf.heads = [] ∧ s.tabA = s.tabB ∧
      taskById s r.task = some k ∧ k.status = 0 ∧ r.dst + r.len ≤ anvilEnd) ∧
    (∃ (s : State) (link : Nat) (hdr : List Nat) (lines : List (List Nat)) (r : Remote) (k : Task), s.Inv ∧ carries s link hdr = true ∧ hTarget hdr
      = nodeId s ∧ pendingTag s (hTag hdr) = some r ∧ s.flt.fifo.length < 250 ∧ 6 ≤ r.kind) :=
  ⟨⟨{ mgr with ubf := { mgr.ubf with pending := [{ tag := 9, node := 2, kind := 6, unit := 0, task := 0, dst := 4, len := 8 }] } }, 1, (mkHdr 2 3 0
    2 0 9 0 0 0), [], { tag := 9, node := 2, kind := 6, unit := 0, task := 0, dst := 4, len := 8 }, task [] 0, by decide +kernel⟩,
   ⟨(let s := (running (opened mgr) { task (command 0 1 []) 0 with id := 0 });
     { s with ubf := { s.ubf with pending := [{ tag := 9, node := 2, kind := 0, unit := 0, task := 0, dst := 4, len := 8 }] } }), 1, (mkHdr 2 3 0 2
     0 9 0 0 0), [], { tag := 9, node := 2, kind := 0, unit := 0, task := 0, dst := 4, len := 8 }, task [] 0, by decide +kernel⟩,
   ⟨{ mgr with ubf := { mgr.ubf with pending := [{ tag := 9, node := 2, kind := 7, unit := 0, task := 0, dst := 4, len := 8 }] } }, 1, (mkHdr 4 3 0
     2 0 9 0 0 0), [(List.replicate 64 7)], { tag := 9, node := 2, kind := 7, unit := 0, task := 0, dst := 4, len := 8 }, task [] 0, by
     decide +kernel⟩,
   ⟨(let s := (running (opened mgr) { task (command 0 1 []) 0 with id := 0 });
     { s with ubf := { s.ubf with pending := [{ tag := 9, node := 2, kind := 1, unit := 0, task := 0, dst := 4, len := 8 }] } }), 1, (mkHdr 4 3 0 2
     0 9 0 0 0), [(List.replicate 64 7)], { tag := 9, node := 2, kind := 1, unit := 0, task := 0, dst := 4, len := 8 },
     { task (command 0 1 []) 0 with id := 0 }, by decide +kernel⟩,
   ⟨{ mgr with ubf := { mgr.ubf with pending := [{ tag := 9, node := 2, kind := 7, unit := 0, task := 0, dst := 4, len := 8 }] } }, 1, (mkHdr 4 3 0
     2 0 9 0 0 0), [], { tag := 9, node := 2, kind := 7, unit := 0, task := 0, dst := 4, len := 8 }, task [] 0, by decide +kernel⟩⟩

theorem witness_remoteAccessesAreServedAndEnd_3 : ∃ (s : State) (link : Nat) (hdr : List Nat) (lines : List (List Nat)) (r : Remote) (k : Task),
  s.Inv ∧ carries s link hdr = true ∧ hTarget hdr = nodeId s ∧ pendingTag s (hTag hdr) = some r ∧ s.flt.fifo.length < 250 ∧ r.kind = 0 ∧
  s.ubf.heads = [] ∧ s.tabA = s.tabB ∧ taskById s r.task = some k ∧ k.status = 0 :=
  ⟨(let s := (running (opened mgr) { task (command 0 1 []) 0 with id := 0 });
    { s with ubf := { s.ubf with pending := [{ tag := 9, node := 2, kind := 0, unit := 0, task := 0, dst := 4, len := 8 }] } }), 1, (mkHdr 2 3 0 2
    0 9 0 0 0), [], { tag := 9, node := 2, kind := 0, unit := 0, task := 0, dst := 4, len := 8 }, { task (command 0 1 []) 0 with id := 0 }, by
    decide +kernel⟩

theorem witness_timeTransferAndHeartbeats :
    (∃ (s : State) (at_ : Nat) (link : Nat) (hdr : List Nat), s.Inv ∧ link < 4 ∧ hTarget hdr = nodeId s ∧ isManager s = true ∧ s.time ≤ at_ ∧ at_ <
      2 ^ 64) ∧
    (∃ (s : State) (at_ : Nat) (link : Nat) (hdr : List Nat), s.Inv ∧ link < 4 ∧ hTarget hdr = nodeId s ∧ isWorker s = true ∧ s.bell.admitted =
      false ∧ s.ubf.xfers.length < 63) ∧
    (∃ (s : State) (at_ : Nat) (link : Nat) (hdr : List Nat), s.Inv ∧ link < 4 ∧ hTarget hdr = nodeId s ∧ isWorker s = true ∧ s.bell.admitted =
      false ∧ s.ubf.xfers.length = 63) ∧
    (∃ (s : State) (at_ : Nat) (link : Nat) (hdr : List Nat), s.Inv ∧ link < 4) ∧
    (∃ (s : State) (at_ : Nat) (link : Nat) (hdr : List Nat), s.Inv ∧ link < 4 ∧ linkUp s link = true) :=
  ⟨⟨mgr, 5000, 1, (mkHdr 17 3 0 2 0 0 0 0 40), by decide +kernel⟩,
   ⟨{ wrk with bell := { wrk.bell with admitted := false } }, 5000, 0, (mkHdr 18 3 0 0 1 0 100 0 300), by decide +kernel⟩,
   ⟨{ { wrk with bell := { wrk.bell with admitted := false } } with ubf := { wrk.ubf with xfers := List.replicate 63 90 } }, 5000, 0, (mkHdr 18 3 0
     0 1 0 100 0 300), by decide +kernel⟩,
   ⟨mgr, 0, 2, [], by decide +kernel⟩,
   ⟨(linked mgr 1 {}), 500, 1, [], by decide +kernel⟩⟩

theorem witness_childrenAreAcceptedAndWorkersAdmitted :
    (∃ (s : State) (at_ : Nat) (link : Nat) (node : Nat) (delay : Nat) (hdr : List Nat), s.Inv ∧ link < 4 ∧ isUpstream s link = true) ∧
    (∃ (s : State) (at_ : Nat) (link : Nat) (node : Nat) (delay : Nat) (hdr : List Nat), s.Inv ∧ link < 4 ∧ isUpstream s link = false ∧ peerFits s
      link hdr = true) ∧
    (∃ (s : State) (at_ : Nat) (link : Nat) (node : Nat) (delay : Nat) (hdr : List Nat), s.Inv ∧ link < 4 ∧ isUpstream s link = false ∧ peerFits s
      link hdr = false ∧ s.flt.fifo.length < 256) ∧
    (∃ (s : State) (at_ : Nat) (link : Nat) (node : Nat) (delay : Nat) (hdr : List Nat), s.Inv ∧ link < 4 ∧ hTarget hdr = nodeId s ∧ isWorker s =
      true ∧ s.ubf.orphan = false ∧ s.bell.admitted = false ∧ hBody hdr ≠ noAdmit ∧ delayFits (hAddr hdr) (ownDelay s) = true ∧ s.flt.fifo.length <
      256) ∧
    (∃ (s : State) (at_ : Nat) (link : Nat) (node : Nat) (delay : Nat) (hdr : List Nat), s.Inv ∧ link < 4 ∧ hTarget hdr = nodeId s ∧ isWorker s =
      true ∧ s.ubf.orphan = false ∧ hBody hdr = noAdmit) :=
  ⟨⟨wrk, 0, 0, 0, 0, (mkHdr 23 3 0 0 1 0 34 0 0), by decide +kernel⟩,
   ⟨(put mgr [(UBF_NODE_CFG_EXP, 0xFFFF)]), 0, 1, 0, 0, (mkHdr 23 3 0 2 0 0 34 0 0), by decide +kernel⟩,
   ⟨mgr, 0, 1, 0, 0, (mkHdr 23 3 0 2 0 0 34 0 0), by decide +kernel⟩,
   ⟨{ (put wrk [(BEL_OWN_DELAY, 500)]) with bell := { wrk.bell with admitted := false } }, 9, 0, 0, 0, (mkHdr 22 3 0 0 1 0 1500 0 44), by
     decide +kernel⟩,
   ⟨wrk, 9, 0, 0, 0, (mkHdr 22 3 0 0 1 0 1500 0 noAdmit), by decide +kernel⟩⟩

theorem witness_childrenAreAcceptedAndWorkersAdmitted_2 :
    (∃ (s : State) (at_ : Nat) (link : Nat) (node : Nat) (delay : Nat) (hdr : List Nat), s.Inv ∧ link < 4 ∧ hTarget hdr = nodeId s ∧ isWorker s =
      true ∧ s.ubf.orphan = false ∧ hBody hdr ≠ noAdmit ∧ delayFits (hAddr hdr) (ownDelay s) = false ∧ s.flt.fifo.length < 256) ∧
    (∃ (s : State) (at_ : Nat) (link : Nat) (node : Nat) (delay : Nat) (hdr : List Nat), s.Inv ∧ link < 4 ∧ isManager s = true ∧ 0 < node ∧ node <
      16 ∧ bit (getF s UBF_NODE_CFG_EXP) node = true ∧ isAdmitted s node = false ∧ linkTo (nodeId s) node = some link ∧ linkUp s link = true ∧ (lnk
      s link).refused = false ∧ (parentOf node).all (fun p => p == 0 || isAdmitted s p) = true ∧ s.stk.inst ≤ at_ ∧ delay ≤ 1900 ∧ delayFits
      (targetNs s) delay = true ∧ s.flt.fifo.length < 256) :=
  ⟨⟨wrk, 9, 0, 0, 0, (mkHdr 22 3 0 0 1 0 0 0 44), by decide +kernel⟩,
   ⟨{ linked (put mgr [(UBF_NODE_CFG_EXP, 0xFFFF), (BEL_TARGET_NS, 1500)]) 1 {} with bell := { mgr.bell with targetFixed := true } }, 9, 1, 2, 500,
     [], by decide +kernel⟩⟩

theorem witness_goldenResultsAreCompared :
    (∃ (s : State) (tag : Nat) (hm : Nat) (unit : Nat) (cls : Nat) (st : Nat), s.Inv ∧ cls ≤ 8 ∧ unit < physCount cls ∧ loggedHm s tag = some hm ∧
      loggedUnit s tag = some (unit, cls) ∧ goldStatus s tag = some st ∧ st ≠ 0x0D ∧ st = 0 ∧ expectedHm s tag = some hm) ∧
    (∃ (s : State) (tag : Nat) (hm : Nat) (unit : Nat) (cls : Nat) (st : Nat), s.Inv ∧ cls ≤ 8 ∧ unit < physCount cls ∧ loggedHm s tag = some hm ∧
      loggedUnit s tag = some (unit, cls) ∧ goldStatus s tag = some st ∧ st ≠ 0x0D ∧ ¬ (st = 0 ∧ expectedHm s tag = some hm) ∧ (st = 1 → tag % 2 ^
      16 < logical s cls) ∧ ustate s (classBase cls + unit) < 4 ∧ s.flt.fifo.length < 250) :=
  ⟨⟨(golden 0), 7, 99, 2, 4, 0, by decide +kernel⟩,
   ⟨(golden 3), 7, 99, 2, 4, 3, by decide +kernel⟩⟩

theorem witness_twoHandedChanges :
    (∃ (s : State) (brand : Nat) (g : Nat), s.Inv ∧ g < 9 ∧ fwDenies s 2 brand 1 (FWL_TH_CTRL g).addr 4 = none ∧ mayStage s g brand = true ∧ brand
      < 256 ∧ thState s g = 0) ∧
    (∃ (s : State) (brand : Nat) (g : Nat) (addr : Nat) (v : Nat) (m : _), s.Inv ∧ g < 9 ∧ fwDenies s 2 brand 1 (FWL_TH_CTRL g).addr 4 = none ∧
      mayStage s g brand = true ∧ brand < 256 ∧ groupOf addr = some g ∧ thState s g = 1 ∧ thStager s g = brand ∧ fwDenies s 2 brand 1 addr 4 = none
      ∧ (addr, m) ∈ groupWords g) ∧
    (∃ (s : State) (brand : Nat) (g : Nat), s.Inv ∧ g < 9 ∧ fwDenies s 2 brand 1 (FWL_TH_CTRL g).addr 4 = none ∧ mayStage s g brand = true ∧ brand
      < 256 ∧ thState s g = 1 ∧ thStager s g = brand) ∧
    (∃ (s : State) (brand : Nat) (g : Nat), s.Inv ∧ g < 9 ∧ fwDenies s 2 brand 1 (FWL_TH_CTRL g).addr 4 = none ∧ mayStage s g brand = true ∧ brand
      < 256 ∧ thState s g = 2 ∧ thStager s g ≠ brand ∧ isHand s brand = true ∧ groupDigest s g ≠ writtenDigest s g ∧ s.flt.fifo.length < 256) ∧
    (∃ (s : State) (brand : Nat) (g : Nat), s.Inv ∧ g < 9 ∧ fwDenies s 2 brand 1 (FWL_TH_CTRL g).addr 4 = none ∧ mayStage s g brand = true ∧ brand
      < 256 ∧ thState s g = 2 ∧ thStager s g ≠ brand ∧ isHand s brand = true ∧ groupDigest s g = writtenDigest s g ∧ s.flt.fifo.length < 256) :=
  ⟨⟨st0, 1, 8, by decide +kernel⟩,
   ⟨(put st0 [(FWL_TH_STATUS_STATE 8, 1), (FWL_TH_STATUS_STAGER 8, 1)]), 1, 8, 0x40800008, 5, 0x7FF, by decide +kernel⟩,
   ⟨(put st0 [(FWL_TH_STATUS_STATE 8, 1), (FWL_TH_STATUS_STAGER 8, 1)]), 1, 8, by decide +kernel⟩,
   ⟨(put st0 [(FWL_TH_STATUS_STATE 8, 2), (FWL_TH_STATUS_STAGER 8, 3)]), 1, 8, by decide +kernel⟩,
   ⟨(let s := (put st0 [(FWL_TH_STATUS_STATE 8, 2), (FWL_TH_STATUS_STAGER 8, 3)]);
     { s with fwl := { s.fwl with digest := (List.range 8).map (fun k => (8, k, fldAt (groupDigest s 8) (4 * k) 4)) } }), 1, 8, by decide +kernel⟩⟩

theorem witness_twoHandedChanges_2 :
    (∃ (s : State) (brand : Nat) (g : Nat), s.Inv ∧ g < 9 ∧ fwDenies s 2 brand 1 (FWL_TH_CTRL g).addr 4 = none ∧ mayStage s g brand = true ∧ brand
      < 256 ∧ thState s g ≠ 0 ∧ thStager s g = brand) ∧
    (∃ (s : State) (brand : Nat) (g : Nat), s.Inv ∧ g < 9 ∧ fwDenies s 2 brand 1 (FWL_TH_CTRL g).addr 4 = none ∧ mayStage s g brand = true ∧ brand
      < 256 ∧ thState s g = 2 ∧ s.flt.fifo.length < 256) :=
  ⟨⟨(put st0 [(FWL_TH_STATUS_STATE 8, 2), (FWL_TH_STATUS_STAGER 8, 1)]), 1, 8, by decide +kernel⟩,
   ⟨(put st0 [(FWL_TH_STATUS_STATE 8, 2), (FWL_TH_STATUS_STAGER 8, 3)]), 1, 8, by decide +kernel⟩⟩

theorem witness_recordsAreCollectedAndReactedTo :
    (∃ (s : State) (block : Nat) (code : Nat) (cls : Nat) (unit : Nat), s.Inv ∧ s.flt.fifo.length < 256) ∧
    (∃ (s : State) (block : Nat) (code : Nat) (cls : Nat) (unit : Nat), s.Inv ∧ 256 ≤ s.flt.fifo.length ∧ cls ≤ 1) ∧
    (∃ (s : State) (block : Nat) (code : Nat) (cls : Nat) (unit : Nat) (q : _), s.Inv ∧ 256 ≤ s.flt.fifo.length ∧ 1 < cls ∧ cls < 16 ∧
      replaceNewest s.flt.fifo (mkRec s block code cls unit) = some q) ∧
    (∃ (s : State) (brand : Nat) (r : _) (rest : _), s.Inv ∧ s.flt.fifo = r :: rest ∧ reactionOf s r = 0 ∧ getF s FLT_STATUS_FIRST < 16) ∧
    (∃ (s : State) (brand : Nat) (r : _) (rest : _), s.Inv ∧ s.flt.fifo = r :: rest ∧ reactionOf s r = 0 ∧ getF s FLT_STATUS_FIRST = 16) :=
  ⟨⟨st0, 3, 4, 2, 1, by decide +kernel⟩,
   ⟨{ st0 with flt := { st0.flt with fifo := List.replicate 256 (mkRec st0 1 1 0 0) } }, 3, 4, 1, 1, by decide +kernel⟩,
   ⟨{ st0 with flt := { st0.flt with fifo := List.replicate 256 (mkRec st0 1 1 0 0) } }, 3, 4, 7, 1, (replaceNewest
     ({ st0 with flt := { st0.flt with fifo := List.replicate 256 (mkRec st0 1 1 0 0) } } : State).flt.fifo (mkRec st0 3 4 7 1)).getD [], by
     decide +kernel⟩,
   ⟨{ st0 with flt := { st0.flt with fifo := [mkRec st0 8 0x555 0 0] } }, 0, (mkRec st0 8 0x555 0 0), [], by decide +kernel⟩,
   ⟨{ (put st0 [(FLT_STATUS_FIRST, 16), (FLT_STATUS_RING_WR, 16)]) with flt := { st0.flt with fifo := [mkRec st0 8 0x555 0 0] } }, 0, (mkRec st0 8
     0x555 0 0), [], by decide +kernel⟩⟩

theorem witness_recordsAreCollectedAndReactedTo_2 :
    (∃ (s : State) (brand : Nat) (r : _) (rest : _), s.Inv ∧ s.flt.fifo = r :: rest ∧ reactionOf s r = 3) ∧
    (∃ (s : State) (brand : Nat) (r : _) (rest : _), s.Inv ∧ s.flt.fifo = r :: rest ∧ reactionOf s r = 4) ∧
    (∃ (s : State) (brand : Nat) (r : _) (rest : _), s.Inv ∧ s.flt.fifo = r :: rest ∧ reactionOf s r = 6) ∧
    (∃ (s : State) (brand : Nat), s.Inv ∧ s.flt.coldPending = true ∧ s.rst.reach = 0) ∧
    (∃ (s : State) (brand : Nat), s.Inv ∧ fwDenies s 2 brand 1 FLT_CTRL.addr 4 = none ∧ 1 ≤ brand ∧ brand ≤ 4) :=
  ⟨⟨{ st0 with flt := { st0.flt with fifo := [mkRec st0 8 0x555 4 0] } }, 0, (mkRec st0 8 0x555 4 0), [], by decide +kernel⟩,
   ⟨{ st0 with flt := { st0.flt with fifo := [mkRec st0 8 0x555 5 0] } }, 0, (mkRec st0 8 0x555 5 0), [], by decide +kernel⟩,
   ⟨{ st0 with flt := { st0.flt with fifo := [mkRec st0 8 0x555 7 0] } }, 0, (mkRec st0 8 0x555 7 0), [], by decide +kernel⟩,
   ⟨{ st0 with flt := { st0.flt with coldPending := true } , rst := { st0.rst with reach := 0 } }, 0, by decide +kernel⟩,
   ⟨st0, 2, by decide +kernel⟩⟩

theorem witness_safetyPairsAreReplaced :
    (∃ (s : State) (pair : Nat) (r : Nat) (q : Nat), s.flt.fifo.length < 256 ∧ pair < 3 ∧ s.flt.takeover = none ∧ s.flt.deadPairs.contains pair =
      false ∧ roleOfPair s pair = some r ∧ sparePair { s with flt := { s.flt with deadPairs := s.flt.deadPairs ++ [pair] } } = some q) ∧
    (∃ (s : State) (pair : Nat) (r : Nat) (q : Nat), s.flt.fifo.length < 256 ∧ pair < 3 ∧ s.flt.takeover = none ∧ s.flt.deadPairs.contains pair =
      false ∧ roleOfPair s pair = some r ∧ sparePair { s with flt := { s.flt with deadPairs := s.flt.deadPairs ++ [pair] } } = none) ∧
    (∃ (s : State) (pair : Nat) (r : Nat) (q : Nat), s.flt.fifo.length < 256 ∧ s.flt.takeover = some (r, q)) :=
  ⟨⟨st0, 1, 1, 2, by decide +kernel⟩,
   ⟨{ st0 with flt := { st0.flt with deadPairs := [2] } }, 1, 1, 0, by decide +kernel⟩,
   ⟨{ st0 with flt := { st0.flt with takeover := some (0, 2) } }, 0, 0, 2, by decide +kernel⟩⟩

theorem witness_resetPinsAndPower :
    (∃ (s : State) (role : Nat) (node : Nat), s.Inv ∧ s.rst.pwrGood = true ∧ s.rst.reach = 0 ∧ s.rst.held = []) ∧
    (∃ (s : State) (role : Nat) (node : Nat), s.Inv ∧ s.rst.pwrGood = true ∧ s.rst.reach = 0 ∧ s.rst.held = [] ∧ warmExcess s = false) ∧
    (∃ (s : State) (role : Nat) (node : Nat), s.Inv ∧ s.rst.pwrGood = true ∧ 4 ∈ s.rst.held) ∧
    (∃ (s : State) (role : Nat) (node : Nat), s.Inv ∧ s.rst.pwrGood = true ∧ 8 ∈ s.rst.held) ∧
    (∃ (s : State) (role : Nat) (node : Nat), s.Inv ∧ s.rst.pwrGood = true ∧ 8 ∉ s.rst.held ∧ s.flt.fifo.length < 256) :=
  ⟨⟨{ st0 with rst := { st0.rst with reach := 0, released := true } }, 0, 0, by decide +kernel⟩,
   ⟨{ st0 with rst := { st0.rst with reach := 0, released := true } }, 0, 0, by decide +kernel⟩,
   ⟨{ st0 with rst := { st0.rst with held := [4], reach := 4, released := false } }, 0, 0, by decide +kernel⟩,
   ⟨{ st0 with rst := { st0.rst with held := [8], reach := 3, released := false } }, 0, 0, by decide +kernel⟩,
   ⟨{ st0 with rst := { st0.rst with reach := 0, released := true } }, 0, 0, by decide +kernel⟩⟩

theorem witness_resetPinsAndPower_2 :
    (∃ (s : State) (role : Nat) (node : Nat), s.Inv) ∧
    (∃ (s : State) (role : Nat) (node : Nat), s.Inv ∧ s.rst.pwrGood = false) ∧
    (∃ (s : State) (role : Nat) (node : Nat), s.Inv ∧ s.rst.reach = 4 ∧ s.rst.released = false ∧ s.rst.held = [] ∧ s.rst.pwrGood = true) ∧
    (∃ (s : State) (role : Nat) (node : Nat), s.Inv ∧ s.rst.reach = 3 ∧ s.rst.released = false ∧ s.rst.held = [] ∧ s.rst.pwrGood = true) :=
  ⟨⟨{ st0 with rst := { st0.rst with reach := 0, released := true } }, 0, 0, by decide +kernel⟩,
   ⟨{ st0 with rst := { st0.rst with pwrGood := false, held := [3] } }, 0, 0, by decide +kernel⟩,
   ⟨{ st0 with rst := { st0.rst with held := [], reach := 4, released := false } }, 1, 0, by decide +kernel⟩,
   ⟨{ st0 with rst := { st0.rst with held := [], reach := 3, released := false } }, 1, 0, by decide +kernel⟩⟩

theorem witness_clocksQualifyOrFail :
    (∃ (s : State) (d : Nat) (khz : Nat), s.Inv ∧ 0 < d ∧ d < 9 ∧ flag s (CLK_D_STATUS_QUALIFIED d) = false ∧ s.rst.released = true ∧ flag s
      (CLK_D_STATUS_FAILED d) = false) ∧
    (∃ (s : State) (d : Nat) (khz : Nat), s.Inv ∧ 0 < d ∧ d < 9 ∧ s.rst.released = true ∧ domainDone s d = false) ∧
    (∃ (s : State) (d : Nat) (khz : Nat), s.Inv ∧ 0 < d ∧ d < 9 ∧ s.start.retryDue = true) ∧
    (∃ (s : State) (d : Nat) (khz : Nat), s.Inv ∧ 0 < d ∧ d < 9 ∧ flag s (CLK_D_STATUS_QUALIFIED d) = true ∧ flag s (CLK_D_STATUS_OUT_TOL d) =
      false ∧ s.flt.fifo.length < 256) ∧
    (∃ (s : State) (d : Nat) (khz : Nat), s.Inv ∧ 0 < d ∧ d < 9 ∧ s.flt.fifo.length < 256) :=
  ⟨⟨{ st0 with rst := { st0.rst with held := [], reach := 4, released := true } }, 3, 100000, by decide +kernel⟩,
   ⟨{ (put st0 [(RST_START_PHASE, 4)]) with rst := { st0.rst with released := true }, start := { st0.start with known := st0.start.known } }, 3, 0,
     by decide +kernel⟩,
   ⟨{ st0 with start := { st0.start with retryDue := true } }, 1, 0, by decide +kernel⟩,
   ⟨(put st0 [(CLK_D_STATUS_QUALIFIED 5, 1)]), 5, 99, by decide +kernel⟩,
   ⟨st0, 1, 0, by decide +kernel⟩⟩

theorem witness_theStartChoosesItsBillet :
    (∃ (s : State) (a : SlotImage) (b : SlotImage) (ans : RpmbAnswer), s.Inv ∧ phase s = 1 ∧ s.start.known = false ∧ slotCause s (slotRead a
      s.start.slotA) = 0) ∧
    (∃ (s : State) (a : SlotImage) (b : SlotImage) (ans : RpmbAnswer), s.Inv ∧ phase s = 1 ∧ s.start.known = false ∧ slotCause s (slotRead a
      s.start.slotA) ≠ 0 ∧ slotCause s (slotRead b s.start.slotB) = 0 ∧ s.flt.fifo.length < 256) ∧
    (∃ (s : State) (a : SlotImage) (b : SlotImage) (ans : RpmbAnswer), s.Inv ∧ phase s = 1 ∧ s.start.known = false ∧ slotCause s (slotRead a
      s.start.slotA) ≠ 0 ∧ slotCause s (slotRead b s.start.slotB) ≠ 0) ∧
    (∃ (s : State) (a : SlotImage) (b : SlotImage) (ans : RpmbAnswer), s.Inv ∧ phase s = 1 ∧ s.start.known = true ∧ isWarmStart s = false ∧
      s.start.chosen.isSome = true ∧ openBanked (closeAttempt (mergeCopy s)).start.journal = none ∧ failedAttempts (closeAttempt (mergeCopy
      s)).start.journal < 3) ∧
    (∃ (s : State) (a : SlotImage) (b : SlotImage) (ans : RpmbAnswer), s.Inv ∧ phase s = 1 ∧ s.start.known = true ∧ isWarmStart s = false ∧
      s.start.chosen.isSome = true ∧ openBanked (closeAttempt (mergeCopy s)).start.journal = none ∧ 3 ≤ failedAttempts (closeAttempt (mergeCopy
      s)).start.journal) :=
  ⟨⟨{ (put st0 [(RST_START_PHASE, 1)]) with rst := { st0.rst with released := true }, start := { st0.start with known := st0.start.known } },
    goodSlot, goodSlot, {}, ⟨by decide +kernel, by decide +kernel, by decide +kernel, goodSlot_verifies _ rfl (by decide +kernel)⟩⟩,
   ⟨{ (put st0 [(RST_START_PHASE, 1)]) with rst := { st0.rst with released := true }, start := { st0.start with known := st0.start.known } },
     { goodSlot with raw := [] }, goodSlot, {}, ⟨by decide +kernel, by decide +kernel, by decide +kernel, by decide +kernel, goodSlot_verifies _
     rfl (by decide +kernel), by decide +kernel⟩⟩,
   ⟨{ (put st0 [(RST_START_PHASE, 1)]) with rst := { st0.rst with released := true }, start := { st0.start with known := st0.start.known } },
     { goodSlot with raw := [] }, { goodSlot with raw := [] }, {}, by decide +kernel⟩,
   ⟨{ (put st0 [(RST_START_PHASE, 1)]) with rst := { st0.rst with released := true }, start := { st0.start with known := true, chosen := some goodSlot } }, goodSlot, { goodSlot with raw := [] }, {}, by decide +kernel⟩,
   ⟨{ (put st0 [(RST_START_PHASE, 1)]) with rst := { st0.rst with released := true }, start := { st0.start with known := true, chosen := some goodSlot, journal := [{ typ := 1, reach := 4, slot := 0, cause := 0, rseq := 1, digest := [] }, { typ := 1, reach := 4, slot := 0, cause := 0, rseq := 2, digest := [] }, { typ := 1, reach := 4, slot := 0, cause := 0, rseq := 3, digest := [] }] } }, goodSlot, { goodSlot with raw := [] }, {}, by decide +kernel⟩⟩

theorem witness_theStartChoosesItsBillet_2 :
    (∃ (s : State) (a : SlotImage) (b : SlotImage) (ans : RpmbAnswer), s.Inv ∧ phase s = 2 ∧ s.start.chosen = some a ∧ (billetOf s.sec a).noRpmb =
      true) ∧
    (∃ (s : State) (a : SlotImage) (b : SlotImage) (ans : RpmbAnswer), s.Inv ∧ phase s = 2 ∧ s.start.chosen = some a ∧ (billetOf s.sec a).noRpmb =
      false ∧ ans.inTime = true ∧ ans.keyed = true ∧ rpmbOk s.sec ans = true ∧ rpmbMin ans ≤ (billetOf s.sec a).version) ∧
    (∃ (s : State) (a : SlotImage) (b : SlotImage) (ans : RpmbAnswer), s.Inv ∧ phase s = 2 ∧ s.start.chosen = some a ∧ (billetOf s.sec a).noRpmb =
      false ∧ ans.inTime = false) ∧
    (∃ (s : State) (a : SlotImage) (b : SlotImage) (ans : RpmbAnswer), s.Inv ∧ phase s = 3) ∧
    (∃ (s : State) (a : SlotImage) (b : SlotImage) (ans : RpmbAnswer), s.Inv ∧ phase s = 3) :=
  ⟨⟨{ (put st0 [(RST_START_PHASE, 2)]) with rst := { st0.rst with released := true }, start := { st0.start with chosen := some freeSlot } },
    freeSlot, goodSlot, {}, ⟨by decide +kernel, by decide +kernel, rfl, by decide +kernel⟩⟩,
   ⟨{ (put st0 [(RST_START_PHASE, 2)]) with rst := { st0.rst with released := true }, start := { st0.start with chosen := some goodSlot } },
     goodSlot, goodSlot, goodAnswer, ⟨by decide +kernel, by decide +kernel, rfl, by decide +kernel, by decide +kernel, by decide +kernel, by
     decide +kernel, by decide +kernel⟩⟩,
   ⟨{ (put st0 [(RST_START_PHASE, 2)]) with rst := { st0.rst with released := true }, start := { st0.start with chosen := some goodSlot } },
     goodSlot, goodSlot, { inTime := false }, ⟨by decide +kernel, by decide +kernel, rfl, by decide +kernel, by decide +kernel⟩⟩,
   ⟨{ (put st0 [(RST_START_PHASE, 3)]) with rst := { st0.rst with released := true }, start := { st0.start with known := st0.start.known } },
     goodSlot, goodSlot, {}, by decide +kernel⟩,
   ⟨{ (put st0 [(RST_START_PHASE, 3)]) with rst := { st0.rst with released := true }, start := { st0.start with known := st0.start.known } },
     goodSlot, goodSlot, {}, by decide +kernel⟩⟩

theorem witness_theStartReachesFullService :
    (∃ (s : State) (at_ : Nat) (ms : Nat) (mask : Nat) (brand : Nat) (failed : List Nat) (ages : List Nat) (passed : List Nat), s.Inv ∧ phase s = 5
      ∧ isWorker s = true) ∧
    (∃ (s : State) (at_ : Nat) (ms : Nat) (mask : Nat) (brand : Nat) (failed : List Nat) (ages : List Nat) (passed : List Nat), s.Inv ∧ phase s = 5
      ∧ isManager s = true) ∧
    (∃ (s : State) (at_ : Nat) (ms : Nat) (mask : Nat) (brand : Nat) (failed : List Nat) (ages : List Nat) (passed : List Nat), s.Inv ∧ phase s = 5
      ∧ isManager s = true ∧ emberReady (emberUnits s passed) = true) ∧
    (∃ (s : State) (at_ : Nat) (ms : Nat) (mask : Nat) (brand : Nat) (failed : List Nat) (ages : List Nat) (passed : List Nat), s.Inv ∧ inStart s =
      true ∧ s.start.trained = false ∧ (trainedChannels s mask).length < 4) ∧
    (∃ (s : State) (at_ : Nat) (ms : Nat) (mask : Nat) (brand : Nat) (failed : List Nat) (ages : List Nat) (passed : List Nat), s.Inv ∧ inStart s =
      true ∧ s.start.trained = false ∧ ddrConfigOk s.bil = true ∧ 4 ≤ (usedChannels s mask).length) :=
  ⟨⟨{ (put wrk [(RST_START_PHASE, 5)]) with rst := { st0.rst with released := true } }, 0, 40, 0, 0, [3], [], [], by decide +kernel⟩,
   ⟨{ (put st0 [(RST_START_PHASE, 5)]) with rst := { st0.rst with released := true }, start := { st0.start with known := st0.start.known } }, 0,
     40, 0, 0, [], [], [], by decide +kernel⟩,
   ⟨{ (put { (put st0 [(RST_START_PHASE, 5)]) with rst := { st0.rst with released := true }, start := { st0.start with known := st0.start.known } } ((List.range 234).map (fun e => (SPR_U_STATE_STATE e, 1)))) with stk := st0.stk }, 0, 30, 0, 0, [], [], (List.range 234), by decide +kernel⟩,
   ⟨{ (put st0 [(RST_START_PHASE, 6)]) with rst := { st0.rst with released := true }, start := { st0.start with known := st0.start.known } }, 0, 0,
     7, 0, [], [], [], by decide +kernel⟩,
   ⟨{ (put { (put st0 [(RST_START_PHASE, 6)]) with rst := { st0.rst with released := true }, start := { st0.start with known := st0.start.known } } [(DDR_CFG_POP, 0x3F)]) with bil := goodBillet }, 0, 0, 0x3F, 0, [], [], [], by decide +kernel⟩⟩

theorem witness_theStartReachesFullService_2 :
    (∃ (s : State) (at_ : Nat) (ms : Nat) (mask : Nat) (brand : Nat) (failed : List Nat) (ages : List Nat) (passed : List Nat), s.Inv ∧ inStart s =
      true ∧ s.start.trained = true ∧ s.start.swept = false) ∧
    (∃ (s : State) (at_ : Nat) (ms : Nat) (mask : Nat) (brand : Nat) (failed : List Nat) (ages : List Nat) (passed : List Nat), s.Inv ∧ inStart s =
      true ∧ s.start.tested = false) ∧
    (∃ (s : State) (at_ : Nat) (ms : Nat) (mask : Nat) (brand : Nat) (failed : List Nat) (ages : List Nat) (passed : List Nat), s.Inv ∧ inStart s =
      true ∧ s.start.tested = false ∧ withoutEmber s = false ∧ getF s SPR_POLICY_FENCE_LIFE = 0 ∧ s.flt.fifo.length < 240) ∧
    (∃ (s : State) (at_ : Nat) (ms : Nat) (mask : Nat) (brand : Nat) (failed : List Nat) (ages : List Nat) (passed : List Nat), s.Inv ∧ inStart s =
      true ∧ s.start.swept = true ∧ s.start.osLoaded = false) ∧
    (∃ (s : State) (at_ : Nat) (ms : Nat) (mask : Nat) (brand : Nat) (failed : List Nat) (ages : List Nat) (passed : List Nat) (d : _), s.Inv ∧
      inStart s = true ∧ s.start.swept = true ∧ s.start.osLoaded = false ∧ d ≠ s.bil.osDigest) :=
  ⟨⟨{ (put st0 [(RST_START_PHASE, 6)]) with rst := { st0.rst with released := true }, start := { st0.start with trained := true } }, 0, 0, 0, 0,
    [], [], [], by decide +kernel⟩,
   ⟨{ (put st0 [(RST_START_PHASE, 6)]) with rst := { st0.rst with released := true }, start := { st0.start with known := st0.start.known } }, 0, 0,
     0, 0, [3, 200], [], [], by decide +kernel⟩,
   ⟨{ (put st0 [(RST_START_PHASE, 6)]) with rst := { st0.rst with released := true }, start := { st0.start with known := st0.start.known } }, 0, 0,
     0, 0, [3], [7], [], by decide +kernel⟩,
   ⟨{ (put st0 [(RST_START_PHASE, 7)]) with rst := { st0.rst with released := true }, start := { st0.start with swept := true } }, 0, 0, 0, 0, [],
     [], [], by decide +kernel⟩,
   ⟨{ (put st0 [(RST_START_PHASE, 7)]) with rst := { st0.rst with released := true }, start := { st0.start with swept := true } }, 0, 0, 0, 0, [],
     [], [], [9], by decide +kernel⟩⟩

theorem witness_theStartReachesFullService_3 :
    (∃ (s : State) (at_ : Nat) (ms : Nat) (mask : Nat) (brand : Nat) (failed : List Nat) (ages : List Nat) (passed : List Nat), s.Inv ∧ fwDenies s
      2 brand 1 RST_START.addr 4 = none) ∧
    (∃ (s : State) (at_ : Nat) (ms : Nat) (mask : Nat) (brand : Nat) (failed : List Nat) (ages : List Nat) (passed : List Nat), s.Inv ∧ inStart s =
      true ∧ s.start.swept = true ∧ s.start.tested = true ∧ s.start.osLoaded = true ∧ flag s RST_START_APP_READY = true ∧ isInstant s at_ = true) :=
  ⟨⟨st0, 0, 0, 0, 2, [], [], [], by decide +kernel⟩,
   ⟨{ (put st0 [(RST_START_PHASE, 10), (RST_START_APP_READY, 1)]) with start := { st0.start with swept := true, tested := true, osLoaded := true }, stk := { st0.stk with takeFrom := none } }, 1000, 900, 0, 0, [], [], [], by decide +kernel⟩⟩

theorem witness_failedStartsAndTheWatchdogAreRecorded :
    (∃ (s : State) (c : Nat), s.Inv ∧ starting s = true ∧ s.flt.fifo.length < 256 ∧ 1 ≤ c ∧ c ≤ 0x0C ∧ c ≠ 5) ∧
    (∃ (s : State) (c : Nat), s.Inv ∧ starting s = true ∧ s.flt.fifo.length < 256) ∧
    (∃ (s : State) (brand : Nat) (value : Nat), s.flt.fifo.length < 256 ∧ fwDenies s 2 brand 1 RST_WDOG_KICK.addr 4 = none ∧ fwDenies s 2 brand 1
      RST_SW_REQ.addr 4 = none ∧ mayKick brand = true) ∧
    (∃ (s : State) (brand : Nat) (value : Nat), s.flt.fifo.length < 256 ∧ fwDenies s 2 brand 1 RST_WDOG_KICK.addr 4 = none ∧ fwDenies s 2 brand 1
      RST_SW_REQ.addr 4 = none ∧ value ≠ 0x4B49434B) ∧
    (∃ (s : State) (brand : Nat) (value : Nat), s.flt.fifo.length < 256 ∧ fwDenies s 2 brand 1 RST_WDOG_KICK.addr 4 = none ∧ fwDenies s 2 brand 1
      RST_SW_REQ.addr 4 = none ∧ mayKick brand = true ∧ flag s RST_POLICY_SWREQ_EN = true) :=
  ⟨⟨{ (put st0 [(RST_START_PHASE, 4)]) with rst := { st0.rst with released := true }, start := { st0.start with known := st0.start.known } }, 2, by
    decide +kernel⟩,
   ⟨{ (put st0 [(RST_START_PHASE, 4)]) with rst := { st0.rst with released := true }, start := { st0.start with known := st0.start.known } }, 0, by
     decide +kernel⟩,
   ⟨st0, 2, 0, by decide +kernel⟩,
   ⟨st0, 2, 1, by decide +kernel⟩,
   ⟨(put st0 [(RST_POLICY_SWREQ_EN, 1)]), 2, 0, by decide +kernel⟩⟩

theorem witness_failedStartsAndTheWatchdogAreRecorded_2 :
    (∃ (s : State) (brand : Nat) (value : Nat), s.flt.fifo.length < 256 ∧ fwDenies s 2 brand 1 RST_WDOG_KICK.addr 4 = none ∧ fwDenies s 2 brand 1
      RST_SW_REQ.addr 4 = none ∧ flag s RST_POLICY_SWREQ_EN = false) ∧
    (∃ (s : State) (brand : Nat) (value : Nat), s.flt.fifo.length < 256 ∧ fwDenies s 2 brand 1 RST_WDOG_KICK.addr 4 = none ∧ fwDenies s 2 brand 1
      RST_SW_REQ.addr 4 = none ∧ s.start.wdogArmed = true) :=
  ⟨⟨(put st0 [(RST_POLICY_SWREQ_EN, 0)]), 2, 0, by decide +kernel⟩,
   ⟨{ st0 with start := { st0.start with wdogArmed := true } }, 2, 0, by decide +kernel⟩⟩

theorem witness_bankedReportsAndMaintenance :
    (∃ (s : State) (at_ : Nat) (nonce : Nat) (from_ : Nat) (slot : Nat) (off : Nat) (obj : List Nat) (bytes : List Nat), isBanked s = true) ∧
    (∃ (s : State) (at_ : Nat) (nonce : Nat) (from_ : Nat) (slot : Nat) (off : Nat) (obj : List Nat) (bytes : List Nat), maintained s obj nonce =
      false) ∧
    (∃ (s : State) (at_ : Nat) (nonce : Nat) (from_ : Nat) (slot : Nat) (off : Nat) (obj : List Nat) (bytes : List Nat), maintained s obj nonce =
      false) ∧
    (∃ (s : State) (at_ : Nat) (nonce : Nat) (from_ : Nat) (slot : Nat) (off : Nat) (obj : List Nat) (bytes : List Nat), maintained s obj nonce =
      false) ∧
    (∃ (s : State) (at_ : Nat) (nonce : Nat) (from_ : Nat) (slot : Nat) (off : Nat) (obj : List Nat) (bytes : List Nat), maintained s obj nonce =
      false) :=
  ⟨⟨{ (put st0 [(TOP_MODE_MODE, 3)]) with start := { st0.start with nonces := [77], banked := true } }, 100, 0, 0, 0, 0, [], [], by decide +kernel⟩,
   ⟨{ (put st0 [(TOP_MODE_MODE, 3)]) with start := { st0.start with nonces := [77], banked := true } }, 0, 78, 0, 0, 0, goodCommand, [], by
     decide +kernel⟩,
   ⟨{ (put st0 [(TOP_MODE_MODE, 3)]) with start := { st0.start with nonces := [77], banked := true } }, 0, 78, 0, 0, 0, goodCommand, [], by
     decide +kernel⟩,
   ⟨{ (put st0 [(TOP_MODE_MODE, 3)]) with start := { st0.start with nonces := [77], banked := true } }, 0, 78, 0, 0, 0, goodCommand, [], by
     decide +kernel⟩,
   ⟨{ (put st0 [(TOP_MODE_MODE, 3)]) with start := { st0.start with nonces := [77], banked := true } }, 0, 78, 0, 0, 0, goodCommand, [], by
     decide +kernel⟩⟩

theorem witness_bankedReportsAndMaintenance_2 :
    (∃ (s : State) (at_ : Nat) (nonce : Nat) (from_ : Nat) (slot : Nat) (off : Nat) (obj : List Nat) (bytes : List Nat), maintained s obj nonce =
      true) ∧
    (∃ (s : State) (at_ : Nat) (nonce : Nat) (from_ : Nat) (slot : Nat) (off : Nat) (obj : List Nat) (bytes : List Nat), maintained s obj nonce =
      true) ∧
    (∃ (s : State) (at_ : Nat) (nonce : Nat) (from_ : Nat) (slot : Nat) (off : Nat) (obj : List Nat) (bytes : List Nat), maintained s obj nonce =
      true ∧ slot = 0 ∧ off + bytes.length ≤ 0x1000000) ∧
    (∃ (s : State) (at_ : Nat) (nonce : Nat) (from_ : Nat) (slot : Nat) (off : Nat) (obj : List Nat) (bytes : List Nat), maintained s obj nonce =
      true ∧ slot = 1 ∧ off + bytes.length ≤ 0x1000000) ∧
    (∃ (s : State) (at_ : Nat) (nonce : Nat) (from_ : Nat) (slot : Nat) (off : Nat) (obj : List Nat) (bytes : List Nat), maintained s obj nonce =
      true) :=
  ⟨⟨{ (put st0 [(TOP_MODE_MODE, 3)]) with start := { st0.start with nonces := [77], banked := true } }, 0, 77, 0, 0, 70, goodCommand, [1, 2],
    goodCommand_taken _ (by decide +kernel)⟩,
   ⟨{ (put st0 [(TOP_MODE_MODE, 3)]) with start := { st0.start with nonces := [77], banked := true } }, 0, 77, 0, 0, 70, goodCommand, [1, 2],
     goodCommand_taken _ (by decide +kernel)⟩,
   ⟨{ (put st0 [(TOP_MODE_MODE, 3)]) with start := { st0.start with nonces := [77], banked := true } }, 0, 77, 0, 0, 70, goodCommand, [1, 2],
     ⟨goodCommand_taken _ (by decide +kernel), by decide +kernel⟩⟩,
   ⟨{ (put st0 [(TOP_MODE_MODE, 3)]) with start := { st0.start with nonces := [77], banked := true } }, 0, 77, 0, 1, 70, goodCommand, [1, 2],
     ⟨goodCommand_taken _ (by decide +kernel), by decide +kernel⟩⟩,
   ⟨{ (put st0 [(TOP_MODE_MODE, 3)]) with start := { st0.start with nonces := [77], banked := true } }, 0, 77, 0, 0, 70, goodCommand, [1, 2],
     goodCommand_taken _ (by decide +kernel)⟩⟩

theorem witness_bankedReportsAndMaintenance_3 : ∃ (s : State) (at_ : Nat) (nonce : Nat) (from_ : Nat) (slot : Nat) (off : Nat) (obj : List Nat)
  (bytes : List Nat), isBanked s = true ∧ s.start.coldDue = true ∧ s.rst.reach = 0 :=
  ⟨{ (put st0 [(TOP_MODE_MODE, 3)]) with start := { st0.start with coldDue := true }, rst := { st0.rst with reach := 0 } }, 0, 0, 0, 0, 0, [], [],
    by decide +kernel⟩

theorem witness_wornUnitsAreReplaced :
    (∃ (s : State) (at_ : Nat) (e : Nat) (n : Nat) (c : Nat) (l : Nat) (ages : List Nat) (hot : List Nat) (ce : List (Nat × Nat)) (pass : Bool),
      s.Inv) ∧
    (∃ (s : State) (at_ : Nat) (e : Nat) (n : Nat) (c : Nat) (l : Nat) (ages : List Nat) (hot : List Nat) (ce : List (Nat × Nat)) (pass : Bool),
      s.Inv) ∧
    (∃ (s : State) (at_ : Nat) (e : Nat) (n : Nat) (c : Nat) (l : Nat) (ages : List Nat) (hot : List Nat) (ce : List (Nat × Nat)) (pass : Bool),
      s.Inv ∧ c < 8 ∧ n < 234 ∧ s.spr.subst = [(c, l, n, at_)] ∧ s.time ≤ at_ ∧ at_ < 2 ^ 64) ∧
    (∃ (s : State) (at_ : Nat) (e : Nat) (n : Nat) (c : Nat) (l : Nat) (ages : List Nat) (hot : List Nat) (ce : List (Nat × Nat)) (pass : Bool),
      s.Inv ∧ getF s SPR_POLICY_PROACTIVE_EN ≠ 0 ∧ s.spr.proDone = false ∧ s.spr.proactive = none ∧ proactivePair s = some (e, n) ∧ n < 234) ∧
    (∃ (s : State) (at_ : Nat) (e : Nat) (n : Nat) (c : Nat) (l : Nat) (ages : List Nat) (hot : List Nat) (ce : List (Nat × Nat)) (pass : Bool),
      s.Inv ∧ getF s SPR_POLICY_PROACTIVE_EN ≠ 0 ∧ s.spr.proDone = false ∧ s.spr.proactive = none ∧ proactivePair s = some (e, n) ∧ n < 234) :=
  ⟨⟨st0, 0, 0, 0, 0, 0, [5, 6], [3], [(60, 99)], false, by decide +kernel⟩,
   ⟨st0, 0, 0, 0, 0, 0, [], [], [], false, by decide +kernel⟩,
   ⟨{ st0 with spr := { st0.spr with subst := [(4, 2, 61, 500)] } }, 500, 0, 61, 4, 2, [], [], [], false, by decide +kernel⟩,
   ⟨{ (put st0 [(SPR_POLICY_PROACTIVE_EN, 1), (SPR_U_STATE_STATE 60, 1), (mapV 4 0, 1), (mapP 4 0, 0)]) with spr := { st0.spr with crossed := [56] } }, 0, 56, 60, 0, 0, [], [], [], false, by decide +kernel⟩,
   ⟨{ (put st0 [(SPR_POLICY_PROACTIVE_EN, 1), (SPR_U_STATE_STATE 60, 1), (mapV 4 0, 1), (mapP 4 0, 0)]) with spr := { st0.spr with crossed := [56] } }, 0, 56, 60, 0, 0, [], [], [], false, by decide +kernel⟩⟩

theorem witness_wornUnitsAreReplaced_2 :
    (∃ (s : State) (at_ : Nat) (e : Nat) (n : Nat) (c : Nat) (l : Nat) (ages : List Nat) (hot : List Nat) (ce : List (Nat × Nat)) (pass : Bool),
      s.Inv ∧ s.spr.proactive = some (e, n) ∧ servesIndex s e = some (c, l) ∧ e < 224 ∧ n < 224 ∧ e ≠ n ∧ classOfE n = c) ∧
    (∃ (s : State) (at_ : Nat) (e : Nat) (n : Nat) (c : Nat) (l : Nat) (ages : List Nat) (hot : List Nat) (ce : List (Nat × Nat)) (pass : Bool),
      s.Inv ∧ e < 224 ∧ ustate s e = 3 ∧ runningOn s e = none ∧ prefetchOn s e = none ∧ s.spr.entryTest.contains e = false ∧ s.flt.fifo.length <
      256) ∧
    (∃ (s : State) (at_ : Nat) (e : Nat) (n : Nat) (c : Nat) (l : Nat) (ages : List Nat) (hot : List Nat) (ce : List (Nat × Nat)) (pass : Bool),
      s.Inv ∧ e < 224 ∧ ustate s e = 3 ∧ runningOn s e = none ∧ prefetchOn s e = none ∧ s.spr.entryTest.contains e = true) :=
  ⟨⟨{ ({ (put st0 [(SPR_POLICY_PROACTIVE_EN, 1), (SPR_U_STATE_STATE 60, 1), (mapV 4 0, 1), (mapP 4 0, 0)]) with spr := { st0.spr with crossed := [56] } } : State) with spr := { st0.spr with proactive := some (56, 60) } }, 9, 56, 60, 4, 0, [], [], [], false, by decide +kernel⟩,
   ⟨(put st0 [(SPR_U_STATE_STATE 60, 3)]), 0, 60, 0, 0, 0, [], [], [], false, by decide +kernel⟩,
   ⟨{ put st0 [(SPR_U_STATE_STATE 60, 3)] with spr := { st0.spr with entryTest := [60] } }, 0, 60, 0, 0, 0, [], [], [], false, by decide +kernel⟩⟩

theorem witness_attestationDebugAndScan :
    (∃ (s : State) (brand : Nat) (ir : Nat), s.Inv ∧ fwDenies s 2 brand 1 SEC_ATT_CTRL.addr 4 = none ∧ flag s SEC_ATT_CTRL_BUSY = false) ∧
    (∃ (s : State) (brand : Nat) (ir : Nat), s.Inv ∧ fwDenies s 2 brand 1 SEC_ATT_CTRL.addr 4 = none ∧ flag s SEC_ATT_CTRL_BUSY = true ∧
      s.flt.fifo.length < 256) ∧
    (∃ (s : State) (brand : Nat) (ir : Nat) (a : _), s.Inv ∧ fwDenies s 2 brand 1 SEC_ATT_CTRL.addr 4 = none ∧ s.sec.att = some a) ∧
    (∃ (s : State) (brand : Nat) (ir : Nat) (a : _), s.Inv ∧ fwDenies s 2 brand 1 SEC_ATT_CTRL.addr 4 = none ∧ s.sec.att = some a ∧ Grants s 0 0x01
      1 a.1 1024 ∧ a.1 % 64 = 0 ∧ a.1 + 1024 ≤ anvilEnd ∧ NoErrs s ∧ InboxApart s a.1 1024) ∧
    (∃ (s : State) (brand : Nat) (ir : Nat), s.Inv ∧ fwDenies s 2 brand 1 SEC_ATT_CTRL.addr 4 = none ∧ tokenOk s (tokenBytes s) = false ∧
      s.flt.fifo.length < 256) :=
  ⟨⟨st0, 2, 0, by decide +kernel⟩,
   ⟨(put st0 [(SEC_ATT_CTRL_BUSY, 1)]), 2, 0, by decide +kernel⟩,
   ⟨{ (put st0 [(SEC_ATT_CTRL_BUSY, 1)]) with sec := { st0.sec with att := some (0x1000, [1]) } }, 2, 0, (0x1000, [1]), by decide +kernel⟩,
   ⟨{ (put (opened st0) [(SEC_ATT_CTRL_BUSY, 1)]) with sec := { st0.sec with att := some (0x1000, [1]) } }, 2, 0, (0x1000, [1]), by decide +kernel⟩,
   ⟨st0, 2, 0, by decide +kernel⟩⟩

theorem witness_attestationDebugAndScan_2 :
    (∃ (s : State) (brand : Nat) (ir : Nat), s.Inv ∧ fwDenies s 2 brand 1 SEC_ATT_CTRL.addr 4 = none ∧ tokenOk s (tokenBytes s) = true ∧ thState s
      7 ≠ 0) ∧
    (∃ (s : State) (brand : Nat) (ir : Nat), s.Inv ∧ fwDenies s 2 brand 1 SEC_ATT_CTRL.addr 4 = none ∧ tokenOk s (tokenBytes s) = true ∧ thState s
      7 = 0) ∧
    (∃ (s : State) (brand : Nat) (ir : Nat), s.Inv ∧ fwDenies s 2 brand 1 SEC_ATT_CTRL.addr 4 = none) :=
  ⟨⟨(put st0 ([(DBG_NONCE, 77), (FWL_TH_STATUS_STATE 7, 1)] ++ (List.range (goodToken.length / 4)).map (fun i => (DBG_TOKEN i, fldAt goodToken (4 *
    i) 4)))), 2, 0, ⟨by decide +kernel, by decide +kernel, goodToken_ok _ (by decide +kernel) (by decide +kernel) (by decide +kernel), by
    decide +kernel⟩⟩,
   ⟨(put st0 ([(DBG_NONCE, 77), (FWL_TH_STATUS_STATE 7, 0)] ++ (List.range (goodToken.length / 4)).map (fun i => (DBG_TOKEN i, fldAt goodToken (4 *
     i) 4)))), 2, 0, ⟨by decide +kernel, by decide +kernel, goodToken_ok _ (by decide +kernel) (by decide +kernel) (by decide +kernel), by
     decide +kernel⟩⟩,
   ⟨st0, 2, 3, by decide +kernel⟩⟩

theorem witness_thermalStepsTripsAndPps :
    (∃ (s : State) (at_ : Nat) (n : Nat) (highNs : Nat) (r : Nat) (rs : List Int), s.Inv) ∧
    (∃ (s : State) (at_ : Nat) (n : Nat) (highNs : Nat) (r : Nat) (rs : List Int), s.Inv ∧ s.thm.nextStep = some n ∧ n ≠ getF s CLK_ENG ∧ n < 4 ∧
      s.flt.fifo.length < 256) ∧
    (∃ (s : State) (at_ : Nat) (n : Nat) (highNs : Nat) (r : Nat) (rs : List Int), s.Inv ∧ r < 9 ∧ s.rst.reach = 0) ∧
    (∃ (s : State) (at_ : Nat) (n : Nat) (highNs : Nat) (r : Nat) (rs : List Int), s.Inv ∧ 50 ≤ highNs ∧ (∀ p, s.thm.ppsLast = some p → p +
      500000000 ≤ at_) ∧ at_ < 2 ^ 64) ∧
    (∃ (s : State) (at_ : Nat) (n : Nat) (highNs : Nat) (r : Nat) (rs : List Int), s.Inv ∧ highNs < 50) :=
  ⟨⟨st0, 1000, 0, 0, 0, [250, 300], by decide +kernel⟩,
   ⟨{ st0 with thm := { st0.thm with nextStep := some 2 } }, 0, 2, 0, 0, [], by decide +kernel⟩,
   ⟨{ st0 with rst := { st0.rst with reach := 0 } }, 0, 0, 0, 4, [], by decide +kernel⟩,
   ⟨st0, 777, 0, 80, 0, [], by decide +kernel⟩,
   ⟨st0, 777, 0, 20, 0, [], by decide +kernel⟩⟩

/- ### Well-formedness: an ill-formed command for each check, and a well-formed one of each kind -/

theorem test_illFormedCommandsAreRefused :
    ([.registerWrite 0x100 0x40400000 4 0 0, .registerWrite 2 (2 ^ 48) 4 0 0, .registerWrite 2 0x40400000 65 0 0, .registerWrite 2 0x40400000 4 (2
      ^ 32) 0,
      .rcRead 2 0 (2 ^ 32), .strokeInstant (2 ^ 64), .entryDue 0 256, .targetFix [2 ^ 32], .ringWpWrite 2 2 0, .networkDatagram 0 [256], .primSet 2,
      .buildStatic 9, .build 5, .expand 24, .strike 144, .merge 5, .refine 9, .assay 2, .copy 18, .digest 8, .strikeCut 0 2 [],
      .strikeCut 0 0 [(144, 1)], .inboxWrite 2 32 (List.replicate 64 0), .inboxWrite 2 0 [0], .gatherOffset 0 2, .quenchDeadline 0 [(9, 0, 0)],
      .canFrameSent 2 true, .doorbell 2 64 0, .commandAdmit 64, .taskPlace 9, .gateOpen 6, .engineTaskDone 8 8, .flowSkip 2 256, .modeReqRepro 2
        [(16, 0)],
      .anvilWriteback 65, .scrub 0 1088 false, .scrub 0 32 true, .mr4Poll 6 0 0, .mr4Poll 0 2 0, .ddrSrTimeout 0 64, .subResetEth 4, .linkTrain 0
        10 0,
      .retrain 4, .skpReceive 0 (List.replicate 10 0), .flitReceive 0 [], .controlFlit 0 [], .wr 0 (List.replicate 32 0) [[0]], .wack 0 [],
      .stroke 0 [], .workerAdmit 0 16 0, .thOpen 2 9 false, .faultRecord 0 0 8 0, .lockstepMismatch 3, .clockOutOfTol 0 0, .resetPinAssert 2,
      .releaseBegin 4 0, .billetVerify { raw := [256] } {}, .rpmbCheck { frame := [256] }, .emberQuickTest [234] [] 0, .ddrTrained 64,
        .selfTestDone [234] [],
      .osLoadDone [], .startFail 0, .writeSlot [] 0 2 0 [], .wearEval [] [9] [], .drainDone 224 true, .sensorUpdate 0 [], .thermalTrip 9,
      .memoryAccess 2 3 0 [] 0, .tapInstruction 16] : List Instr).all (fun i => !i.wf) = true := by decide +kernel

theorem test_wellFormedCommandsAreAccepted :
    ([.registerWrite 2 0x40400000 4 0 0, .strokeInEdge 5 60, .entryDue 0 255, .strike 143, .inboxWrite 2 31 (List.replicate 64 9),
      .wr 3 (List.replicate 32 0) [List.replicate 64 0], .billetVerify { raw := [1] } {}, .startFail 12, .completionRelease] : List Instr).all
        Instr.wf = true := by
  decide +kernel

/- ### Single steps and functions, with results from the spec's formulas -/

/-- R42, R46: an edge of 60 ns at 20,000,007 ns with a period of 10 ms is stroke 2, its instant 200 ns later (TARGET_NS at its reset). -/
theorem test_strokeInEdge :
    (match step { mgr with pending := [.strokeInEdge 20000007 60, .pwrGoodFall] } with
     | .next t => t.stk.awaiting == some (2, 20000007, 20000207) && t.pending == [.pwrGoodFall] | _ => false) = true := by decide +kernel

theorem test_emptyQueueIdles : step mgr = .next mgr := rfl

theorem test_noWordSpellsACommand : decodeTableWord 32 0 = none := by decide

/-- R341: x^16 = x^12 + x^3 + x + 1 in the field. -/
theorem test_alphaReduces : alpha 16 = 0x100B ∧ gfMul 0x8000 2 = 0x100B ∧ gfMul (gfInv 0x1234) 0x1234 = 1 := by decide +kernel

/-- R342: two wrong symbols are corrected, poison is not. -/
theorem test_lineCode :
    lineCheck ((List.replicate 37 0).set 36 5) = .corrected ((List.replicate 37 0).set 36 5) ∧
    lineCheck (List.replicate 37 0) = .clean ∧ lineCheck poison = .bad := by decide +kernel

/-- A word of the line code has no syndrome (R341, R342). -/
theorem test_checkField : lineCheck (codeword (List.range 64)) = .clean := by decide +kernel

/-- The published example of SM4, one block (R502). -/
theorem test_sm4Block :
    sm4Block (sm4Keys (beBytes 16 0x0123456789abcdeffedcba9876543210)) (beBytes 16 0x0123456789abcdeffedcba9876543210) =
      beBytes 16 0x681edf34d206965e86b3e94f536e4246 := by decide +kernel

/-- The published check values of CRC-32C and of SM3. -/
theorem test_digests :
    crc32c [0x31, 0x32, 0x33, 0x34, 0x35, 0x36, 0x37, 0x38, 0x39] = 0xE3069283 ∧
    sm3 [0x61, 0x62, 0x63] = beBytes 32 0x66C7F0F462EEEDD9D1F2D46BDC10E4E24167C4875CF2F7A2297DA02B8F4BA8E0 := by decide +kernel

/-- The published check value of SHA-256 (R505). -/
theorem test_sha256 :
    sha256 [0x61, 0x62, 0x63] = beBytes 32 0xBA7816BF8F01CFEA414140DE5DAE2223B00361A396177A9CB410FF61F20015AD := by decide +kernel

/-- The key pair and the decryption of GB/T 32918.5 (R493, R502). -/
theorem test_sm2 :
    sm2Public 0x3945208F7B2144B13F36E38AC6D39F95889393692860B51A42FB81EF4DF7C5B8 =
      beBytes 64 0x09F9DF311E5421A150DD7D161E4BC5C672179FAD1833FC076BB08FF356F35020CCEA490CE26775A52DC6EA718CC1AA600AED05FBF35E084A6632F6072DA9AD13 ∧
    sm2Decrypt 0x3945208F7B2144B13F36E38AC6D39F95889393692860B51A42FB81EF4DF7C5B8
      (beBytes 64 0x04EBFC718E8D1798620432268E77FEB6415E2EDE0E073C0F4F640ECD2E149A73E858F9D81E5430A57B36DAAB8F950A3C64E6EE6A63094D99283AFF767E124DF0 ++
        beBytes 32 0x59983C18F809E262923C53AEC295D30383B54E39D609D160AFCB1908D0BD8766 ++ beBytes 19 0x21886CA989CA9C7D58087307CA93092D651EFA) =
      some ("encryption standard".toList.map Char.toNat) := by decide +kernel

/-- R422: a write without a grant answers an error, leaves the register, and queues FWL 0x001. -/
theorem test_deniedWrite :
    (match exec (.registerWrite 0x20 BEL_CFG_OUT_EN.addr 4 1 0) mgr with
     | .next t => t.resp == .error && getF t BEL_CFG_OUT_EN == 0 && t.flt.fifo.map (·.code) == [1] | _ => false) = true := by decide +kernel

/-- R78, R132: heat numbers skip 0. -/
theorem test_latticeAgeWraps : latAge 1 0xFFFFFFFF = 1 ∧ latAge 7 4 = 3 := by decide +kernel

end Sys2Proof.Tests
end

section
/-! The rows of the table keep the canonical form, the number of links and the queue: one lemma per row with branches or several
operations, from the operations' own laws (Sys2Proof/Laws/Kept*.lean), then the dispatch. -/

namespace Sys2Proof.Machine

-- One proof at a time: proofs elaborated in parallel each take a thread's stack of the checker's memory.
set_option Elab.async false

/-- A command answers a next state, and one that is kept. -/
def NextKept (z : State) (o : Ans) : Prop := ∃ t, o = .next t ∧ Kept z t

section Rules

variable {z s t : State}

theorem NextKept.of (h : Kept z t) : NextKept z (.next t) := ⟨t, rfl, h⟩

theorem NextKept.ite {c : Prop} [Decidable c] {a b : Ans} (ha : NextKept z a) (hb : NextKept z b) :
    NextKept z (if c then a else b) := by
  split <;> assumption

/-- An update of other parts than the registers, the memory, the links and the queue. -/
theorem Kept.beside (h : Kept z s) (hr : t.regs = s.regs := by rfl) (hm : t.mem = s.mem := by rfl)
    (hl : t.ubf.links = s.ubf.links := by rfl) (hp : t.pending = s.pending := by rfl) : Kept z t :=
  ⟨fun w => hr ▸ h.regs w, fun w => hm ▸ h.mem w, fun w => hl ▸ h.links w, hp.trans h.pending⟩

/- `Kept.beside` for one part, in the form that finds the state under the update by unification, before any field is compared. -/

theorem Kept.withAsy (x : Asy) (h : Kept z s) : Kept z { s with asy := x } := h.beside

theorem Kept.withFree (x : Nat) (h : Kept z s) : Kept z { s with free := x } := h.beside

theorem Kept.withPeal (x : Peal) (h : Kept z s) : Kept z { s with peal := x } := h.beside

/-- The registers back at their reset values, memory, links and queue as before. -/
theorem Kept.clearedRegs (h : Kept z s) (hr : t.regs = [] := by rfl) (hm : t.mem = s.mem := by rfl)
    (hl : t.ubf.links = s.ubf.links := by rfl) (hp : t.pending = s.pending := by rfl) : Kept z t :=
  ⟨fun _ => by rw [hr]; rfl, fun w => hm ▸ h.mem w, fun w => hl ▸ h.links w, hp.trans h.pending⟩

end Rules

variable {z s : State} (h : Kept z s)
include h

theorem kept_newNonce : Kept z (newNonce s) := kept_setF _ _ _ (kept_fresh _ h)

/- ### The stroke, its source and REPRO mode (R40 to R55, R328 to R331) -/

theorem execStrokeInEdge_kept (at_ n : Nat) : NextKept z (execStrokeInEdge at_ n s) :=
  have a := kept_atTime s at_ h
  .ite (.of (kept_bump _ _ _ a)) <| .ite (.of (kept_ignoreEdge _ a)) <|
    .ite (.of (kept_ite (kept_requalify _ _ a) (kept_ignoreEdge _ a))) (.of (kept_filterEdge _ _ _ a))

theorem execStrokeInMissing_kept (at_ : Nat) : NextKept z (execStrokeInMissing at_ s) := by
  have a := kept_atTime s at_ h
  dsimp only [execStrokeInMissing]
  split
  · exact .ite (.of (kept_enterFlywheel _ _ _ a)) (.of a)
  · exact .of a

theorem execFlywheelStroke_kept (at_ : Nat) : NextKept z (execFlywheelStroke at_ s) := by
  have a := kept_atTime s at_ h
  dsimp only [execFlywheelStroke]
  split
  · exact .ite (.of (kept_beginStroke _ _ a)) (.of a)
  · exact .of a

theorem execComputedStroke_kept (at_ : Nat) : NextKept z (execComputedStroke at_ s) :=
  have a := kept_atTime s at_ h
  .ite (.of (kept_beginStroke _ _ a)) (.of a)

theorem execGptpLost_kept (at_ : Nat) : NextKept z (execGptpLost at_ s) := by
  have a := kept_atTime s at_ h
  have b := kept_setF _ CAR_STATUS_GPTP_VALID 0 a
  refine .ite (.of a) <| .ite (.of b) <| .of (kept_sendFault _ _ _ _ _ (kept_ite (kept_setSource _ _ ?_) ?_))
  all_goals exact kept_setF _ _ _ b.beside

theorem execHoldoverExpired_kept (at_ : Nat) : NextKept z (execHoldoverExpired at_ s) :=
  have a := kept_atTime s at_ h
  .ite (.of a) <| .ite (.of (kept_strokeLoss _ a)) <| .ite (.of (kept_sendFault _ _ _ _ _ a.beside)) (.of a)

theorem execGptpRestored_kept (r : GptpTime) : NextKept z (execGptpRestored r s) := by
  have a := kept_atTime s r.at_ h
  have b := kept_followGptp _ r.gptp (kept_endHold _ a)
  refine .ite (.of a) <| .of (kept_computeStarts _ (kept_ite (kept_sendFault _ _ _ _ _ (kept_setSource _ _ ?_)) ?_))
  all_goals exact kept_setF _ _ _ b.beside

theorem execStrokeInstant_kept (at_ : Nat) : NextKept z (execStrokeInstant at_ s) := by
  have a := kept_atTime s at_ h
  dsimp only [execStrokeInstant]
  split
  · exact .ite (.of a) <| .ite (.of (kept_enterRepro _ _ _ _ a)) (.of (kept_serviceStroke _ _ _ _ a))
  · exact .of a

theorem execReproStroke_kept (at_ : Nat) : NextKept z (execReproStroke at_ s) := by
  have a := kept_atTime s at_ h
  dsimp only [execReproStroke]
  split
  · exact .ite (.of a) <| .ite (.of (kept_exitRepro _ _ _ _ a)) (.of (kept_newStroke _ _ _ _ a))
  · exact .of a

theorem execReproEnter_kept (at_ : Nat) : NextKept z (execReproEnter at_ s) := by
  have a := kept_atTime s at_ h
  dsimp only [execReproEnter]
  split
  · exact .ite (.of (kept_enterRepro _ _ _ _ a)) (.of a)
  · exact .of a

theorem execReproExit_kept (at_ : Nat) : NextKept z (execReproExit at_ s) := by
  have a := kept_atTime s at_ h
  dsimp only [execReproExit]
  split
  · exact .ite (.of (kept_exitRepro _ _ _ _ a)) (.of a)
  · exact .of a

/- ### The Carillon (R56 to R64) -/

theorem execEntryDue_kept (at_ i : Nat) : NextKept z (execEntryDue at_ i s) :=
  .of (kept_compareUnits _ _ (kept_atTime s at_ h)).beside

theorem execLaunchStart_kept (at_ : Nat) : NextKept z (execLaunchStart at_ s) := by
  have a := fun b => kept_compareUnits (atTime s at_) b (kept_atTime s at_ h)
  dsimp only [execLaunchStart]
  split
  · split
    · exact .of (kept_launchEntry _ _ _ (kept_settleShadow _ _ (a _)))
    · exact .of (kept_launchEntry _ _ _ (a _))
  · split
    · exact .of (kept_settleShadow _ _ (a _))
    · exact .of (a _)

theorem execLaunchCopyDone_kept (at_ : Nat) : NextKept z (execLaunchCopyDone at_ s) := by
  have a := kept_atTime s at_ h
  dsimp only [execLaunchCopyDone]
  split
  · exact .of a
  · exact .of (kept_reportDrained _ (kept_ringDoorbell _ _ _ _ a).beside)

theorem execLaunchLate_kept (at_ i : Nat) : NextKept z (execLaunchLate at_ i s) := by
  have a := fun b => kept_compareUnits (atTime s at_) b (kept_atTime s at_ h)
  refine .of (kept_ite (kept_sendFault _ _ _ _ _ (kept_bump _ _ _ (kept_settleEntry _ _ ?_))) ?_)
  all_goals exact kept_ite (kept_settleShadow _ _ (a _)) (a _)

/- ### The Bell line and its calibration (R65 to R73) -/

theorem execBellEdge_kept (at_ n : Nat) : NextKept z (execBellEdge at_ n s) := by
  have a := kept_atTime s at_ h
  have b : ∀ c : Prop, [Decidable c] → Kept z (if c then bellPulse (atTime s at_) (at_ + 35) n 5 else atTime s at_) :=
    fun _ _ => kept_ite (kept_bellPulse _ _ _ _ a) a
  dsimp only [execBellEdge]
  refine .ite (.of a) <| .ite (.of (b _)) <| .ite (.ite (.of (kept_ignoreBell _ (b _))) ?_)
    (.of (kept_ite (kept_bellStroke _ _ (b _)) (kept_ignoreBell _ (b _))))
  split
  · exact .of (kept_returnCheck _ _ _ (b _))
  · exact .of (b _).beside

theorem execBellMissing_kept (at_ : Nat) : NextKept z (execBellMissing at_ s) :=
  have a := kept_atTime s at_ h
  .ite (.of (kept_loseBell _ a)) (.of a)

theorem execStroke_kept (at_ : Nat) (hdr : List Nat) : NextKept z (execStroke at_ hdr s) :=
  have a := kept_syncDown _ hdr (kept_atTime s at_ h)
  .ite (.of (kept_forward _ _ _ a)) <| .ite (.of (kept_strokeMessage _ _ _ _ a)) (.of a)

theorem execStrokeMessageLate_kept (at_ : Nat) : NextKept z (execStrokeMessageLate at_ s) := by
  have a := kept_atTime s at_ h
  dsimp only [execStrokeMessageLate]
  split
  · exact .ite (.of (kept_messageLate _ a)) (.of a)
  · exact .of a

theorem execCalWindowOpen_kept (at_ : Nat) : NextKept z (execCalWindowOpen at_ s) :=
  have a := kept_atTime s at_ h
  .ite (.of a) <| .of <| kept_foldl _ _ _ (kept_fresh _ a.beside) fun _ _ b =>
    kept_foldl _ _ _ (kept_bellPulse _ _ _ _ b) fun _ _ c => kept_sendSync _ _ _ _ _ c

theorem execCalPulse_kept (at_ n : Nat) : NextKept z (execCalPulse at_ n s) :=
  have a := kept_atTime s at_ h
  .ite (.of a) <| .ite (.of (kept_bellPulse _ _ _ _ a)) (.of (kept_calibrate _ a.beside))

theorem execCal_kept (at_ : Nat) (hdr : List Nat) : NextKept z (execCal at_ hdr s) :=
  have a := kept_syncDown _ hdr (kept_atTime s at_ h)
  .ite (.of (kept_forward _ _ _ a)) <| .ite (.of a) <| .ite (.of a.beside) <| .ite (.of a) (.of (kept_calibrate _ a.beside))

theorem execTargetFix_kept (ds : List Nat) : NextKept z (execTargetFix ds s) :=
  .ite (.of h) <| .of <| kept_foldl _ _ _ (kept_sendSyncAll _ _ _ _ (kept_setF _ _ _ h.beside)) fun _ _ b => kept_sendSync _ _ _ _ _ b

/- ### The world, the fields and the Peal (R77 to R138) -/

theorem execWorldSeal_kept (at_ : Nat) : NextKept z (execWorldSeal at_ s) :=
  have a := kept_atTime s at_ h
  .ite (.of a) (.of (kept_ite (kept_sealDeferring _ a) a).beside)

theorem execSealMaxExpired_kept (at_ : Nat) : NextKept z (execSealMaxExpired at_ s) :=
  have a := kept_atTime s at_ h
  .ite (.of (kept_sealDeferring _ a)) (.of a)

theorem execSealComplete_kept (at_ : Nat) : NextKept z (execSealComplete at_ s) :=
  have a := kept_atTime s at_ h
  .ite (.of (kept_sealHeat _ a)) (.of a)

theorem execCrucibleDrainEnd_kept (u : Nat) : NextKept z (execCrucibleDrainEnd u s) := by
  unfold execCrucibleDrainEnd
  split
  · exact .of (kept_ite (kept_crucibleRun _ _ _ h) h)
  · exact .of h

theorem execPealSelectOfs_kept (at_ : Nat) : NextKept z (execPealSelectOfs at_ s) :=
  have a := kept_atTime s at_ h
  .ite (.of a) (.of (kept_selectOld _ a))

theorem execPealEnd_kept (at_ : Nat) : NextKept z (execPealEnd at_ s) := by
  have a := kept_atTime s at_ h
  have b := fun l => kept_foldl timeUp l _ a fun _ _ c => kept_timeUp _ _ c
  exact .ite (.of a) <| .of (.withPeal _ (kept_sendFault _ _ _ _ _ (kept_bump _ _ _ (kept_ite (kept_setF _ _ _ (b _)) (b _)))))

/- ### The engines (R139 to R253, R316 to R322) -/

theorem execStrike_kept (u : Nat) : NextKept z (execStrike u s) := by
  unfold execStrike
  split
  · refine .ite (.of (kept_runStrike _ _ _ h)) ?_
    split
    · exact .of (kept_runStrike _ _ _ (kept_noteStrike _ _ h))
    · exact .of h
  · exact .of h

theorem execStrikeCut_kept (at_ k : Nat) (done : List (Nat × Nat)) : NextKept z (execStrikeCut at_ k done s) :=
  have a := kept_atTime s at_ h
  .ite (.of a) <| .of (kept_openGate _ _ (kept_foldl _ _ _ a fun _ _ b => kept_cutOne _ _ _ b))

theorem execHammerGolden_kept (u : Nat) : NextKept z (execHammerGolden u s) := by
  unfold execHammerGolden
  split
  · exact .of (kept_finishWork _ _ _ (kept_noteStrike _ _ h))
  · exact .of h

theorem execTongsGolden_kept (u : Nat) : NextKept z (execTongsGolden u s) := by
  unfold execTongsGolden
  split
  · exact .of h
  · exact .of (kept_taskRan _ _ _ _ (kept_applyWork _ _ _ (kept_applyWork _ _ _ h)))

theorem execInboxWrite_kept (b k : Nat) (l : List Nat) : NextKept z (execInboxWrite b k l s) :=
  .ite (.of (kept_answer _ _ h)) (.of (kept_answer _ _ (kept_storeBrand _ _ _ _ h)))

theorem execGatherOffset_kept (at_ k : Nat) : NextKept z (execGatherOffset at_ k s) :=
  have a := kept_atTime s at_ h
  .ite (.of a) (.of (kept_openGate _ _ a))

theorem execRefine_kept (u : Nat) : NextKept z (execRefine u s) := by
  unfold execRefine
  split
  · exact .of (kept_runRefine _ _ _ _ h)
  · exact .of h

theorem execQuenchDeadline_kept (at_ : Nat) (ps : List (Nat × Nat × Nat)) : NextKept z (execQuenchDeadline at_ ps s) :=
  have a := kept_atTime s at_ h
  .ite (.of a) <| .of (kept_foldl _ _ _ (kept_openGate _ _ a) fun _ _ b => kept_runRefine _ _ _ _ b)

theorem execCopy_kept (u : Nat) : NextKept z (execCopy u s) := by
  unfold execCopy
  split
  · exact .of (kept_copyTask _ _ h)
  · exact .of h

theorem execFill_kept (u : Nat) : NextKept z (execFill u s) := by
  unfold execFill
  split
  · exact .of (kept_endMove _ _ (kept_fillGo _ _ _ _ _ _ h))
  · exact .of h

theorem execListPush_kept (u : Nat) : NextKept z (execListPush u s) := by
  unfold execListPush
  split
  · exact .of (kept_pushTask _ _ h)
  · exact .of h

theorem execBellowsGolden_kept (u : Nat) : NextKept z (execBellowsGolden u s) := by
  unfold execBellowsGolden
  split
  · exact .of (kept_bellowsGold _ _ h)
  · exact .of h

theorem execDigest_kept (u : Nat) : NextKept z (execDigest u s) := by
  unfold execDigest
  split
  · exact .of (kept_digestTask _ _ h)
  · exact .of h

/- ### The Assay and the plan (R257 to R284) -/

theorem execAssay_kept (u : Nat) : NextKept z (execAssay u s) := by
  unfold execAssay
  split
  · exact .of (kept_assayTask _ _ h)
  · exact .of h

theorem execAssayGolden_kept (u : Nat) : NextKept z (execAssayGolden u s) := by
  unfold execAssayGolden
  split
  · exact .of (kept_assayGoldTask _ _ h)
  · exact .of h

theorem execAssayLoadDone_kept (at_ : Nat) : NextKept z (execAssayLoadDone at_ s) := by
  have a := kept_atTime s at_ h
  have b := fun l => kept_foldl (fun s (r : Option (List Nat) × List Note) => notesFx s r.2) l _ a fun _ _ c => kept_notesFx _ _ c
  refine .ite (.of a) <| .of (kept_ite ?_ (kept_inconsistent _ ?_))
  all_goals
    exact kept_showAssay _ (kept_setF _ _ _ (.withAsy _ (kept_setF _ _ _ (kept_bump _ _ _
      (kept_asyStore _ _ _ (kept_asyStore _ _ _ (kept_asyStore _ _ _ (kept_asyStore _ _ _ (b _)))))))))

theorem execAssayGridDone_kept (at_ : Nat) : NextKept z (execAssayGridDone at_ s) := by
  have a := kept_atTime s at_ h
  refine .ite (.of a) <| .of (kept_ite (kept_doubt _ ?_) ?_)
  all_goals
    exact kept_showAssay _ (.withAsy _ (kept_setF _ _ _ (kept_setF _ _ _ (kept_setF _ _ _ (kept_asyStore _ _ _
      (.withFree _ (kept_asyStore _ _ _ (kept_notesFx _ _ a))))))))

theorem execAssayFreeze_kept (at_ : Nat) : NextKept z (execAssayFreeze at_ s) :=
  have a := kept_atTime s at_ h
  .ite (.of a) <| .of (kept_decideCase _ (kept_goldenAtFreeze _ (kept_endWatch _ (kept_ite (kept_watchAll _ _ a) a))))

theorem execPlanDue_kept (at_ : Nat) : NextKept z (execPlanDue at_ s) := by
  have a := kept_atTime s at_ h
  dsimp only [execPlanDue]
  refine .ite (.of (kept_warmDue _ a)) <| .ite (.of a) <| .ite ?_ ?_
  · split
    · exact .of (kept_settlePlan _ _ a.beside)
    · exact .of a.beside
  · split
    · exact .of (kept_asyFault _ _ _ (kept_bump _ _ _ a.beside))
    · exact .of (kept_settlePlan _ _ (kept_sendPlan _ _ _ a.beside))

theorem execStopPlanRepeat_kept (at_ : Nat) : NextKept z (execStopPlanRepeat at_ s) :=
  have a := kept_atTime s at_ h
  .ite (.of a) <| .of (kept_settlePlan _ _ (kept_handOver _ _ (kept_nodeHammers _ a)))

theorem execCanFrameSent_kept (c : Nat) (ok : Bool) : NextKept z (execCanFrameSent c ok s) :=
  .ite (.of h) <| .ite (.of h.beside) <| .ite (.of h.beside) (.of h)

/- ### The Tabor (R289 to R315) -/

theorem execTaskPlace_kept (c : Nat) : NextKept z (execTaskPlace c s) := .ite (.of h) (.of (kept_placeGo _ _ _ h))

theorem execEngineTaskDone_kept (c u : Nat) : NextKept z (execEngineTaskDone c u s) := by
  unfold execEngineTaskDone
  refine .ite (.of h) ?_
  split
  · exact .ite (.of (kept_doneFx _ _ (kept_taskLeaves _ _ _ h))) (.of h)
  · exact .of h

theorem execCompletionRelease_kept : NextKept z (execCompletionRelease s) := by
  unfold execCompletionRelease
  split
  · exact .of (kept_reportDrained _ (kept_release _ _ h))
  · exact .of h

theorem execGoldenCompare_kept (g : Nat) : NextKept z (execGoldenCompare g s) := by
  unfold execGoldenCompare
  split
  · exact .ite (.of h) <| .ite (.of (kept_ite h.beside h)) (.of (kept_goldenFail _ _ h))
  · exact .of h

/- ### The Anvil and the DDR (R341 to R373) -/

theorem execBankRetire_kept : NextKept z (execBankRetire s) := by
  unfold execBankRetire
  refine .ite (.of h) ?_
  split
  · exact .of h
  · split
    · exact .of (kept_noSpareBank _ _ h)
    · exact .of (kept_setF _ _ _ (kept_setF _ _ _ (kept_setF _ _ _ h))).beside

theorem execBankSwitch_kept (at_ : Nat) : NextKept z (execBankSwitch at_ s) := by
  have a := kept_atTime s at_ h
  dsimp only [execBankSwitch]
  split
  · exact .ite (.of (kept_switchBank _ _ _ _ a)) (.of a)
  · exact .of a

theorem execMr4Poll_kept (c r v : Nat) : NextKept z (execMr4Poll c r v s) :=
  .ite (.of h) (.of (kept_setF _ _ _ (kept_setF _ _ _ h)))

theorem execDdrSrTimeout_kept (at_ m : Nat) : NextKept z (execDdrSrTimeout at_ m s) :=
  have a := kept_atTime s at_ h
  .ite (.of a) (.of (kept_foldl _ _ _ a fun _ _ b => kept_setF _ _ _ b).beside)

theorem execSubResetDdr_kept (c : Nat) (ok : Bool) : NextKept z (execSubResetDdr c ok s) :=
  have a := kept_subDone _ c (kept_sendFault _ 0x15 0x004 0 (c * 2) (kept_bump _ (DDR_CH_RETRAIN c) 1 h))
  .ite (.of h) (.of (kept_ite a (kept_loseChannel _ _ a)))

/-- A sweep drops the DDR's bytes, error patterns and tags (R455). -/
theorem execDdrSweepDone_kept : NextKept z (execDdrSweepDone s) :=
  .ite (.of h) <| .of <| kept_takeForService _
    ⟨h.regs, fun w => by
      have m := h.mem w
      simp only [Memory.wf, Bool.and_eq_true] at m ⊢
      obtain ⟨⟨⟨hc, he⟩, hf⟩, hx⟩ := m
      exact ⟨⟨⟨swf_filter _ _ _ hc, swf_filter _ _ _ he⟩, hf⟩, hx⟩, h.links, h.pending⟩

/- ### The links (R374 to R402) -/

theorem execLinkTrain_kept (l x y : Nat) : NextKept z (execLinkTrain l x y s) :=
  have a := kept_spareLane _ l y (UBF_L_STATUS_RX_BAD l) (kept_spareLane _ l x (UBF_L_STATUS_TX_BAD l) h)
  .ite (.of h) (.of (kept_ite (kept_setF _ _ _ a) (kept_linkComesUp _ _ a)))

theorem execRetrainFail_kept (at_ l : Nat) : NextKept z (execRetrainFail at_ l s) :=
  have a := kept_atTime s at_ h
  .ite (.of a) (.of (kept_ite (kept_linkDown _ _ a) (kept_setLnk _ _ _ a)))

theorem execSyncTimeout_kept (at_ l : Nat) : NextKept z (execSyncTimeout at_ l s) :=
  have a := kept_atTime s at_ h
  .ite (.of a) (.of (kept_linkDown _ _ (kept_sendFault _ _ _ _ _ a)))

theorem execSkpReceive_kept (l : Nat) (es : List Nat) : NextKept z (execSkpReceive l es s) := by
  dsimp only [execSkpReceive]
  refine .ite (.of h) ?_
  split
  · exact .of (kept_setLnk _ _ _ (kept_bump _ _ _ h))
  · exact .of (kept_startRetrain _ _ (kept_setLnk _ _ _ (kept_setLnk _ _ _ (kept_bump _ _ _ h))))

theorem execReplayTimeout_kept (l : Nat) : NextKept z (execReplayTimeout l s) :=
  .ite (.of h) (.of (kept_replay _ _ (kept_sendFault _ _ _ _ _ (kept_bump _ _ _ h))))

theorem execWr_kept (l : Nat) (hdr : List Nat) (ls : List (List Nat)) : NextKept z (execWr l hdr ls s) :=
  have a := kept_takeMsg _ l hdr (lineFlits ls) h
  .ite (.of h) <| .ite (.of (kept_forward _ _ _ a)) <| .ite (.of (kept_respond _ _ _ _ _ a))
    (.of (kept_respond _ _ _ _ _ (kept_wrGo _ _ _ _ _ _ a)))

theorem execRd_kept (l : Nat) (hdr : List Nat) : NextKept z (execRd l hdr s) :=
  have a := kept_takeMsg _ l hdr [] h
  have b := kept_readGo _ (0x50 + hOrigin hdr) (hArg hdr / 64) (hAddr hdr) (hArg hdr) a
  .ite (.of h) <| .ite (.of (kept_forward _ _ _ a)) <| .ite (.of (kept_respond _ _ _ _ _ a))
    (.of (kept_ite (kept_respond _ _ _ _ _ b) (kept_respond _ _ _ _ _ b)))

theorem execWack_kept (l : Nat) (hdr : List Nat) : NextKept z (execWack l hdr s) := by
  have a := kept_takeMsg _ l hdr [] h
  dsimp only [execWack]
  refine .ite (.of h) <| .ite (.of (kept_forward _ _ _ a)) ?_
  split
  · exact .of a
  · exact .of (kept_ite (kept_remoteOk _ _ _ a) (kept_remoteError _ _ a))

theorem execRdr_kept (l : Nat) (hdr : List Nat) (ls : List (List Nat)) : NextKept z (execRdr l hdr ls s) := by
  have a := kept_takeMsg _ l hdr (lineFlits ls) h
  dsimp only [execRdr]
  refine .ite (.of h) <| .ite (.of (kept_forward _ _ _ a)) ?_
  split
  · exact .of a
  · exact .of (kept_ite (kept_remoteOk _ _ _ a) (kept_remoteError _ _ a))

theorem execRemoteTimeout_kept (g : Nat) : NextKept z (execRemoteTimeout g s) := by
  unfold execRemoteTimeout
  split
  · exact .of h
  · exact .of (kept_remoteError _ _ h)

theorem execTimeReq_kept (at_ l : Nat) (hdr : List Nat) : NextKept z (execTimeReq at_ l hdr s) :=
  have a := kept_noteSync _ l (kept_takeMsg _ l hdr [] (kept_atTime s at_ h))
  .ite (.of (kept_forward _ _ _ a)) <| .ite (.of (kept_sendSync _ _ _ _ _ a)) (.of a)

theorem execTimeRsp_kept (at_ l : Nat) (hdr : List Nat) : NextKept z (execTimeRsp at_ l hdr s) :=
  have a := kept_noteSync _ l (kept_takeMsg _ l hdr [] (kept_atTime s at_ h))
  .ite (.of (kept_forward _ _ _ a)) <| .ite (.of a) <| .ite (.of (kept_askTime _ a.beside))
    (.of (kept_setVehicleTime _ _ _ _ (kept_setF _ _ _ a.beside)))

theorem execHeartbeat_kept (l : Nat) : NextKept z (execHeartbeat l s) := by
  unfold execHeartbeat
  refine .ite (.of h) ?_
  split
  · exact .of (kept_noteSync _ _ (kept_ite (kept_takeMsg _ _ _ _ h) h))
  · exact .of (kept_noteSync _ _ h)

theorem execHeartbeatTick_kept (at_ : Nat) : NextKept z (execHeartbeatTick at_ s) :=
  .of <| kept_foldl _ _ _ (kept_atTime s at_ h) fun _ _ a => kept_ite (kept_sendMsg _ _ _ _ a) a

theorem execLinkId_kept (l : Nat) (hdr : List Nat) : NextKept z (execLinkId l hdr s) :=
  have a := kept_setF _ (UBF_L_STATUS_PEER_VALID l) 1 (kept_setF _ (UBF_L_STATUS_PEER l) (hAddr hdr)
    (kept_noteSync _ l (kept_takeMsg _ l hdr [] h)))
  .ite (.of h) <| .ite (.of (kept_ite (kept_askTime _ a.beside) a)) <| .ite (.of (kept_setLnk _ _ _ a))
    (.of (kept_sendFault _ _ _ _ _ (kept_setF _ _ _ (kept_setLnk _ _ _ a))))

theorem execAdmitMessage_kept (at_ : Nat) (hdr : List Nat) : NextKept z (execAdmitMessage at_ hdr s) :=
  have a := kept_syncDown _ hdr (kept_atTime s at_ h)
  .ite (.of (kept_ite (kept_joinNode _ _ _ a) a)) (.of (kept_forward _ _ _ (kept_ite (kept_admitNode _ _ a) a)))

theorem execWorkerAdmit_kept (at_ n d : Nat) : NextKept z (execWorkerAdmit at_ n d s) :=
  have a := kept_atTime s at_ h
  have b := kept_sendSync _ 0x17 n (targetNs (atTime s at_)) (atTime s at_).stk.no (kept_admitNode _ n a)
  .ite (.of a) <| .ite (.of (kept_ite (kept_sendSync _ _ _ _ _ b) b)) (.of (kept_ite (kept_sendSync _ _ _ _ _ a) a))

theorem execMode_kept (l : Nat) (hdr : List Nat) : NextKept z (execMode l hdr s) :=
  have a := kept_noteSync _ l (kept_takeMsg _ l hdr [] h)
  .ite (.of h) <| .ite (.of (kept_forward _ _ _ a)) (.of (kept_ite (kept_modeAtManager _ _ a) (kept_modeAtWorker _ _ a)))

/- ### Faults and groups (R425 to R440) -/

theorem execLockstepMismatch_kept (p : Nat) : NextKept z (execLockstepMismatch p s) := by
  unfold execLockstepMismatch
  refine .ite (.of h) (.of ?_)
  dsimp only
  split
  · exact kept_loseRole _ _ h.beside
  · exact h.beside

theorem execPairTakeoverDone_kept : NextKept z (execPairTakeoverDone s) := by
  unfold execPairTakeoverDone
  split
  · exact .of h
  · exact .of (kept_showPins _ h.beside)

theorem execColdEscalate_kept : NextKept z (execColdEscalate s) := .ite (.of h) (.of (kept_assertSource _ _ _ h))

theorem execThTimeout_kept (g : Nat) : NextKept z (execThTimeout g s) :=
  .ite (.of h) (.of (kept_sendFault _ _ _ _ _ (kept_thEnd _ _ _ h)))

/- ### Reset episodes and clocks (R441 to R452) -/

theorem execResetPinAssert_kept (p : Nat) : NextKept z (execResetPinAssert p s) :=
  .ite (.of h) (.of (kept_assertSource _ _ _ (kept_holdSource _ _ (kept_ite (kept_sendFault _ _ _ _ _ h) h))))

theorem execResetPinRelease_kept (p : Nat) : NextKept z (execResetPinRelease p s) :=
  .ite (.of h) <| .ite (.of (kept_freeSource _ _ (kept_ite (kept_endScan _ h) h)))
    (.of (kept_sendFault _ _ _ _ _ (kept_bump _ _ _ h)))

theorem execPwrGoodFall_kept : NextKept z (execPwrGoodFall s) := .of (kept_coldState _ h).clearedRegs

theorem execPwrGoodRise_kept : NextKept z (execPwrGoodRise s) := .ite (.of h) (.of (kept_endScan _ h).clearedRegs)

theorem execReleaseBegin_kept (r n : Nat) : NextKept z (execReleaseBegin r n s) :=
  have a : Kept z (countEpisode { s with rst := { s.rst with released := true } }) := kept_countEpisode _ h.beside
  have b := kept_newNonce (kept_setF _ RST_CAUSE_REACH _ (kept_setF _ RST_CAUSE _ a))
  .ite (.of h) <| .ite (.of (kept_latchStraps _ _ _ b)) (.of (kept_showLost _ (kept_setF _ _ _ b)))

theorem execClockOutOfTol_kept (d k : Nat) : NextKept z (execClockOutOfTol d k s) :=
  have a := kept_setF _ (CLK_D_FREQ d) k h
  have b := kept_bump _ (CLK_D_OOT d) 1 (kept_setF _ (CLK_D_STATUS_OUT_TOL d) 1 a)
  .ite (.of h) <| .ite (.of a) (.of (kept_ite (kept_sendFault _ _ _ _ _ b) (kept_sendFault _ _ _ _ _ b)))

theorem execDomainQualified_kept (d k : Nat) : NextKept z (execDomainQualified d k s) :=
  .ite (.of h) <| .ite (.of (kept_setF _ _ _ (kept_setF _ _ _ h))) <| .ite (.of h) <|
    .of (kept_endEpisode _ (kept_phase5 _ (kept_bootRuns _ (kept_setF _ _ _ (kept_setF _ _ _ (kept_setF _ _ _ (kept_setF _ _ _ h)))))))

theorem execDomainQualTimeout_kept (d : Nat) : NextKept z (execDomainQualTimeout d s) :=
  have a := kept_setF _ (CLK_D_STATUS_FAILED d) 1 h
  .ite (.of h) <| .ite (.of a.beside) (.of (kept_endEpisode _ (kept_ite (kept_startFails _ _ a) a)))

theorem execClockFailRetry_kept : NextKept z (execClockFailRetry s) :=
  .ite (.of h) (.of (kept_latchStraps _ _ _ (kept_newNonce (kept_coldState _ h).beside)))

/- ### The start (R453 to R475, R496 to R506) -/

theorem execBilletVerify_kept (a b : SlotImage) : NextKept z (execBilletVerify a b s) :=
  .ite (.of h) <| .ite (.of (kept_useSlot _ _ _ h.beside)) <| .ite (.of (kept_useSlot _ _ _ h.beside)) (.of h.beside)

theorem execJournalDecide_kept : NextKept z (execJournalDecide s) :=
  have a := kept_closeAttempt _ (kept_mergeCopy _ h)
  .ite (.of h) <| .ite (.of (kept_ite (kept_comeUpBanked _ a) (kept_beginAttempt _ a))) (.of (kept_decideCold _ a))

theorem execRpmbCheck_kept (r : RpmbAnswer) : NextKept z (execRpmbCheck r s) := by
  unfold execRpmbCheck
  refine .ite (.of h) ?_
  split
  · exact .of h
  · exact .ite (.of (kept_accept _ _ h)) <| .ite (.of (kept_startFails _ _ h)) <|
      .ite (.of (kept_accept _ _ h.beside)) (.of (kept_tryOther _ h.beside))

theorem execStartCommit_kept (m : Bool) : NextKept z (execStartCommit m s) :=
  .ite (.of h) <| .ite (.of (kept_phase5 _ (kept_setF _ _ _ (kept_foldl _ _ _ h fun _ _ a => kept_startGroup _ _ a))))
    (.of (kept_startFails _ _ (kept_sendFault _ _ _ _ _ (kept_thResult _ _ _ h))))

theorem execEmberQuickTest_kept (p b : List Nat) (ms : Nat) : NextKept z (execEmberQuickTest p b ms s) := by
  have a := kept_placeGolden _ (kept_loadTables _ (kept_foldl retireAtStart b _ (kept_setF _ RST_START_PHASE 6 h)
    fun _ _ a => kept_retireAtStart _ _ a))
  exact .ite (.of h) <| .ite (.of a.beside) <| .ite (.of (kept_startEmber _ _ _ a.beside))
    (.of (kept_sendFault _ _ _ _ _ (kept_setF _ _ _ a.beside)))

theorem execDdrTrained_kept (m : Nat) : NextKept z (execDdrTrained m s) := by
  have a := kept_foldl (fun s c => setF (setF s (DDR_CH_STATUS_ACTIVE c) 0) (DDR_CH_STATUS_TRAINED c) 0) (List.range 6) s h
    fun _ _ b => kept_setF _ _ _ (kept_setF _ _ _ b)
  refine .ite (.of h) <| .ite (.of (kept_startFails _ _ h)) (.of (kept_takeForService _ (kept_ite (kept_zeroRings _ _ ?_) ?_)))
  all_goals exact (kept_raisePhase _ _ (kept_setActive _ _ _ a)).beside

theorem execSelfTestDone_kept (f ages : List Nat) : NextKept z (execSelfTestDone f ages s) := by
  have a := kept_foldl (testUnit f) (List.range 234) _ (kept_measureAges _ ages h) fun _ _ b => kept_testUnit _ _ _ b
  have b := fun x => kept_foldl recount gradeClasses
    { (List.range 234).foldl (testUnit f) (measureAges s ages) with start := x } a.beside fun _ _ c => kept_recount _ _ c
  have c := fun x => kept_raisePhase _ 9 (kept_foldl startExhausted gradeClasses _ (b x) fun _ _ d => kept_startExhausted _ _ d)
  exact .ite (.of h) <| .ite (.of (kept_startFails _ _ (b _))) (.of (kept_ite (kept_takeForService _ (kept_mapAll _ (c _))) (c _)))

theorem execOsLoadDone_kept (d : List Nat) : NextKept z (execOsLoadDone d s) :=
  .ite (.of h) <| .ite (.of (kept_takeForService _ (kept_raisePhase _ _ h.beside))) (.of (kept_startFails _ _ h))

theorem execFullService_kept (at_ ms : Nat) (ok : Bool) : NextKept z (execFullService at_ ms ok s) :=
  have a := kept_atTime s at_ h
  .ite (.of a) <| .of (kept_writeWear _ (kept_computeStarts _ (kept_advance _ _ (kept_sendFault _ _ _ _ _
    (kept_writeRec _ _ (kept_enterService _ _ _ a))))))

theorem execBankedReport_kept (at_ : Nat) : NextKept z (execBankedReport at_ s) :=
  have a := kept_atTime s at_ h
  .ite (.of a) (.of (kept_sendCan _ _ _ (kept_fresh _ (kept_fresh _ a)).beside))

theorem execClearJournal_kept (o : List Nat) (n : Nat) : NextKept z (execClearJournal o n s) :=
  .ite (.of h) (.of (kept_writeRec _ _ h).beside)

theorem execWriteSlot_kept (o : List Nat) (n k off : Nat) (bs : List Nat) : NextKept z (execWriteSlot o n k off bs s) :=
  .ite (.of h) <| .ite (.of h.beside) (.of h.beside)

/- ### Spares, attestation, heat and pulses (R476 to R489, R513, R533 to R543) -/

theorem execProactiveStart_kept (p : Bool) : NextKept z (execProactiveStart p s) := by
  unfold execProactiveStart
  refine .ite (.of h) ?_
  split
  · exact .of h
  · exact .ite (.of (kept_setF _ _ _ h.beside)) (.of (kept_noteExhausted _ _ _ (kept_recount _ _ (kept_leaveService _ _ _ h.beside))))

theorem execDrainDone_kept (e : Nat) (p : Bool) : NextKept z (execDrainDone e p s) := by
  refine .ite (.of h) <| .ite (.of (kept_ite ?_ (kept_noteExhausted _ _ _ ?_)))
    (.of (kept_tendHearths _ (kept_bump _ _ _ (kept_sendFault _ _ _ _ _ (kept_recount _ _ (kept_setUState _ _ _ h.beside))))))
  all_goals
    exact kept_tendHearths _ (kept_recount _ _ (kept_ite (kept_setUState _ _ _ h.beside) (kept_bump _ _ _ (kept_setUState _ _ _ h.beside))))

theorem execWearEval_kept (ages hot : List Nat) (ce : List (Nat × Nat)) : NextKept z (execWearEval ages hot ce s) :=
  .of <| kept_foldl _ _ _ (kept_measureAges _ ages h).beside fun _ _ a => kept_crossUnit _ _ a

theorem execAttestDone_kept : NextKept z (execAttestDone s) := by
  unfold execAttestDone
  split
  · exact .of h
  · exact .of (kept_setF _ _ _ (kept_setF _ _ _ (kept_writesFx _ _ _ (kept_fresh _ h).beside)))

theorem execSensorUpdate_kept (at_ : Nat) (rs : List Int) : NextKept z (execSensorUpdate at_ rs s) := by
  have a := kept_judgeSensors _ rs (kept_countThrottled _ at_ (kept_atTime s at_ h))
  have b := kept_foldl (showSensor rs) (List.range 64) _ a fun _ _ c => kept_showSensor _ _ _ c
  have c := kept_judgeCritical _ rs (kept_showHottest _ rs (kept_foldl failRegion (List.range 9) _ b fun _ _ d => kept_failRegion _ _ d))
  dsimp only [execSensorUpdate]
  split
  · exact .of (kept_ite (kept_judgeThrottle _ _ _ c) c)
  · exact .of c

theorem execThrottleStepApply_kept : NextKept z (execThrottleStepApply s) := by
  unfold execThrottleStepApply
  split
  · exact .of h
  · exact .of (kept_takeStep _ _ h.beside)

theorem execThermalTrip_kept (r : Nat) : NextKept z (execThermalTrip r s) :=
  .ite (.of h) (.of (kept_assertSource _ _ _ (kept_drainFaults _ _ (kept_sendFault _ _ _ _ _ h))))

theorem execPpsEdge_kept (at_ n : Nat) : NextKept z (execPpsEdge at_ n s) :=
  have a := kept_atTime s at_ h
  .ite (.of a) (.of (kept_bump _ _ _ (kept_set64 _ _ _ _ a).beside))

end Sys2Proof.Machine
end

section
namespace Sys2Proof.Machine

set_option Elab.async false

/-- Every command answers a next state, and keeps the canonical form, the number of links and the queue. -/
theorem exec_kept {z s : State} (h : Kept z s) (i : Instr) : NextKept z (exec i s) :=
  match i with
  | .registerWrite .. => .of (kept_writeReg _ _ _ _ _ _ h)
  | .rcRead .. => .of (kept_readReg _ _ _ _ _ h)
  | .loWordRead .. => .of (kept_readReg _ _ _ _ _ h)
  | .strokeInEdge at_ highNs => execStrokeInEdge_kept h at_ highNs
  | .strokeInMissing at_ => execStrokeInMissing_kept h at_
  | .flywheelStroke at_ => execFlywheelStroke_kept h at_
  | .computedStroke at_ => execComputedStroke_kept h at_
  | .strokeInstant at_ => execStrokeInstant_kept h at_
  | .gptpLost at_ => execGptpLost_kept h at_
  | .holdoverExpired at_ => execHoldoverExpired_kept h at_
  | .gptpRestored at_ => execGptpRestored_kept h at_
  | .entryDue at_ idx => execEntryDue_kept h at_ idx
  | .launchStart at_ => execLaunchStart_kept h at_
  | .launchCopyDone at_ => execLaunchCopyDone_kept h at_
  | .launchLate at_ idx => execLaunchLate_kept h at_ idx
  | .swapReq .. => .of (kept_guarded _ _ _ _ _ h fun _ a => kept_answer _ _ (kept_requestSwap _ a))
  | .timetableWrite .. => .of (kept_writeReg _ _ _ _ _ _ h)
  | .reproStroke at_ => execReproStroke_kept h at_
  | .bellEdge at_ highNs => execBellEdge_kept h at_ highNs
  | .bellMissing at_ => execBellMissing_kept h at_
  | .calWindowOpen at_ => execCalWindowOpen_kept h at_
  | .calPulse at_ highNs => execCalPulse_kept h at_ highNs
  | .targetFix delays => execTargetFix_kept h delays
  | .strokeMessageLate at_ => execStrokeMessageLate_kept h at_
  | .planDue at_ => execPlanDue_kept h at_
  | .worldSeal at_ => execWorldSeal_kept h at_
  | .sealMaxExpired at_ => execSealMaxExpired_kept h at_
  | .sealComplete at_ => execSealComplete_kept h at_
  | .stagingCopyDone => .of (kept_finishCopy _ h)
  | .ringWpWrite .. => .ite (.of (kept_answer _ _ h)) (.of (kept_guarded _ _ _ _ _ h fun _ a => kept_writeWp _ _ _ a))
  | .networkDatagram .. => .of (kept_ite (kept_receiveDatagram _ _ _ h) h)
  | .pad .. => .of (kept_intake _ _ _ h)
  | .primSet .. => .of (kept_intake _ _ _ h)
  | .primDel .. => .of (kept_intake _ _ _ h)
  | .agentSet .. => .of (kept_intake _ _ _ h)
  | .agentDel .. => .of (kept_intake _ _ _ h)
  | .ego .. => .of (kept_intake _ _ _ h)
  | .heatClear .. => .of (kept_intake _ _ _ h)
  | .sealMark .. => .ite (.of h) (.of (kept_intake _ _ _ h))
  | .unknownRecord .. => .of (kept_intake _ _ _ h)
  | .repairStatic .. => .of (kept_runCrucible _ _ _ h)
  | .buildStatic .. => .of (kept_runCrucible _ _ _ h)
  | .buildDyn .. => .of (kept_runCrucible _ _ _ h)
  | .crucibleDrainEnd unit => execCrucibleDrainEnd_kept h unit
  | .repair .. => .of (kept_arrive _ _ _ h)
  | .build .. => .of (kept_arrive _ _ _ h)
  | .pealBarrier .. => .of (kept_ite (kept_waveStep _ (kept_atTime s _ h)) (kept_atTime s _ h))
  | .pealSelectOfs at_ => execPealSelectOfs_kept h at_
  | .pealEnd at_ => execPealEnd_kept h at_
  | .expand .. => .of (kept_engineRow _ _ _ _ _ h)
  | .strike unit => execStrike_kept h unit
  | .hammerGolden unit => execHammerGolden_kept h unit
  | .strikeCut at_ k done => execStrikeCut_kept h at_ k done
  | .select .. => .of (kept_engineRow _ _ _ _ _ h)
  | .merge .. => .of (kept_engineRow _ _ _ _ _ h)
  | .inboxWrite brand slot line => execInboxWrite_kept h brand slot line
  | .inboxClear .. => .of (kept_guarded _ _ _ _ _ h fun _ a => kept_answer _ _ (kept_setF _ _ _ a))
  | .gatherOffset at_ k => execGatherOffset_kept h at_ k
  | .refine unit => execRefine_kept h unit
  | .quenchGolden .. => .of (kept_engineRow _ _ _ _ _ h)
  | .quenchDeadline at_ phases => execQuenchDeadline_kept h at_ phases
  | .assay unit => execAssay_kept h unit
  | .assayGolden unit => execAssayGolden_kept h unit
  | .assayLoadDone at_ => execAssayLoadDone_kept h at_
  | .assayGridDone at_ => execAssayGridDone_kept h at_
  | .deltaWatchCheck => .ite (.of (kept_watchOne _ h)) (.of h)
  | .assayFreeze at_ => execAssayFreeze_kept h at_
  | .stopPlanRepeat at_ => execStopPlanRepeat_kept h at_
  | .canFrameSent ctrl ok => execCanFrameSent_kept h ctrl ok
  | .doorbell .. => .ite (.of (kept_answer _ _ h)) (.of (kept_guarded _ _ _ _ _ h fun _ a => kept_writeTail _ _ _ _ a))
  | .cqHeadWrite .. => .ite (.of (kept_answer _ _ h)) (.of (kept_guarded _ _ _ _ _ h fun _ a => kept_writeCqHead _ _ _ a))
  | .commandAdmit .. => .of (kept_admitHead _ _ _ h)
  | .nop .. => .of (kept_admitHead _ _ _ h)
  | .bankSwap .. => .of (kept_admitHead _ _ _ h)
  | .taskPlace cls => execTaskPlace_kept h cls
  | .gateOpen .. => .ite (.of (kept_openGate _ _ h)) (.of h)
  | .engineTaskDone cls unit => execEngineTaskDone_kept h cls unit
  | .completionRelease => execCompletionRelease_kept h
  | .flowSkip .. => .of (kept_guarded _ _ _ _ _ h fun _ a => kept_skipFlow _ _ a)
  | .goldenInject .. => .of (kept_guarded _ _ _ _ _ h fun _ a => kept_writeInject _ _ _ _ a)
  | .engineFence .. => .ite (.of (kept_fenceUnit _ _ _ h)) (.of h)
  | .copy unit => execCopy_kept h unit
  | .fill unit => execFill_kept h unit
  | .listPush unit => execListPush_kept h unit
  | .bellowsGolden unit => execBellowsGolden_kept h unit
  | .crucibleGolden .. => .of (kept_engineRow _ _ _ _ _ h)
  | .pealGolden .. => .of (kept_engineRow _ _ _ _ _ h)
  | .swageGolden .. => .of (kept_engineRow _ _ _ _ _ h)
  | .tongsGolden unit => execTongsGolden_kept h unit
  | .digest unit => execDigest_kept h unit
  | .modeReqService .. => .of (kept_guarded _ _ _ _ _ h fun _ a => kept_modeRequest _ _ _ _ a)
  | .modeReqRepro .. => .of (kept_guarded _ _ _ _ _ h fun _ a => kept_modeRequest _ _ _ _ a)
  | .reproEnter at_ => execReproEnter_kept h at_
  | .reproExit at_ => execReproExit_kept h at_
  | .anvilWriteback .. => .ite (.of (kept_writeBack _ _ h)) (.of h)
  | .scrub .. => .of (kept_scrubAt _ _ _ _ (kept_atTime s _ h))
  | .scrubForced .. => .of (kept_scrubAt _ _ _ _ h)
  | .bankRetire => execBankRetire_kept (s := s) h
  | .bankCopyDone => .ite (.of h.beside) (.of h)
  | .bankSwitch at_ => execBankSwitch_kept h at_
  | .mr4Poll ch rank value => execMr4Poll_kept h ch rank value
  | .ddrRefresh .. => .ite (.of h) (.of h.beside)
  | .patrolScrub => .ite (.of h) (.of (kept_patrolStep _ h))
  | .ddrSrTimeout at_ inSelfRefresh => execDdrSrTimeout_kept h at_ inSelfRefresh
  | .ddrVerWrite .. => .of (kept_guarded _ _ _ _ _ h fun _ a => kept_writeVersion _ _ a)
  | .subResetDdr ch ok => execSubResetDdr_kept h ch ok
  | .subResetEth .. => .ite (.of h) (.of (kept_subDone _ _ h))
  | .subResetPcie => .of (kept_subDone _ _ h)
  | .linkTrain link badLaneTx badLaneRx => execLinkTrain_kept h link badLaneTx badLaneRx
  | .retrain .. => .ite (.of h) (.of (kept_startRetrain _ _ h))
  | .retrainFail at_ link => execRetrainFail_kept h at_ link
  | .syncTimeout at_ link => execSyncTimeout_kept h at_ link
  | .ubfRetrainReq .. => .ite (.of (kept_answer _ _ h)) (.of (kept_guarded _ _ _ _ _ h fun _ a => kept_writeRetrain _ _ _ a))
  | .skpReceive link laneErrs => execSkpReceive_kept h link laneErrs
  | .flitReceive .. => .ite (.of h) (.of (kept_receiveFrame _ _ _ h))
  | .controlFlit .. => .ite (.of h) (.of (kept_controlFx _ _ _ h))
  | .replayTimeout link => execReplayTimeout_kept h link
  | .wr link hdr lines => execWr_kept h link hdr lines
  | .wack link hdr => execWack_kept h link hdr
  | .rd link hdr => execRd_kept h link hdr
  | .rdr link hdr lines => execRdr_kept h link hdr lines
  | .remoteTimeout tag => execRemoteTimeout_kept h tag
  | .stroke at_ hdr => execStroke_kept h at_ hdr
  | .timeReq at_ link hdr => execTimeReq_kept h at_ link hdr
  | .timeRsp at_ link hdr => execTimeRsp_kept h at_ link hdr
  | .cal at_ hdr => execCal_kept h at_ hdr
  | .mode link hdr => execMode_kept h link hdr
  | .heartbeat link => execHeartbeat_kept h link
  | .heartbeatTick at_ => execHeartbeatTick_kept h at_
  | .linkId link hdr => execLinkId_kept h link hdr
  | .admitMessage at_ hdr => execAdmitMessage_kept h at_ hdr
  | .workerAdmit at_ node delay => execWorkerAdmit_kept h at_ node delay
  | .goldenCompare cmdtag => execGoldenCompare_kept h cmdtag
  | .thOpen .. => .of (kept_thCtrl _ _ _ _ h fun _ a => kept_openGroup _ _ _ _ a)
  | .thStageWrite .. => .of (kept_writeReg _ _ _ _ _ _ h)
  | .thClose .. => .of (kept_thCtrl _ _ _ _ h fun _ a => kept_closeGroup _ _ _ a)
  | .thCommit .. => .of (kept_thCtrl _ _ _ _ h fun _ a => kept_commitBy _ _ _ a)
  | .thAbort .. => .of (kept_thCtrl _ _ _ _ h fun _ a => kept_abortGroup _ _ _ a)
  | .thTimeout group => execThTimeout_kept h group
  | .faultRecord .. => .of (kept_sendFault _ _ _ _ _ h)
  | .faultAccept => .of (kept_acceptFault _ h)
  | .coldEscalate => execColdEscalate_kept h
  | .clrFirst .. => .of (kept_guarded _ _ _ _ _ h fun _ a => kept_clearFirst _ _ a)
  | .lockstepMismatch pair => execLockstepMismatch_kept h pair
  | .pairTakeoverDone => execPairTakeoverDone_kept h
  | .clockOutOfTol domain khz => execClockOutOfTol_kept h domain khz
  | .refclkLost => .of (kept_sendFault _ _ _ _ _ (kept_setF _ _ _ (kept_setF _ _ _ h)))
  | .resetPinAssert pin => execResetPinAssert_kept h pin
  | .resetPinRelease pin => execResetPinRelease_kept h pin
  | .pwrGoodFall => execPwrGoodFall_kept h
  | .pwrGoodRise => execPwrGoodRise_kept h
  | .releaseBegin roleStrap nodeStrap => execReleaseBegin_kept h roleStrap nodeStrap
  | .domainQualified domain khz => execDomainQualified_kept h domain khz
  | .domainQualTimeout domain => execDomainQualTimeout_kept h domain
  | .clockFailRetry => execClockFailRetry_kept h
  | .journalDecide => execJournalDecide_kept h
  | .billetVerify slotA slotB => execBilletVerify_kept h slotA slotB
  | .rpmbCheck answer => execRpmbCheck_kept h answer
  | .startCommit monitorAgrees => execStartCommit_kept h monitorAgrees
  | .emberQuickTest passed badBanks ms => execEmberQuickTest_kept h passed badBanks ms
  | .ddrTrained mask => execDdrTrained_kept h mask
  | .ddrSweepDone => execDdrSweepDone_kept h
  | .selfTestDone failed ages => execSelfTestDone_kept h failed ages
  | .osLoadDone digest => execOsLoadDone_kept h digest
  | .appReady .. => .of (kept_guarded _ _ _ _ _ h fun _ a => kept_answer _ _ (kept_appIsReady _ a))
  | .fullService at_ ms rpmbWriteOk => execFullService_kept h at_ ms rpmbWriteOk
  | .startFail .. => .ite (.of (kept_startFails _ _ h)) (.of h)
  | .startTimeout => .ite (.of (kept_startFails _ _ h)) (.of h)
  | .bankedReport at_ => execBankedReport_kept h at_
  | .readJournal .. => .ite (.of h) (.of h.beside)
  | .clearJournal obj nonce => execClearJournal_kept h obj nonce
  | .writeSlot obj nonce slot offset bytes => execWriteSlot_kept h obj nonce slot offset bytes
  | .restart .. => .ite (.of h) (.of h.beside)
  | .wdogKick .. => .of (kept_guarded _ _ _ _ _ h fun _ a => kept_kick _ _ _ a)
  | .swWarmReq .. => .of (kept_guarded _ _ _ _ _ h fun _ a => kept_warmRequest _ _ _ a)
  | .wdogExpire => .ite (.of (kept_sendFault _ _ _ _ _ h)) (.of h)
  | .wearEval ages hotRegions ce => execWearEval_kept h ages hotRegions ce
  | .wearRecordWrite => .of (kept_writeWear _ h)
  | .spareReady at_ => .of (kept_foldl _ _ _ (kept_atTime s at_ h).beside fun _ _ a => kept_spareResumes _ _ a)
  | .proactiveStart pass => execProactiveStart_kept h pass
  | .proactiveSwitch .. => .of (kept_proactiveSwitch _ (kept_atTime s _ h))
  | .drainDone e testPass => execDrainDone_kept h e testPass
  | .attestReq .. => .of (kept_guarded _ _ _ _ _ h fun _ a => kept_requestReport _ a)
  | .attestDone => execAttestDone_kept h
  | .debugSubmit => .of (kept_submitToken _ h)
  | .sensorUpdate at_ readings => execSensorUpdate_kept h at_ readings
  | .throttleStepApply => execThrottleStepApply_kept h
  | .thermalTrip region => execThermalTrip_kept h region
  | .ppsEdge at_ highNs => execPpsEdge_kept h at_ highNs
  | .registerRead .. => .of (kept_readReg _ _ _ _ _ h)
  | .memoryAccess .. => .of (kept_memAccess _ _ _ _ _ _ h)
  | .maintenanceColdReset => .ite (.of (kept_assertSource _ _ _ h)) (.of h)
  | .tapInstruction .. => .of h.beside

/-- A step keeps the canonical form: it runs the front command on the same registers, memory and links, or nothing. -/
theorem step_keeps_inv {s t : State} (i : s.Inv) (e : step s = .next t) : t.Inv := by
  unfold step at e
  split at e
  · cases e; exact i
  · next c rest _ =>
    obtain ⟨u, hu, hk⟩ := exec_kept (kept_refl { s with pending := rest }) c
    cases hu.symm.trans e
    exact hk.inv i

end Sys2Proof.Machine

open Sys2Proof.Machine

/-- Settles O3: every row keeps the canonical form (`exec_kept`), so a step does. -/
theorem stepKeepsTheCanonicalForm : Obligations.StepKeepsTheCanonicalForm :=
  fun _ _ => step_keeps_inv

end

section
/-! Register accesses: what a granted, a refused and a denied one leave (R16 to R18, R75, R422), the bits a write leaves (R17, R19),
and the state after reset. -/

namespace Sys2Proof.Machine

set_option Elab.async false

/- ### Frames of an update of single components -/

/-- Registers and the answer are no part of a frame. -/
theorem partsBut_regs (l : List Part) (s : State) (regs : List (Nat × Word)) (r : Resp) :
    PartsBut l s { s with regs := regs, resp := r } := by
  intro p _
  cases p <;> simp [SamePart, SameMem, byteAt]

theorem partsBut_flt (s : State) (regs : List (Nat × Word)) (f : Flt) (r : Resp) :
    PartsBut [.flt] s { s with regs := regs, flt := f, resp := r } := by
  intro p hp
  cases p <;> simp [SamePart, SameMem, byteAt] at hp ⊢

theorem partsBut_hi (s : State) (regs : List (Nat × Word)) (a b c d : Word) (r : Resp) :
    PartsBut [.hi] s { s with regs := regs, hiStroke := a, hiTai := b, hiTime := c, hiPps := d, resp := r } := by
  intro p hp
  cases p <;> simp [SamePart, SameMem, byteAt] at hp ⊢

theorem sameMem_of_mem {s t : State} (h : t.mem = s.mem) : SameMem s t :=
  ⟨fun a => by unfold byteAt; rw [h], by rw [h], by rw [h]⟩

/- ### Register accesses under their firewall (R420, R421) -/

variable {s : State} {brand kind addr width : Nat}

theorem regAccess_granted (k : State → State) (hl : regBase ≤ addr) (hh : addr < 0x44000000)
    (hg : fwDenies s 2 brand kind addr width = none) : regAccess s brand kind addr width k = k s := by
  unfold regAccess
  rw [if_neg (by omega), hg]
  split <;> rfl

theorem regAccess_denied {cls : Nat} (k : State → State) (hl : regBase ≤ addr) (hh : addr < 0x44000000)
    (ht : tapOffers brand addr = false) (hd : fwDenies s 2 brand kind addr width = some cls) :
    regAccess s brand kind addr width k = answer (deny s 2 cls brand kind addr) .error := by
  unfold regAccess
  rw [if_neg (by omega), ht, hd]
  rfl

/- ### Refused accesses (R16) -/

/-- With room in the FIFO a refused access changes the FIFO and the answer only (R16). -/
theorem refuseAccess_eq (b : Nat) (hb : b ≤ 0x1E) (hq : s.flt.fifo.length < 256) :
    refuseAccess s b brand =
      { s with flt := { s.flt with fifo := s.flt.fifo ++ [mkRec s b 0x000 0 brand] }, resp := .error } := by
  unfold refuseAccess
  rw [if_pos hb, sendFault_eq _ _ _ _ _ hq]
  rfl

/- ### Denied accesses (R422) -/

/-- The registers after a denial: its address, brand, kind and target (R422). -/
def denyTrace (s : State) (g brand kind a : Nat) : State :=
  setF (setF (setF (set64 s FWL_DENY_LAST_LO FWL_DENY_LAST_HI a) FWL_DENY_INFO_BRAND brand) FWL_DENY_INFO_KIND kind) FWL_DENY_INFO_TARGET g

/-- With room in the FIFO a denial leaves its trace and one record (R422). -/
theorem deny_eq (s : State) (g cls brand kind a : Nat) (hq : s.flt.fifo.length < 256) :
    deny s g cls brand kind a = { denyTrace s g brand kind a with
      flt := { s.flt with fifo := s.flt.fifo ++ [mkRec s 0x12 0x001 cls g] } } := by
  have e : mkRec (denyTrace s g brand kind a) 0x12 0x001 cls g = mkRec s 0x12 0x001 cls g := mkRec_congr rfl rfl _ _ _ _
  rw [← e]
  exact sendFault_eq (denyTrace s g brand kind a) 0x12 0x001 cls g hq

section DenyTrace

variable (g a : Nat) (h : swf resetOf s.regs = true)
include h

theorem get64_denyTrace (ha : a < 2 ^ 64) : get64 (denyTrace s g brand kind a) FWL_DENY_LAST_LO FWL_DENY_LAST_HI = a := by
  have e : ∀ f : Fld, f.addr ≠ FWL_DENY_INFO_BRAND.addr →
      getF (denyTrace s g brand kind a) f = getF (set64 s FWL_DENY_LAST_LO FWL_DENY_LAST_HI a) f := fun f hf => by
    unfold denyTrace
    rw [getF_setF_other _ FWL_DENY_INFO_TARGET f g hf, getF_setF_other _ FWL_DENY_INFO_KIND f kind hf,
      getF_setF_other _ FWL_DENY_INFO_BRAND f brand hf]
  have lo : getF (denyTrace s g brand kind a) FWL_DENY_LAST_LO = a % 2 ^ 32 := by
    rw [e _ (by decide), set64, getF_setF_other _ _ _ _ (by decide), getF_setF_same _ _ _ h (by decide)]
  have hi : getF (denyTrace s g brand kind a) FWL_DENY_LAST_HI = a / 2 ^ 32 % 2 ^ 32 := by
    rw [e _ (by decide), set64, getF_setF_same _ _ _ (setF_wf _ _ _ h) (by decide)]
  rw [get64, lo, hi]
  omega

theorem denyInfo_denyTrace (hb : brand < 256) (hk : kind < 4) (hg : g < 4) :
    getF (denyTrace s g brand kind a) FWL_DENY_INFO_BRAND = brand ∧ getF (denyTrace s g brand kind a) FWL_DENY_INFO_KIND = kind ∧
      getF (denyTrace s g brand kind a) FWL_DENY_INFO_TARGET = g := by
  have w2 : swf resetOf (set64 s FWL_DENY_LAST_LO FWL_DENY_LAST_HI a).regs = true := setF_wf _ _ _ (setF_wf _ _ _ h)
  have w3 := setF_wf _ FWL_DENY_INFO_BRAND brand w2
  have w4 := setF_wf _ FWL_DENY_INFO_KIND kind w3
  unfold denyTrace
  refine ⟨?_, ?_, ?_⟩
  · rw [getF_setF_beside _ FWL_DENY_INFO_TARGET FWL_DENY_INFO_BRAND g w4 (by decide) rfl (by decide),
      getF_setF_beside _ FWL_DENY_INFO_KIND FWL_DENY_INFO_BRAND kind w3 (by decide) rfl (by decide), getF_setF_same _ _ _ w2 (by decide)]
    exact Nat.mod_eq_of_lt hb
  · rw [getF_setF_beside _ FWL_DENY_INFO_TARGET FWL_DENY_INFO_KIND g w4 (by decide) rfl (by decide), getF_setF_same _ _ _ w3 (by decide)]
    exact Nat.mod_eq_of_lt hk
  · rw [getF_setF_same _ _ _ w4 (by decide)]
    exact Nat.mod_eq_of_lt hg

end DenyTrace

theorem regsBut_denyTrace (g a : Nat) :
    RegsBut [FWL_DENY_LAST_LO.addr, FWL_DENY_LAST_HI.addr, FWL_DENY_INFO_BRAND.addr] s (denyTrace s g brand kind a) := by
  intro b hb
  simp only [List.mem_cons, List.not_mem_nil, or_false, not_or] at hb
  obtain ⟨hlo, hhi, hinfo⟩ := hb
  unfold denyTrace set64
  rw [rd_setF_other _ _ _ _ hinfo, rd_setF_other _ _ _ _ hinfo, rd_setF_other _ _ _ _ hinfo, rd_setF_other _ _ _ _ hhi,
    rd_setF_other _ _ _ _ hlo]

/- ### Reads (R17, R18, R75) -/

theorem readAt_of_row {r : RegRow} (hw : Nat) (ha : addr % 4 = 0) (hr : rowAt addr = some r) :
    readAt s brand addr 4 hw = answer (clearRc (latchHi s addr) addr r hw) (.value (shown s addr r)) := by
  unfold readAt
  rw [if_neg (by omega), hr]

theorem readReg_of_row {r : RegRow} (hw : Nat) (ha : addr % 4 = 0) (hl : regBase ≤ addr) (hh : addr < 0x44000000) (hr : rowAt addr = some r)
    (hg : fwDenies s 2 brand 0 addr 4 = none) :
    readReg s brand addr 4 hw = answer (clearRc (latchHi s addr) addr r hw) (.value (shown s addr r)) := by
  unfold readReg
  rw [regAccess_granted _ hl hh hg, readAt_of_row hw ha hr]

/-- A read latches HI words and nothing else (R75). -/
theorem latchHi_eq (s : State) (a : Nat) : ∃ p q r u : Word, latchHi s a = { s with hiStroke := p, hiTai := q, hiTime := r, hiPps := u } := by
  unfold latchHi
  repeat' split
  all_goals exact ⟨_, _, _, _, rfl⟩

theorem latchHi_regs (s : State) (a : Nat) : (latchHi s a).regs = s.regs := by
  obtain ⟨_, _, _, _, e⟩ := latchHi_eq s a
  rw [e]

theorem clearRc_eq (s : State) (a : Nat) (r : RegRow) (hw : Nat) : ∃ regs, clearRc s a r hw = { s with regs := regs } := by
  unfold clearRc
  split
  · exact ⟨s.regs, rfl⟩
  · exact ⟨_, rfl⟩

theorem rd_clearRc_other (s : State) (a : Nat) (r : RegRow) (hw b : Nat) (h : b ≠ a) : rd (clearRc s a r hw) b = rd s b := by
  unfold clearRc
  split
  · rfl
  · exact rd_wr_other _ _ _ _ h

theorem rd_clearRc_same (s : State) (a : Nat) (r : RegRow) (hw : Nat) (h : swf resetOf s.regs = true) :
    rd (clearRc s a r hw) a =
      (if r.rc = 0 then rd s a else Nat.lor (Nat.xor (rd s a) (Nat.land (rd s a) r.rc)) (Nat.land hw r.rc)) % 2 ^ 32 := by
  unfold clearRc
  split
  · exact (Nat.mod_eq_of_lt (rd_lt s a)).symm
  · exact rd_wr_same _ _ _ h

/-- What a granted read of a register leaves: the bits of its row shown, RC bits cleared but for those hardware sets, HI words latched. -/
theorem readReg_leaves {r : RegRow} (hw : Nat) (h : swf resetOf s.regs = true) (ha : addr % 4 = 0) (hl : regBase ≤ addr)
    (hh : addr < 0x44000000) (hr : rowAt addr = some r) (hg : fwDenies s 2 brand 0 addr 4 = none) :
    (readReg s brand addr 4 hw).resp = .value (shown s addr r) ∧
      rd (readReg s brand addr 4 hw) addr =
        (if r.rc = 0 then rd s addr else Nat.lor (Nat.xor (rd s addr) (Nat.land (rd s addr) r.rc)) (Nat.land hw r.rc)) % 2 ^ 32 ∧
      RegsBut [addr] s (readReg s brand addr 4 hw) ∧ SameMem s (readReg s brand addr 4 hw) ∧ PartsBut [.hi] s (readReg s brand addr 4 hw) := by
  rw [readReg_of_row hw ha hl hh hr hg]
  have hrd : ∀ b, rd (latchHi s addr) b = rd s b := rd_congr (latchHi_regs s addr)
  refine ⟨rfl, ?_, fun b hb => ?_, ?_, ?_⟩
  · rw [← hrd addr]
    exact rd_clearRc_same (latchHi s addr) addr r hw (by rwa [latchHi_regs])
  · exact (rd_clearRc_other (latchHi s addr) addr r hw b (by simpa using hb)).trans (hrd b)
  all_goals
    obtain ⟨regs, e⟩ := clearRc_eq (latchHi s addr) addr r hw
    obtain ⟨p, q, w, u, e'⟩ := latchHi_eq s addr
    rw [e, e']
  · exact sameMem_of_mem rfl
  · exact partsBut_hi s regs p q w u _

/-- A granted read of a LO word with no RC bits answers what the word shows and latches its HI word (R75). -/
theorem execLoWordRead_of_view {r : RegRow} {v : Nat} (ha : addr % 4 = 0) (hl : regBase ≤ addr) (hh : addr < 0x44000000)
    (hr : rowAt addr = some r) (hrc : r.rc = 0) (hv : viewOf s addr = some v) (hg : fwDenies s 2 brand 0 addr 4 = none) :
    exec (.loWordRead brand addr) s = .next (answer (latchHi s addr) (.value (v % 2 ^ 32))) := by
  have e := readReg_of_row (s := s) 0 ha hl hh hr hg
  rw [clearRc, if_pos hrc, shown, hv] at e
  exact congrArg Host.Outcome.next e

/- ### Writes (R17, R19) -/

theorem writeReg_of_plain {r : RegRow} (value hw : Nat) (ha : addr % 4 = 0) (hl : regBase ≤ addr) (hh : addr < 0x44000000)
    (hr : rowAt addr = some r) (hg : fwDenies s 2 brand 1 addr 4 = none) (hs : special s brand addr (value % 2 ^ 32) hw r = none) :
    writeReg s brand addr 4 value hw = answer (writeWord s addr r (value % 2 ^ 32) hw) .ok := by
  unfold writeReg
  rw [regAccess_granted _ hl hh hg, writeAt, if_neg (by omega), hr]
  dsimp only
  rw [hs]

theorem testBit_clearOnes (old mask hw i : Nat) :
    (clearOnes old mask hw).testBit i = (old.testBit i && !mask.testBit i || hw.testBit i) := by
  have e : clearOnes old mask hw = (old ^^^ (old &&& mask)) ||| hw := rfl
  rw [e, Nat.testBit_or, Nat.testBit_xor, Nat.testBit_and]
  cases old.testBit i <;> simp

/-- A bit of the word a write leaves, of a row without WO bits. -/
theorem testBit_written (r : RegRow) (old v hw i : Nat) (hwo : r.wo = 0) :
    (written r old v hw).testBit i =
      ((old.testBit i && !r.rw.testBit i || v.testBit i && r.rw.testBit i) && !(v.testBit i && r.w1c.testBit i) ||
        hw.testBit i && r.w1c.testBit i || v.testBit i && r.w1s.testBit i) := by
  have e : written r old v hw =
      clearOnes ((old ^^^ (old &&& (r.rw ||| r.wo))) ||| (v &&& (r.rw ||| r.wo))) (v &&& r.w1c) (hw &&& r.w1c) ||| (v &&& r.w1s) := rfl
  rw [e, Nat.testBit_or, testBit_clearOnes, hwo]
  simp only [Nat.testBit_or, Nat.testBit_xor, Nat.testBit_and, Nat.zero_testBit, Bool.or_false]
  cases old.testBit i <;> simp

/-- Of two disjoint masks at most one has a bit. -/
theorem testBit_of_disjoint {a b : Nat} (h : Nat.land a b = 0) (i : Nat) : a.testBit i = false ∨ b.testBit i = false := by
  have e : (a.testBit i && b.testBit i) = false := by
    rw [← Nat.testBit_and]
    exact (congrArg (Nat.testBit · i) h).trans (Nat.zero_testBit i)
  exact Bool.and_eq_false_iff.mp e

/- ### A state for O40 -/

/-- A device whose region versions are listed out of order, region 0 after region 1: `State.Inv` says nothing of this list. -/
def versionsOutOfOrder : State := { State.reset with ddr := { ver := [(1, 0), (0, 5)] } }

theorem execDdrVerWrite_versionsOutOfOrder :
    exec (.ddrVerWrite 1 0) versionsOutOfOrder = .next (writeVersion versionsOutOfOrder 0) :=
  congrArg Host.Outcome.next (guarded_granted _ _ _ _ _ (by decide))

end Sys2Proof.Machine

open Sys2Proof Sys2Proof.Machine

/-- Settles O10: a refused access is `refuseAccess_eq`, a denied one `deny_eq` with its trace. -/
theorem refusedRegisterAccessesChangeNothingElse : Obligations.RefusedRegisterAccessesChangeNothingElse := by
  refine ⟨fun s brand addr width value hw hbad hl hh ht hr hw' hq hb => ?_,
    fun s brand addr width value hw cls hi hbrand ha hl hh ht hd hq => ?_⟩
  · have e := refuseAccess_eq (s := s) (brand := brand) (blockOf addr) hb hq
    have eread : readReg s brand addr width 0 = refuseAccess s (blockOf addr) brand := by
      rw [readReg, regAccess_granted _ hl (by omega) hr, readAt, if_pos hbad]
    have ewrite : writeReg s brand addr width value hw = refuseAccess s (blockOf addr) brand := by
      rw [writeReg, regAccess_granted _ hl (by omega) hw', writeAt, if_pos hbad]
    exact ⟨_, congrArg Host.Outcome.next (eread.trans e), congrArg Host.Outcome.next (ewrite.trans e), rfl, fun _ => rfl,
      sameMem_of_mem rfl, rfl, partsBut_flt s s.regs _ _⟩
  · have e : writeReg s brand addr width value hw = answer (deny s 2 cls brand 1 addr) .error := regAccess_denied _ hl hh ht hd
    rw [deny_eq s 2 cls brand 1 addr hq] at e
    obtain ⟨hbr, hk, hg⟩ := denyInfo_denyTrace (s := s) 2 addr hi.1 hbrand (kind := 1) (by decide) (by decide)
    exact ⟨_, congrArg Host.Outcome.next e, rfl, get64_denyTrace 2 addr hi.1 (by omega), hbr, hk, hg, rfl,
      regsBut_denyTrace 2 addr, sameMem_of_mem rfl, partsBut_flt s _ _ _⟩

/-- Settles O11: a granted read is `readReg_leaves`, and the three LO words latch their HI words by `execLoWordRead_of_view`. -/
theorem grantedReadsAnswerTheShownBits : Obligations.GrantedReadsAnswerTheShownBits := by
  refine ⟨fun s brand addr hw r hi ha hl hh hr hg => ?_, fun s brand hs ht hv => ?_⟩
  · obtain ⟨resp0, rd0, regs0, mem0, parts0⟩ := readReg_leaves 0 hi.1 ha hl hh hr hg
    obtain ⟨resp1, rd1, regs1, mem1, parts1⟩ := readReg_leaves hw hi.1 ha hl hh hr hg
    have e : ∀ x, Nat.lor x (Nat.land 0 r.rc) = x := fun x => by
      rw [show Nat.land 0 r.rc = 0 from Nat.zero_and _]; exact Nat.or_zero x
    rw [e] at rd0
    exact ⟨_, _, rfl, rfl, resp0, resp1, rd0, rd1, regs0, regs1, mem0, mem1, parts0, parts1⟩
  · refine ⟨_, _, _, execLoWordRead_of_view rfl (by decide) (by decide) rfl rfl rfl hs,
      execLoWordRead_of_view rfl (by decide) (by decide) rfl rfl rfl ht, execLoWordRead_of_view rfl (by decide) (by decide) rfl rfl rfl hv,
      congrArg Resp.value (Nat.mod_mod _ _), congrArg some (BitVec.toNat_ofNat _ _),
      congrArg Resp.value (Nat.mod_mod _ _), congrArg some (BitVec.toNat_ofNat _ _),
      congrArg Resp.value (Nat.mod_mod _ _), congrArg some (BitVec.toNat_ofNat _ _), ?_, ?_, ?_⟩
    all_goals exact ⟨partsBut_hi s s.regs _ _ _ _ _, fun _ _ => rfl⟩

/-- Settles O12: outside `special` a granted write is one `writeWord`. -/
theorem grantedWriteTakesTheWritableBits : Obligations.GrantedWriteTakesTheWritableBits := by
  intro s brand addr value hw r hi ha hl hh hr hg hs
  have e := writeReg_of_plain value hw ha hl hh hr hg hs
  exact ⟨_, congrArg Host.Outcome.next e, rfl, rd_wr_same s _ _ hi.1, fun b hb => rd_wr_other s _ _ _ (by simpa using hb), sameMem_of_mem rfl, rfl,
    partsBut_regs [] s _ _⟩

/-- Settles O13, bit by bit from `testBit_written`: the masks are disjoint, so at most one code speaks of a bit. -/
theorem writtenBitsFollowTheAccessCodes : Obligations.WrittenBitsFollowTheAccessCodes := by
  intro r old v hw i hwo hrc hrs hcs
  have hc := testBit_of_disjoint hrc i
  have hs := testBit_of_disjoint hrs i
  have hx := testBit_of_disjoint hcs i
  rw [testBit_written r old v hw i hwo]
  refine ⟨fun h => ?_, fun h => ?_, fun h => ?_, fun h1 h2 h3 => ?_⟩
  · have c := hc.resolve_left (by simp [h])
    have w := hs.resolve_left (by simp [h])
    simp [h, c, w]
  · have c := hx.resolve_right (by simp [h])
    have w := hs.resolve_right (by simp [h])
    simp [h, c, w]
  · have c := hc.resolve_right (by simp [h])
    have w := hx.resolve_left (by simp [h])
    simp [h, c, w, Bool.or_comm]
  · simp [h1, h2, h3]

/-- Settles O4: the reset state lists no register, so every field shows its table's reset value. -/
theorem resetIsCanonicalWithTheStatedValues : Obligations.ResetIsCanonicalWithTheStatedValues :=
  ⟨⟨rfl, rfl, rfl⟩, rfl, by decide, by decide, by decide, by decide, by decide, by decide, rfl, fun _ => rfl, rfl⟩

/-- Refutes O40: where the list of the versions is not in its canonical form, which `State.Inv` does not ask, DDR_VER_WRITE of 0 to region 0
leaves region 0 at version 5. -/
theorem not_ddrIsKeptAndSubresetsEnd : ¬ Obligations.DdrIsKeptAndSubresetsEnd := by
  intro h
  obtain ⟨_, _, _, _, hver⟩ := h.1 versionsOutOfOrder 0 0 0 0 1 ⟨rfl, rfl, rfl⟩ (by decide)
  obtain ⟨t, ht, _, hval, _⟩ := hver (by decide)
  cases ht.symm.trans execDdrVerWrite_versionsOutOfOrder
  exact absurd hval (by decide)

end

section
/-! The timetable's launches (R59) and the safety pairs (R438): what LAUNCH_START and LOCKSTEP_MISMATCH answer, and a state of each statement's
hypotheses where its conclusion fails. -/

namespace Sys2Proof.Machine

set_option Elab.async false

/- ### LAUNCH_START (R23, R59) -/

/-- Where both units hold the same words and the same due entries, the entry the primary chooses is launched, and the shadow settles it. -/
theorem execLaunchStart_of_choice {s : State} {at_ : Nat} {p : Nat × Nat} (hw : liveWords s = shadowWords s)
    (hd : s.car.shadowDue = s.car.due) (hp : launchChoice (atTime s at_) (liveWords s) s.car.due at_ = some p) :
    exec (.launchStart at_) s = .next (launchEntry (settleShadow (atTime s at_) p.1) p at_) := by
  have hl : liveWords (atTime s at_) = liveWords s := rfl
  have hx : shadowWords (atTime s at_) = liveWords s := hw.symm
  change execLaunchStart at_ s = _
  simp [execLaunchStart, hl, hx, hd, hp, compareUnits]

/-- A due entry of one command, read from address 0, whose queue's ring begins in the middle of line 4096. The error of that line is itself
a codeword, of a 1 in the first byte (R341): the checker finds no error, and the line reads with that byte flipped (R342). `State.Inv` asks
neither that a ring's base be aligned nor that memory be without error. -/
def ringInsideLine : State :=
  { State.reset with
    regs := [((TAB_Q_BASE_LO 0).addr, 4096 + 32), ((FWL_REGION0 2).addr, 0x0FFFFFFF), ((FWL_REGION0 4).addr, 0x4000),
      ((FWL_REGION0 6).addr, 0x4000), ((FWL_REGION0 10).addr, 1), ((FWL_TH_SEQ 0).addr, 1)]
    mem := { errs := [(4096, codeword (1 :: List.replicate 63 0))] }
    car := { bank0 := [(1, 0x10000)], shadow0 := [(1, 0x10000)], due := [(0, 0)], shadowDue := [(0, 0)] } }

theorem ringInsideLine_inv : ringInsideLine.Inv := by decide

theorem launchChoice_ringInsideLine :
    launchChoice (atTime ringInsideLine 0) (liveWords ringInsideLine) ringInsideLine.car.due 0 = some (0, 0) := by decide

/-- The command covers half of the line, so the line is read, merged and written again as the checker passed it (R345): the byte at 4096,
before the slot, turns from 0 to 1. -/
theorem byteAt_launchEntry_ringInsideLine :
    byteAt ringInsideLine 4096 = 0 ∧ byteAt (launchEntry (settleShadow (atTime ringInsideLine 0) 0) (0, 0) 0) 4096 = 1 := by
  decide +kernel

/- ### LOCKSTEP_MISMATCH (R438) -/

/-- A pair that still works and holds a role is dead after its mismatch, and loses the role. -/
theorem execLockstepMismatch_of_role {s : State} {pair r : Nat} (hp : pair < 3) (hd : s.flt.deadPairs.contains pair = false)
    (hr : roleOfPair s pair = some r) :
    exec (.lockstepMismatch pair) s = .next (loseRole { s with flt := { s.flt with deadPairs := s.flt.deadPairs ++ [pair] } } r) := by
  change execLockstepMismatch pair s = _
  simp only [execLockstepMismatch, hr]
  rw [if_neg (by rw [hd]; simp [hp])]

/-- The registers are listed out of order, and group 0 of the two-hand commit is in STAGING. The statement does not ask for `State.Inv`. -/
def groupOutOfOrder : State := { State.reset with regs := [((FWL_TH_STATUS 0).addr + 1, 1), ((FWL_TH_STATUS 0).addr, 1)] }

/-- The abort's write of STATE 0, the reset value, leaves the misplaced entry where it stands, so the group is still in STAGING. -/
theorem thState_loseRole_groupOutOfOrder :
    thState (loseRole { groupOutOfOrder with flt := { groupOutOfOrder.flt with deadPairs := [0] } } 0) 0 = 1 := by decide

end Sys2Proof.Machine

open Sys2Proof Sys2Proof.Machine

/-- Refutes O18: a ring's base may lie inside a line, and where that line has an error the checker does not see, LAUNCH_START writes the line
again as it reads it, so that a byte outside the slots changes. -/
theorem not_timetableEntriesFallDueLaunchOrAreLate : ¬ Obligations.TimetableEntriesFallDueLaunchOrAreLate := by
  intro h
  obtain ⟨_, hlaunch, _⟩ := h ringInsideLine 0 0 ringInsideLine_inv rfl rfl (by decide)
  obtain ⟨t, ht, _, _, _, houtside, _⟩ := hlaunch 0 [] (List.replicate 64 0) rfl rfl rfl (Or.inr (by decide)) (by decide) rfl rfl (by decide)
  have hnext := ht.symm.trans (execLaunchStart_of_choice rfl rfl launchChoice_ringInsideLine)
  injection hnext with hnext
  obtain ⟨hbefore, hafter⟩ := byteAt_launchEntry_ringInsideLine
  have hsame := houtside 4096 (by decide)
  rw [hnext, hbefore, hafter] at hsame
  exact absurd hsame (by decide)

/-- Refutes O50: where the list of the registers is not in its canonical form, which the statement does not ask, the monitor pair's mismatch
leaves group 0 in STAGING. -/
theorem not_safetyPairsAreReplaced : ¬ Obligations.SafetyPairsAreReplaced := by
  intro h
  obtain ⟨htakeover, _⟩ := h groupOutOfOrder 0 0 2 (by decide)
  obtain ⟨t, ht, _, _, _, _, hstates, _⟩ := htakeover (by decide) rfl (by decide) (by decide) (by decide)
  cases ht.symm.trans (execLockstepMismatch_of_role (by decide) rfl rfl)
  exact absurd (thState_loseRole_groupOutOfOrder.symm.trans (hstates 0 (by decide))) (by decide)

end

section
/-! The rules by which a frame passes through the operations of the stroke and the Bell line: each says what one update leaves alone. -/

namespace Sys2Proof.Machine

set_option Elab.async false

variable {l : List Part} {rs : List Nat} {z s t : State}

theorem SamePart.trans {p : Part} (h : SamePart p z s) (k : SamePart p s t) : SamePart p z t := by
  cases p <;> simp_all [SamePart, SameMem]

theorem framed_refl (l : List Part) (rs : List Nat) (s : State) : Framed l rs s s :=
  ⟨partsBut_regs l s s.regs s.resp, fun _ _ => rfl⟩

theorem Framed.trans (h : Framed l rs z s) (k : Framed l rs s t) : Framed l rs z t :=
  ⟨fun p hp => (h.1 p hp).trans (k.1 p hp), fun a ha => (k.2 a ha).trans (h.2 a ha)⟩

/-- Beside listed parts alone. -/
theorem Framed.parts (h : Framed l rs z s) (hp : PartsBut l s t) (hr : t.regs = s.regs) : Framed l rs z t :=
  h.trans ⟨hp, fun a _ => rd_congr hr a⟩

theorem Framed.setF {f : Fld} (v : Nat) (hf : f.addr ∈ rs) (h : Framed l rs z s) : Framed l rs z (setF s f v) :=
  h.trans ⟨partsBut_regs l s _ s.resp, fun _ ha => rd_setF_other s f v _ fun e => ha (e ▸ hf)⟩

theorem Framed.bump {f : Fld} (n : Nat) (hf : f.addr ∈ rs) (h : Framed l rs z s) : Framed l rs z (bump s f n) := h.setF _ hf

theorem Framed.answer (r : Resp) (h : Framed l rs z s) : Framed l rs z (answer s r) := h.parts (partsBut_regs l s s.regs r) rfl

theorem Framed.withStk (x : Stk) (hl : .stk ∈ l) (h : Framed l rs z s) : Framed l rs z { s with stk := x } :=
  h.parts (fun p hp => by cases p <;> simp_all [SamePart, SameMem, byteAt]) rfl

theorem Framed.withBell (x : Bell) (hl : .bell ∈ l) (h : Framed l rs z s) : Framed l rs z { s with bell := x } :=
  h.parts (fun p hp => by cases p <;> simp_all [SamePart, SameMem, byteAt]) rfl

theorem Framed.withStkBell (x : Stk) (y : Bell) (hx : .stk ∈ l) (hy : .bell ∈ l) (h : Framed l rs z s) :
    Framed l rs z { s with stk := x, bell := y } := (h.withStk x hx).withBell y hy

theorem Framed.withPln (x : Pln) (hl : .pln ∈ l) (h : Framed l rs z s) : Framed l rs z { s with pln := x } :=
  h.parts (fun p hp => by cases p <;> simp_all [SamePart, SameMem, byteAt]) rfl

theorem Framed.withCar (x : Car) (hl : .car ∈ l) (h : Framed l rs z s) : Framed l rs z { s with car := x } :=
  h.parts (fun p hp => by cases p <;> simp_all [SamePart, SameMem, byteAt]) rfl

theorem Framed.withPins (x : Pins) (hl : .pins ∈ l) (h : Framed l rs z s) : Framed l rs z { s with pins := x } :=
  h.parts (fun p hp => by cases p <;> simp_all [SamePart, SameMem, byteAt]) rfl

theorem Framed.withTime (a : Nat) (b : Int) (c : Nat) (hl : .time ∈ l) (h : Framed l rs z s) :
    Framed l rs z { s with time := a, slew := b, aonTime := c } :=
  h.parts (fun p hp => by cases p <;> simp_all [SamePart, SameMem, byteAt]) rfl

theorem Framed.atTime (a : Nat) (hl : .time ∈ l) (h : Framed l rs z s) : Framed l rs z (atTime s a) := h.withTime _ _ _ hl

theorem Framed.withUbf (x : Ubf) (hl : .ubf ∈ l) (h : Framed l rs z s) : Framed l rs z { s with ubf := x } :=
  h.parts (fun p hp => by cases p <;> simp_all [SamePart, SameMem, byteAt]) rfl

/-- The registers after a write follow from the registers before. -/
theorem setF_regs_congr (h : t.regs = s.regs) (f : Fld) (v : Nat) : (setF t f v).regs = (setF s f v).regs := by
  unfold Machine.setF wr rd
  rw [h]

/- ### A record with room in the FIFO moves the collector alone (R432) -/

section Record

variable (block code cls unit : Nat) (hq : s.flt.fifo.length < 256)
include hq

theorem sendFault_regs : (sendFault s block code cls unit).regs = s.regs := by rw [sendFault_eq _ _ _ _ _ hq]

theorem sendFault_time : (sendFault s block code cls unit).time = s.time := by rw [sendFault_eq _ _ _ _ _ hq]

theorem sendFault_slew : (sendFault s block code cls unit).slew = s.slew := by rw [sendFault_eq _ _ _ _ _ hq]

theorem sendFault_fifo : (sendFault s block code cls unit).flt.fifo = s.flt.fifo ++ [mkRec s block code cls unit] := by
  rw [sendFault_eq _ _ _ _ _ hq]

/-- A record that a state raises is the one of any state of the same stroke and time. -/
theorem sendFault_fifo_from (hf : t.flt.fifo = s.flt.fifo := by rfl) (hany : t.stk.any = s.stk.any := by rfl)
    (hno : t.stk.no = s.stk.no := by rfl) (ht : t.time = s.time := by rfl) :
    (Machine.sendFault t block code cls unit).flt.fifo = s.flt.fifo ++ [mkRec s block code cls unit] := by
  have e : mkRec t block code cls unit = mkRec s block code cls unit := by unfold mkRec strokeLow; rw [hany, hno, ht]
  rw [sendFault_fifo _ _ _ _ (hf ▸ hq), hf, e]

theorem Framed.sendFault (hl : .flt ∈ l) (h : Framed l rs z s) : Framed l rs z (sendFault s block code cls unit) := by
  rw [sendFault_eq s block code cls unit hq]
  exact h.parts (fun p hp => by cases p <;> simp_all [SamePart, SameMem, byteAt]) rfl

end Record

theorem sendFault_stk (block code cls unit : Nat) : (sendFault s block code cls unit).stk = s.stk :=
  (aside_sendFault s block code cls unit (aside_refl s)).stk

theorem sendFault_bell (block code cls unit : Nat) : (sendFault s block code cls unit).bell = s.bell :=
  (aside_sendFault s block code cls unit (aside_refl s)).bell

theorem sendFault_pln (block code cls unit : Nat) : (sendFault s block code cls unit).pln = s.pln :=
  (aside_sendFault s block code cls unit (aside_refl s)).pln

end Sys2Proof.Machine
end

section
/-! The timetable's window (R62, R63). -/

namespace Sys2Proof.Machine

set_option Elab.async false

variable {s : State} {brand addr : Nat}

/-- The row of the inactive bank's window: 1,024 words (R75). -/
theorem rowAt_inactiveWindow (hl : 0x40410000 ≤ addr) (hh : addr < 0x40411000) (ha : addr % 4 = 0) : ∃ r, rowAt addr = some r := by
  have hblk : blockOf addr = 0x4 := by unfold blockOf regBase; omega
  have hoff : offOf addr = addr - 0x40400000 := by unfold offOf regBase; omega
  have hwin : windowRow addr = none := by simp [windowRow, hblk]
  have hrow : ∃ r ∈ rowsOf 0x4, r.off = 0x10000 ∧ r.count = 1024 ∧ r.stride = 4 := by decide
  obtain ⟨r, hr, ho, hc, hs⟩ := hrow
  have hhas : rowHas r (offOf addr) = true := by
    simp only [rowHas, ho, hc, hs, hoff]
    simp
    omega
  rw [rowAt, if_neg (by unfold regBase; omega), hwin, hblk]
  exact Option.isSome_iff_exists.mp (List.find?_isSome.mpr ⟨r, hr, hhas⟩)

/-- In the window a write acts on the timetable, whatever its row. -/
theorem special_inactiveWindow (v hw : Nat) (r : RegRow) (hl : 0x40410000 ≤ addr) (hh : addr < 0x40411000) :
    special s brand addr v hw r = some (writeTimetable s addr v) := by
  have other : ∀ f : Fld, f.addr < 0x40410000 ∨ 0x40411000 ≤ f.addr → addr ≠ f.addr := fun f hf => by omega
  rw [special, if_neg (other TOP_MODE_REQ (by decide)), if_neg (other RST_WDOG_KICK (by decide)), if_neg (other RST_SW_REQ (by decide)),
    if_neg (other RST_START (by decide)), if_neg (other CAR_BANK_CTRL (by decide)), if_pos ⟨hl, hh⟩]

/-- A granted write in the window is a timetable write (R63). -/
theorem writeReg_inactiveWindow (value hw : Nat) (hl : 0x40410000 ≤ addr) (hh : addr < 0x40411000) (ha : addr % 4 = 0)
    (hg : fwDenies s 2 brand 1 addr 4 = none) : writeReg s brand addr 4 value hw = writeTimetable s addr (value % 2 ^ 32) := by
  obtain ⟨r, hr⟩ := rowAt_inactiveWindow hl hh ha
  rw [writeReg, regAccess_granted _ (by unfold regBase; omega) (by omega) hg, writeAt, if_neg (by omega), hr]
  simp only [special_inactiveWindow _ _ _ hl hh]

theorem activeBank_le (s : State) : activeBank s ≤ 1 := Nat.lt_succ_iff.mp (getF_lt s CAR_STATUS_BANK)

section BankWords

variable (b k v : Nat) (shadow : Bool)

/-- A word of a bank is kept in both units' copies (R63). -/
theorem bankWords_setTtWord_same : bankWords (setTtWord s b k v) b shadow = nset (bankWords s b shadow) k (v % 2 ^ 32) := by
  unfold setTtWord bankWords
  by_cases hb : b = 0 <;> cases shadow <;> simp [hb]

theorem bankWords_setTtWord_other (h : b ≤ 1) : bankWords (setTtWord s (1 - b) k v) b shadow = bankWords s b shadow := by
  unfold setTtWord bankWords
  obtain rfl | rfl : b = 0 ∨ b = 1 := by omega
  · rfl
  · rfl

theorem framed_setTtWord : Framed [.car] [] s (setTtWord s b k v) := by
  unfold setTtWord
  dsimp only
  split
  · exact (framed_refl _ _ s).withCar _ (by decide)
  · exact (framed_refl _ _ s).withCar _ (by decide)

end BankWords

end Sys2Proof.Machine

open Sys2Proof Sys2Proof.Machine

/-- Settles O6: both commands write the window, and SWAP_REQ refuses the write. -/
theorem writesWaitForTheSwap : Obligations.WritesWaitForTheSwap := by
  intro s brand addr value hw hreq hl hh ha hg
  have hrefused : writeTimetable s addr (value % 2 ^ 32) = answer s .error := if_pos (by simp [flag, hreq])
  have h : ∀ hw, writeReg s brand addr 4 value hw = answer s .error := fun hw => (writeReg_inactiveWindow value hw hl hh ha hg).trans hrefused
  exact ⟨_, congrArg Host.Outcome.next (h 0), congrArg Host.Outcome.next (h hw), rfl⟩

/-- Settles O19: a swap request writes one bit, and a timetable write one word of the inactive bank's two copies. -/
theorem timetableWritesGoToTheInactiveBank : Obligations.TimetableWritesGoToTheInactiveBank := by
  intro s brand hi
  refine ⟨fun hg => ?_, fun addr value hreq hl hh ha hg => ?_⟩
  · have hframe : Framed [] [CAR_BANK_CTRL.addr] s (answer (requestSwap s) .ok) := ((framed_refl _ _ s).setF 1 (by decide)).answer _
    exact ⟨_, congrArg Host.Outcome.next (guarded_granted s brand 1 CAR_BANK_CTRL.addr _ hg),
      getF_setF_same s CAR_BANK_CTRL_SWAP_REQ 1 hi.1 (by decide), rfl, hframe.2, hframe.1⟩
  · have hwrite : writeTimetable s addr (value % 2 ^ 32) =
        answer (setTtWord s (1 - activeBank s) ((addr - 0x40410000) / 4) (value % 2 ^ 32)) .ok := if_neg (by simp [hreq])
    have hword : ∀ shadow, bankWords (setTtWord s (1 - activeBank s) ((addr - 0x40410000) / 4) (value % 2 ^ 32)) (1 - activeBank s) shadow =
        nset (bankWords s (1 - activeBank s) shadow) ((addr - 0x40410000) / 4) (value % 2 ^ 32) := fun shadow => by
      rw [bankWords_setTtWord_same, Nat.mod_mod]
    exact ⟨_, congrArg Host.Outcome.next ((writeReg_inactiveWindow value 0 hl hh ha hg).trans hwrite), rfl,
      bankWords_setTtWord_other _ _ _ _ (activeBank_le s), hword false, hword true, (framed_setTtWord _ _ _).answer _⟩

end

section
/-! gPTP: its loss, the end of holdover and its return (R53 to R55). -/

namespace Sys2Proof.Machine

set_option Elab.async false

variable {s : State} {at_ : Nat}

/- ### Fields of `CAR.STATUS` -/

theorem source_setSource (h : swf resetOf s.regs = true) (k : Nat) : source (setSource s k) = k % 8 :=
  getF_setF_same s CAR_STATUS_SOURCE k h (by decide)

theorem gptpValid_setF (h : swf resetOf s.regs = true) (b : Bool) : gptpValid (setF s CAR_STATUS_GPTP_VALID (b2n b)) = b := by
  rw [gptpValid, flag, getF_setF_same s CAR_STATUS_GPTP_VALID _ h (by decide)]
  cases b <;> rfl

/-- The source field lies beside every other field of its word. -/
theorem source_setF_beside (h : swf resetOf s.regs = true) {f : Fld} (v : Nat) (hw : f.lo + f.w ≤ 32) (ha : f.addr = CAR_STATUS.addr)
    (hd : 3 ≤ f.lo) : source (setF s f v) = source s :=
  getF_setF_beside s f CAR_STATUS_SOURCE v h hw ha.symm (.inr hd)

theorem source_setF_other {f : Fld} (v : Nat) (ha : f.addr ≠ CAR_STATUS.addr) : source (setF s f v) = source s :=
  getF_setF_other s f CAR_STATUS_SOURCE v ha.symm

theorem gptpValid_setSource (h : swf resetOf s.regs = true) (k : Nat) : gptpValid (setSource s k) = gptpValid s :=
  congrArg (· == 1) (getF_setF_beside s CAR_STATUS_SOURCE CAR_STATUS_GPTP_VALID k h (by decide) rfl (by decide))

theorem source_congr {s t : State} (h : t.regs = s.regs) : source t = source s := getF_congr h _

theorem gptpValid_congr {s t : State} (h : t.regs = s.regs) : gptpValid t = gptpValid s := congrArg (· == 1) (getF_congr h _)

/- ### GPTP_LOST (R53) -/

/-- gPTP is no longer valid, and the holdover count begins at a moment. -/
def holdFrom (s : State) (at_ : Nat) : State :=
  setF { setF (atTime s at_) CAR_STATUS_GPTP_VALID 0 with stk := { s.stk with gptp := false, holdStart := some at_, holdNoted := false } }
    CAR_HOLD_ELAPSED 0

theorem holdFrom_wf (h : swf resetOf s.regs = true) : swf resetOf (holdFrom s at_).regs = true := setF_wf _ _ _ (setF_wf (atTime s at_) _ _ h)

theorem source_holdFrom (h : swf resetOf s.regs = true) : source (holdFrom s at_) = source s :=
  (source_setF_other 0 (by decide)).trans (source_setF_beside (s := atTime s at_) h 0 (by decide) rfl (by decide))

theorem gptpValid_holdFrom (h : swf resetOf s.regs = true) : gptpValid (holdFrom s at_) = false := by
  have hvalid : gptpValid (setF (atTime s at_) CAR_STATUS_GPTP_VALID 0) = false := gptpValid_setF (s := atTime s at_) h false
  rw [← hvalid]
  exact congrArg (· == 1) (getF_setF_other _ CAR_HOLD_ELAPSED CAR_STATUS_GPTP_VALID 0 (by decide))

/-- From source 1 the strokes go on from the holdover counter. -/
theorem execGptpLost_of_source1 (h : swf resetOf s.regs = true) (hv : gptpValid s = true) (hl : s.pln.strokeLoss = false)
    (hs : source s = 1) : exec (.gptpLost at_) s = .next (sendFault (setSource (holdFrom s at_) 5) 0x04 0x005 3 0) := by
  have hs' : source (holdFrom s at_) = 1 ∨ source (holdFrom s at_) = 2 := .inl ((source_holdFrom h).trans hs)
  change execGptpLost at_ s = _
  rw [← if_pos (c := source (holdFrom s at_) = 1 ∨ source (holdFrom s at_) = 2) (t := setSource (holdFrom s at_) 5) hs']
  unfold execGptpLost
  rw [if_neg (by simp [gptpValid_congr (atTime_regs s at_), hv])]
  exact if_neg (by simp [hl])

/- ### HOLDOVER_EXPIRED (R54) -/

theorem execHoldoverExpired_of_source5 {h : Nat} (hv : gptpValid s = false) (hh : s.stk.holdStart = some h) (hle : h + 1000000000 ≤ at_)
    (ha : at_ < 2 ^ 64) (hs : source s = 5) : exec (.holdoverExpired at_) s = .next (strokeLoss (atTime s at_)) := by
  have hheld : heldFor (atTime s at_) = max s.time at_ - h := by rw [heldFor, atTime_stk, hh, atTime_time, Nat.mod_eq_of_lt ha]
  change execHoldoverExpired at_ s = _
  unfold execHoldoverExpired
  rw [if_neg (by rw [gptpValid_congr (atTime_regs s at_), hv, hheld, atTime_stk, hh]; simp; omega),
    if_pos ((source_congr (atTime_regs s at_)).trans hs)]

/- ### GPTP_RESTORED (R55) -/

/-- gPTP is valid again: holdover has ended, and the counter follows gPTP time. -/
def gptpBack (s : State) (at_ gptp : Nat) : State :=
  let u := followGptp (endHold (atTime s at_)) gptp
  setF { u with stk := { u.stk with gptp := true, gptpEver := true } } CAR_STATUS_GPTP_VALID 1

variable {gptp : Nat}

theorem followGptp_regs : (followGptp s gptp).regs = s.regs := by unfold followGptp; split <;> rfl

theorem followGptp_stk : (followGptp s gptp).stk = s.stk := by unfold followGptp; split <;> rfl

theorem followGptp_flt : (followGptp s gptp).flt = s.flt := by unfold followGptp; split <;> rfl

/-- Once gPTP has been valid the counter is slewed, never stepped (R55). -/
theorem followGptp_of_ever (h : s.stk.gptpEver = true) : followGptp s gptp = { s with slew := (gptp : Int) - s.time } :=
  if_neg (by simp [h])

theorem Framed.followGptp {l : List Part} {rs : List Nat} {z : State} (gptp : Nat) (hl : .time ∈ l) (h : Framed l rs z s) :
    Framed l rs z (followGptp s gptp) := by
  unfold Machine.followGptp
  split
  · exact h.withTime _ _ _ hl
  · exact h.withTime _ _ _ hl

theorem gptpBack_stk : (gptpBack s at_ gptp).stk = { s.stk with holdStart := none, gptp := true, gptpEver := true } := by
  rw [gptpBack, setF_stk]
  dsimp only
  rw [followGptp_stk]
  rfl

theorem gptpBack_flt : (gptpBack s at_ gptp).flt = s.flt := followGptp_flt

theorem gptpBack_time (h : s.stk.gptpEver = true) :
    (gptpBack s at_ gptp).time = (atTime s at_).time ∧ (gptpBack s at_ gptp).slew = (gptp : Int) - (atTime s at_).time := by
  have e := followGptp_of_ever (s := endHold (atTime s at_)) (gptp := gptp) h
  exact ⟨(congrArg State.time e :), (congrArg State.slew e :)⟩

/-- The registers: HOLD_ELAPSED keeps the last count, and GPTP_VALID is set. -/
theorem gptpBack_regs (s : State) (at_ gptp : Nat) :
    ∃ v, (gptpBack s at_ gptp).regs = (setF (setF s CAR_HOLD_ELAPSED v) CAR_STATUS_GPTP_VALID 1).regs :=
  ⟨if s.stk.holdStart.isSome then min (heldFor (atTime s at_) / 1000) 2097151 else getF s CAR_HOLD_ELAPSED,
    setF_regs_congr followGptp_regs CAR_STATUS_GPTP_VALID 1⟩

theorem gptpBack_wf (h : swf resetOf s.regs = true) : swf resetOf (gptpBack s at_ gptp).regs = true := by
  obtain ⟨v, e⟩ := gptpBack_regs s at_ gptp
  rw [e]
  exact setF_wf _ _ _ (setF_wf s _ _ h)

theorem gptpValid_gptpBack (h : swf resetOf s.regs = true) : gptpValid (gptpBack s at_ gptp) = true := by
  obtain ⟨v, e⟩ := gptpBack_regs s at_ gptp
  rw [gptpValid_congr e]
  exact gptpValid_setF (setF_wf s _ _ h) true

theorem source_gptpBack (h : swf resetOf s.regs = true) : source (gptpBack s at_ gptp) = source s := by
  obtain ⟨v, e⟩ := gptpBack_regs s at_ gptp
  rw [source_congr e, source_setF_beside (f := CAR_STATUS_GPTP_VALID) (setF_wf s _ _ h) 1 (by decide) rfl (by decide),
    source_setF_other v (by decide)]

theorem gptpPrimary_gptpBack : gptpPrimary (gptpBack s at_ gptp) = gptpPrimary s := by
  obtain ⟨v, e⟩ := gptpBack_regs s at_ gptp
  rw [gptpPrimary, getF_congr e, getF_setF_other _ _ _ _ (by decide), getF_setF_other _ _ _ _ (by decide), gptpPrimary]

theorem framed_gptpBack : Framed [.stk, .time, .flt] [CAR_STATUS.addr, CAR_HOLD_ELAPSED.addr] s (gptpBack s at_ gptp) :=
  (((((framed_refl _ _ s).atTime at_ (by decide)).withStk _ (by decide)).setF _ (by decide)).followGptp gptp (by decide)).withStk _
    (by decide) |>.setF 1 (by decide)

theorem computeStarts_of_source (h : source s ≠ 6) : computeStarts s = s := if_neg fun ⟨_, _, _, _, h6⟩ => h h6

/-- From source 5 the strokes go back to the source of `CAR.SRC_CFG`. -/
theorem execGptpRestored_of_source5 (h : swf resetOf s.regs = true) (hq : s.flt.fifo.length < 256) (hv : gptpValid s = false)
    (hs : source s = 5) :
    exec (.gptpRestored { at_ := at_, gptp := gptp }) s =
      .next (sendFault (setSource (gptpBack s at_ gptp) (if gptpPrimary s then 2 else 1)) 0x04 0x00E 0 0) := by
  have hback : source (gptpBack s at_ gptp) = 5 := (source_gptpBack h).trans hs
  have hkeep : source (sendFault (setSource (gptpBack s at_ gptp) (if gptpPrimary s then 2 else 1)) 0x04 0x00E 0 0) ≠ 6 := by
    rw [source_congr (sendFault_regs _ _ _ _ (by rw [setSource, setF_flt, gptpBack_flt]; exact hq)), source_setSource (gptpBack_wf h)]
    cases gptpPrimary s <;> decide
  change execGptpRestored _ s = _
  rw [← computeStarts_of_source hkeep]
  unfold execGptpRestored
  rw [if_neg (by simp [gptpValid_congr (atTime_regs s at_), hv])]
  change Host.Outcome.next (computeStarts (if source (gptpBack s at_ gptp) = 5 then
    sendFault (setSource (gptpBack s at_ gptp) (if gptpPrimary (gptpBack s at_ gptp) then 2 else 1)) 0x04 0x00E 0 0 else _)) = _
  rw [if_pos hback, gptpPrimary_gptpBack]

end Sys2Proof.Machine

open Sys2Proof Sys2Proof.Machine

/-- Settles O16, one command after the other. -/
theorem gptpLossHoldoverAndReturn : Obligations.GptpLossHoldoverAndReturn := by
  intro s at_ gptp ⟨hregs, _, _⟩ hq
  refine ⟨fun hv hl hs => ?_, fun h hv hh hle ha hs => ?_, fun hv hs => ?_⟩
  · have hr := sendFault_regs (s := setSource (holdFrom s at_) 5) 0x04 0x005 3 0 hq
    have hframe : Framed [.stk, .time, .flt] [CAR_STATUS.addr, CAR_HOLD_ELAPSED.addr] s (holdFrom s at_) :=
      ((((framed_refl _ _ s).atTime at_ (by decide)).setF 0 (by decide)).withStk _ (by decide)).setF 0 (by decide)
    exact ⟨_, execGptpLost_of_source1 hregs hv hl hs,
      (gptpValid_congr hr).trans ((gptpValid_setSource (holdFrom_wf hregs) 5).trans (gptpValid_holdFrom hregs)),
      (source_congr hr).trans (source_setSource (holdFrom_wf hregs) 5), congrArg Stk.holdStart (sendFault_stk _ _ _ _),
      sendFault_fifo_from (s := atTime s at_) _ _ _ _ hq, (hframe.setF 5 (by decide)).sendFault _ _ _ _ hq (by decide)⟩
  · have hr : (strokeLoss (atTime s at_)).regs = (setSource (atTime s at_) 6).regs := sendFault_regs _ _ _ _ hq
    have hframe : Framed [.pln, .time, .flt] [CAR_STATUS.addr] s (setSource (atTime s at_) 6) :=
      ((framed_refl _ _ s).atTime at_ (by decide)).setF 6 (by decide)
    exact ⟨_, execHoldoverExpired_of_source5 hv hh hle ha hs,
      (source_congr hr).trans (source_setSource (s := atTime s at_) hregs 6),
      congrArg Pln.strokeLoss (sendFault_pln _ _ _ _), sendFault_fifo_from (s := atTime s at_) _ _ _ _ hq,
      (hframe.withPln _ (by decide)).sendFault _ _ _ _ hq (by decide)⟩
  · have hflt : (gptpBack s at_ gptp).flt = s.flt := gptpBack_flt
    have hq' : (setSource (gptpBack s at_ gptp) (if gptpPrimary s then 2 else 1)).flt.fifo.length < 256 := by
      rw [setSource, setF_flt, hflt]; exact hq
    have hr := sendFault_regs 0x04 0x00E 0 0 hq'
    have ht := sendFault_time 0x04 0x00E 0 0 hq'
    refine ⟨_, execGptpRestored_of_source5 hregs hq hv hs,
      (gptpValid_congr hr).trans ((gptpValid_setSource (gptpBack_wf hregs) _).trans (gptpValid_gptpBack hregs)), ?_, ?_, ?_,
      fun hever => ?_, (framed_gptpBack.setF _ (by decide)).sendFault _ _ _ _ hq' (by decide)⟩
    · rw [sendFault_stk, setSource, setF_stk, gptpBack_stk]
    · rw [source_congr hr, source_setSource (gptpBack_wf hregs)]
      cases gptpPrimary s <;> rfl
    · rw [sendFault_fifo _ _ _ _ hq', mkRec_congr (s := setSource _ _) (sendFault_stk _ _ _ _) ht, setSource, setF_flt, hflt]
    · rw [ht, sendFault_slew _ _ _ _ hq']
      exact gptpBack_time hever

end

section
/-! The stroke that enters REPRO mode (R64, R329), and the fences of the stroke instant (R415, R486): states of the hypotheses where a
statement's conclusion fails. -/

namespace Sys2Proof.Machine

set_option Elab.async false

/- ### STROKE_IN_EDGE and FLYWHEEL_STROKE when REPRO mode is entered -/

/-- The stroke that enters REPRO mode waits with REPRO_BASE and REPRO_T0 (R64, R329). -/
theorem awaiting_beginStroke_of_mayEnter {s : State} (t : Nat) (hr : inRepro s = false) (hm : mayEnter s = true) :
    (beginStroke s t).stk.awaiting = some (reproBase s, reproT0 s, t + targetNs (sendSyncAll (strokePulse s t) 0x10 (reproBase s) (reproT0 s))) := by
  simp [beginStroke, hr, hm]

/-- A manager alone on its node, with a period of 10 ms and valid gPTP, that takes strokes from a source and has set the coming stroke for
the change to REPRO mode: the change is pending and nothing is left to drain. REPRO_BASE and REPRO_T0 are 0. -/
def enteringRepro (source : Nat) : State :=
  { State.reset with
    regs := [(TOP_MODE_MODE.addr, 4), (CAR_PERIOD.addr, 10000), (CAR_STATUS.addr, BitVec.ofNat 32 (16 + source)), (UBF_NODE_CFG_ROLE.addr, 1)]
    stk := { takeFrom := some 0, anchor := some 0 }
    ubf := { State.reset.ubf with reproSet := true } }

/-- The edge's state at which the stroke begins. -/
def enteringEdge : State :=
  setF { atTime (enteringRepro 0) 20000007 with stk := { (enteringRepro 0).stk with lastAccepted := some 20000007 } } CAR_STATUS_SI_USABLE 1

theorem execStrokeInEdge_enteringRepro : exec (.strokeInEdge 20000007 60) (enteringRepro 0) = .next (beginStroke enteringEdge 20000007) := rfl

theorem execFlywheelStroke_enteringRepro :
    exec (.flywheelStroke 20000000) (enteringRepro 1) = .next (beginStroke (atTime (enteringRepro 1) 20000000) 20000000) := rfl

/- ### STROKE_INSTANT when a golden task of the previous stroke did not run -/

/-- A manager in service whose Bellows unit 0 has a golden task that is not released, unit 1 a spare, and whose two-hand group 6 is in
STAGING. The next stroke waits for its instant. -/
def goldenNotReleased : State :=
  { State.reset with
    regs := [(TOP_MODE_MODE.addr, 0), (CAR_PERIOD.addr, 10000), ((SPR_COUNT_LOGICAL 0).addr, 1), ((mapV 0 0).addr, 256),
      ((SPR_U_STATE_STATE 1).addr, 1), ((FWL_TH_STATUS_STATE 6).addr, 1), (UBF_NODE_CFG_ROLE.addr, 1)]
    stk := { any := true, awaiting := some (1, 1000, 1200) }
    bil := { State.reset.bil with goldenHm := [(goldTag 0 0, 5)] } }

theorem execStrokeInstant_goldenNotReleased :
    exec (.strokeInstant 1200) goldenNotReleased = .next (newStroke (atTime goldenNotReleased 1200) 1 1000 1200) := rfl

/-- Fencing the unit brings in the spare; the substitution aborts the open staging of group 6, whose status is a register of block 0x12
(R415, R483, R486). -/
theorem rd_newStroke_goldenNotReleased :
    rd (newStroke (atTime goldenNotReleased 1200) 1 1000 1200) (FWL_TH_STATUS_STATE 6).addr ≠ rd goldenNotReleased (FWL_TH_STATUS_STATE 6).addr := by
  decide +kernel

end Sys2Proof.Machine

open Sys2Proof Sys2Proof.Machine

/-- Refutes O14: the edge whose stroke enters REPRO mode waits with REPRO_BASE and REPRO_T0, not with its own number and time. -/
theorem not_strokeInEdgeIsFiltered : ¬ Obligations.StrokeInEdgeIsFiltered := by
  intro h
  obtain ⟨hedge, _⟩ := h (enteringRepro 0) 20000007 60 (by decide) (by decide) (by decide) (by decide) (by decide) (by decide) (by decide)
  obtain ⟨t, ht, _, hawaiting, _⟩ := hedge (by decide) (by decide) (fun _ hlast => nomatch hlast)
  cases ht.symm.trans execStrokeInEdge_enteringRepro
  rw [awaiting_beginStroke_of_mayEnter 20000007 (by decide) (by decide)] at hawaiting
  injection hawaiting with hstroke
  exact absurd (congrArg (·.2.1) hstroke) (by decide)

/-- Refutes O15: the flywheel stroke that enters REPRO mode waits with REPRO_BASE and REPRO_T0, not with its own number and time. -/
theorem not_strokesGoOnWithoutStrokeIn : ¬ Obligations.StrokesGoOnWithoutStrokeIn := by
  intro ⟨_, h⟩
  obtain ⟨hslot, _⟩ := h (enteringRepro 1) 20000000 (by decide) (by decide) (by decide)
  obtain ⟨t, ht, hawaiting, _⟩ := hslot 0 (by decide) rfl (by decide) (by decide) (by decide)
  cases ht.symm.trans execFlywheelStroke_enteringRepro
  rw [awaiting_beginStroke_of_mayEnter 20000000 (by decide) (by decide)] at hawaiting
  injection hawaiting with hstroke
  exact absurd (congrArg (·.2.1) hstroke) (by decide)

/-- Refutes O17: at the stroke instant the unit of a golden task that did not run is fenced, and the substitution writes a firewall register,
which lies in none of the blocks listed. -/
theorem not_strokeInstantMakesTheWaitingStrokeCurrent : ¬ Obligations.StrokeInstantMakesTheWaitingStrokeCurrent := by
  intro h
  obtain ⟨hinstant, _⟩ := h goldenNotReleased 1200 1 1000 1200 (by decide) rfl (by decide)
  obtain ⟨t, ht, _, _, _, _, _, _, _, _, _, _, _, hblocks⟩ := hinstant (by decide) (by decide) (fun _ => .inl rfl)
  cases ht.symm.trans execStrokeInstant_goldenNotReleased
  exact rd_newStroke_goldenNotReleased (hblocks _ (by decide))

end

section
/-! The worker's strokes (R65 to R73, R395): Bell edges, edges that do not come, and the STROKE messages. -/

namespace Sys2Proof.Machine

set_option Elab.async false

variable {s : State} {at_ highNs : Nat}

/- ### What the operations of the Bell line leave -/

/-- A pulse moves BELL_OUT alone. -/
theorem bellPulse_eq (s : State) (a w tol : Nat) : ∃ p, bellPulse s a w tol = { s with pins := p } := by
  unfold bellPulse
  dsimp only
  split
  · exact ⟨_, rfl⟩
  · exact ⟨s.pins, rfl⟩

section SkewCheck

variable (edge t : Nat)

/-- The difference shown, and a record when it lies beyond ±25 ns (R71). -/
theorem skewCheck_cases (s : State) :
    ∃ v, skewCheck s edge t = setF s BEL_SKEW_LAST v ∨ skewCheck s edge t = sendFault (setF s BEL_SKEW_LAST v) 0x05 0x004 0 0 := by
  unfold skewCheck
  dsimp only
  split
  · exact ⟨_, .inr rfl⟩
  · exact ⟨_, .inl rfl⟩

theorem skewCheck_stk : (skewCheck s edge t).stk = s.stk := by
  obtain ⟨v, e | e⟩ := skewCheck_cases edge t s
  · rw [e, setF_stk]
  · rw [e, sendFault_stk, setF_stk]

theorem skewCheck_bell : (skewCheck s edge t).bell = s.bell := by
  obtain ⟨v, e | e⟩ := skewCheck_cases edge t s
  · rw [e, setF_bell]
  · rw [e, sendFault_bell, setF_bell]

theorem skewCheck_regs (hq : s.flt.fifo.length < 256) : ∃ v, (skewCheck s edge t).regs = (setF s BEL_SKEW_LAST v).regs := by
  obtain ⟨v, e | e⟩ := skewCheck_cases edge t s
  · exact ⟨v, congrArg State.regs e⟩
  · exact ⟨v, by rw [e, sendFault_regs (s := setF s BEL_SKEW_LAST v) _ _ _ _ hq]⟩

theorem getF_skewCheck {f : Fld} (hq : s.flt.fifo.length < 256) (hf : f.addr ≠ BEL_SKEW_LAST.addr) : getF (skewCheck s edge t) f = getF s f := by
  obtain ⟨v, e⟩ := skewCheck_regs edge t hq
  rw [getF_congr e, getF_setF_other _ _ _ _ hf]

theorem skewCheck_wf (hq : s.flt.fifo.length < 256) (h : swf resetOf s.regs = true) : swf resetOf (skewCheck s edge t).regs = true := by
  obtain ⟨v, e⟩ := skewCheck_regs edge t hq
  rw [e]
  exact setF_wf _ _ _ h

theorem Framed.skewCheck {l : List Part} {rs : List Nat} {z : State} (h : Framed l rs z s) (hq : s.flt.fifo.length < 256) (hl : .flt ∈ l)
    (hr : BEL_SKEW_LAST.addr ∈ rs) : Framed l rs z (skewCheck s edge t) := by
  obtain ⟨v, e | e⟩ := skewCheck_cases edge t s
  · rw [e]; exact h.setF v hr
  · rw [e]; exact (h.setF v hr).sendFault _ _ _ _ hq hl

end SkewCheck

/-- What REPRO mode waits for depends on no register of the Bell line. -/
theorem waitsRepro_congr {s t : State} (hcar : t.car = s.car) (hstk : t.stk = s.stk) (hubf : t.ubf = s.ubf) (hpln : t.pln = s.pln)
    (htab : t.tabA = s.tabA) (hf : ∀ f : Fld, f.addr ≠ BEL_STATUS.addr → getF t f = getF s f) : waitsRepro t = waitsRepro s := by
  have hmode : mode t = mode s := hf TOP_MODE_MODE (by decide)
  have hworker : isWorker t = isWorker s := congrArg (· == 2) (hf UBF_NODE_CFG_ROLE (by decide))
  have hbank : activeBank t = activeBank s := hf CAR_STATUS_BANK (by decide)
  have hlaunch : mayLaunch t = mayLaunch s := by unfold mayLaunch inEmber; rw [hstk, hubf, hpln, hmode, hworker]
  have hentries : strokeEntries t = strokeEntries s := by unfold strokeEntries entriesOf liveWords bankWords; rw [hbank, hcar, hstk]
  have hdone : listDone t = listDone s := funext fun p => by
    have hhead : qHead t p.1 = qHead s p.1 := hf (TAB_Q_HEAD p.1) (by dsimp only; omega)
    unfold listDone tasks
    rw [hhead, htab]
  unfold waitsRepro inRepro reproBusy
  rw [hmode, hlaunch, hentries, hdone, hcar]

theorem earlyMessage_congr {s t : State} (hb : t.bell.message = s.bell.message) (hp : period t = period s) (a : Nat) :
    earlyMessage t a = earlyMessage s a := by
  unfold earlyMessage
  rw [hb, hp]

/- ### BELL_EDGE (R65, R67) -/

/-- An edge far enough from the last accepted one (R67). -/
def bellFar (s : State) (at_ : Nat) : Bool := match s.bell.lastAccepted with | none => true | some last => decide (period s ≤ 2 * (at_ - last))

/-- At an admitted worker on source 3 an edge outside the calibration window is taken or ignored. -/
theorem execBellEdge_of_source3 (hw : isWorker s = true) (ha : s.bell.admitted = true) (ho : s.ubf.orphan = false) (hs : source s = 3)
    (hc : inCalWindow s at_ = false) :
    ∃ p, (highNs < 20 → p = s.pins) ∧ exec (.bellEdge at_ highNs) s =
      .next (if 20 ≤ highNs ∧ bellFar s at_ then bellStroke { atTime s at_ with pins := p } at_ else ignoreBell { atTime s at_ with pins := p }) := by
  obtain ⟨p, hp, hpins⟩ : ∃ p, (if 20 ≤ highNs then bellPulse (atTime s at_) (at_ + 35) highNs 5 else atTime s at_) =
      { atTime s at_ with pins := p } ∧ (highNs < 20 → p = s.pins) := by
    obtain ⟨p, hp⟩ := bellPulse_eq (atTime s at_) (at_ + 35) highNs 5
    split
    · next h20 => exact ⟨p, hp, fun hlt => absurd h20 (by omega)⟩
    · exact ⟨s.pins, rfl, fun _ => rfl⟩
  refine ⟨p, hpins, ?_⟩
  have hw' : isWorker (atTime s at_) = true := hw
  have hc' : inCalWindow { atTime s at_ with pins := p } at_ = false := hc
  have hs' : source { atTime s at_ with pins := p } = 3 := hs
  change execBellEdge at_ highNs s = _
  unfold execBellEdge
  dsimp only
  rw [if_neg (by simp [hw', ha, ho]), hp, hc', hs']
  rfl

/-- The accepted edge is the last one, and shows in `BEL.STATUS`. -/
def edgeSeen (s : State) (t : Nat) : State :=
  setF { s with bell := { s.bell with lastAccepted := some t, edgeAt := some t, late := false } } BEL_STATUS_EDGE_OK 1

theorem edgeSeen_wf (t : Nat) (h : swf resetOf s.regs = true) : swf resetOf (edgeSeen s t).regs = true := setF_wf _ _ _ h

theorem getF_edgeSeen_other (t : Nat) {f : Fld} (hf : f.addr ≠ BEL_STATUS.addr) : getF (edgeSeen s t) f = getF s f :=
  getF_setF_other _ BEL_STATUS_EDGE_OK f 1 hf

theorem getF_edgeSeen_same (t : Nat) (h : swf resetOf s.regs = true) : getF (edgeSeen s t) BEL_STATUS_EDGE_OK = 1 :=
  getF_setF_same _ BEL_STATUS_EDGE_OK 1 h (by decide)

theorem waitsRepro_edgeSeen (t : Nat) : waitsRepro (edgeSeen s t) = waitsRepro s :=
  waitsRepro_congr rfl rfl rfl rfl rfl fun _ => getF_edgeSeen_other t

theorem earlyMessage_edgeSeen (t : Nat) : earlyMessage (edgeSeen s t) t = earlyMessage s t := by
  have hmessage : (edgeSeen s t).bell.message = s.bell.message := rfl
  have hperiod : period (edgeSeen s t) = period s := by unfold period; rw [getF_edgeSeen_other t (by decide)]
  exact earlyMessage_congr hmessage hperiod t

theorem Framed.edgeSeen {l : List Part} {rs : List Nat} {z : State} (t : Nat) (hl : .bell ∈ l) (hr : BEL_STATUS.addr ∈ rs)
    (h : Framed l rs z s) : Framed l rs z (edgeSeen s t) := (h.withBell _ hl).setF 1 hr

theorem takeSource_of_ne (k : Nat) (h : source s ≠ 6) : takeSource s k = s := if_neg h

/-- On source 3, in no REPRO stroke: the message that came first gives the stroke its number and time; without it the worker runs its previous
number + 1 (R72). -/
theorem bellStroke_cases {t : Nat} (hs : source s = 3) (hr : waitsRepro s = false) :
    (∃ n t0, earlyMessage s t = some (n, t0) ∧ bellStroke s t = { setF (skewCheck (edgeSeen s t) t t0) BEL_STATUS_NUM_OK 1 with
      stk := { s.stk with awaiting := some (n, t0, t + getF s BEL_COMP) }
      bell := { (edgeSeen s t).bell with message := none, guessed := false, adopt := none } }) ∨
    earlyMessage s t = none ∧ ∃ n t0, bellStroke s t = { setF (edgeSeen s t) BEL_STATUS_NUM_OK 0 with
      stk := { s.stk with awaiting := some (n, t0, t + getF s BEL_COMP) }
      bell := { (edgeSeen s t).bell with message := none, guessed := true, adopt := none } } := by
  have htake : takeSource { s with bell := { s.bell with lastAccepted := some t, edgeAt := some t, late := false } } 3 = _ :=
    takeSource_of_ne 3 (fun h6 => by cases hs.symm.trans h6)
  have hwait : waitsRepro (edgeSeen s t) = false := (waitsRepro_edgeSeen t).trans hr
  have hcomp : getF (edgeSeen s t) BEL_COMP = getF s BEL_COMP := getF_edgeSeen_other t (by decide)
  unfold bellStroke
  simp only [htake]
  rw [← edgeSeen, hwait, earlyMessage_edgeSeen, hcomp]
  rcases earlyMessage s t with _ | ⟨n, t0⟩
  · exact .inr ⟨rfl, _, _, rfl⟩
  · refine .inl ⟨n, t0, rfl, ?_⟩
    have hstk : (skewCheck (edgeSeen s t) t t0).stk = s.stk := skewCheck_stk t t0
    have hbell : (skewCheck (edgeSeen s t) t t0).bell = (edgeSeen s t).bell := skewCheck_bell t t0
    rw [← hstk, ← hbell]
    rfl

/-- What an accepted edge leaves: its stroke waits for the instant BEL.COMP later. -/
theorem bellStroke_leaves {t : Nat} (h : swf resetOf s.regs = true) (hq : s.flt.fifo.length < 256) (hs : source s = 3) (hr : waitsRepro s = false) :
    ∃ n tai, (bellStroke s t).bell.lastAccepted = some t ∧ (bellStroke s t).bell.edgeAt = some t ∧
      (bellStroke s t).stk = { s.stk with awaiting := some (n, tai, t + getF s BEL_COMP) } ∧ getF (bellStroke s t) BEL_STATUS_EDGE_OK = 1 ∧
      (earlyMessage s t = some (n, tai) ∧ getF (bellStroke s t) BEL_STATUS_NUM_OK = 1 ∧ (bellStroke s t).bell.guessed = false ∨
        earlyMessage s t = none ∧ getF (bellStroke s t) BEL_STATUS_NUM_OK = 0 ∧ (bellStroke s t).bell.guessed = true) ∧
      Framed [.stk, .bell, .time, .pins, .flt] [BEL_STATUS.addr, BEL_SKEW_LAST.addr] s (bellStroke s t) := by
  have hwf := edgeSeen_wf t h
  have hframe : Framed [.stk, .bell, .time, .pins, .flt] [BEL_STATUS.addr, BEL_SKEW_LAST.addr] s (edgeSeen s t) :=
    (framed_refl _ _ s).edgeSeen t (by decide) (by decide)
  have hedge := getF_edgeSeen_same t h
  obtain ⟨n, t0, he, e⟩ | ⟨he, n, t0, e⟩ := bellStroke_cases (t := t) hs hr
  · have hskew := skewCheck_wf t t0 (s := edgeSeen s t) hq hwf
    have hnum := getF_setF_same (skewCheck (edgeSeen s t) t t0) BEL_STATUS_NUM_OK 1 hskew (by decide)
    have hok : getF (setF (skewCheck (edgeSeen s t) t t0) BEL_STATUS_NUM_OK 1) BEL_STATUS_EDGE_OK = 1 := by
      rw [getF_setF_beside _ BEL_STATUS_NUM_OK BEL_STATUS_EDGE_OK 1 hskew (by decide) rfl (by decide),
        getF_skewCheck t t0 (s := edgeSeen s t) hq (by decide), hedge]
    rw [e]
    exact ⟨n, t0, rfl, rfl, rfl, hok, .inl ⟨he, hnum, rfl⟩,
      ((hframe.skewCheck t t0 hq (by decide) (by decide)).setF (f := BEL_STATUS_NUM_OK) 1 (by decide)).withStkBell _ _ (by decide) (by decide)⟩
  · have hnum := getF_setF_same (edgeSeen s t) BEL_STATUS_NUM_OK 0 hwf (by decide)
    have hok := (getF_setF_beside (edgeSeen s t) BEL_STATUS_NUM_OK BEL_STATUS_EDGE_OK 0 hwf (by decide) rfl (by decide)).trans hedge
    rw [e]
    exact ⟨n, t0, rfl, rfl, rfl, hok, .inr ⟨he, hnum, rfl⟩,
      (hframe.setF (f := BEL_STATUS_NUM_OK) 0 (by decide)).withStkBell _ _ (by decide) (by decide)⟩

/-- Up to eight edges of a stroke are counted and ignored (R67). -/
theorem ignoreBell_of_few (h : s.bell.ignored < 8) :
    ignoreBell s = { bump s BEL_EDGE_IGNORED 1 with bell := { s.bell with ignored := s.bell.ignored + 1 } } := by
  unfold ignoreBell
  exact if_neg fun hmany => absurd (show 9 ≤ s.bell.ignored + 1 from hmany.1) (by omega)

/- ### BELL_MISSING (R67, R73) -/

/-- The strokes come from the messages, and no edge counts. -/
def lineLost (s : State) : State :=
  { setF (setSource s 4) BEL_STATUS_EDGE_OK 0 with bell := { s.bell with missing := true, goodEdges := 0, edgeAt := none } }

theorem source_lineLost (h : swf resetOf s.regs = true) : source (lineLost s) = 4 :=
  (source_setF_other (s := setSource s 4) (f := BEL_STATUS_EDGE_OK) 0 (by decide)).trans (source_setSource h 4)

theorem getF_lineLost (h : swf resetOf s.regs = true) : getF (lineLost s) BEL_STATUS_EDGE_OK = 0 :=
  getF_setF_same (setSource s 4) BEL_STATUS_EDGE_OK 0 (setF_wf _ _ _ h) (by decide)

theorem Framed.lineLost {l : List Part} {rs : List Nat} {z : State} (hl : .bell ∈ l) (hc : CAR_STATUS.addr ∈ rs)
    (hb : BEL_STATUS.addr ∈ rs) (h : Framed l rs z s) : Framed l rs z (lineLost s) := 
  ((h.setF (f := CAR_STATUS_SOURCE) 4 hc).setF (f := BEL_STATUS_EDGE_OK) 0 hb).withBell _ hl

/-- From source 6 the new source shows in `CAR.STATUS` and writes CAR 0x00D (R45). -/
theorem firstSource_leaves (h : swf resetOf s.regs = true) (hq : s.flt.fifo.length < 256) (hs : source s = 6) :
    swf resetOf (takeSource (atTime s at_) 4).regs = true ∧ (takeSource (atTime s at_) 4).stk = s.stk ∧
      (takeSource (atTime s at_) 4).time = (atTime s at_).time ∧
      (takeSource (atTime s at_) 4).flt.fifo = s.flt.fifo ++ [mkRec (atTime s at_) 0x04 0x00D 0 0] ∧
      Framed [.bell, .time, .flt] [CAR_STATUS.addr, BEL_STATUS.addr] s (takeSource (atTime s at_) 4) := by
  have e : takeSource (atTime s at_) 4 = sendFault (setSource (atTime s at_) 4) 0x04 0x00D 0 0 := if_pos hs
  have hr := sendFault_regs (s := setSource (atTime s at_) 4) 0x04 0x00D 0 0 hq
  rw [e, hr]
  exact ⟨setF_wf (atTime s at_) _ _ h, sendFault_stk _ _ _ _, sendFault_time _ _ _ _ hq, sendFault_fifo_from (s := atTime s at_) _ _ _ _ hq,
    (((framed_refl _ _ s).atTime at_ (by decide)).setF (f := CAR_STATUS_SOURCE) 4 (by decide)).sendFault _ _ _ _ hq (by decide)⟩

/-- An admitted worker that has missed its edge for 1.5 periods loses the line. -/
theorem execBellMissing_of_late (hw : isWorker s = true) (ha : s.bell.admitted = true) (ho : s.ubf.orphan = false)
    (hs : source s = 3 ∨ source s = 6) (hp : 3 * period s ≤ 2 * (at_ - bellSince s)) :
    exec (.bellMissing at_) s = .next (sendFault (lineLost (takeSource (atTime s at_) 4)) 0x05 0x002 3 0) :=
  if_pos ⟨hw, ha, by rw [atTime_ubf, ho]; rfl, hs, hp⟩

/- ### STROKE and STROKE_MESSAGE_LATE (R71, R72, R395) -/

/-- Taking a message changes links only, and keeps their number. -/
theorem takeMsg_eq (s : State) (i : Nat) (hdr : List Nat) (fs : List (List Nat)) :
    ∃ ls, takeMsg s i hdr fs = { s with ubf := { s.ubf with links := ls } } ∧ ls.length = s.ubf.links.length := by
  unfold takeMsg
  dsimp only
  split
  · exact ⟨_, rfl, by simp [setLnk, setAt]⟩
  · exact ⟨_, rfl, rfl⟩

/-- A sync message from upstream is noted at link 0 (R388). -/
theorem syncDown_eq (s : State) (hdr : List Nat) (h : s.ubf.links.length = 4) :
    ∃ ls, syncDown s hdr = { s with ubf := { s.ubf with links := ls } } ∧ (lnk (syncDown s hdr) 0).syncAt = s.time := by
  obtain ⟨ls, e, hlen⟩ := takeMsg_eq s 0 hdr []
  unfold syncDown
  rw [e]
  refine ⟨_, rfl, ?_⟩
  simp [noteSync, lnk, setLnk, setAt, hlen, h]

theorem execStroke_of_target {hdr : List Nat} (hl : s.ubf.links.length = 4) (ht : hTarget hdr = nodeId s) (hw : isWorker s = true)
    (ha : s.bell.admitted = true) (ho : s.ubf.orphan = false) :
    exec (.stroke at_ hdr) s = .next (strokeMessage (syncDown (atTime s at_) hdr) at_ (hAddr hdr) (hBody hdr)) := by
  obtain ⟨ls, e, _⟩ := syncDown_eq (atTime s at_) hdr hl
  change execStroke at_ hdr s = _
  unfold execStroke
  rw [e]
  exact (if_neg fun hne => hne ht).trans (if_pos ⟨hw, ha, by simp [ho]⟩)

/-- Before its edge a message waits for it (R72). -/
theorem strokeMessage_of_noEdge {n t : Nat} (hs : source s = 3) (he : s.bell.edgeAt = none) :
    strokeMessage s at_ n t = { s with bell := { s.bell with message := some (n, t, at_) } } := by
  unfold strokeMessage
  rw [if_neg (by rw [hs]; decide), he]

/-- In time after its edge a message gives the waiting stroke its number and time, and is compared with the edge (R71, R72). -/
theorem strokeMessage_of_edge {e n t m tai inst : Nat} (hs : source s = 3) (he : s.bell.edgeAt = some e) (hg : s.bell.guessed = true)
    (hl : s.bell.late = false) (h100 : at_ ≤ e + 100000) (hh : at_ ≤ e + period s / 2) (hr : inRepro s = false)
    (ha : s.stk.awaiting = some (m, tai, inst)) :
    strokeMessage s at_ n t = skewCheck { setF s BEL_STATUS_NUM_OK 1 with
      stk := { s.stk with awaiting := some (n, t, inst) }
      bell := { s.bell with guessed := false, message := none } } e t := by
  have hr' : inRepro (setF { s with bell := { s.bell with guessed := false, message := none } } BEL_STATUS_NUM_OK 1) = false := by
    rw [← hr]
    exact congrArg (· == 1) (getF_setF_other _ BEL_STATUS_NUM_OK TOP_MODE_MODE 1 (by decide))
  have htake : takeMessage s n t = { setF s BEL_STATUS_NUM_OK 1 with
      stk := { s.stk with awaiting := some (n, t, inst) }
      bell := { s.bell with guessed := false, message := none } } := by
    unfold takeMessage
    dsimp only
    rw [hr', if_neg (by decide), setF_stk]
    dsimp only
    rw [ha]
    rfl
  unfold strokeMessage edgeMessage
  rw [if_neg (by rw [hs]; decide), he]
  dsimp only
  rw [if_pos ⟨hg, hh⟩, if_pos ⟨by simp [hl], h100⟩, htake]

theorem execStrokeMessageLate_of_late {e : Nat} (hw : isWorker s = true) (he : s.bell.edgeAt = some e) (hg : s.bell.guessed = true)
    (hl : s.bell.late = false) (h100 : e + 100000 ≤ at_) : exec (.strokeMessageLate at_) s = .next (messageLate (atTime s at_)) := by
  change execStrokeMessageLate at_ s = _
  unfold execStrokeMessageLate
  dsimp only
  rw [atTime_bell, he]
  exact if_pos ⟨hw, hg, by rw [hl]; rfl, h100⟩

end Sys2Proof.Machine

open Sys2Proof Sys2Proof.Machine

/-- Settles O20: the edges by what BELL_EDGE leaves on source 3, the missing ones by the lost line, the messages by their place before, in
time after or too late after the edge. -/
theorem workersTakeStrokesFromTheBellLine : Obligations.WorkersTakeStrokesFromTheBellLine := by
  refine ⟨fun s at_ highNs ⟨hregs, _, _⟩ hw ha ho => ⟨fun hs h20 hc hr hq hfar => ?_, fun last hs hlast hc hshort hfew => ?_,
    fun hs hp hq => ?_, fun hs hp hq => ?_⟩, fun s at_ hdr ⟨hregs, _, hlinks⟩ hw => ⟨fun ht ha ho hs he => ?_,
    fun e n tai inst ht ha ho hs he hg hl h100 hh hr hawait hq => ?_, fun e he hg hl h100 hq => ?_⟩⟩
  · obtain ⟨p, _, hexec⟩ := execBellEdge_of_source3 (highNs := highNs) hw ha ho hs hc
    have hfar' : bellFar s at_ = true := by
      unfold bellFar
      cases hlast : s.bell.lastAccepted with
      | none => rfl
      | some last => exact decide_eq_true (hfar last hlast)
    rw [if_pos ⟨h20, hfar'⟩] at hexec
    obtain ⟨n, tai, haccepted, hedge, hstk, hok, hmessage, hframe⟩ :=
      bellStroke_leaves (s := { atTime s at_ with pins := p }) (t := at_) hregs hq hs hr
    exact ⟨_, n, tai, hexec, haccepted, hedge, hstk, hok, hmessage,
      (((framed_refl _ _ s).atTime at_ (by decide)).withPins p (by decide)).trans hframe⟩
  · obtain ⟨p, hpins, hexec⟩ := execBellEdge_of_source3 (highNs := highNs) hw ha ho hs hc
    have hignored : ¬(20 ≤ highNs ∧ bellFar s at_) := fun ⟨h20, hfar⟩ => by
      rw [bellFar, hlast] at hfar
      have := of_decide_eq_true hfar
      omega
    rw [if_neg hignored, ignoreBell_of_few (s := { atTime s at_ with pins := p }) hfew] at hexec
    exact ⟨_, hexec, rfl, getF_bump_same s BEL_EDGE_IGNORED 1 hregs (by decide), hpins,
      ((((framed_refl _ _ s).atTime at_ (by decide)).withPins p (by decide)).bump (f := BEL_EDGE_IGNORED) 1 (by decide)).withBell _ (by decide)⟩
  · have htake : takeSource (atTime s at_) 4 = atTime s at_ := takeSource_of_ne 4 fun h6 => by cases hs.symm.trans h6
    have hexec := execBellMissing_of_late hw ha ho (.inl hs) hp
    rw [htake] at hexec
    have hr := sendFault_regs (s := lineLost (atTime s at_)) 0x05 0x002 3 0 hq
    exact ⟨_, hexec, (source_congr hr).trans (source_lineLost (s := atTime s at_) hregs),
      (getF_congr hr _).trans (getF_lineLost (s := atTime s at_) hregs), sendFault_bell _ _ _ _,
      sendFault_fifo_from (s := atTime s at_) _ _ _ _ hq,
      (((framed_refl _ _ s).atTime at_ (by decide)).lineLost (by decide) (by decide) (by decide)).sendFault _ _ _ _ hq (by decide)⟩
  · have hexec := execBellMissing_of_late hw ha ho (.inr hs) hp
    obtain ⟨hregs', hstk, htime, hfifo, hframe⟩ := firstSource_leaves (s := s) (at_ := at_) hregs (by omega) hs
    have hq' : (lineLost (takeSource (atTime s at_) 4)).flt.fifo.length < 256 := by
      have hlen : (lineLost (takeSource (atTime s at_) 4)).flt.fifo.length = s.flt.fifo.length + 1 := by
        rw [lineLost, setF_flt, setSource, setF_flt, hfifo, List.length_append]
        rfl
      omega
    have hrec : mkRec (lineLost (takeSource (atTime s at_) 4)) 0x05 0x002 3 0 = mkRec (atTime s at_) 0x05 0x002 3 0 :=
      mkRec_congr (s := atTime s at_) hstk htime _ _ _ _
    refine ⟨_, hexec, (source_congr (sendFault_regs _ _ _ _ hq')).trans (source_lineLost hregs'), ?_,
      (hframe.lineLost (by decide) (by decide) (by decide)).sendFault _ _ _ _ hq' (by decide)⟩
    rw [sendFault_fifo _ _ _ _ hq', hrec, lineLost, setF_flt, setSource, setF_flt, hfifo, List.append_assoc]
    rfl
  · obtain ⟨ls, e, hsync⟩ := syncDown_eq (atTime s at_) hdr hlinks
    have hexec := execStroke_of_target (at_ := at_) hlinks ht hw ha ho
    rw [strokeMessage_of_noEdge (by rw [e]; exact hs) (by rw [e]; exact he)] at hexec
    refine ⟨_, hexec, congrArg (fun b : Bell => { b with message := some (hAddr hdr, hBody hdr, at_) }) ?_, hsync, ?_⟩
    · rw [e]; rfl
    · rw [e]
      exact (((framed_refl _ _ s).atTime at_ (by decide)).withUbf _ (by decide)).withBell _ (by decide)
  · obtain ⟨ls, heq, _⟩ := syncDown_eq (atTime s at_) hdr hlinks
    have hexec := execStroke_of_target (at_ := at_) hlinks ht hw ha ho
    rw [heq, strokeMessage_of_edge (s := { atTime s at_ with ubf := { (atTime s at_).ubf with links := ls } }) hs he hg hl h100 hh hr hawait] at hexec
    refine ⟨_, hexec, skewCheck_bell _ _, skewCheck_stk _ _, ?_, ?_⟩
    · rw [getF_skewCheck _ _ (by exact hq) (by decide)]
      exact getF_setF_same s BEL_STATUS_NUM_OK 1 hregs (by decide)
    · exact (((((framed_refl _ _ s).atTime at_ (by decide)).withUbf _ (by decide)).setF (f := BEL_STATUS_NUM_OK) 1 (by decide)).withStkBell _ _
        (by decide) (by decide)).skewCheck _ _ hq (by decide) (by decide)
  · have hr := sendFault_regs (s := bump { atTime s at_ with bell := { s.bell with late := true } } BEL_NUM_MISMATCH 1) 0x05 0x003 3 0 hq
    exact ⟨_, execStrokeMessageLate_of_late hw he hg hl h100, sendFault_bell _ _ _ _,
      (getF_congr hr _).trans (getF_bump_same s BEL_NUM_MISMATCH 1 hregs (by decide)), sendFault_fifo_from (s := atTime s at_) _ _ _ _ hq,
      ((((framed_refl _ _ s).atTime at_ (by decide)).withBell _ (by decide)).bump (f := BEL_NUM_MISMATCH) 1 (by decide)).sendFault _ _ _ _ hq
        (by decide)⟩

end

section
/-! The Peal's first part (R138, R142), DIGEST (R336) and placement (R301): states of the hypotheses where a statement's conclusion fails. -/

namespace Sys2Proof.Machine

/- ### REPAIR -/

/-- A REPAIR of PART 8 on Peal unit 0. Its placement would have refused it (R140), but the statement asks for no body check. -/
def part8 : Task :=
  { id := 0, queue := 0, num := 0, cmd := layout 64 [(0, 1, 1), (1, 1, 2), (24, 1, 1), (25, 1, 8), (26, 1, 1)], pri := 1, loc := .running 27 }

/-- A device in service with the Peal enabled, no lattice, and `part8` running. -/
def part8Running : State :=
  { State.reset with
    regs := [(TOP_MODE_MODE.addr, 0), (PEL_CFG0.addr, 1)]
    tabA := { tasks := [part8], nextId := 1 }
    tabB := { tasks := [part8], nextId := 1 } }

theorem part8Running_inv : part8Running.Inv := by decide

/- ### DIGEST -/

/-- A register that a frame does not list reads as before. -/
theorem Framed.rd_eq {l : List Part} {rs : List Nat} {s t : State} {a : Nat} (h : Framed l rs s t) (ha : a ∉ rs) : rd t a = rd s a := h.2 a ha

/-- The running DIGEST of a unit is computed and applied. -/
theorem execDigest_of_task {s : State} {u : Nat} {k : Task} (h : engineTask s 8 u [1] = some k) :
    exec (.digest u) s = .next (digestTask s k) := by
  change execDigest u s = _
  simp only [execDigest, h]

/-- A region of one line that reads clean has that line's hallmark, and reading it leaves no trace. -/
theorem digestGo_one_of_clean {s : State} {brand org a : Nat} {b : List Nat} (h : readBrand s brand a = (some b, [])) :
    digestGo brand org 1 a 0 s = (some (Nat.xor 0 (lineHm ((a + 2 ^ 64 - org % 2 ^ 64) % 2 ^ 64) b)), s) := by
  simp only [digestGo, h]
  rfl

/-- A DIGEST of the line at 0 whose hallmark goes to the first 8 bytes of the line at 4096. -/
def digestTo4096 : Task :=
  { id := 0, queue := 0, num := 0, cmd := layout 64 [(0, 1, 1), (1, 1, 8), (24, 8, 64), (40, 8, 4096)], pri := 1, loc := .running 216 }

/-- Brand 0x20 may read and write the Anvil. The map gives logical bank 64, where line 4096 lies, the physical bank 2000, and the line has
one symbol in error. There are 1,088 physical banks (R348), but the map's field has 11 bits and the statement asks nothing of it. -/
def bankBeyondTheLast : State :=
  { State.reset with
    regs := [((TAB_Q_CFG 0).addr, 0x2000), ((ANV_MAP 64).addr, 2000), ((FWL_REGION0 2).addr, 0x0FFFFFFF), ((FWL_REGION0 4).addr, 0x4000),
      ((FWL_REGION0 6).addr, 0x4000), ((FWL_REGION0 10).addr, 1), ((FWL_TH_SEQ 0).addr, 1)]
    mem := { errs := [(4096, onePattern 5 1)] }
    tabA := { tasks := [digestTo4096], nextId := 1 }
    tabB := { tasks := [digestTo4096], nextId := 1 } }

theorem readBrand_bankBeyondTheLast : readBrand bankBeyondTheLast 0x20 0 = (some (List.replicate 64 0), []) := by decide +kernel

/-- The write of 8 bytes reads the line, and the corrected error is counted for its physical bank (R345, R352). -/
theorem rd_digestTask_bankBeyondTheLast : rd (digestTask bankBeyondTheLast digestTo4096) (ANV_BANK_CE 2000).addr = 1 := by decide +kernel

/- ### TASK_PLACE -/

/-- The first task of a class, when nothing holds it and an engine is chosen for it, is placed there (R301). -/
theorem execTaskPlace_of_choice {s : State} {cls l e : Nat} {k : Task} {rest : List Task} (hcls : cls ≤ 8) (hready : readyList s cls = k :: rest)
    (hheld : held s k = false) (hgold : tGold k = false) (hfree : freeEngines s cls ≠ []) (hrepro : inRepro s = false)
    (hchoice : chooseEngine s cls k = some (l, e)) : exec (.taskPlace cls) s = .next (placeAt s k l e) := by
  change execTaskPlace cls s = _
  simp [execTaskPlace, Nat.not_lt.mpr hcls, hready, placeGo, hheld, hgold, hfree, hrepro, hchoice]

/-- A COPY of one line that waits for a Bellows unit. -/
def copyWaiting : Task :=
  { id := 0, queue := 0, num := 0, cmd := layout 64 [(0, 1, 1), (16, 8, 64), (24, 8, 128), (32, 4, 64)], pri := 1 }

/-- The map gives the one logical Bellows unit the physical unit 18. The Bellows has units 0 to 17 (R22), but the map's field has 8 bits (R492)
and the statement asks nothing of it: the engine of that number is Crucible unit 0. -/
def unitBeyondTheLast : State :=
  { State.reset with
    regs := [((SPR_COUNT_LOGICAL 0).addr, 1), ((mapP 0 0).addr, 256 + 18)]
    tabA := { tasks := [copyWaiting], nextId := 1 }
    tabB := { tasks := [copyWaiting], nextId := 1 } }

/-- The COPY starts at once, and the Crucible unit's status shows it (R301). -/
theorem rd_placeAt_unitBeyondTheLast :
    rd (placeAt unitBeyondTheLast copyWaiting 0 18) (CRU_U_STATUS 0).addr ≠ rd unitBeyondTheLast (CRU_U_STATUS 0).addr := by decide +kernel

end Sys2Proof.Machine

open Sys2Proof Sys2Proof.Machine

/-- Refutes O27: a unit's PART field has 3 bits, so after the first part, of PART 8, it does not hold the part's number. -/
theorem not_thePealWavefrontAdvancesAndEnds : ¬ Obligations.ThePealWavefrontAdvancesAndEnds := by
  intro ⟨hlattice, _⟩
  obtain ⟨hfirst, _⟩ := hlattice part8Running 0 0 part8 part8Running_inv
  obtain ⟨t, _, _, _, _, _, _, _, hpart, _⟩ := hfirst (by decide) (by decide) (by decide) rfl rfl (by decide)
  have hnumber : partNo part8.cmd = 8 := by decide
  have hfits : getF t (PEL_U_STATUS_PART 0) < 2 ^ 3 := getF_lt t _
  omega

/-- Refutes O28: where the map names a physical bank beyond the last, DIGEST's write into a line with a corrected error counts it in a register
that `workRegs` does not list. -/
theorem not_swageQuenchAndDigestTasksExecute : ¬ Obligations.SwageQuenchAndDigestTasksExecute := by
  intro ⟨_, _, hdigest⟩
  have htask : engineTask bankBeyondTheLast 8 0 [1] = some digestTo4096 := by decide
  obtain ⟨hread, _⟩ := hdigest bankBeyondTheLast 0 _ digestTo4096 _ (by decide) htask
  obtain ⟨t, ht, hexecuted, _⟩ := hread (digestGo_one_of_clean readBrand_bankBeyondTheLast)
  have hnext := Host.Outcome.next.inj (ht.symm.trans (execDigest_of_task htask))
  have hsame := (hexecuted.tight (by decide +kernel)).rd_eq (a := (ANV_BANK_CE 2000).addr) (by decide +kernel)
  rw [hnext, rd_digestTask_bankBeyondTheLast] at hsame
  exact absurd hsame (by decide)

/-- Refutes O36: where the map names a physical unit beyond the class's last, the task placed there shows in the status of another class's
unit, whose block is none of those listed. -/
theorem not_tasksArePlacedAndLeave : ¬ Obligations.TasksArePlacedAndLeave := by
  intro h
  have hready : readyList unitBeyondTheLast 0 = [copyWaiting] := by decide
  have hheld : held unitBeyondTheLast copyWaiting = false := by decide
  have hfree : freeEngines unitBeyondTheLast 0 ≠ [] := by decide
  have hchoice : chooseEngine unitBeyondTheLast 0 copyWaiting = some (0, 18) := by decide
  obtain ⟨hplace, _⟩ := h unitBeyondTheLast 0 0 18 0 rfl
  obtain ⟨t, _, ht, _, _, _, _, _, _, _, _, hblocks⟩ := hplace copyWaiting [] (by decide) (by decide) hready hheld (by decide) hfree (by decide)
    hchoice (by decide) (by decide) (by decide) (fun hcls => nomatch hcls)
  obtain rfl := Host.Outcome.next.inj (ht.symm.trans (execTaskPlace_of_choice (by decide) hready hheld (by decide) hfree (by decide) hchoice))
  exact rd_placeAt_unitBeyondTheLast (hblocks _ (by decide))

end

section
/-! A cut STRIKE (R187): a state of the hypotheses where the statement's conclusion fails. -/

namespace Sys2Proof.Machine

/-- Where the copies of the Tabor agree, a register that an executed work does not list reads after the work's own application as before:
both are what it reads after the task. -/
theorem Executed.rd_applyWork {s t : State} {k : Task} {w : Work} {a : Nat} (h : Executed s t k w) (htab : s.tabA = s.tabB)
    (hroom : s.flt.fifo.length + w.faults.length + 8 * (w.notes.length + ((workLines w).flatMap pieces).length) + 4 ≤ 256)
    (ha : a ∉ workRegs w) : rd (applyWork s (qBrand s k.queue) w) a = rd s a :=
  (h.registers htab a).symm.trans ((h.tight hroom).rd_eq ha)

/-- A STRIKE of one candidate that waited at its cut offset 0 (status CUT) and now runs for fill on Hammer unit 0. The record of 8 bytes goes
to the line at 4096. -/
def strikeForFill : Task :=
  { id := 0, queue := 0, num := 0, cmd := layout 64 [(0, 1, 1), (1, 1, 4), (28, 4, 1), (48, 8, 4096), (57, 1, 1)], pri := 1, loc := .running 56,
    status := 4 }

/-- The state of `bankBeyondTheLast`, which names physical bank 2000 for the bank of line 4096, with `strikeForFill` running. -/
def fillBeyondTheLast : State :=
  { bankBeyondTheLast with
    tabA := { tasks := [strikeForFill], nextId := 1 }
    tabB := { tasks := [strikeForFill], nextId := 1 } }

/-- The work fills the slot of the one candidate. It reads nothing in error and lists no register of bank 2000. -/
theorem strikeWork_fillBeyondTheLast :
    workLines (strikeWork 0 fillBeyondTheLast strikeForFill) = [(4096, leBytes 8 cutRes.rec_)] ∧
      (strikeWork 0 fillBeyondTheLast strikeForFill).notes = [] ∧ (strikeWork 0 fillBeyondTheLast strikeForFill).faults = [] ∧
      (ANV_BANK_CE 2000).addr ∉ workRegs (strikeWork 0 fillBeyondTheLast strikeForFill) := by decide +kernel

/-- The record covers part of its line, so the line is read first, and the corrected error is counted for its physical bank (R345, R352). -/
theorem rd_applyWork_fillBeyondTheLast :
    rd (applyWork fillBeyondTheLast (qBrand fillBeyondTheLast strikeForFill.queue) (strikeWork 0 fillBeyondTheLast strikeForFill))
      (ANV_BANK_CE 2000).addr = 1 := by decide +kernel

end Sys2Proof.Machine

open Sys2Proof Sys2Proof.Machine

/-- Refutes O29: where the map names a physical bank beyond the last, a cut STRIKE's fill of part of a line with a corrected error counts it in
a register that `workRegs` does not list. -/
theorem not_hammerTasksExecuteAndAreCut : ¬ Obligations.HammerTasksExecuteAndAreCut := by
  intro h
  obtain ⟨_, hcut, _⟩ := h fillBeyondTheLast 0 0 0 [] strikeForFill (by decide)
  obtain ⟨_, _, _, hexecuted, _⟩ := hcut (by decide) (by decide)
  obtain ⟨hlines, hnotes, hfaults, hunlisted⟩ := strikeWork_fillBeyondTheLast
  have hsame := hexecuted.rd_applyWork rfl (by rw [hlines, hnotes, hfaults]; decide) hunlisted
  exact absurd (rd_applyWork_fillBeyondTheLast.symm.trans hsame) (by decide)

end

section
/-! The Tongs' inbox (R212) and the Bellows' golden task (R413): states of the hypotheses where a statement's conclusion fails. -/

namespace Sys2Proof.Machine

/- ### INBOX_WRITE -/

/-- A sender's granted line is stored in its slot of the inbox and answered (R212, R421). -/
theorem execInboxWrite_of_granted {s : State} {brand slot : Nat} {line : List Nat} (hslot : slot < 32) (hlen : line.length = 64)
    (htarget : targetOf s (inboxBase s + 64 * slot) = some 0) (hgrant : fwDenies s 0 brand 1 (inboxBase s + 64 * slot) 64 = none) :
    exec (.inboxWrite brand slot line) s = .next (answer (store s (inboxBase s + 64 * slot) line) .ok) := by
  change execInboxWrite brand slot line s = _
  simp [execInboxWrite, storeBrand, hlen, htarget, hgrant, Nat.not_le.mpr hslot]

/-- A header line with VALID = 1 and STROKE 0, which after reset is the stroke in the descriptor of the sealed heat (R81, R201). -/
def strokeZeroHeader : List Nat := layout 64 [(20, 4, 1)]

/-- After reset the heat image and the inbox both begin at 0, so the line of slot 0 is the descriptor's line: storing it puts its FLAGS where
the descriptor holds the stroke, and the stroke it is compared with is then 2^32. It is taken as stale (R212). -/
theorem slotEmpty_strokeZeroHeader : bit (getF (store State.reset 0 strokeZeroHeader) TNG_INBOX_STATUS) 0 = false := by decide +kernel

/- ### BELLOWS_GOLDEN -/

/-- The running golden task of a Bellows unit does its moves and ends. -/
theorem execBellowsGolden_of_task {s : State} {u : Nat} {k : Task} (h : engineTask s 0 u [0x10] = some k) :
    exec (.bellowsGolden u) s = .next (bellowsGold s k) := by
  change execBellowsGolden u s = _
  simp only [execBellowsGolden, h]

/-- A header with VALID = 0 is pushed alone, whatever else it holds (R316). -/
theorem pushEntries_of_invalid {w : Mover} {src dst aux : Nat} {hdr : List Nat} {m : Move} (hvalid : bit (hdrOf hdr).flags 0 = false)
    (hlocal : leaksLocal m.s src 64 dst = false) : pushEntries w src dst aux hdr m = some (some (pushHeader w dst hdr m)) := by
  simp [pushEntries, hvalid, hlocal]

/-- A golden task of Bellows unit 0, its golden line at 64 and its outputs from 4096 on. -/
def goldenFrom64 : Task :=
  { id := 0, queue := 0, num := 0, cmd := layout 64 [(0, 1, 0x10), (16, 8, 64), (24, 8, 4096)], pri := 1, loc := .running 0 }

/-- A golden line whose COPY reads the first lines of node 1; the pattern and the list's header, which is zero, lie at 0 (R413). -/
def remoteGoldenLine : List Nat := layout 64 [(8, 8, remoteBase + 2 ^ 40)]

/-- The manager with node 1 admitted, `goldenFrom64` running for a queue of brand 1, and `remoteGoldenLine` in memory, of which one byte is
not zero. -/
def goldenReadsNode1 : State :=
  { State.reset with
    regs := [((TAB_Q_CFG 0).addr, 0x100), (UBF_NODE_ADMIT.addr, 2)]
    mem := { cells := [(64 + 13, 0x81)] }
    tabA := { tasks := [goldenFrom64], nextId := 1 }
    tabB := { tasks := [goldenFrom64], nextId := 1 } }

theorem readBrand_goldenReadsNode1 :
    readBrand goldenReadsNode1 (qBrand goldenReadsNode1 goldenFrom64.queue) (goldSet goldenFrom64) = (some remoteGoldenLine, []) := by
  decide +kernel

/-- The pattern is read clean. -/
theorem rdBytes_goldenReadsNode1 :
    let r := (rdBytes goldenReadsNode1 (qBrand goldenReadsNode1 goldenFrom64.queue) (fldAt remoteGoldenLine 16 8) 8).run []
    r.1 = some (List.replicate 8 0) ∧ r.2 = [] := by decide +kernel

/-- The line is filled and the remote lines are asked for; neither fails (R394). The list's header is then read clean, and is not LOCAL. -/
theorem goldMove_goldenReadsNode1 :
    let m := goldMove goldenReadsNode1 goldenFrom64 remoteGoldenLine (List.replicate 8 0)
    m.st = 0 ∧
      readBrand m.s (qBrand goldenReadsNode1 goldenFrom64.queue) (fldAt remoteGoldenLine 24 8) = (some (List.replicate 64 0), []) ∧
      leaksLocal m.s (fldAt remoteGoldenLine 24 8) 64 (goldDst goldenFrom64 + 0x1040) = false := by decide +kernel

/-- The COPY's request is outstanding after the task's moves (R394). -/
theorem pending_bellowsGold_goldenReadsNode1 : (bellowsGold goldenReadsNode1 goldenFrom64).ubf.pending.length = 1 := by decide +kernel

end Sys2Proof.Machine

open Sys2Proof Sys2Proof.Machine

/-- Refutes O30: where an inbox slot lies over the sealed heat's descriptor, as slot 0 does after reset, the line changes the stroke that it is
compared with, and its slot stays empty. -/
theorem not_tongsTasksExecuteAndTheInboxTakesLines : ¬ Obligations.TongsTasksExecuteAndTheInboxTakesLines := by
  intro ⟨_, hinbox⟩
  have hbase : inboxBase State.reset + 64 * 0 = 0 := by decide
  have htarget : targetOf State.reset (inboxBase State.reset + 64 * 0) = some 0 := by decide
  have hgrant : fwDenies State.reset 0 1 1 (inboxBase State.reset + 64 * 0) 64 = none := by decide
  have hline : strokeZeroHeader.length = 64 := by decide
  obtain ⟨_, hfull, _⟩ := hinbox State.reset 1 0 0 strokeZeroHeader (by decide) (by decide) hline
  have hstroke : fldAt strokeZeroHeader 24 8 = sealedStroke State.reset := by decide +kernel
  obtain ⟨t, ht, _, hslot, _⟩ := hfull htarget hgrant (by decide) (by decide) hstroke
  have hnext := Host.Outcome.next.inj (ht.symm.trans (execInboxWrite_of_granted (by decide) hline htarget hgrant))
  rw [hnext, hbase, getF_congr (answer_regs _ _), slotEmpty_strokeZeroHeader] at hslot
  exact absurd hslot (by decide)

/-- Refutes O32: the golden line may name a COPY source at another node, and the request for it stays outstanding in the Ubfi, a part that
`Moved.tight` says is as before. -/
theorem not_bellowsTasksExecute : ¬ Obligations.BellowsTasksExecute := by
  intro h
  have htask : engineTask goldenReadsNode1 0 0 [0x10] = some goldenFrom64 := by decide
  obtain ⟨_, _, _, _, _, hgolden⟩ := h goldenReadsNode1 0 goldenFrom64 (by decide)
  obtain ⟨hpattern, hclean⟩ := rdBytes_goldenReadsNode1
  obtain ⟨hst, hheader, hlocal⟩ := goldMove_goldenReadsNode1
  obtain ⟨t, ht, hmoved⟩ := hgolden remoteGoldenLine (List.replicate 8 0) (List.replicate 64 0) _ htask readBrand_goldenReadsNode1
    hpattern hclean hst hheader (pushEntries_of_invalid (by decide) hlocal)
  obtain rfl := Host.Outcome.next.inj (ht.symm.trans (execBellowsGolden_of_task htask))
  have hframe := hmoved.tight ⟨rfl, rfl⟩ rfl (by decide) (by decide) (by decide) (by decide)
  have hubf : (bellowsGold goldenReadsNode1 goldenFrom64).ubf = goldenReadsNode1.ubf := hframe.1 .ubf (by decide)
  exact absurd (hubf ▸ pending_bellowsGold_goldenReadsNode1) (by decide)

end

section
/-! Plans and their checks: a golden result's compare (R415), the Assay's task (R261, R288) and the plan message (R276): states of the
hypotheses where a statement's conclusion fails. -/

namespace Sys2Proof.Machine

set_option Elab.async false

/- ### GOLDEN_COMPARE -/

/-- The golden command of logical Bellows unit 0 is logged in the three rings, on physical unit 0, with status 0 and hallmark 9. The billet
expects hallmark 5; unit 1 is a spare, and two-hand group 6 is in STAGING. -/
def goldenDiffers : State :=
  let tag := leBytes 4 (goldTag 0 0)
  let s := [(HLM_LOG_BASE_LO, 0x1000), (HLM_LOG_SIZE, 1), (HLM_LOG_WR, 1), (TAB_CLOG_BASE_LO, 0x2000), (TAB_CLOG_SIZE, 1), (TAB_CLOG_WR, 1),
    (TAB_Q_CQBASE_LO 63, 0x3000), (TAB_Q_CQ_WR 63, 1)].foldl (fun s p => setF s p.1 p.2) goldenNotReleased
  poke (poke (poke s 0x1000 (tag ++ leBytes 4 0 ++ leBytes 8 9)) 0x2000 tag) 0x3000 tag

theorem goldenDiffers_inv : goldenDiffers.Inv := by decide +kernel

/-- A tag with another hallmark than the billet's fails the golden check of the unit that its completion names (R415). -/
theorem execGoldenCompare_of_differs {s : State} {tag hm unit cls : Nat} (hlogged : loggedHm s tag = some hm)
    (hunit : loggedUnit s tag = some (unit, cls)) (hstatus : goldStatus s tag = some 0) (hdiffers : expectedHm s tag ≠ some hm) :
    exec (.goldenCompare tag) s = .next (goldenFail s (classBase cls + unit)) := by
  change execGoldenCompare tag s = _
  simp [execGoldenCompare, hlogged, hunit, hstatus, hdiffers]

/-- Fencing the unit brings in the spare; the substitution aborts the open staging of group 6, whose status is a register of block 0x12
(R415, R483, R486). -/
theorem rd_goldenFail_goldenDiffers :
    rd (goldenFail goldenDiffers (classBase 0 + 0)) (FWL_TH_STATUS_STATE 6).addr ≠ rd goldenDiffers (FWL_TH_STATUS_STATE 6).addr := by decide +kernel

/- ### ASSAY -/

/-- An ASSAY that runs on Assay unit 0, while its entry of the task table names physical unit 256. The Assay has units 0 and 1 (R22), but the
statement does not tie the entry's unit to the slot; the PHASE of a unit 256 would lie in block 0x10. -/
def assayNamingUnit256 : Task :=
  { id := 0, queue := 0, num := 0, cmd := layout 64 [(0, 1, 1), (1, 1, 7)], pri := 1, loc := .running 214, punit := 256 }

/-- A device after reset with `assayNamingUnit256` running. -/
def assayNamingUnit256Running : State :=
  { State.reset with
    tabA := { tasks := [assayNamingUnit256], nextId := 1 }
    tabB := { tasks := [assayNamingUnit256], nextId := 1 } }

/-- The running ASSAY of a unit is carried out. -/
theorem execAssay_of_task {s : State} {u : Nat} {k : Task} (h : engineTask s 7 u [1] = some k) : exec (.assay u) s = .next (assayTask s k) := by
  change execAssay u s = _
  simp only [execAssay, h]

/-- The check shows at the unit that the entry names (R288). -/
theorem rd_assayTask_assayNamingUnit256 :
    rd (assayTask assayNamingUnit256Running assayNamingUnit256) (ASY_U_STATUS_PHASE 256).addr ≠
      rd assayNamingUnit256Running (ASY_U_STATUS_PHASE 256).addr := by decide +kernel

/- ### PLAN_DUE -/

/-- A manager at its PLAN_DUE whose decided plan of case 7 carries a field of its own for byte 64, where the message has its SOURCE. The cascade
decides no such field (R276), but the statement asks nothing of the decided fields. -/
def sourceNamedTwice : State :=
  { State.reset with
    regs := [(TOP_MODE_MODE.addr, 0), (UBF_NODE_CFG_ROLE.addr, 1)]
    stk := { any := true, planDone := false }
    pln := { State.reset.pln with decided := some { case := 7, fields := [(64, 1, 1)] } } }

theorem sourceNamedTwice_inv : sourceNamedTwice.Inv := by decide

/-- The message that is handed over holds the sum of both in byte 64. -/
theorem sentSource_sourceNamedTwice :
    (match exec (.planDue 0) sourceNamedTwice with | .next t => sentSource t | _ => none) = some 3 := by decide +kernel

end Sys2Proof.Machine

open Sys2Proof Sys2Proof.Machine

/-- Refutes O22: a decided plan may carry a field over SOURCE, and the message then holds another SOURCE than its case's. -/
theorem not_planMessagesAreHandedOver : ¬ Obligations.PlanMessagesAreHandedOver := by
  intro h
  obtain ⟨hdue, _⟩ := h sourceNamedTwice 0
  obtain ⟨t, m, ht, _, hmessage, _, _, _, hsource, _⟩ := hdue _ sourceNamedTwice_inv (by decide) (by decide) (by decide) (by decide) (by decide)
    (by decide) rfl (by decide) (by decide)
  have hsent := sentSource_sourceNamedTwice
  simp only [ht, sentSource, hmessage, Option.map_some, hsource] at hsent
  exact absurd hsent (by decide)

/-- Refutes O31: an ASSAY shows its check at the unit that its task names, and the register of a unit 256 lies in none of the blocks listed. -/
theorem not_theAssayLoadsWatchesAndFreezes : ¬ Obligations.TheAssayLoadsWatchesAndFreezes := by
  intro ⟨_, h⟩
  have htask : engineTask assayNamingUnit256Running 7 0 [1] = some assayNamingUnit256 := by decide
  obtain ⟨hassay, _⟩ := h assayNamingUnit256Running 0 0
  obtain ⟨t, _, ht, _, _, _, _, _, _, _, _, hblocks, _⟩ := hassay assayNamingUnit256 (by decide) htask rfl
  have hnext := Host.Outcome.next.inj (ht.symm.trans (execAssay_of_task htask))
  rw [hnext] at hblocks
  exact rd_assayTask_assayNamingUnit256 (hblocks _ (by decide))

/-- Refutes O47: the failed unit is fenced, and the substitution writes a firewall register, which lies in none of the blocks listed. -/
theorem not_goldenResultsAreCompared : ¬ Obligations.GoldenResultsAreCompared := by
  intro h
  have hlogged : loggedHm goldenDiffers (goldTag 0 0) = some 9 := by decide +kernel
  have hunit : loggedUnit goldenDiffers (goldTag 0 0) = some (0, 0) := by decide +kernel
  have hstatus : goldStatus goldenDiffers (goldTag 0 0) = some 0 := by decide +kernel
  have hdiffers : expectedHm goldenDiffers (goldTag 0 0) ≠ some 9 := by decide +kernel
  obtain ⟨_, hfails⟩ := h goldenDiffers (goldTag 0 0) 9 0 0 0 goldenDiffers_inv (by decide) (by decide) hlogged hunit hstatus (by decide)
  obtain ⟨t, ht, _, _, _, _, hblocks⟩ := hfails (fun hpass => hdiffers hpass.2) (by decide) (by decide +kernel) (by decide +kernel)
  have hfailed := Host.Outcome.next.inj (ht.symm.trans (execGoldenCompare_of_differs hlogged hunit hstatus hdiffers))
  rw [hfailed] at hblocks
  exact rd_goldenFail_goldenDiffers (hblocks _ (by decide))

end

section
/-! The Tabor: doorbells and the heads of the completion rings (R293 to R297), admission (R292, R298, R299), and the fence of a unit (R312). -/

namespace Sys2Proof.Machine

set_option Elab.async false

variable {l : List Part} {rs : List Nat} {z s t : State} {q : Nat}

/- ### Frames of the Tabor's operations -/

theorem Framed.getF_eq {f : Fld} (h : Framed l rs s t) (hf : f.addr ∉ rs) : getF t f = getF s f := by
  unfold getF
  rw [h.rd_eq hf]

theorem getF_answer (s : State) (r : Resp) (f : Fld) : getF (Machine.answer s r) f = getF s f := getF_congr (answer_regs s r) f

/-- A high-water mark moves its own register alone. -/
theorem Framed.high {f : Fld} (n : Nat) (hf : f.addr ∈ rs) (h : Framed l rs z s) : Framed l rs z (high s f n) := by
  unfold Machine.high
  split
  · exact h.setF _ hf
  · exact h

theorem Framed.withTab (a b : Tabor) (hl : .tab ∈ l) (h : Framed l rs z s) : Framed l rs z { s with tabA := a, tabB := b } :=
  h.parts (fun p hp => by cases p <;> simp_all [SamePart, SameMem, byteAt]) rfl

theorem Framed.withTabX (x : TabAux) (hl : .tabX ∈ l) (h : Framed l rs z s) : Framed l rs z { s with tabX := x } :=
  h.parts (fun p hp => by cases p <;> simp_all [SamePart, SameMem, byteAt]) rfl

theorem framed_noteDepth (s : State) (q : Nat) : Framed [] [(TAB_Q_DEPTH_MAX q).addr] s (noteDepth s q) :=
  (framed_refl _ _ s).high _ (List.mem_singleton_self _)

/- ### Doorbells (R295, R296) -/

section Doorbell

variable {brand v : Nat}

/-- A granted doorbell of one of the 64 queues is a write of its tail. -/
theorem execDoorbell_of_ring {ok : Bool} (hq : q < 64) (hv : v < 2 ^ 32) (hg : fwDenies s 2 brand 1 (TAB_Q_TAIL q).addr 4 = none)
    (hr : ringDoorbell s brand q v = (t, ok)) : exec (.doorbell brand q v) s = .next (answer t (if ok then .ok else .error)) := by
  change execDoorbell brand q v s = _
  rw [execDoorbell, if_neg (by omega), guarded_granted _ _ _ _ _ hg, writeTail, Nat.mod_eq_of_lt hv, hr]

/-- Of an enabled queue's producer, whose value does not lie before the tail or beyond a whole ring after it, the room decides. -/
theorem ringDoorbell_of_producer (hb : brand = getF s (TAB_Q_CFG2_PRODUCER q)) (he : getF s (TAB_Q_CFG_EN q) = 1)
    (ht : sub32 v (qTail s q) ≤ qSize s q) :
    ringDoorbell s brand q v = if qSize s q < sub32 v (qHead s q) then (setF (bump s (TAB_Q_BUSY q) 1) (TAB_Q_STATUS_BUSY_LAST q) 1, false)
      else (noteDepth (setF s (TAB_Q_TAIL q) v) q, true) := by
  have hsound : ¬ (brand ≠ getF s (TAB_Q_CFG2_PRODUCER q) ∨ getF s (TAB_Q_CFG_EN q) = 0 ∨ qSize s q < sub32 v (qTail s q)) := by
    rintro (h | h | h)
    · exact h hb
    · omega
    · omega
  rw [ringDoorbell, if_neg hsound]

theorem ringDoorbell_of_stranger (hb : brand ≠ getF s (TAB_Q_CFG2_PRODUCER q)) :
    ringDoorbell s brand q v = (sendFault s 0x06 0x001 0 q, false) := by
  rw [ringDoorbell, if_pos (.inl hb)]

end Doorbell

/- ### The heads of the completion rings (R297) -/

theorem execCqHeadWrite_of_granted {brand v : Nat} (hq : q < 64) (hg : fwDenies s 2 brand 1 (TAB_Q_CQ_HEAD q).addr 4 = none) :
    exec (.cqHeadWrite brand q v) s = .next (writeCqHead s q v) := by
  change execCqHeadWrite brand q v s = _
  rw [execCqHeadWrite, if_neg (by omega), guarded_granted _ _ _ _ _ hg]

/- ### Admission of a sound command (R292, R298, R299) -/

/-- Equal copies stay equal, and no difference is recorded (R313). -/
theorem updTab_of_same (f : Tabor → Tabor) (h : s.tabA = s.tabB) : updTab s f = { s with tabA := f s.tabA, tabB := f s.tabA } := by
  simp [updTab, ← h]

/-- A BANK_SWAP whose body is zero (R299). -/
def asksSwap (c : List Nat) : Bool := cCls c == 9 && cOpc c == 1 && zeroAt c 16 48

/-- The entry of a command that is admitted without an error: one of the Tabor's own classes ends at once (R292, R298, R299). -/
def soundEntry (s : State) (q : Nat) (c : List Nat) (pin : Nat) : Task :=
  { id := s.tabA.nextId, queue := q, num := qHead s q, cmd := c, pri := if cPri c = 0 then getF s (TAB_Q_CFG_DEFPRI q) else cPri c,
    loc := if cCls c = 9 ∨ cCls c = 15 then .finished else .ready, admitted := s.time, inFlow := cOrd c, heat := cHeat c, pin := pin }

theorem soundEntry_pri (s : State) (q : Nat) (c : List Nat) (pin : Nat) :
    (soundEntry s q c pin).pri = if cPri c = 0 then getF s (TAB_Q_CFG_DEFPRI q) else cPri c := rfl

theorem soundEntry_ready {c : List Nat} (pin : Nat) (h9 : cCls c ≠ 9) (h15 : cCls c ≠ 15) : (soundEntry s q c pin).loc = .ready := by
  simp [soundEntry, h9, h15]

theorem soundEntry_finished {c : List Nat} (pin : Nat) (h : cCls c = 9 ∨ cCls c = 15) : (soundEntry s q c pin).loc = .finished := by
  simp [soundEntry, h]

/-- The state with a task table that has taken an entry, and the swap asked for if the command asks for it. -/
def withEntry (s : State) (c : List Nat) (a : Tabor) : State :=
  high { (if asksSwap c then requestSwap s else s) with tabA := a, tabB := a } TAB_TASKS_MAX a.tasks.length

/-- The state after the admission from a ring: HEAD is past the command, and nothing stops the queue. -/
def afterAdmission (s : State) (q : Nat) (c : List Nat) (a : Tabor) : State :=
  noteDepth (noteStop (passHead (withEntry s c a) q false) q 0) q

section Admission

variable {c : List Nat}

/-- A command of a sound header, in its place of its flow, enters at the end of the table; of class 9 it is a sound BANK_SWAP. -/
theorem enterTask_of_sound (hbad : headerBad s q c = false)
    (hord : cOrd c = true → (cSeq c + 65536 - flowNext s (cFlow c)) % 65536 < 32768 ∧ flowHolds s (cFlow c) (cSeq c) = false)
    (hswap : cCls c = 9 → asksSwap c = true) (htab : s.tabA = s.tabB) :
    ∃ a pin, enterTask s q (qHead s q) c false = withEntry s c a ∧ a.tasks = tasks s ++ [soundEntry s q c pin] := by
  have hbehind : (cOrd c && (decide (32768 ≤ (cSeq c + 65536 - flowNext s (cFlow c)) % 65536) || flowHolds s (cFlow c) (cSeq c))) = false := by
    cases h : cOrd c with
    | false => rfl
    | true =>
      obtain ⟨hseq, hheld⟩ := hord h
      simp [hheld, hseq]
  have hask : ((cCls c == 9 || cCls c == 15) && cCls c == 9 && cOpc c == 1 && zeroAt c 16 48) = asksSwap c := by
    cases h : cCls c == 9 <;> simp [asksSwap, h]
  have htabA : (if asksSwap c then requestSwap s else s).tabA = s.tabA := by split <;> rfl
  have hsame : (if asksSwap c then requestSwap s else s).tabA = (if asksSwap c then requestSwap s else s).tabB := by split <;> exact htab
  unfold enterTask
  simp only [hbad, hbehind, hask, Bool.not_false, Bool.true_and, Bool.and_true, Bool.or_false, if_false, Bool.false_eq_true]
  rw [updTab_of_same _ hsame, htabA]
  refine ⟨_, nget s.tabA.pinCount (cCls c), rfl, congrArg (tasks s ++ [·]) ?_⟩
  by_cases hown : cCls c = 9 ∨ cCls c = 15
  · have hdone : cCls c = 15 ∨ asksSwap c = true := hown.symm.imp_right hswap
    simp [soundEntry, hown, hdone]
  · simp [soundEntry, hown]

/-- A command at HEAD that can be read is what its queue offers, and is admitted where nothing stops it and the turn is the queue's (R298). -/
theorem admitHead_of_turn {want : Option Nat} (hq : q < 64) (hroom : (tasks s).length < 65536) (hinj : injectDue s q = none)
    (hsome : qHead s q ≠ qTail s q) (hread : readBrand s 0x21 (slotAddr s q (qHead s q)) = (some c, [])) (hstop : admitStop s q c = 0)
    (hturn : itsTurn s q = true) (hwant : want.any (fun k => some (cCls c) != some k) = false) :
    admitHead want s q = noteDepth (noteStop (passHead (enterTask s q (qHead s q) c false) q false) q 0) q := by
  have hoffer : offered s q = some (some c, []) := by simp [offered, hinj, hsome, hread]
  have hadmit : admitOffer s q (some c, []) = noteDepth (noteStop (passHead (enterTask s q (qHead s q) c false) q false) q 0) q := by
    simp [admitOffer, hinj, notesFx]
  rw [admitHead, if_neg (by omega), hoffer, ← hadmit]
  simp [offerStop, hstop, hturn, hwant]

theorem high_wf (f : Fld) (n : Nat) (h : swf resetOf s.regs = true) : swf resetOf (high s f n).regs = true := by
  unfold high
  split
  · exact setF_wf _ _ _ h
  · exact h

theorem withEntry_wf (a : Tabor) (h : swf resetOf s.regs = true) : swf resetOf (withEntry s c a).regs = true := by
  have hask : swf resetOf (if asksSwap c then requestSwap s else s).regs = true := by
    split
    · exact setF_wf _ _ _ h
    · exact h
  exact high_wf (s := { (if asksSwap c then requestSwap s else s) with tabA := a, tabB := a }) _ _ hask

theorem framed_withEntry (a : Tabor) (hl : .tab ∈ l) (hm : TAB_TASKS_MAX.addr ∈ rs) (hc : asksSwap c = true → CAR_BANK_CTRL.addr ∈ rs) :
    Framed l rs s (withEntry s c a) := by
  have hask : Framed l rs s (if asksSwap c then requestSwap s else s) := by
    split
    · next h => exact (framed_refl _ _ s).setF 1 (hc h)
    · exact framed_refl _ _ s
  exact (hask.withTab a a hl).high _ hm

theorem Framed.noteStop (k : Nat) (hs : (TAB_Q_STATUS q).addr ∈ rs) (h : Framed l rs z s) : Framed l rs z (noteStop s q k) :=
  (h.setF (f := TAB_Q_STATUS_FENCE_WAIT q) _ hs).setF _ hs

theorem Framed.passHead (hl : .tabX ∈ l) (hh : (TAB_Q_HEAD q).addr ∈ rs) (h : Framed l rs z s) : Framed l rs z (passHead s q false) :=
  (h.withTabX _ hl).setF _ hh

/-- What an admission changes besides the table and the swap request. -/
theorem Framed.afterAdmission (a : Tabor) (hl : .tabX ∈ l) (hh : (TAB_Q_HEAD q).addr ∈ rs) (hd : (TAB_Q_DEPTH_MAX q).addr ∈ rs)
    (hs : (TAB_Q_STATUS q).addr ∈ rs) (h : Framed l rs z (withEntry s c a)) : Framed l rs z (afterAdmission s q c a) :=
  ((h.passHead hl hh).noteStop 0 hs).high _ hd

theorem framed_afterAdmission (a : Tabor) (hc : asksSwap c = true → CAR_BANK_CTRL.addr ∈ rs)
    (hrs : [(TAB_Q_HEAD q).addr, (TAB_Q_DEPTH_MAX q).addr, (TAB_Q_STATUS q).addr, TAB_TASKS_MAX.addr] ⊆ rs) :
    Framed [.tab, .tabX] rs s (afterAdmission s q c a) :=
  (framed_withEntry a (by simp) (hrs (by simp)) hc).afterAdmission a (by simp) (hrs (by simp)) (hrs (by simp)) (hrs (by simp))

theorem tabs_high (f : Fld) (n : Nat) : (high s f n).tabA = s.tabA ∧ (high s f n).tabB = s.tabB :=
  ((framed_refl [] [f.addr] s).high n (List.mem_singleton_self _)).1 .tab List.not_mem_nil

/-- The table after an admission is the one given, in both copies. -/
theorem tabs_afterAdmission (a : Tabor) : (afterAdmission s q c a).tabA = a ∧ (afterAdmission s q c a).tabB = a := by
  have hdepth := tabs_high (s := noteStop (passHead (withEntry s c a) q false) q 0) (TAB_Q_DEPTH_MAX q)
    (qDepth (noteStop (passHead (withEntry s c a) q false) q 0) q)
  have hentry := tabs_high (s := { (if asksSwap c then requestSwap s else s) with tabA := a, tabB := a }) TAB_TASKS_MAX a.tasks.length
  exact ⟨hdepth.1.trans hentry.1, hdepth.2.trans hentry.2⟩

theorem copies_afterAdmission (a : Tabor) : (afterAdmission s q c a).tabA = (afterAdmission s q c a).tabB :=
  (tabs_afterAdmission a).1.trans (tabs_afterAdmission a).2.symm

theorem tasks_afterAdmission (a : Tabor) : tasks (afterAdmission s q c a) = a.tasks := by rw [tasks, (tabs_afterAdmission a).1]

/-- HEAD passes the admitted command (R296). -/
theorem qHead_afterAdmission (a : Tabor) (hq : q < 64) (h : swf resetOf s.regs = true) :
    qHead (afterAdmission s q c a) q = (qHead s q + 1) % 2 ^ 32 := by
  have hnoted : Framed [] [(TAB_Q_STATUS q).addr, (TAB_Q_DEPTH_MAX q).addr] (passHead (withEntry s c a) q false) (afterAdmission s q c a) :=
    ((framed_refl _ _ _).noteStop 0 (by simp)).high _ (by simp)
  have hentry : qHead (withEntry s c a) q = qHead s q :=
    (framed_withEntry (l := [.tab]) (rs := [TAB_TASKS_MAX.addr, CAR_BANK_CTRL.addr]) a (by simp) (by simp) (by simp)).getF_eq (by simp; omega)
  calc qHead (afterAdmission s q c a) q = qHead (passHead (withEntry s c a) q false) q := hnoted.getF_eq (by simp)
    _ = (qHead (withEntry s c a) q + 1) % 2 ^ 32 := getF_setF_same _ (TAB_Q_HEAD q) _ (withEntry_wf a h) (by simp)
    _ = (qHead s q + 1) % 2 ^ 32 := by rw [hentry]

/-- A BANK_SWAP asks for the swap (R299). -/
theorem swapReq_afterAdmission (a : Tabor) (hq : q < 64) (h : swf resetOf s.regs = true) (hask : asksSwap c = true) :
    getF (afterAdmission s q c a) CAR_BANK_CTRL_SWAP_REQ = 1 := by
  have hrest : Framed [.tab, .tabX] [TAB_TASKS_MAX.addr, (TAB_Q_HEAD q).addr, (TAB_Q_DEPTH_MAX q).addr, (TAB_Q_STATUS q).addr]
      (requestSwap s) (afterAdmission s q c a) := by
    refine Framed.afterAdmission a (by simp) (by simp) (by simp) (by simp) ?_
    rw [withEntry, if_pos hask]
    exact ((framed_refl _ _ _).withTab a a (by simp)).high _ (by simp)
  exact (hrest.getF_eq (by simp; omega)).trans (getF_setF_same s CAR_BANK_CTRL_SWAP_REQ 1 h (by decide))

end Admission

/-- An admission waits for its queue's turn (R298). -/
theorem admitHead_of_noTurn {c : List Nat} (hq : q < 64) (hroom : (tasks s).length < 65536) (hinj : injectDue s q = some c)
    (hstop : admitStop s q c = 0) (hturn : itsTurn s q = false) : exec (.commandAdmit q) s = .next s := by
  have hoffer : offered s q = some (some c, []) := by simp [offered, hinj]
  change Host.Outcome.next (admitHead none s q) = _
  rw [admitHead, if_neg (by omega), hoffer]
  simp [offerStop, hstop, hturn]

/-- A command of zeros waits injected for queue 63, while queue 0, whose turn comes first, has a command to admit. -/
def injectedOutOfTurn : State :=
  { State.reset with
    regs := [((TAB_Q_TAIL 0).addr, 1)]
    tabX := { inject := some (0, List.replicate 64 0) } }

/- ### ENGINE_FENCE (R312) -/

theorem execEngineFence_of_unit {cls unit : Nat} (shared : Bool) (hc : cls ≤ 8) (hu : unit < physCount cls) :
    exec (.engineFence cls unit shared) s = .next (fenceUnit s (classBase cls + unit) shared) := by
  change execEngineFence cls unit shared s = _
  rw [execEngineFence, if_pos ⟨hc, hu⟩]

theorem goldenNotReleased_inv : goldenNotReleased.Inv := by decide

/-- Fencing Bellows unit 0 brings in the spare; the substitution aborts the open staging of group 6, whose status is a register of block 0x12
(R312, R483, R486). -/
theorem rd_fenceUnit_goldenNotReleased :
    rd (fenceUnit goldenNotReleased (classBase 0 + 0) false) (FWL_TH_STATUS_STATE 6).addr ≠
      rd goldenNotReleased (FWL_TH_STATUS_STATE 6).addr := by
  decide +kernel

end Sys2Proof.Machine

open Sys2Proof Sys2Proof.Machine

/-- Settles O34: the three outcomes of `ringDoorbell`, and the two of `writeCqHead`. -/
theorem queuesTakeDoorbells : Obligations.QueuesTakeDoorbells := by
  intro s brand q v hinv hq hv
  refine ⟨fun hg hb he ht => ⟨fun hroom => ?_, fun hfull => ?_⟩, fun hg hb hfifo => ?_, fun hg => ⟨fun hle => ?_, fun hlt => ?_⟩⟩
  · have hframe : Framed [] [(TAB_Q_TAIL q).addr, (TAB_Q_STATUS q).addr, (TAB_Q_DEPTH_MAX q).addr] s
        (answer (noteDepth (setF s (TAB_Q_TAIL q) v) q) .ok) := (((framed_refl _ _ s).setF v (by simp)).high _ (by simp)).answer _
    have htail : qTail (answer (noteDepth (setF s (TAB_Q_TAIL q) v) q) .ok) q = v := by
      rw [qTail, getF_answer, (framed_noteDepth _ q).getF_eq (by simp), getF_setF_same s _ v hinv.1 (by simp), Nat.mod_eq_of_lt hv]
    exact ⟨_, execDoorbell_of_ring hq hv hg ((ringDoorbell_of_producer hb he ht).trans (if_neg (Nat.not_lt.mpr hroom))), rfl, htail,
      hframe.getF_eq (by simp), hframe⟩
  · have hframe : Framed [] [(TAB_Q_BUSY q).addr, (TAB_Q_STATUS q).addr] s
        (answer (setF (bump s (TAB_Q_BUSY q) 1) (TAB_Q_STATUS_BUSY_LAST q) 1) .error) :=
      (((framed_refl _ _ s).bump 1 (by simp)).setF 1 (by simp)).answer _
    have hlast : getF (answer (setF (bump s (TAB_Q_BUSY q) 1) (TAB_Q_STATUS_BUSY_LAST q) 1) .error) (TAB_Q_STATUS_BUSY_LAST q) = 1 := by
      rw [getF_answer, getF_setF_same _ _ 1 (bump_wf s _ 1 hinv.1) (by simp)]
      rfl
    have hbusy : getF (answer (setF (bump s (TAB_Q_BUSY q) 1) (TAB_Q_STATUS_BUSY_LAST q) 1) .error) (TAB_Q_BUSY q) =
        min (getF s (TAB_Q_BUSY q) + 1) (2 ^ 32 - 1) := by
      rw [getF_answer, getF_setF_other _ _ _ 1 (by simp), getF_bump_same s _ 1 hinv.1 (by simp)]
    exact ⟨_, execDoorbell_of_ring hq hv hg ((ringDoorbell_of_producer hb he ht).trans (if_pos hfull)), rfl,
      hframe.getF_eq (by simp), hlast, hbusy, hframe⟩
  · have hframe : Framed [.flt] [] s (answer (sendFault s 0x06 0x001 0 q) .error) :=
      ((framed_refl _ _ s).sendFault _ _ _ _ hfifo (by simp)).answer _
    exact ⟨_, execDoorbell_of_ring hq hv hg (ringDoorbell_of_stranger hb), rfl, hframe.getF_eq (by simp),
      congrArg State.flt (sendFault_eq s 0x06 0x001 0 q hfifo), hframe⟩
  · have e := execCqHeadWrite_of_granted (v := v) hq hg
    rw [writeCqHead, if_neg (by omega)] at e
    have hhead : getF (answer (noteCq (setF s (TAB_Q_CQ_HEAD q) v) q) .ok) (TAB_Q_CQ_HEAD q) = v := by
      rw [getF_answer, noteCq, getF_setF_other _ _ _ _ (by simp), getF_setF_same _ _ _ hinv.1 (by simp), Nat.mod_eq_of_lt hv]
    exact ⟨_, e, rfl, hhead, (((framed_refl _ _ s).setF v (by simp)).setF _ (by simp)).answer _⟩
  · have e := execCqHeadWrite_of_granted (v := v) hq hg
    rw [writeCqHead, if_pos hlt] at e
    exact ⟨_, e, rfl, (framed_refl _ _ s).answer _⟩

/-- Settles O35: `admitHead_of_turn` with the entry of `enterTask_of_sound`. -/
theorem admissionTakesTheCommandAtHead : Obligations.AdmissionTakesTheCommandAtHead := by
  intro s q c hinv hq hroom hinj hsome hread hstop hbad hturn hord htab
  have hadmit : ∀ want : Option Nat, want.any (fun k => some (cCls c) != some k) = false → (cCls c = 9 → asksSwap c = true) →
      ∃ a pin, admitHead want s q = afterAdmission s q c a ∧ a.tasks = tasks s ++ [soundEntry s q c pin] := fun want hwant hswap => by
    obtain ⟨a, pin, henter, htasks⟩ := enterTask_of_sound hbad hord hswap htab
    refine ⟨a, pin, ?_, htasks⟩
    rw [admitHead_of_turn hq hroom hinj hsome hread hstop hturn hwant, henter]
    rfl
  refine ⟨fun h9 h15 => ?_, fun h15 => ?_, fun h9 hopc hzero => ?_⟩
  · have hask : asksSwap c = false := by simp [asksSwap, h9]
    obtain ⟨a, pin, e, htasks⟩ := hadmit none rfl (absurd · h9)
    exact ⟨_, _, congrArg Host.Outcome.next e, (tasks_afterAdmission a).trans htasks, rfl, rfl, rfl, rfl, soundEntry_ready pin h9 h15, rfl,
      soundEntry_pri s q c pin, qHead_afterAdmission a hq hinv.1, copies_afterAdmission a,
      framed_afterAdmission a (by simp [hask]) (List.Subset.refl _)⟩
  · have hask : asksSwap c = false := by simp [asksSwap, h15]
    obtain ⟨a, pin, e, htasks⟩ := hadmit (some 15) (by simp [h15]) (by omega)
    exact ⟨_, _, congrArg Host.Outcome.next e, (tasks_afterAdmission a).trans htasks, rfl, rfl, soundEntry_finished pin (.inr h15), rfl,
      qHead_afterAdmission a hq hinv.1, copies_afterAdmission a,
      framed_afterAdmission a (by simp [hask]) (List.Subset.refl _)⟩
  · have hask : asksSwap c = true := by simp [asksSwap, h9, hopc, hzero]
    obtain ⟨a, pin, e, htasks⟩ := hadmit (some 9) (by simp [h9]) (fun _ => hask)
    exact ⟨_, _, congrArg Host.Outcome.next e, (tasks_afterAdmission a).trans htasks, rfl, rfl, soundEntry_finished pin (.inl h9), rfl,
      swapReq_afterAdmission a hq hinv.1 hask, qHead_afterAdmission a hq hinv.1, copies_afterAdmission a,
      framed_afterAdmission a (by simp) (List.subset_cons_self _ _)⟩

/-- Refutes O37: a fence brings in a spare, and the substitution writes a firewall register, which lies in none of the blocks listed. -/
theorem not_completionsAreReleasedAndUnitsFenced : ¬ Obligations.CompletionsAreReleasedAndUnitsFenced := by
  intro ⟨_, h⟩
  obtain ⟨_, _, hfence, _⟩ := h goldenNotReleased 0 0 0 0 false goldenNotReleased_inv
  obtain ⟨t, ht, _, _, _, hblocks⟩ := hfence (by decide) (by decide) (by decide)
  have hnext := Host.Outcome.next.inj (ht.symm.trans (execEngineFence_of_unit false (by decide) (by decide)))
  rw [hnext] at hblocks
  exact rd_fenceUnit_goldenNotReleased (hblocks _ (by decide))

/-- Refutes O7: the statement does not ask that it is the queue's turn, and out of its turn an injected command is not admitted yet. -/
theorem not_priorityComesFromTheCommandOrItsQueue : ¬ Obligations.PriorityComesFromTheCommandOrItsQueue := by
  intro h
  have hinj : injectDue injectedOutOfTurn 63 = some (List.replicate 64 0) := by decide
  have hstop : admitStop injectedOutOfTurn 63 (List.replicate 64 0) = 0 := by decide
  obtain ⟨t, k, ht, htasks, _⟩ := h injectedOutOfTurn 63 _ [] (by decide) (by decide) (.inl ⟨hinj, rfl⟩) hstop
  have hnext := Host.Outcome.next.inj (ht.symm.trans (admitHead_of_noTurn (by decide) (by decide) hinj hstop (by decide)))
  rw [hnext] at htasks
  exact absurd htasks (by simp)

end

section
/-! The stroke that enters REPRO mode (R329, R331): a state of the hypotheses where the statement's conclusion fails. -/

namespace Sys2Proof.Machine

set_option Elab.async false

/-- At its instant a waiting stroke for which the manager or a worker may change is the one that enters REPRO mode (R329). -/
theorem execReproEnter_of_mayChange {s : State} {at_ n tai inst : Nat} (hwait : s.stk.awaiting = some (n, tai, inst)) (hat : inst ≤ at_)
    (hmay : (mayEnter (atTime s at_) || mayFollow (atTime s at_)) = true) :
    exec (.reproEnter at_) s = .next (enterRepro (atTime s at_) n tai inst) := by
  change execReproEnter at_ s = _
  simp [execReproEnter, hwait, hat, hmay]

/-- The manager whose golden task was not released, drained and with a change to REPRO mode set for the waiting stroke. The only other unit of
the task's class is its spare. -/
def enteringUntested : State :=
  { setF goldenNotReleased TOP_MODE_REQ_PEND 1 with ubf := { goldenNotReleased.ubf with reproSet := true } }

/-- The stroke that enters REPRO mode fences the unit whose golden task did not run, and the spare that comes in is the last of its class:
REPRO mode is to be left again, so a change is pending (R331, R415, R489). -/
theorem reqPend_enterRepro_enteringUntested :
    flag (enterRepro (atTime enteringUntested 1200) 1 1000 1200) TOP_MODE_REQ_PEND = true := by
  decide +kernel

end Sys2Proof.Machine

open Sys2Proof Sys2Proof.Machine

/-- Refutes O33: at the stroke that enters REPRO mode the fence of a unit whose golden task did not run can take the last spare of a class, and
the change back is then pending at once. -/
theorem not_modesChangeOnRequestAtAStroke : ¬ Obligations.ModesChangeOnRequestAtAStroke := by
  intro ⟨_, h⟩
  obtain ⟨henter, _⟩ := h enteringUntested 1200 1 1000 1200 (by decide) rfl (by decide)
  obtain ⟨t, ht, _, _, hpend, _⟩ := henter (by decide)
  have hnext := Host.Outcome.next.inj (ht.symm.trans (execReproEnter_of_mayChange rfl (by decide) (by decide)))
  rw [hnext, reqPend_enterRepro_enteringUntested] at hpend
  exact absurd hpend (by decide)

end

section
/-! The Anvil's banks: a failing bank's copy and the switch to its spare (R352 to R355), and a state of the hypotheses where the scrub's
statement (R350) fails. -/

namespace Sys2Proof.Machine

set_option Elab.async false

variable {l : List Part} {rs : List Nat} {z s : State}

theorem Framed.withAnv (x : Anv) (hl : .anv ∈ l) (h : Framed l rs z s) : Framed l rs z { s with anv := x } :=
  h.parts (fun p hp => by cases p <;> simp_all [SamePart, SameMem, byteAt]) rfl

/-- The errors of spare banks' lines serve no address: a frame may leave memory out. -/
theorem Framed.withSpareErrsSpr (e : List (Nat × List Nat)) (x : Spr) (hl : .spr ∈ l) (h : Framed l rs z s) :
    Framed l rs z { s with mem := { s.mem with spareErrs := e }, spr := x } :=
  h.parts (fun p hp => by cases p <;> simp_all [SamePart, SameMem, byteAt]) rfl

/- ### BANK_RETIRE (R353, R355) -/

section Retire

variable {lb pb n : Nat} {rest : List Nat}

/-- `ANV.STATUS` names the old bank and the spare of a running copy (R353). -/
def showRemap (s : State) (pb n : Nat) : State :=
  setF (setF (setF s ANV_STATUS_REMAP_BUSY 1) ANV_STATUS_REMAP_FROM pb) ANV_STATUS_REMAP_TO n

theorem execBankRetire_of_spare (hidle : s.anv.copyOf = none) (hdue : nextDue s = some (lb, pb)) (hspare : freeSpares s = n :: rest) :
    exec .bankRetire s = .next { showRemap s pb n with
      anv := { s.anv with due := s.anv.due.filter (· != pb), copyOf := some (lb, pb, n), copied := none } } := by
  change execBankRetire s = _
  simp [execBankRetire, hidle, hdue, hspare, showRemap]

theorem execBankRetire_of_noSpare (hidle : s.anv.copyOf = none) (hdue : nextDue s = some (lb, pb)) (hspare : freeSpares s = []) :
    exec .bankRetire s = .next (noSpareBank s pb) := by
  change execBankRetire s = _
  simp [execBankRetire, hidle, hdue, hspare]

theorem getF_showRemap (h : swf resetOf s.regs = true) (hpb : pb < 1088) (hn : n < 1088) :
    getF (showRemap s pb n) ANV_STATUS_REMAP_BUSY = 1 ∧ getF (showRemap s pb n) ANV_STATUS_REMAP_FROM = pb ∧
      getF (showRemap s pb n) ANV_STATUS_REMAP_TO = n := by
  have hbusy := setF_wf s ANV_STATUS_REMAP_BUSY 1 h
  have hfrom := setF_wf _ ANV_STATUS_REMAP_FROM pb hbusy
  refine ⟨?_, ?_, ?_⟩
  · rw [showRemap, getF_setF_beside _ ANV_STATUS_REMAP_TO ANV_STATUS_REMAP_BUSY n hfrom (by decide) rfl (by decide),
      getF_setF_beside _ ANV_STATUS_REMAP_FROM ANV_STATUS_REMAP_BUSY pb hbusy (by decide) rfl (by decide), getF_setF_same _ _ _ h (by decide)]
    rfl
  · rw [showRemap, getF_setF_beside _ ANV_STATUS_REMAP_TO ANV_STATUS_REMAP_FROM n hfrom (by decide) rfl (by decide),
      getF_setF_same _ _ _ hbusy (by decide)]
    exact Nat.mod_eq_of_lt (by simp; omega)
  · rw [showRemap, getF_setF_same _ _ _ hfrom (by decide)]
    exact Nat.mod_eq_of_lt (by simp; omega)

/-- The bank stays, and `ANV.STATUS` shows that no spare remains (R355). -/
def keepBank (s : State) (pb : Nat) : State :=
  { setF s ANV_STATUS_NO_SPARE 1 with
    anv := { s.anv with due := s.anv.due.filter (· != pb), noSpareSeen := s.anv.noSpareSeen ++ [pb] } }

/-- The first time for a bank, a record is sent. -/
theorem noSpareBank_of_unseen (hseen : s.anv.noSpareSeen.contains pb = false) :
    noSpareBank s pb = sendFault (keepBank s pb) 0x08 0x005 4 (pb / 8) := by
  unfold noSpareBank
  exact if_neg (ne_true_of_eq_false hseen)

end Retire

/- ### BANK_SWITCH (R353, R354) -/

section Switch

variable {lb pb n : Nat}

theorem execBankSwitch_of_instant {at_ c : Nat} (hcopy : s.anv.copyOf = some (lb, pb, n)) (hdone : s.anv.copied = some c)
    (hle : c ≤ s.stk.inst) (hat : s.stk.inst ≤ at_) : exec (.bankSwitch at_) s = .next (switchBank (atTime s at_) lb pb n) := by
  change execBankSwitch at_ s = _
  simp [execBankSwitch, hcopy, hdone, hle, hat]

/-- The map entry names the spare, and the old bank is retired. -/
def retireTo (s : State) (lb pb n : Nat) : State :=
  setF (setF (setF s (ANV_MAP lb) n) (ANV_BANK_CE_RETIRED pb) 1) (ANV_BANK_CE_IN_USE pb) 0

/-- The spare is in use besides. -/
def remap (s : State) (lb pb n : Nat) : State := setF (retireTo s lb pb n) (ANV_BANK_CE_IN_USE n) 1

/-- The remapped machine with the copy ended, before the switch is recorded. -/
def endCopy (s : State) (lb pb n : Nat) : State :=
  let s := setF (remap s lb pb n) ANV_STATUS_SPARES_FREE (getF (retireTo s lb pb n) ANV_STATUS_SPARES_FREE - 1)
  let s := { s with mem := { s.mem with spareErrs := s.mem.spareErrs.filter (fun e => e.1 / 4096 != n) },
                    spr := { s.spr with wearBanks := insertNew s.spr.wearBanks pb } }
  setF { s with anv := { s.anv with copyOf := none, copied := none } } ANV_STATUS_REMAP_BUSY 0

theorem switchBank_of_noErrs (h : s.mem.errs = []) : switchBank s lb pb n = sendFault (endCopy s lb pb n) 0x08 0x004 2 (pb / 8) := by
  unfold switchBank
  rw [h]
  rfl

theorem framed_endCopy (s : State) : Framed [.anv, .flt, .time, .spr]
    [(ANV_MAP lb).addr, (ANV_BANK_CE n).addr, (ANV_BANK_CE pb).addr, ANV_STATUS.addr] s (endCopy s lb pb n) :=
  (((((((framed_refl _ _ s).setF n (by simp)).setF 1 (by simp)).setF 0 (by simp)).setF 1 (by simp)).setF _ (by simp)).withSpareErrsSpr _ _
    (by simp)).withAnv _ (by simp) |>.setF 0 (by simp)

section Switched

variable (herrs : s.mem.errs = []) (hq : s.flt.fifo.length < 256)
include herrs hq

theorem switchBank_regs : (switchBank s lb pb n).regs = (endCopy s lb pb n).regs := by
  rw [switchBank_of_noErrs herrs]
  exact sendFault_regs _ _ _ _ hq

/-- Beside `ANV.STATUS` the switch leaves the registers as remapped. -/
theorem getF_switchBank_other {f : Fld} (hf : f.addr ≠ ANV_STATUS.addr) : getF (switchBank s lb pb n) f = getF (remap s lb pb n) f :=
  calc getF (switchBank s lb pb n) f = getF (endCopy s lb pb n) f := getF_congr (switchBank_regs herrs hq) f
    _ = getF (setF (remap s lb pb n) ANV_STATUS_SPARES_FREE _) f := getF_setF_other _ ANV_STATUS_REMAP_BUSY f 0 hf
    _ = getF (remap s lb pb n) f := getF_setF_other _ ANV_STATUS_SPARES_FREE f _ hf

theorem flag_switchBank_other {f : Fld} (hf : f.addr ≠ ANV_STATUS.addr) : flag (switchBank s lb pb n) f = flag (remap s lb pb n) f :=
  congrArg (· == 1) (getF_switchBank_other herrs hq hf)

theorem framed_switchBank : Framed [.anv, .flt, .time, .spr]
    [(ANV_MAP lb).addr, (ANV_BANK_CE n).addr, (ANV_BANK_CE pb).addr, ANV_STATUS.addr] s (switchBank s lb pb n) := by
  rw [switchBank_of_noErrs herrs]
  exact (framed_endCopy s).sendFault _ _ _ _ hq (by simp)

end Switched

section Registers

variable (h : swf resetOf s.regs = true)
include h

theorem retireTo_wf : swf resetOf (retireTo s lb pb n).regs = true := setF_wf _ _ _ (setF_wf _ _ _ (setF_wf _ _ _ h))

theorem remap_wf : swf resetOf (remap s lb pb n).regs = true := setF_wf _ _ _ (retireTo_wf h)

theorem getF_endCopy_busy : getF (endCopy s lb pb n) ANV_STATUS_REMAP_BUSY = 0 :=
  getF_setF_same _ ANV_STATUS_REMAP_BUSY 0 (setF_wf (remap s lb pb n) ANV_STATUS_SPARES_FREE _ (remap_wf h)) (by decide)

theorem getF_remap_map (hlb : lb < 1024) (hn : n < 1088) : getF (remap s lb pb n) (ANV_MAP lb) = n := by
  have hapart : ∀ b, (ANV_MAP lb).addr ≠ (ANV_BANK_CE b).addr := fun b => by simp; omega
  rw [remap, getF_setF_other _ (ANV_BANK_CE_IN_USE n) _ _ (hapart n), retireTo, getF_setF_other _ (ANV_BANK_CE_IN_USE pb) _ _ (hapart pb),
    getF_setF_other _ (ANV_BANK_CE_RETIRED pb) _ _ (hapart pb), getF_setF_same _ _ _ h (by simp)]
  exact Nat.mod_eq_of_lt (by simp; omega)

theorem flag_remap_spare : flag (remap s lb pb n) (ANV_BANK_CE_IN_USE n) = true := by
  rw [flag, remap, getF_setF_same _ _ _ (retireTo_wf h) (by simp)]
  rfl

/-- The old bank is retired and no longer in use. -/
theorem flag_remap_old (hne : pb ≠ n) :
    flag (remap s lb pb n) (ANV_BANK_CE_RETIRED pb) = true ∧ flag (remap s lb pb n) (ANV_BANK_CE_IN_USE pb) = false := by
  have hapart : (ANV_BANK_CE pb).addr ≠ (ANV_BANK_CE n).addr := by simp; omega
  have hmap := setF_wf s (ANV_MAP lb) n h
  have hretired := setF_wf _ (ANV_BANK_CE_RETIRED pb) 1 hmap
  constructor
  · rw [flag, remap, getF_setF_other _ (ANV_BANK_CE_IN_USE n) (ANV_BANK_CE_RETIRED pb) _ hapart, retireTo,
      getF_setF_beside _ (ANV_BANK_CE_IN_USE pb) (ANV_BANK_CE_RETIRED pb) _ hretired (by simp) rfl (by simp),
      getF_setF_same _ _ _ hmap (by simp)]
    rfl
  · rw [flag, remap, getF_setF_other _ (ANV_BANK_CE_IN_USE n) (ANV_BANK_CE_IN_USE pb) _ hapart, retireTo,
      getF_setF_same _ _ _ hretired (by simp)]
    rfl

end Registers

end Switch

/- ### SCRUB (R350) -/

/-- The pointer list of the Assay store's banks names bank 0 twice, first at its last line. -/
def pointerListedTwice : State := { State.reset with anv := { State.reset.anv with asyPtr := [(0, 4095), (0, 7)] } }

/-- The write of 0, the value of an unlisted bank, takes the first entry out, and the second shows. -/
theorem asyPtr_scrubAt_pointerListedTwice : nget (scrubAt (atTime pointerListedTwice 0) 0 true false).anv.asyPtr 0 = 7 := by decide +kernel

end Sys2Proof.Machine

open Sys2Proof Sys2Proof.Machine

/-- Refutes O38: no hypothesis keeps a pointer list from naming a bank twice, and the scrub of the bank's last line then does not lead to
line 0. -/
theorem not_anvilLinesAreCorrectedAndScrubbed : ¬ Obligations.AnvilLinesAreCorrectedAndScrubbed := by
  intro h
  obtain ⟨_, hscrub, _⟩ := h pointerListedTwice 0 0 0 true [] (by decide)
  obtain ⟨t, ht, _, _, hptr, _⟩ := hscrub 0 _ (by decide) (by decide) (by decide) (by decide) (by decide) rfl (by decide +kernel) (by decide)
  have hnext : scrubAt (atTime pointerListedTwice 0) 0 true false = t := Host.Outcome.next.inj ht
  rw [← hnext, asyPtr_scrubAt_pointerListedTwice] at hptr
  exact absurd (hptr rfl) (by decide)

/-- Settles O39, one command after the other. -/
theorem failingBanksAreReplaced : Obligations.FailingBanksAreReplaced := by
  intro s at_ l pb n ⟨hregs, _, _⟩ hl hpb hn hne
  refine ⟨fun rest hidle hdue hspare => ?_, fun hidle hdue hspare hseen hq => ?_, fun hcopy hrun => ?_,
    fun c hcopy hdone hle hat herrs hq => ?_⟩
  · obtain ⟨hbusy, hfrom, hto⟩ := getF_showRemap hregs hpb hn
    exact ⟨_, execBankRetire_of_spare hidle hdue hspare, rfl, rfl, hbusy, hfrom, hto,
      ((((framed_refl _ _ s).setF 1 (by simp)).setF pb (by simp)).setF n (by simp)).withAnv _ (by simp)⟩
  · refine ⟨_, execBankRetire_of_noSpare hidle hdue hspare, ?_⟩
    rw [noSpareBank_of_unseen hseen]
    have hsent := sendFault_eq (keepBank s pb) 0x08 0x005 4 (pb / 8) hq
    exact ⟨(getF_congr (congrArg State.regs hsent) _).trans (getF_setF_same s ANV_STATUS_NO_SPARE 1 hregs (by decide)),
      congrArg State.flt hsent, (((framed_refl _ _ s).setF 1 (by simp)).withAnv _ (by simp)).sendFault _ _ _ _ hq (by simp)⟩
  · refine ⟨_, ?_, rfl⟩
    change execBankCopyDone s = _
    simp [execBankCopyDone, hcopy, hrun]
  · have hsent := (switchBank_of_noErrs (s := atTime s at_) (lb := l) (pb := pb) (n := n) herrs).trans (sendFault_eq _ _ _ _ _ hq)
    have hmap := getF_switchBank_other (s := atTime s at_) (lb := l) (pb := pb) (n := n) herrs hq (f := ANV_MAP l) (by simp; omega)
    have hce : ∀ f : Fld, f.addr ≠ ANV_STATUS.addr → flag (switchBank (atTime s at_) l pb n) f = flag (remap (atTime s at_) l pb n) f :=
      fun _ hf => flag_switchBank_other (s := atTime s at_) herrs hq hf
    obtain ⟨hretired, hfreed⟩ := flag_remap_old (s := atTime s at_) (lb := l) hregs hne
    exact ⟨_, execBankSwitch_of_instant hcopy hdone hle hat, hmap.trans (getF_remap_map hregs hl hn), (hce _ (by simp; omega)).trans hretired,
      (hce _ (by simp; omega)).trans (flag_remap_spare hregs), (hce _ (by simp; omega)).trans hfreed, congrArg (·.anv.copyOf) hsent,
      (getF_congr (congrArg State.regs hsent) _).trans (getF_endCopy_busy hregs), congrArg (·.flt.fifo) hsent, congrArg State.spr hsent,
      ((framed_refl _ _ s).atTime at_ (by simp)).trans (framed_switchBank (s := atTime s at_) herrs hq)⟩

end

section
/-! The step itself: it runs the front command, and every command completes. -/

open Sys2Proof Sys2Proof.Machine

/-- Settles O1, by the two shapes of the queue. -/
theorem stepRunsTheFrontCommand : Obligations.StepRunsTheFrontCommand := by
  intro s
  constructor
  · intro c rest hq
    unfold step
    rw [hq]
  · intro hq
    unfold step
    rw [hq]

/-- Settles O2: every command answers a kept state (`exec_kept`), and the queue is among what is kept. -/
theorem everyCommandCompletesAndTakesOnlyItself : Obligations.EveryCommandCompletesAndTakesOnlyItself := by
  have hexec : ∀ (i : Instr) (s : State), ∃ t, exec i s = .next t ∧ t.pending = s.pending := fun i s =>
    let ⟨t, ht, hkept⟩ := exec_kept (kept_refl s) i
    ⟨t, ht, hkept.pending⟩
  refine ⟨hexec, fun s => ?_⟩
  unfold step
  split
  case h_1 hq => exact ⟨s, rfl, by simp [hq]⟩
  case h_2 i rest hq =>
    obtain ⟨t, ht, hpending⟩ := hexec i { s with pending := rest }
    exact ⟨t, ht, by simp [hpending, hq]⟩

end

section
/-! What outlives power (R454, R466, R471, R480, R505). `lasting` takes it out of a state; one `@[simp]` lemma per operation of the model, in the
model's order, says that the operation keeps it, then one per row, then the four rows that move a part of it. -/

namespace Sys2Proof.Machine

set_option Elab.async false

/-- What outlives power: the boot slots, the version floor and the wear records (R454, R471, R480, R505). -/
structure Lasting where
  slotA : List (Nat × Nat)
  slotB : List (Nat × Nat)
  minVer : Nat
  records : List (Nat × List Nat)
  wearSeq : Nat

/-- The lasting state of a state. -/
def lasting (s : State) : Lasting := ⟨s.start.slotA, s.start.slotB, s.start.minVer, s.spr.records, s.spr.wearSeq⟩

@[simp] theorem lasting_fold (s : State) : Lasting.mk s.start.slotA s.start.slotB s.start.minVer s.spr.records s.spr.wearSeq = lasting s := rfl

@[simp] theorem lasting_mk (regs mem time slew aon hiS hiT hiV hiP stk car bell wld peal tA tB tX asy pln anv ddr ubf fwl flt rst start spr sec thm pins
    bil resp free pending) :
    lasting ⟨regs, mem, time, slew, aon, hiS, hiT, hiV, hiP, stk, car, bell, wld, peal, tA, tB, tX, asy, pln, anv, ddr, ubf, fwl, flt, rst, start, spr,
      sec, thm, pins, bil, resp, free, pending⟩ = ⟨start.slotA, start.slotB, start.minVer, spr.records, spr.wearSeq⟩ := rfl

/- `lasting_mk` for one part, for states whose text must not be evaluated. -/

theorem lasting_withWld (s : State) (x : Wld) : lasting { s with wld := x } = lasting s := rfl

theorem lasting_withStk (s : State) (x : Stk) : lasting { s with stk := x } = lasting s := rfl

theorem lasting_withAsy (s : State) (x : Asy) : lasting { s with asy := x } = lasting s := rfl

theorem lasting_withFree (s : State) (x : Nat) : lasting { s with free := x } = lasting s := rfl

theorem lasting_withPeal (s : State) (x : Peal) : lasting { s with peal := x } = lasting s := rfl

@[simp] theorem lasting_ite (c : Prop) [Decidable c] (s t : State) : lasting (if c then s else t) = if c then lasting s else lasting t :=
  apply_ite lasting c s t

@[simp] theorem lasting_ite_fst {β : Type} (c : Prop) [Decidable c] (a b : State × β) :
    lasting (if c then a else b).1 = if c then lasting a.1 else lasting b.1 := apply_ite (fun x => lasting x.1) c a b

@[simp] theorem lasting_ite_snd {β : Type} (c : Prop) [Decidable c] (a b : β × State) :
    lasting (if c then a else b).2 = if c then lasting a.2 else lasting b.2 := apply_ite (fun x => lasting x.2) c a b

/-- A fold whose every step keeps the lasting state keeps it. -/
@[simp] theorem lasting_foldl {β : Type} (f : State → β → State) (l : List β) (s : State) (hf : ∀ s x, lasting (f s x) = lasting s) :
    lasting (l.foldl f s) = lasting s := by
  induction l generalizing s with
  | nil => rfl
  | cons x t ih => exact (ih _).trans (hf s x)

@[simp] theorem lasting_foldl_fst {β γ : Type} (f : State × γ → β → State × γ) (l : List β) (a : State × γ)
    (hf : ∀ a x, lasting (f a x).1 = lasting a.1) : lasting (l.foldl f a).1 = lasting a.1 := by
  induction l generalizing a with
  | nil => rfl
  | cons x t ih => exact (ih _).trans (hf a x)

@[simp] theorem lasting_foldl_snd {β γ : Type} (f : γ × State → β → γ × State) (l : List β) (a : γ × State)
    (hf : ∀ a x, lasting (f a x).2 = lasting a.2) : lasting (l.foldl f a).2 = lasting a.2 := by
  induction l generalizing a with
  | nil => rfl
  | cons x t ih => exact (ih _).trans (hf a x)

/-- What leaves the start sequence and the spares alone keeps the lasting state. -/
theorem Aside.lasting_eq {s t : State} (h : Aside s t) : lasting t = lasting s := by
  unfold lasting
  rw [h.start, h.spr]

/- ### Machine/Ops.lean -/

@[simp] theorem lasting_wr (s : State) (a v : Nat) : lasting (wr s a v) = lasting s :=
  (aside_wr s _ _ (aside_refl s)).lasting_eq

@[simp] theorem lasting_setF (s : State) (f : Fld) (v : Nat) : lasting (setF s f v) = lasting s :=
  (aside_setF s _ _ (aside_refl s)).lasting_eq

@[simp] theorem lasting_bump (s : State) (f : Fld) (n : Nat) : lasting (bump s f n) = lasting s :=
  (aside_bump s _ _ (aside_refl s)).lasting_eq

@[simp] theorem lasting_tick (s : State) (f : Fld) : lasting (tick s f) = lasting s :=
  (aside_tick s _ (aside_refl s)).lasting_eq

@[simp] theorem lasting_high (s : State) (f : Fld) (n : Nat) : lasting (high s f n) = lasting s :=
  (aside_high s _ _ (aside_refl s)).lasting_eq

@[simp] theorem lasting_set64 (s : State) (lo hi : Fld) (v : Nat) : lasting (set64 s lo hi v) = lasting s :=
  (aside_set64 s _ _ _ (aside_refl s)).lasting_eq

@[simp] theorem lasting_fresh (s : State) : lasting (fresh s).2 = lasting s :=
  (aside_fresh s (aside_refl s)).lasting_eq

@[simp] theorem lasting_answer (s : State) (r : Resp) : lasting (answer s r) = lasting s :=
  (aside_answer s _ (aside_refl s)).lasting_eq

@[simp] theorem lasting_atTime (s : State) (t : Nat) : lasting (atTime s t) = lasting s :=
  (aside_atTime s _ (aside_refl s)).lasting_eq

@[simp] theorem lasting_logRec (s : State) (r : FaultRec) : lasting (logRec s r) = lasting s :=
  (aside_logRec s _ (aside_refl s)).lasting_eq

@[simp] theorem lasting_showPins (s : State) : lasting (showPins s) = lasting s :=
  (aside_showPins s (aside_refl s)).lasting_eq

@[simp] theorem lasting_latchSafe (s : State) : lasting (latchSafe s) = lasting s :=
  (aside_latchSafe s (aside_refl s)).lasting_eq

@[simp] theorem lasting_reactPlain (s : State) (k : Nat) : lasting (reactPlain s k) = lasting s :=
  (aside_reactPlain s _ (aside_refl s)).lasting_eq

@[simp] theorem lasting_pushFault (s : State) (r : FaultRec) : lasting (pushFault s r) = lasting s :=
  (aside_pushFault s _ (aside_refl s)).lasting_eq

@[simp] theorem lasting_sendFault (s : State) (block code cls unit : Nat) : lasting (sendFault s block code cls unit) = lasting s :=
  (aside_sendFault s _ _ _ _ (aside_refl s)).lasting_eq

@[simp] theorem lasting_refuseAccess (s : State) (blk brand : Nat) : lasting (refuseAccess s blk brand) = lasting s :=
  (aside_refuseAccess s _ _ (aside_refl s)).lasting_eq

@[simp] theorem lasting_deny (s : State) (g cls brand kind a : Nat) : lasting (deny s g cls brand kind a) = lasting s :=
  (aside_deny s _ _ _ _ _ (aside_refl s)).lasting_eq

@[simp] theorem lasting_guarded (s : State) (brand kind addr : Nat) (k : State → State) (hk : lasting (k s) = lasting s) :
    lasting (guarded s brand kind addr k) = lasting s := by
  unfold guarded
  split
  · simp
  · exact hk

@[simp] theorem lasting_setByte (s : State) (a v : Nat) : lasting (setByte s a v) = lasting s :=
  (aside_setByte s _ _ (aside_refl s)).lasting_eq

@[simp] theorem lasting_poke (s : State) (a : Nat) (bs : List Nat) : lasting (poke s a bs) = lasting s :=
  (aside_poke s _ _ (aside_refl s)).lasting_eq

@[simp] theorem lasting_setErr (s : State) (line : Nat) (e : List Nat) : lasting (setErr s line e) = lasting s :=
  (aside_setErr s _ _ (aside_refl s)).lasting_eq

@[simp] theorem lasting_bankDue (s : State) (pb : Nat) : lasting (bankDue s pb) = lasting s :=
  (aside_bankDue s _ (aside_refl s)).lasting_eq

@[simp] theorem lasting_onceCode (s : State) (key block code cls unit : Nat) : lasting (onceCode s key block code cls unit) = lasting s :=
  (aside_onceCode s _ _ _ _ _ (aside_refl s)).lasting_eq

@[simp] theorem lasting_oncePerStroke (s : State) (key block cls unit : Nat) : lasting (oncePerStroke s key block cls unit) = lasting s :=
  (aside_oncePerStroke s _ _ _ _ (aside_refl s)).lasting_eq

@[simp] theorem lasting_queueWriteback (s : State) (line : Nat) : lasting (queueWriteback s line) = lasting s :=
  (aside_queueWriteback s _ (aside_refl s)).lasting_eq

@[simp] theorem lasting_ddrBadLine (s : State) (l : Nat) : lasting (ddrBadLine s l) = lasting s :=
  (aside_ddrBadLine s _ (aside_refl s)).lasting_eq

@[simp] theorem lasting_fabricFx (s : State) (line : Nat) (bad : Bool) : lasting (fabricFx s line bad) = lasting s :=
  (aside_fabricFx s _ _ (aside_refl s)).lasting_eq

@[simp] theorem lasting_countCe (s : State) (pb : Nat) : lasting (countCe s pb) = lasting s :=
  (aside_countCe s _ (aside_refl s)).lasting_eq

@[simp] theorem lasting_anvilBad (s : State) (scrub : Bool) (line : Nat) : lasting (anvilBad s scrub line) = lasting s :=
  (aside_anvilBad s _ _ (aside_refl s)).lasting_eq

@[simp] theorem lasting_noteFx (s : State) (scrub : Bool) (n : Note) : lasting (noteFx scrub s n) = lasting s :=
  (aside_noteFx s _ _ (aside_refl s)).lasting_eq

@[simp] theorem lasting_notesFx (s : State) (ns : List Note) : lasting (notesFx s ns) = lasting s :=
  (aside_notesFx s _ (aside_refl s)).lasting_eq

@[simp] theorem lasting_inboxWatch (s : State) (whole : Bool) (line : Nat) (bs : List Nat) : lasting (inboxWatch s whole line bs) = lasting s :=
  (aside_inboxWatch s _ _ _ (aside_refl s)).lasting_eq

@[simp] theorem lasting_dropWriteback (s : State) (line : Nat) : lasting (dropWriteback s line) = lasting s :=
  (aside_dropWriteback s _ (aside_refl s)).lasting_eq

@[simp] theorem lasting_tagWrite (s : State) (line : Nat) : lasting (tagWrite s line) = lasting s :=
  (aside_tagWrite s _ (aside_refl s)).lasting_eq

@[simp] theorem lasting_putLine (s : State) (line : Nat) (bs : List Nat) : lasting (putLine s line bs) = lasting s :=
  (aside_putLine s _ _ (aside_refl s)).lasting_eq

@[simp] theorem lasting_putPoison (s : State) (line : Nat) (bs : List Nat) : lasting (putPoison s line bs) = lasting s :=
  (aside_putPoison s _ _ (aside_refl s)).lasting_eq

@[simp] theorem lasting_mergeFx (s : State) (n : Note) : lasting (mergeFx s n) = lasting s :=
  (aside_mergeFx s _ (aside_refl s)).lasting_eq

@[simp] theorem lasting_putPart (s : State) (line off : Nat) (bs : List Nat) : lasting (putPart s line off bs) = lasting s :=
  (aside_putPart s _ _ _ (aside_refl s)).lasting_eq

@[simp] theorem lasting_storeGo (s : State) (a b : Nat) (bs : List Nat) : lasting (storeGo a s b bs) = lasting s :=
  (aside_storeGo s _ _ _ (aside_refl s)).lasting_eq

@[simp] theorem lasting_store (s : State) (a : Nat) (bs : List Nat) : lasting (store s a bs) = lasting s :=
  (aside_store s _ _ (aside_refl s)).lasting_eq

@[simp] theorem lasting_storeBrand (s : State) (brand a : Nat) (bs : List Nat) : lasting (storeBrand s brand a bs).1 = lasting s :=
  (aside_storeBrand s _ _ _ (aside_refl s)).lasting_eq

@[simp] theorem lasting_asyCrc (s : State) (line : Nat) : lasting (asyCrc s line) = lasting s :=
  (aside_asyCrc s _ (aside_refl s)).lasting_eq

@[simp] theorem lasting_asyStore (s : State) (off : Nat) (bs : List Nat) : lasting (asyStore s off bs) = lasting s :=
  (aside_asyStore s _ _ (aside_refl s)).lasting_eq

@[simp] theorem lasting_bumpsFx (s : State) (l : List (Fld × Nat)) : lasting (bumpsFx s l) = lasting s :=
  (aside_bumpsFx s _ (aside_refl s)).lasting_eq

@[simp] theorem lasting_setsFx (s : State) (l : List (Fld × Nat)) : lasting (setsFx s l) = lasting s :=
  (aside_setsFx s _ (aside_refl s)).lasting_eq

@[simp] theorem lasting_faultsFx (s : State) (l : List (Nat × Nat × Nat × Nat)) : lasting (faultsFx s l) = lasting s :=
  (aside_faultsFx s _ (aside_refl s)).lasting_eq

@[simp] theorem lasting_writeAll (s : State) (brand : Nat) (l : List (Nat × List Nat)) : lasting (writeAll s brand l).1 = lasting s :=
  (aside_writeAll s _ _ (aside_refl s)).lasting_eq

@[simp] theorem lasting_writesFx (s : State) (brand : Nat) (l : List (Nat × List Nat)) : lasting (writesFx s brand l) = lasting s :=
  (aside_writesFx s _ _ (aside_refl s)).lasting_eq

@[simp] theorem lasting_heatFlag (s : State) (i : Nat) : lasting (heatFlag s i) = lasting s :=
  (aside_heatFlag s _ (aside_refl s)).lasting_eq

@[simp] theorem lasting_applyWork (s : State) (brand : Nat) (w : Work) : lasting (applyWork s brand w) = lasting s :=
  (aside_applyWork s _ _ (aside_refl s)).lasting_eq

/- ### Machine/Links.lean -/

@[simp] theorem lasting_setLnk (s : State) (i : Nat) (l : Link) : lasting (setLnk s i l) = lasting s :=
  (aside_setLnk s _ _ (aside_refl s)).lasting_eq

@[simp] theorem lasting_pump (s : State) (i : Nat) : lasting (pump s i) = lasting s :=
  (aside_pump s _ (aside_refl s)).lasting_eq

@[simp] theorem lasting_sendCtl (s : State) (i nak : Nat) : lasting (sendCtl s i nak) = lasting s :=
  (aside_sendCtl s _ _ (aside_refl s)).lasting_eq

@[simp] theorem lasting_sendMsg (s : State) (link : Nat) (hdr : List Nat) (flits : List (List Nat)) :
    lasting (sendMsg s link hdr flits) = lasting s :=
  (aside_sendMsg s _ _ _ (aside_refl s)).lasting_eq

@[simp] theorem lasting_sendTo (s : State) (node : Nat) (hdr : List Nat) (flits : List (List Nat)) : lasting (sendTo s node hdr flits) = lasting s :=
  (aside_sendTo s _ _ _ (aside_refl s)).lasting_eq

@[simp] theorem lasting_sendSync (s : State) (typ node addr body : Nat) : lasting (sendSync s typ node addr body) = lasting s :=
  (aside_sendSync s _ _ _ _ (aside_refl s)).lasting_eq

@[simp] theorem lasting_sendSyncAll (s : State) (typ addr body : Nat) : lasting (sendSyncAll s typ addr body) = lasting s :=
  (aside_sendSyncAll s _ _ _ (aside_refl s)).lasting_eq

@[simp] theorem lasting_forward (s : State) (hdr : List Nat) (flits : List (List Nat)) : lasting (forward s hdr flits) = lasting s :=
  (aside_forward s _ _ (aside_refl s)).lasting_eq

@[simp] theorem lasting_takeMsg (s : State) (link : Nat) (hdr : List Nat) (flits : List (List Nat)) :
    lasting (takeMsg s link hdr flits) = lasting s :=
  (aside_takeMsg s _ _ _ (aside_refl s)).lasting_eq

@[simp] theorem lasting_noteSync (s : State) (link : Nat) : lasting (noteSync s link) = lasting s :=
  (aside_noteSync s _ (aside_refl s)).lasting_eq

@[simp] theorem lasting_syncDown (s : State) (hdr : List Nat) : lasting (syncDown s hdr) = lasting s :=
  (aside_syncDown s _ (aside_refl s)).lasting_eq

@[simp] theorem lasting_retrainCause (s : State) (i : Nat) : lasting (retrainCause s i) = lasting s :=
  (aside_retrainCause s _ (aside_refl s)).lasting_eq

@[simp] theorem lasting_replay (s : State) (i : Nat) : lasting (replay s i) = lasting s :=
  (aside_replay s _ (aside_refl s)).lasting_eq

@[simp] theorem lasting_controlFx (s : State) (i : Nat) (p : List Nat) : lasting (controlFx s i p) = lasting s :=
  (aside_controlFx s _ _ (aside_refl s)).lasting_eq

@[simp] theorem lasting_dataFx (s : State) (i : Nat) (p : List Nat) : lasting (dataFx s i p) = lasting s :=
  (aside_dataFx s _ _ (aside_refl s)).lasting_eq

@[simp] theorem lasting_badFx (s : State) (i : Nat) : lasting (badFx s i) = lasting s :=
  (aside_badFx s _ (aside_refl s)).lasting_eq

@[simp] theorem lasting_receiveFrame (s : State) (i : Nat) (frame : List Nat) : lasting (receiveFrame s i frame) = lasting s :=
  (aside_receiveFrame s _ _ (aside_refl s)).lasting_eq

/- ### Machine/Tabor.lean -/

@[simp] theorem lasting_updTab (s : State) (f : Tabor → Tabor) : lasting (updTab s f) = lasting s := by simp [updTab]

@[simp] theorem lasting_setTask (s : State) (t : Task) : lasting (setTask s t) = lasting s := by simp [setTask]

@[simp] theorem lasting_noteDepth (s : State) (q : Nat) : lasting (noteDepth s q) = lasting s := by simp [noteDepth]

@[simp] theorem lasting_ringDoorbell (s : State) (brand q v : Nat) : lasting (ringDoorbell s brand q v).1 = lasting s := by
  simp [ringDoorbell]

@[simp] theorem lasting_noteCq (s : State) (q : Nat) : lasting (noteCq s q) = lasting s := by simp [noteCq]

@[simp] theorem lasting_busyFx (s : State) (cls unit : Nat) (busy : Bool) (opc : Nat) (gold : Bool) :
    lasting (busyFx s cls unit busy opc gold) = lasting s := by
  unfold busyFx
  split <;> simp

@[simp] theorem lasting_showSwage (s : State) (e : Nat) : lasting (showSwage s e) = lasting s := by
  unfold showSwage
  repeat' split
  all_goals simp

@[simp] theorem lasting_noteStrike (s : State) (sw : Option Nat) : lasting (noteStrike s sw) = lasting s := by
  unfold noteStrike
  split <;> simp

@[simp] theorem lasting_showTask (s : State) (cls unit : Nat) (t : Task) : lasting (showTask s cls unit t) = lasting s := by simp [showTask]

@[simp] theorem lasting_assayIdle (s : State) (unit : Nat) : lasting (assayIdle s unit) = lasting s := by simp [assayIdle]

@[simp] theorem lasting_showUnit (s : State) (e : Nat) : lasting (showUnit s e) = lasting s := by
  unfold showUnit
  split <;> simp

@[simp] theorem lasting_showAssay (s : State) : lasting (showAssay s) = lasting s := by
  unfold showAssay
  split <;> simp

@[simp] theorem lasting_startRun (s : State) (t : Task) (e lunit : Nat) : lasting (startRun s t e lunit) = lasting s := by simp [startRun]

@[simp] theorem lasting_slotEmpties (s : State) (e : Nat) : lasting (slotEmpties s e) = lasting s := by
  unfold slotEmpties
  dsimp only
  split <;> simp

@[simp] theorem lasting_countRun (s : State) (e : Nat) (t : Task) : lasting (countRun s e t) = lasting s := by simp [countRun]

@[simp] theorem lasting_taskLeaves (s : State) (e : Nat) (t : Task) : lasting (taskLeaves s e t) = lasting s := by simp [taskLeaves]

@[simp] theorem lasting_finishNow (s : State) (t : Task) (status : Nat) : lasting (finishNow s t status) = lasting s := by simp [finishNow]

@[simp] theorem lasting_requestSwap (s : State) : lasting (requestSwap s) = lasting s := by simp [requestSwap]

@[simp] theorem lasting_enterTask (s : State) (q num : Nat) (c : List Nat) (unread : Bool) : lasting (enterTask s q num c unread) = lasting s := by
  simp [enterTask]

@[simp] theorem lasting_noteStop (s : State) (q k : Nat) : lasting (noteStop s q k) = lasting s := by simp [noteStop]

@[simp] theorem lasting_injectGolden (s : State) (c : List Nat) : lasting (injectGolden s c) = lasting s := by simp [injectGolden]

@[simp] theorem lasting_pumpGold (s : State) : lasting (pumpGold s) = lasting s := by
  unfold pumpGold
  dsimp only
  repeat' split
  all_goals simp

@[simp] theorem lasting_wantGold (s : State) (cls l : Nat) : lasting (wantGold s cls l) = lasting s := by simp [wantGold]

@[simp] theorem lasting_passHead (s : State) (q : Nat) (inj : Bool) : lasting (passHead s q inj) = lasting s := by simp [passHead]

@[simp] theorem lasting_admitOffer (s : State) (q : Nat) (x : Option (List Nat) × List Note) : lasting (admitOffer s q x) = lasting s := by
  unfold admitOffer
  split <;> simp

@[simp] theorem lasting_admitHead (s : State) (want : Option Nat) (q : Nat) : lasting (admitHead want s q) = lasting s := by
  unfold admitHead
  repeat' split
  all_goals simp

@[simp] theorem lasting_ringEntry (s : State) (base n : Nat) (count : Fld) (bs : List Nat) : lasting (ringEntry s base n count bs) = lasting s := by
  simp [ringEntry]

@[simp] theorem lasting_hallmarkLog (s : State) (tag hm : Nat) : lasting (hallmarkLog s tag hm) = lasting s := by simp [hallmarkLog]

@[simp] theorem lasting_release (s : State) (t : Task) : lasting (release s t) = lasting s := by simp [release]

@[simp] theorem lasting_writeTail (s : State) (brand queue tail : Nat) : lasting (writeTail s brand queue tail) = lasting s := by
  simp [writeTail]

@[simp] theorem lasting_writeCqHead (s : State) (queue value : Nat) : lasting (writeCqHead s queue value) = lasting s := by
  simp [writeCqHead]

@[simp] theorem lasting_skipFlow (s : State) (flow : Nat) : lasting (skipFlow s flow) = lasting s := by simp [skipFlow]

@[simp] theorem lasting_writeInject (s : State) (brand i word : Nat) : lasting (writeInject s brand i word) = lasting s := by
  simp [writeInject]

@[simp] theorem lasting_reportDrained (s : State) : lasting (reportDrained s) = lasting s := by simp [reportDrained]

/- ### Machine/Spares.lean -/

@[simp] theorem lasting_setUState (s : State) (e st : Nat) : lasting (setUState s e st) = lasting s := by simp [setUState]

@[simp] theorem lasting_recount (s : State) (c : Nat) : lasting (recount s c) = lasting s := by simp [recount]

@[simp] theorem lasting_setWhy (s : State) (why cls node : Nat) : lasting (setWhy s why cls node) = lasting s := by simp [setWhy]

@[simp] theorem lasting_noteLeave (s : State) (why cls node : Nat) : lasting (noteLeave s why cls node) = lasting s := by simp [noteLeave]

@[simp] theorem lasting_leaveRepro (s : State) (why cls node : Nat) : lasting (leaveRepro s why cls node) = lasting s := by simp [leaveRepro]

@[simp] theorem lasting_noteExhausted (s : State) (c e : Nat) : lasting (noteExhausted s c e) = lasting s := by simp [noteExhausted]

@[simp] theorem lasting_tendHearth (s : State) (h : Nat) : lasting (tendHearth s h) = lasting s := by
  unfold tendHearth
  repeat' split
  all_goals simp

@[simp] theorem lasting_tendHearths (s : State) : lasting (tendHearths s) = lasting s := by simp [tendHearths]

@[simp] theorem lasting_thEnd (s : State) (g res : Nat) : lasting (thEnd s g res) = lasting s := by simp [thEnd]

@[simp] theorem lasting_mapTouched (s : State) : lasting (mapTouched s) = lasting s := by simp [mapTouched]

@[simp] theorem lasting_mapTo (s : State) (c l n : Nat) : lasting (mapTo s c l n) = lasting s := by simp [mapTo]

@[simp] theorem lasting_closePort (s : State) (t : Task) : lasting (closePort s t) = lasting s := by simp [closePort]

@[simp] theorem lasting_returnTask (s : State) (t : Task) : lasting (returnTask s t) = lasting s := by
  unfold returnTask
  split <;> simp

@[simp] theorem lasting_returnTasks (s : State) (e : Nat) : lasting (returnTasks s e) = lasting s := by simp [returnTasks]

@[simp] theorem lasting_returnBound (s : State) (e : Nat) : lasting (returnBound s e) = lasting s := by
  refine lasting_foldl _ _ _ fun s t => ?_
  cases t.loc <;> simp

@[simp] theorem lasting_leaveService (s : State) (e : Nat) (named : Bool) : lasting (leaveService s e named) = lasting s := by
  simp [leaveService]

@[simp] theorem lasting_substitute (s : State) (c l e : Nat) : lasting (substitute s c l e) = lasting s := by
  unfold substitute
  split <;> simp

@[simp] theorem lasting_fenceUnit (s : State) (e : Nat) (sharedPart : Bool) : lasting (fenceUnit s e sharedPart) = lasting s := by
  simp [fenceUnit]

@[simp] theorem lasting_goldenFail (s : State) (e : Nat) : lasting (goldenFail s e) = lasting s := by simp [goldenFail]

@[simp] theorem lasting_goldenNotRun (s : State) : lasting (goldenNotRun s) = lasting s := by simp [goldenNotRun]

@[simp] theorem lasting_reduceOne (s : State) (v : Nat × Nat × Nat) : lasting (reduceOne s v) = lasting s := by
  unfold reduceOne
  dsimp only
  repeat' split
  all_goals simp

@[simp] theorem lasting_countReduce (s : State) : lasting (countReduce s) = lasting s := by simp [countReduce]

@[simp] theorem lasting_mapEntry (s : State) (used : List Nat) (p : Nat × Nat) : lasting (mapEntry used s p).2 = lasting s := by
  simp [mapEntry]

@[simp] theorem lasting_followUnit (s : State) (e : Nat) : lasting (followUnit s e) = lasting s := by
  unfold followUnit
  dsimp only
  split <;> simp

@[simp] theorem lasting_commitMap (s : State) : lasting (commitMap s) = lasting s := by
  unfold commitMap
  repeat' split
  all_goals simp

@[simp] theorem lasting_spareResumes (s : State) (p : Nat × Nat × Nat × Nat) : lasting (spareResumes s p) = lasting s := by
  simp [spareResumes]

@[simp] theorem lasting_proactiveSwitch (s : State) : lasting (proactiveSwitch s) = lasting s := by
  unfold proactiveSwitch
  dsimp only
  repeat' split
  all_goals simp

@[simp] theorem lasting_crossUnit (s : State) (e : Nat) : lasting (crossUnit s e) = lasting s := by simp [crossUnit]

@[simp] theorem lasting_measureAges (s : State) (ages : List Nat) : lasting (measureAges s ages) = lasting s := by simp [measureAges]

/- ### Machine/Stroke.lean -/

@[simp] theorem lasting_setSource (s : State) (k : Nat) : lasting (setSource s k) = lasting s := by simp [setSource]

@[simp] theorem lasting_takeSource (s : State) (k : Nat) : lasting (takeSource s k) = lasting s := by simp [takeSource]

@[simp] theorem lasting_computeStarts (s : State) : lasting (computeStarts s) = lasting s := by simp [computeStarts]

@[simp] theorem lasting_bellPulse (s : State) (at_ width tol : Nat) : lasting (bellPulse s at_ width tol) = lasting s := by simp [bellPulse]

@[simp] theorem lasting_strokePulse (s : State) (t : Nat) : lasting (strokePulse s t) = lasting s := by simp [strokePulse]

@[simp] theorem lasting_dropStroke (s : State) : lasting (dropStroke s) = lasting s := by simp [dropStroke]

@[simp] theorem lasting_beginStroke (s : State) (t : Nat) : lasting (beginStroke s t) = lasting s := by simp [beginStroke]

@[simp] theorem lasting_strokeLoss (s : State) : lasting (strokeLoss s) = lasting s := by simp [strokeLoss]

@[simp] theorem lasting_endHold (s : State) : lasting (endHold s) = lasting s := by simp [endHold]

@[simp] theorem lasting_enterFlywheel (s : State) (code t : Nat) : lasting (enterFlywheel s code t) = lasting s := by
  unfold enterFlywheel
  dsimp only
  repeat' split
  all_goals simp

@[simp] theorem lasting_ignoreEdge (s : State) : lasting (ignoreEdge s) = lasting s := by simp [ignoreEdge]

@[simp] theorem lasting_acceptEdge (s : State) (t : Nat) : lasting (acceptEdge s t) = lasting s := by simp [acceptEdge]

@[simp] theorem lasting_filterEdge (s : State) (t highNs : Nat) : lasting (filterEdge s t highNs) = lasting s := by
  unfold filterEdge
  repeat' split
  all_goals simp

@[simp] theorem lasting_spoilSlot (s : State) (n : Nat) : lasting (spoilSlot s n) = lasting s := by simp [spoilSlot]

@[simp] theorem lasting_requalify (s : State) (t : Nat) : lasting (requalify s t) = lasting s := by simp [requalify]

@[simp] theorem lasting_followGptp (s : State) (gptp : Nat) : lasting (followGptp s gptp) = lasting s := by simp [followGptp]

@[simp] theorem lasting_shadowMismatch (s : State) : lasting (shadowMismatch s) = lasting s := by simp [shadowMismatch]

@[simp] theorem lasting_swapBank (s : State) : lasting (swapBank s) = lasting s := by
  unfold swapBank
  dsimp only
  repeat' split
  all_goals simp

@[simp] theorem lasting_compareUnits (s : State) (same : Bool) : lasting (compareUnits s same) = lasting s := by simp [compareUnits]

@[simp] theorem lasting_clearDue (s : State) : lasting (clearDue s) = lasting s := by simp [clearDue]

@[simp] theorem lasting_abandonLaunches (s : State) : lasting (abandonLaunches s) = lasting s := by simp [abandonLaunches]

@[simp] theorem lasting_endWatch (s : State) : lasting (endWatch s) = lasting s := by simp [endWatch]

@[simp] theorem lasting_perStroke (s : State) : lasting (perStroke s) = lasting s := by simp [perStroke]

@[simp] theorem lasting_announceWindow (s : State) : lasting (announceWindow s) = lasting s := by simp [announceWindow]

@[simp] theorem lasting_endStroke (s : State) : lasting (endStroke s) = lasting s := by simp [endStroke]

@[simp] theorem lasting_startStroke (s : State) (n t inst : Nat) : lasting (startStroke s n t inst) = lasting s := by simp [startStroke]

@[simp] theorem lasting_newStroke (s : State) (n t inst : Nat) : lasting (newStroke s n t inst) = lasting s := by simp [newStroke]

@[simp] theorem lasting_setMode (s : State) (m : Nat) : lasting (setMode s m) = lasting s := by simp [setMode]

@[simp] theorem lasting_enterRepro (s : State) (n t inst : Nat) : lasting (enterRepro s n t inst) = lasting s := by simp [enterRepro]

@[simp] theorem lasting_exitRepro (s : State) (n t inst : Nat) : lasting (exitRepro s n t inst) = lasting s := by simp [exitRepro]

@[simp] theorem lasting_serviceStroke (s : State) (n t inst : Nat) : lasting (serviceStroke s n t inst) = lasting s := by
  unfold serviceStroke
  split <;> simp

@[simp] theorem lasting_settleEntry (s : State) (i : Nat) : lasting (settleEntry s i) = lasting s := by simp [settleEntry]

@[simp] theorem lasting_settleShadow (s : State) (i : Nat) : lasting (settleShadow s i) = lasting s := by simp [settleShadow]

@[simp] theorem lasting_copyList (s : State) (i : Nat) : lasting (copyList s i).1 = lasting s := by
  unfold copyList
  dsimp only
  split <;> simp

@[simp] theorem lasting_launchEntry (s : State) (p : Nat × Nat) (at_ : Nat) : lasting (launchEntry s p at_) = lasting s := by
  simp [launchEntry]

@[simp] theorem lasting_setTtWord (s : State) (b k v : Nat) : lasting (setTtWord s b k v) = lasting s := by simp [setTtWord]

@[simp] theorem lasting_writeTimetable (s : State) (addr value : Nat) : lasting (writeTimetable s addr value) = lasting s := by
  simp [writeTimetable]

/- ### Machine/Bell.lean -/

@[simp] theorem lasting_skewCheck (s : State) (edge t : Nat) : lasting (skewCheck s edge t) = lasting s := by simp [skewCheck]

@[simp] theorem lasting_loseBell (s : State) : lasting (loseBell s) = lasting s := by simp [loseBell]

@[simp] theorem lasting_ignoreBell (s : State) : lasting (ignoreBell s) = lasting s := by simp [ignoreBell]

@[simp] theorem lasting_bellStroke (s : State) (t : Nat) : lasting (bellStroke s t) = lasting s := by
  unfold bellStroke
  dsimp only
  repeat' split
  all_goals simp

@[simp] theorem lasting_returnCheck (s : State) (edge t : Nat) : lasting (returnCheck s edge t) = lasting s := by simp [returnCheck]

@[simp] theorem lasting_takeMessage (s : State) (n t : Nat) : lasting (takeMessage s n t) = lasting s := by
  unfold takeMessage
  dsimp only
  split <;> simp

@[simp] theorem lasting_messageLate (s : State) : lasting (messageLate s) = lasting s := by simp [messageLate]

@[simp] theorem lasting_edgeMessage (s : State) (at_ e n t : Nat) : lasting (edgeMessage s at_ e n t) = lasting s := by simp [edgeMessage]

@[simp] theorem lasting_syncStroke (s : State) (n t : Nat) : lasting (syncStroke s n t) = lasting s := by simp [syncStroke]

@[simp] theorem lasting_strokeMessage (s : State) (at_ n t : Nat) : lasting (strokeMessage s at_ n t) = lasting s := by
  unfold strokeMessage
  dsimp only
  repeat' split
  all_goals simp

@[simp] theorem lasting_calibrate (s : State) : lasting (calibrate s) = lasting s := by simp [calibrate]

/- ### Machine/World.lean -/

@[simp] theorem lasting_initImage (s : State) (img : Nat) : lasting (initImage s img) = lasting s := by simp [initImage]

@[simp] theorem lasting_noteChange (s : State) (id : Nat) (e : List Nat) : lasting (noteChange s id e) = lasting s := by simp [noteChange]

@[simp] theorem lasting_rejectRecord (s : State) (r typ reason : Nat) : lasting (rejectRecord s r typ reason) = lasting s := by
  simp [rejectRecord]

@[simp] theorem lasting_compactVerts (s : State) (id : Nat) : lasting (compactVerts s id).1 = lasting s := by simp [compactVerts]

@[simp] theorem lasting_allocVerts (s : State) (id nv : Nat) : lasting (allocVerts s id nv).1 = lasting s := by simp [allocVerts]

@[simp] theorem lasting_setPrim (s : State) (d : List Nat) : lasting (setPrim s d) = lasting s := by simp [setPrim]

@[simp] theorem lasting_delPrim (s : State) (id : Nat) : lasting (delPrim s id) = lasting s := by simp [delPrim]

@[simp] theorem lasting_setAgent (s : State) (d : List Nat) : lasting (setAgent s d) = lasting s := by simp [setAgent]

@[simp] theorem lasting_delAgent (s : State) (id : Nat) : lasting (delAgent s id) = lasting s := by
  unfold delAgent
  by_cases hid : agentNh (agentEntry (peek s) s.wld.staging id) = 0
  · rw [if_pos hid]
  · rw [if_neg hid]
    dsimp only
    rw [lasting_mk, lasting_fold, lasting_store]

@[simp] theorem lasting_setEgo (s : State) (d : List Nat) : lasting (setEgo s d) = lasting s := by simp [setEgo]

@[simp] theorem lasting_clearHeat (s : State) : lasting (clearHeat s) = lasting s := by
  unfold clearHeat
  rw [lasting_withWld, lasting_foldl _ _ _ lasting_delAgent, lasting_foldl _ _ _ lasting_delPrim]

@[simp] theorem lasting_inconsistent (s : State) : lasting (inconsistent s) = lasting s := by simp [inconsistent]

@[simp] theorem lasting_urgentDelta (s : State) (d : List Nat) : lasting (urgentDelta s d) = lasting s := by
  simp [urgentDelta, -List.reduceReplicate]

@[simp] theorem lasting_applyRecord (s : State) (d : List Nat) : lasting (applyRecord s d) = lasting s := by
  unfold applyRecord
  split <;> simp

@[simp] theorem lasting_movedRp (s : State) (r : Nat) (f : Fetched) : lasting (movedRp s r f) = lasting s := by simp [movedRp]

@[simp] theorem lasting_consume (s : State) (r : Nat) (f : Fetched) : lasting (consume s r f) = lasting s := by simp [consume]

@[simp] theorem lasting_dmaRecord (s : State) (r : Nat) (rec : List Nat) : lasting (dmaRecord s r rec).1 = lasting s := by simp [dmaRecord]

@[simp] theorem lasting_dmaGo (s : State) (a b : Nat) (bs : List Nat) : lasting (dmaGo a s b bs).1 = lasting s := by
  induction a generalizing s bs with
  | zero => rfl
  | succ k ih =>
    unfold dmaGo
    dsimp only
    split
    · rfl
    · simp only [lasting_ite_fst, ih, lasting_dmaRecord, ite_self]

@[simp] theorem lasting_dmaPump (s : State) : lasting (dmaPump s) = lasting s := by
  unfold dmaPump
  repeat' split
  all_goals simp

@[simp] theorem lasting_receiveDatagram (s : State) (ring : Nat) (bytes : List Nat) : lasting (receiveDatagram s ring bytes) = lasting s := by
  simp [receiveDatagram]

@[simp] theorem lasting_writeWp (s : State) (ring value : Nat) : lasting (writeWp s ring value) = lasting s := by simp [writeWp]

@[simp] theorem lasting_intake (s : State) (want : Nat → Bool) (r : Nat) : lasting (intake want s r) = lasting s := by simp [intake]

@[simp] theorem lasting_staleMerges (s : State) : lasting (staleMerges s) = lasting s := by simp [staleMerges]

@[simp] theorem lasting_pealSeal (s : State) : lasting (pealSeal s) = lasting s := by simp [pealSeal]

@[simp] theorem lasting_finishCopy (s : State) : lasting (finishCopy s) = lasting s := by simp [finishCopy]

@[simp] theorem lasting_sealHeat (s : State) : lasting (sealHeat s) = lasting s := by simp [sealHeat]

@[simp] theorem lasting_sealDeferring (s : State) : lasting (sealDeferring s) = lasting s := by simp [sealDeferring]

/- ### Machine/Engine.lean -/

@[simp] theorem lasting_taskRan (s : State) (t : Task) (status hm : Nat) : lasting (taskRan s t status hm) = lasting s := by simp [taskRan]

@[simp] theorem lasting_finishWork (s : State) (t : Task) (w : Work) : lasting (finishWork s t w) = lasting s := by simp [finishWork]

@[simp] theorem lasting_engineRow (s : State) (cls unit : Nat) (opcs : List Nat) (f : State → Task → Work) :
    lasting (engineRow s cls unit opcs f) = lasting s := by
  unfold engineRow
  split <;> simp

@[simp] theorem lasting_openGate (s : State) (g : Nat) : lasting (openGate s g) = lasting s := by simp [openGate]

/- ### Machine/Fields.lean -/

@[simp] theorem lasting_crucibleRun (s : State) (unit : Nat) (t : Task) : lasting (crucibleRun s unit t) = lasting s := by simp [crucibleRun]

@[simp] theorem lasting_runCrucible (s : State) (unit opc : Nat) : lasting (runCrucible s unit opc) = lasting s := by
  unfold runCrucible
  split <;> simp

/- ### Machine/Peal.lean -/

@[simp] theorem lasting_partPlaced (s : State) (c : List Nat) : lasting (partPlaced s c) = lasting s := by simp [partPlaced]

@[simp] theorem lasting_forHeat (s : State) (h : Nat) : lasting (forHeat s h) = lasting s := by simp [forHeat]

@[simp] theorem lasting_putCost (s : State) (by_ n c : Nat) : lasting (putCost s by_ n c) = lasting s := by
  unfold putCost
  split <;> simp

@[simp] theorem lasting_setPhase (s : State) (k : Nat) : lasting (setPhase s k) = lasting s := by simp [setPhase]

@[simp] theorem lasting_startLattice (s : State) (opc : Nat) : lasting (startLattice s opc) = lasting s := by simp [startLattice]

@[simp] theorem lasting_restart (s : State) : lasting (restart s) = lasting s := by simp [restart]

@[simp] theorem lasting_arrive (s : State) (unit opc : Nat) : lasting (arrive s unit opc) = lasting s := by
  unfold arrive
  split <;> simp

@[simp] theorem lasting_seedAll (s : State) : lasting (seedAll s) = lasting s :=
  (lasting_withPeal _ _).trans (lasting_foldl _ _ _ fun _ _ => lasting_putCost _ _ _ _)

@[simp] theorem lasting_copyAndRaise (s : State) (v : Nat) : lasting (copyAndRaise s v) = lasting s :=
  (lasting_setPhase _ _).trans ((lasting_withPeal _ _).trans (lasting_foldl _ _ _ fun _ _ => lasting_putCost _ _ _ _))

@[simp] theorem lasting_estimate (s : State) : lasting (estimate s) = lasting s := by simp [estimate]

@[simp] theorem lasting_relax (s : State) (n c : Nat) (p : Nat × Nat) : lasting (relax n c s p) = lasting s := by simp [relax]

@[simp] theorem lasting_expandFront (s : State) (front : List Nat) : lasting (expandFront s front) = lasting s := by simp [expandFront]

@[simp] theorem lasting_clearMap (s : State) : lasting (clearMap s) = lasting s := by
  unfold clearMap
  split
  · simp only [lasting_writesFx]
  · rfl

@[simp] theorem lasting_latticeDone (s : State) : lasting (latticeDone s) = lasting s := by simp [latticeDone]

@[simp] theorem lasting_firstStep (s : State) : lasting (firstStep s) = lasting s := by
  unfold firstStep
  dsimp only
  split <;> simp

@[simp] theorem lasting_waveStep (s : State) : lasting (waveStep s) = lasting s := by
  unfold waveStep
  repeat' split
  all_goals simp

@[simp] theorem lasting_setFrame (s : State) (age buf none : Nat) : lasting (setFrame s age buf none) = lasting s := by simp [setFrame]

@[simp] theorem lasting_selectOld (s : State) : lasting (selectOld s) = lasting s := by
  unfold selectOld
  split <;> simp

@[simp] theorem lasting_partEnded (s : State) (t : Task) (status : Nat) : lasting (partEnded s t status) = lasting s := by simp [partEnded]

@[simp] theorem lasting_timeUp (s : State) (t : Task) : lasting (timeUp s t) = lasting s := by
  unfold timeUp
  split <;> simp

/- ### Machine/Hammer.lean -/

@[simp] theorem lasting_noteCut (s : State) (k : Nat) : lasting (noteCut s k) = lasting s := by simp [noteCut]

@[simp] theorem lasting_runStrike (s : State) (t : Task) (kept : Nat) : lasting (runStrike s t kept) = lasting s := by simp [runStrike]

@[simp] theorem lasting_cutOne (s : State) (done : List (Nat × Nat)) (t : Task) : lasting (cutOne done s t) = lasting s := by
  unfold cutOne
  split <;> simp

/- ### Machine/Quench.lean -/

@[simp] theorem lasting_noteDeadline (s : State) (chose : Bool) (unit : Nat) : lasting (noteDeadline s chose unit) = lasting s := by
  simp [noteDeadline]

@[simp] theorem lasting_runRefine (s : State) (t : Task) (late : Bool) (stop : Option (Nat × Nat)) :
    lasting (runRefine s t late stop) = lasting s := by
  simp [runRefine]

/- ### Machine/Assay.lean -/

@[simp] theorem lasting_asyFault (s : State) (code cls : Nat) : lasting (asyFault s code cls) = lasting s := by simp [asyFault]

@[simp] theorem lasting_doubt (s : State) : lasting (doubt s) = lasting s := by simp [doubt]

@[simp] theorem lasting_recheckUnit (s : State) (tag : Nat) : lasting (recheckUnit s tag).2 = lasting s := by
  unfold recheckUnit
  split <;> simp

@[simp] theorem lasting_disagreement (s : State) (tag : Nat) : lasting (disagreement s tag) = lasting s := by
  unfold disagreement
  dsimp only
  repeat' split
  all_goals simp

@[simp] theorem lasting_loadCopy (s : State) (brand src off n : Nat) : lasting (loadCopy s brand src off n).1 = lasting s := by
  unfold loadCopy
  dsimp only
  split <;> simp

@[simp] theorem lasting_recordVerdict (s : State) (v : Verdict) : lasting (recordVerdict s v) = lasting s := by simp [recordVerdict]

@[simp] theorem lasting_countVerdict (s : State) (v : Verdict) : lasting (countVerdict s v) = lasting s := by simp [countVerdict]

@[simp] theorem lasting_noteCheck (s : State) (c : ACheck) (gidx : Nat) : lasting (noteCheck s c gidx) = lasting s := by simp [noteCheck]

@[simp] theorem lasting_assayCarry (s : State) (foot : Nat) (slots : List Nat) : lasting (assayCarry s foot slots) = lasting s := by
  unfold assayCarry
  dsimp only
  repeat' split
  all_goals simp

@[simp] theorem lasting_orderFx (s : State) (k tag : Nat) (v : Verdict) : lasting (orderFx s k tag v) = lasting s := by
  unfold orderFx
  split <;> simp

@[simp] theorem lasting_orderOne (s : State) (slots : List Nat) (k : Nat) : lasting (orderOne s slots k) = lasting s := by
  unfold orderOne
  dsimp only
  split <;> simp

@[simp] theorem lasting_orderGo (s : State) (slots : List Nat) (a : Nat) : lasting (orderGo slots a s) = lasting s := by
  induction a generalizing s with
  | zero => rfl
  | succ f ih =>
    unfold orderGo
    split
    · rfl
    · simp [ih]

@[simp] theorem lasting_copyPlans (s : State) (brand : Nat) (c : List Nat) : lasting (copyPlans s brand c) = lasting s := by
  refine (lasting_foldl _ _ _ fun s k => ?_).trans ?_
  · split
    · rfl
    · simp
  · simp [-List.reduceReplicate]

@[simp] theorem lasting_assayTask (s : State) (t : Task) : lasting (assayTask s t) = lasting s := by
  unfold assayTask
  simp

@[simp] theorem lasting_assayGoldTask (s : State) (t : Task) : lasting (assayGoldTask s t) = lasting s := by
  unfold assayGoldTask
  dsimp only
  split <;> simp

@[simp] theorem lasting_watchSlot (s : State) (n slot idx foot : Nat) : lasting (watchSlot s n slot idx foot).1 = lasting s := by
  simp [watchSlot]

@[simp] theorem lasting_watchOne (s : State) : lasting (watchOne s) = lasting s := by
  unfold watchOne
  dsimp only
  repeat' split
  all_goals simp

@[simp] theorem lasting_watchAll (s : State) (a : Nat) : lasting (watchAll a s) = lasting s := by
  induction a generalizing s with
  | zero => rfl
  | succ k ih => exact (ih _).trans (lasting_watchOne s)

@[simp] theorem lasting_goldenAtFreeze (s : State) : lasting (goldenAtFreeze s) = lasting s := by
  unfold goldenAtFreeze
  dsimp only
  repeat' split
  all_goals simp

@[simp] theorem lasting_decideCase (s : State) : lasting (decideCase s) = lasting s := by simp [decideCase]

/- ### Machine/Bellows.lean -/

@[simp] theorem lasting_remoteFail (s : State) (n : Nat) : lasting (remoteFail s n) = lasting s := by simp [remoteFail]

@[simp] theorem lasting_remoteSend (s : State) (typ vc addr arg : Nat) (flits : List (List Nat)) (r : Remote) :
    lasting (remoteSend s typ vc addr arg flits r).1 = lasting s := by
  simp [remoteSend]

@[simp] theorem lasting_readGo (s : State) (brand a b c : Nat) : lasting (readGo brand a b c s).2.2 = lasting s := by
  induction a generalizing s b c with
  | zero => rfl
  | succ k ih =>
    unfold readGo
    dsimp only
    split <;> simp [ih]

@[simp] theorem lasting_ite_move (c : Prop) [Decidable c] (m n : Move) :
    lasting (if c then m else n).s = if c then lasting m.s else lasting n.s := apply_ite (fun x : Move => lasting x.s) c m n

@[simp] theorem lasting_foldl_move {β : Type} (f : Move → β → Move) (l : List β) (m : Move) (hf : ∀ m x, lasting (f m x).s = lasting m.s) :
    lasting (l.foldl f m).s = lasting m.s := by
  induction l generalizing m with
  | nil => rfl
  | cons x t ih => exact (ih _).trans (hf m x)

@[simp] theorem lasting_writeGo (w : Mover) (ls : List (List Nat)) (a n : Nat) (m : Move) : lasting (writeGo w ls a n m).s = lasting m.s := by
  induction ls generalizing a n m with
  | nil => rfl
  | cons b t ih =>
    unfold writeGo
    dsimp only
    split <;> simp [ih]

@[simp] theorem lasting_wroteTo (w : Mover) (ls : List (List Nat)) (a n : Nat) (m : Move) (r : State × Bool) :
    lasting (wroteTo w ls a n m r).s = lasting r.1 := by
  simp [wroteTo]

@[simp] theorem lasting_askedFor (src : Nat) (m : Move) (r : State × Bool) : lasting (askedFor src m r).s = lasting r.1 := by simp [askedFor]

@[simp] theorem lasting_putLines (w : Mover) (ls : List (List Nat)) (a n : Nat) (m : Move) : lasting (putLines w ls a n m).s = lasting m.s := by
  simp [putLines]

@[simp] theorem lasting_putRead (w : Mover) (src dst n : Nat) (m : Move) (r : List (List Nat) × Bool × State) :
    lasting (putRead w src dst n m r).s = lasting r.2.2 := by
  simp [putRead]

@[simp] theorem lasting_moveChunk (w : Mover) (src dst n : Nat) (m : Move) : lasting (moveChunk w src dst n m).s = lasting m.s := by
  simp [moveChunk]

@[simp] theorem lasting_moveGo (w : Mover) (k src dst n : Nat) (m : Move) : lasting (moveGo w k src dst n m).s = lasting m.s := by
  induction k generalizing src dst n m with
  | zero => rfl
  | succ k ih =>
    unfold moveGo
    split <;> simp [ih]

@[simp] theorem lasting_moveLines (w : Mover) (src dst n : Nat) (m : Move) : lasting (moveLines w src dst n m).s = lasting m.s :=
  lasting_moveGo _ _ _ _ _ _

@[simp] theorem lasting_fillGo (w : Mover) (line : List Nat) (k dst n : Nat) (m : Move) : lasting (fillGo w line k dst n m).s = lasting m.s := by
  induction k generalizing dst n m with
  | zero => rfl
  | succ k ih =>
    unfold fillGo
    split <;> simp [ih]

@[simp] theorem lasting_bellowsFault (s : State) (e st bad : Nat) : lasting (bellowsFault s e st bad) = lasting s := by simp [bellowsFault]

@[simp] theorem lasting_endMove (t : Task) (m : Move) : lasting (endMove t m) = lasting m.s := by simp [endMove]

@[simp] theorem lasting_refuseLocal (s : State) (t : Task) : lasting (refuseLocal s t) = lasting s := by simp [refuseLocal]

@[simp] theorem lasting_copyTask (s : State) (t : Task) : lasting (copyTask s t) = lasting s := by simp [copyTask]

@[simp] theorem lasting_pushHeader (w : Mover) (dst : Nat) (line : List Nat) (m : Move) : lasting (pushHeader w dst line m).s = lasting m.s := by
  simp [pushHeader]

theorem lasting_pushEntries (w : Mover) (src dst aux : Nat) (hdr : List Nat) (m n : Move) (hn : pushEntries w src dst aux hdr m = some (some n)) :
    lasting n.s = lasting m.s := by
  unfold pushEntries at hn
  dsimp only at hn
  split at hn
  · split at hn
    · cases hn
    · cases hn; exact lasting_pushHeader _ _ _ _
  · split at hn
    · cases hn
    · split at hn
      · cases hn
      · cases hn; simp

@[simp] theorem lasting_pushWith (s : State) (t : Task) (hdr : List Nat) : lasting (pushWith s t hdr) = lasting s := by
  unfold pushWith
  split
  · simp
  · simp
  · next m hm => simpa using lasting_pushEntries _ _ _ _ _ _ _ hm

@[simp] theorem lasting_pushRead (s : State) (t : Task) (src : Nat) (r : Option (List Nat) × List Note) :
    lasting (pushRead s t src r) = lasting s := by
  unfold pushRead
  split <;> simp

@[simp] theorem lasting_pushAsked (t : Task) (src : Nat) (r : State × Bool) : lasting (pushAsked t src r) = lasting r.1 := by simp [pushAsked]

@[simp] theorem lasting_pushTask (s : State) (t : Task) : lasting (pushTask s t) = lasting s := by simp [pushTask]

@[simp] theorem lasting_bellowsGold (s : State) (t : Task) : lasting (bellowsGold s t) = lasting s := by
  unfold bellowsGold
  dsimp only
  split
  · simp
  · split
    · simp
    · split
      · simp
      · split
        · simp
        · split
          · next m hm => simpa using lasting_pushEntries _ _ _ _ _ _ _ hm
          · simp

@[simp] theorem lasting_digestGo (s : State) (brand org a b c : Nat) : lasting (digestGo brand org a b c s).2 = lasting s := by
  induction a generalizing s b c with
  | zero => rfl
  | succ k ih =>
    unfold digestGo
    dsimp only
    split <;> simp [ih]

@[simp] theorem lasting_digestTask (s : State) (t : Task) : lasting (digestTask s t) = lasting s := by
  unfold digestTask
  dsimp only
  split <;> simp

/- ### Machine/Place.lean -/

@[simp] theorem lasting_putTask (s : State) (t : Task) (l e : Nat) : lasting (putTask s t l e) = lasting s := by simp [putTask]

@[simp] theorem lasting_endAtPlacement (s : State) (t : Task) (status : Nat) : lasting (endAtPlacement s t status) = lasting s := by
  simp [endAtPlacement]

@[simp] theorem lasting_placeAt (s : State) (t : Task) (l e : Nat) : lasting (placeAt s t l e) = lasting s := by
  unfold placeAt
  dsimp only
  repeat' split
  all_goals simp

@[simp] theorem lasting_displace (s : State) (t : Task) : lasting (displace s t) = lasting s := by simp [displace]

theorem lasting_placeGoldenTask (s t : State) (u : Task) (ht : placeGoldenTask s u = some t) : lasting t = lasting s := by
  unfold placeGoldenTask at ht
  dsimp only at ht
  repeat' split at ht
  all_goals cases ht
  all_goals simp

@[simp] theorem lasting_placeGo (s : State) (c : Nat) (x : List Task) : lasting (placeGo s c x) = lasting s := by
  induction x with
  | nil => rfl
  | cons t rest ih =>
    unfold placeGo
    split
    · exact ih
    · split
      · split
        · next u hu => exact lasting_placeGoldenTask _ _ _ hu
        · exact ih
      · split
        · rfl
        · split
          · split
            · exact lasting_placeAt _ _ _ _
            · exact ih
          · split
            · exact lasting_placeAt _ _ _ _
            · rfl

/- ### Machine/Memory.lean -/

@[simp] theorem lasting_writeBack (s : State) (line : Nat) : lasting (writeBack s line) = lasting s := by
  unfold writeBack
  split <;> simp

@[simp] theorem lasting_countEnd (s : State) (pb : Nat) : lasting (countEnd s pb) = lasting s := by simp [countEnd]

@[simp] theorem lasting_passEnd (s : State) : lasting (passEnd s) = lasting s := by simp [passEnd]

@[simp] theorem lasting_scrubNext (s : State) (bank : Nat) (assay : Bool) : lasting (scrubNext s bank assay) = lasting s := by
  simp [scrubNext]

@[simp] theorem lasting_scrubSpare (s : State) (pb : Nat) : lasting (scrubSpare s pb) = lasting s := by
  unfold scrubSpare
  dsimp only
  split <;> simp

@[simp] theorem lasting_scrubOne (s : State) (bank : Nat) (assay : Bool) : lasting (scrubOne s bank assay) = lasting s := by
  unfold scrubOne
  split <;> simp

@[simp] theorem lasting_scrubAt (s : State) (bank : Nat) (assay forced : Bool) : lasting (scrubAt s bank assay forced) = lasting s := by
  unfold scrubAt
  repeat' split
  all_goals simp

@[simp] theorem lasting_noSpareBank (s : State) (pb : Nat) : lasting (noSpareBank s pb) = lasting s := by simp [noSpareBank]

@[simp] theorem lasting_copiedLine (s : State) (line : Nat) : lasting (copiedLine s line) = lasting s := by
  unfold copiedLine
  split <;> simp

@[simp] theorem lasting_switchBank (s : State) (l pb n : Nat) : lasting (switchBank s l pb n) = lasting s := by simp [switchBank]

@[simp] theorem lasting_patrolStep (s : State) : lasting (patrolStep s) = lasting s := by simp [patrolStep]

@[simp] theorem lasting_setVersion (s : State) (value : Nat) : lasting (setVersion s value) = lasting s := by simp [setVersion]

@[simp] theorem lasting_loseChannel (s : State) (ch : Nat) : lasting (loseChannel s ch) = lasting s := by simp [loseChannel]

@[simp] theorem lasting_subDone (s : State) (i : Nat) : lasting (subDone s i) = lasting s := by simp [subDone]

/- ### Machine/Ubfi.lean -/

@[simp] theorem lasting_sendLinkId (s : State) (i : Nat) : lasting (sendLinkId s i) = lasting s := by simp [sendLinkId]

@[simp] theorem lasting_spareLane (s : State) (i bad : Nat) (f : Fld) : lasting (spareLane s i bad f) = lasting s := by simp [spareLane]

@[simp] theorem lasting_linkComesUp (s : State) (i : Nat) : lasting (linkComesUp s i) = lasting s := by simp [linkComesUp]

@[simp] theorem lasting_startRetrain (s : State) (i : Nat) : lasting (startRetrain s i) = lasting s := by
  unfold startRetrain
  dsimp only
  split <;> simp

@[simp] theorem lasting_dropPending (s : State) (r : Remote) : lasting (dropPending s r) = lasting s := by simp [dropPending]

@[simp] theorem lasting_sendHeads (s : State) (task : Nat) : lasting (sendHeads s task) = lasting s := by
  unfold sendHeads
  dsimp only
  split
  · rfl
  · split
    · rfl
    · split <;> simp

@[simp] theorem lasting_taskFails (s : State) (r : Remote) (st bad : Nat) : lasting (taskFails s r st bad) = lasting s := by
  unfold taskFails
  split <;> simp

@[simp] theorem lasting_remoteError (s : State) (r : Remote) : lasting (remoteError s r) = lasting s := by simp [remoteError]

@[simp] theorem lasting_readReturns (s : State) (r : Remote) (t : Task) (lines : List (List Nat)) :
    lasting (readReturns s r t lines) = lasting s := by
  unfold readReturns
  dsimp only
  split
  · simp
  · split <;> simp

@[simp] theorem lasting_remoteOk (s : State) (r : Remote) (lines : List (List Nat)) : lasting (remoteOk s r lines) = lasting s := by
  unfold remoteOk
  dsimp only
  repeat' split
  all_goals simp

@[simp] theorem lasting_failPending (s : State) (gone : List Nat) : lasting (failPending s gone) = lasting s := by simp [failPending]

@[simp] theorem lasting_orphaned (s : State) (i : Nat) : lasting (orphaned s i) = lasting s := by simp [orphaned]

@[simp] theorem lasting_noteLost (s : State) (gone : List Nat) : lasting (noteLost s gone) = lasting s := by
  unfold noteLost
  dsimp only
  split <;> simp

@[simp] theorem lasting_nodesLost (s : State) (i : Nat) : lasting (nodesLost s i) = lasting s := by simp [nodesLost]

@[simp] theorem lasting_linkDown (s : State) (i : Nat) : lasting (linkDown s i) = lasting s := by simp [linkDown]

@[simp] theorem lasting_requestRetrain (s : State) (link : Nat) : lasting (requestRetrain s link) = lasting s := by simp [requestRetrain]

@[simp] theorem lasting_wrGo (s : State) (brand poisonBits : Nat) (x : List (List Nat)) (a b : Nat) :
    lasting (wrGo brand poisonBits x a b s).1 = lasting s := by
  induction x generalizing s a b with
  | nil => rfl
  | cons b t ih => simp [wrGo, ih]

@[simp] theorem lasting_respond (s : State) (typ : Nat) (hdr : List Nat) (status : Nat) (flits : List (List Nat)) :
    lasting (respond s typ hdr status flits) = lasting s := by
  simp [respond]

@[simp] theorem lasting_askTime (s : State) : lasting (askTime s) = lasting s := by simp [askTime]

@[simp] theorem lasting_setVehicleTime (s : State) (at_ t2 t3 : Nat) : lasting (setVehicleTime s at_ t2 t3) = lasting s := by
  simp [setVehicleTime]

@[simp] theorem lasting_admitNode (s : State) (n : Nat) : lasting (admitNode s n) = lasting s := by simp [admitNode]

@[simp] theorem lasting_joinNode (s : State) (target stroke : Nat) : lasting (joinNode s target stroke) = lasting s := by
  unfold joinNode
  dsimp only
  repeat' split
  all_goals simp

/- ### Machine/Mode.lean -/

@[simp] theorem lasting_refuseMode (s : State) (r : Nat × Nat × Nat) : lasting (refuseMode s r) = lasting s := by simp [refuseMode]

@[simp] theorem lasting_askRepro (s : State) (others : List (Nat × Nat)) : lasting (askRepro s others) = lasting s := by
  unfold askRepro
  repeat' split
  all_goals simp

@[simp] theorem lasting_askService (s : State) : lasting (askService s) = lasting s := by simp [askService]

@[simp] theorem lasting_modeRequest (s : State) (brand value : Nat) (others : List (Nat × Nat)) :
    lasting (modeRequest s brand value others) = lasting s := by
  simp [modeRequest]

@[simp] theorem lasting_cancelRepro (s : State) (node : Nat) : lasting (cancelRepro s node) = lasting s := by simp [cancelRepro]

@[simp] theorem lasting_modeAtManager (s : State) (hdr : List Nat) : lasting (modeAtManager s hdr) = lasting s := by simp [modeAtManager]

@[simp] theorem lasting_modeAtWorker (s : State) (hdr : List Nat) : lasting (modeAtWorker s hdr) = lasting s := by simp [modeAtWorker]

/- ### Machine/Reset.lean -/

@[simp] theorem lasting_coldState (s : State) : lasting (coldState s) = lasting s := by simp [coldState, keptStart, keptSpr]

@[simp] theorem lasting_warmState (s : State) : lasting (warmState s) = lasting s := by simp [warmState, keptStart, keptSpr]

@[simp] theorem lasting_resetTo (s : State) (reach : Nat) : lasting (resetTo s reach) = lasting s := by simp [resetTo]

@[simp] theorem lasting_assertSource (s : State) (cause reach : Nat) : lasting (assertSource s cause reach) = lasting s := by
  simp [assertSource]

@[simp] theorem lasting_warmEscalate (s : State) (cause : Nat) : lasting (warmEscalate s cause) = lasting s := by simp [warmEscalate]

@[simp] theorem lasting_holdSource (s : State) (cause : Nat) : lasting (holdSource s cause) = lasting s := by simp [holdSource]

@[simp] theorem lasting_freeSource (s : State) (cause : Nat) : lasting (freeSource s cause) = lasting s := by simp [freeSource]

@[simp] theorem lasting_endScan (s : State) : lasting (endScan s) = lasting s := by simp [endScan]

@[simp] theorem lasting_countEpisode (s : State) : lasting (countEpisode s) = lasting s := by simp [countEpisode]

@[simp] theorem lasting_showLost (s : State) : lasting (showLost s) = lasting s := by simp [showLost]

@[simp] theorem lasting_latchStraps (s : State) (role node : Nat) : lasting (latchStraps s role node) = lasting s := by simp [latchStraps]

@[simp] theorem lasting_endEpisode (s : State) : lasting (endEpisode s) = lasting s := by simp [endEpisode]

@[simp] theorem lasting_bootRuns (s : State) : lasting (bootRuns s) = lasting s := by simp [bootRuns]

@[simp] theorem lasting_phase5 (s : State) : lasting (phase5 s) = lasting s := by simp [phase5]

/- ### Machine/Plan.lean -/

@[simp] theorem lasting_nodeHammers (s : State) : lasting (nodeHammers s).2 = lasting s := by simp [nodeHammers]

@[simp] theorem lasting_sendCan (s : State) (dual : Nat) (fs : List CanFrame) : lasting (sendCan s dual fs) = lasting s := by simp [sendCan]

@[simp] theorem lasting_handOver (s : State) (m : List Nat) : lasting (handOver s m) = lasting s := by simp [handOver]

@[simp] theorem lasting_keepDelivered (s : State) (ps : List Pose) : lasting (keepDelivered s ps) = lasting s := by simp [keepDelivered]

@[simp] theorem lasting_warmDue (s : State) : lasting (warmDue s) = lasting s := by simp [warmDue]

@[simp] theorem lasting_planPins (s : State) (src : Nat) : lasting (planPins s src) = lasting s := by simp [planPins]

@[simp] theorem lasting_caseFx (s : State) (case : Nat) : lasting (caseFx s case) = lasting s := by simp [caseFx]

@[simp] theorem lasting_sendPlan (s : State) (d : Decided) (from_ : Nat) : lasting (sendPlan s d from_) = lasting s := by simp [sendPlan]

@[simp] theorem lasting_settlePlan (s : State) (src : Nat) : lasting (settlePlan s src) = lasting s := by simp [settlePlan]

@[simp] theorem lasting_sendNow (s : State) (d : Decided) : lasting (sendNow s d) = lasting s := by simp [sendNow]

/- ### Machine/EngineDone.lean -/

@[simp] theorem lasting_fieldDone (s : State) (t : Task) : lasting (fieldDone s t) = lasting s := by simp [fieldDone]

@[simp] theorem lasting_assayDone (s : State) : lasting (assayDone s) = lasting s := by
  unfold assayDone
  dsimp only
  repeat' split
  all_goals simp

@[simp] theorem lasting_doneFx (s : State) (t : Task) : lasting (doneFx s t) = lasting s := by simp [doneFx]

/- ### Machine/Faults.lean -/

@[simp] theorem lasting_reactFence (s : State) (r : FaultRec) : lasting (reactFence s r) = lasting s := by
  unfold reactFence
  split <;> simp

@[simp] theorem lasting_reactWarm (s : State) (r : FaultRec) : lasting (reactWarm s r) = lasting s := by simp [reactWarm]

@[simp] theorem lasting_reactCold (s : State) (r : FaultRec) : lasting (reactCold s r) = lasting s := by simp [reactCold]

@[simp] theorem lasting_react (s : State) (r : FaultRec) (k : Nat) : lasting (react s r k) = lasting s := by simp [react]

@[simp] theorem lasting_acceptFault (s : State) : lasting (acceptFault s) = lasting s := by
  unfold acceptFault
  split <;> simp

@[simp] theorem lasting_clearFirst (s : State) (brand : Nat) : lasting (clearFirst s brand) = lasting s := by simp [clearFirst]

@[simp] theorem lasting_dropFaultN (s : State) : lasting (dropFaultN s) = lasting s := by simp [dropFaultN]

@[simp] theorem lasting_abortOpen (s : State) : lasting (abortOpen s) = lasting s := by simp [abortOpen]

@[simp] theorem lasting_loseRole (s : State) (r : Nat) : lasting (loseRole s r) = lasting s := by
  unfold loseRole
  dsimp only
  split <;> simp

/- ### Machine/TwoHand.lean -/

@[simp] theorem lasting_thResult (s : State) (g res : Nat) : lasting (thResult s g res) = lasting s := by simp [thResult]

@[simp] theorem lasting_thForeign (s : State) : lasting (thForeign s) = lasting s := by simp [thForeign]

@[simp] theorem lasting_thCtrl (s : State) (brand g : Nat) (k : State → State) (hk : lasting (k s) = lasting s) :
    lasting (thCtrl s brand g k) = lasting s := by
  simp [thCtrl, hk]

@[simp] theorem lasting_openGroup (s : State) (brand g : Nat) (both : Bool) : lasting (openGroup s brand g both) = lasting s := by
  simp [openGroup]

@[simp] theorem lasting_stageWord (s : State) (brand addr value : Nat) : lasting (stageWord s brand addr value) = lasting s := by
  unfold stageWord
  split <;> simp

@[simp] theorem lasting_closeGroup (s : State) (brand g : Nat) : lasting (closeGroup s brand g) = lasting s := by simp [closeGroup]

@[simp] theorem lasting_abortGroup (s : State) (brand g : Nat) : lasting (abortGroup s brand g) = lasting s := by simp [abortGroup]

@[simp] theorem lasting_groupTakes (s : State) (g : Nat) (ws : List (Nat × Nat)) : lasting (groupTakes s g ws) = lasting s := by
  simp [groupTakes]

@[simp] theorem lasting_commitGroup (s : State) (g : Nat) : lasting (commitGroup s g) = lasting s := by simp [commitGroup]

@[simp] theorem lasting_commitBy (s : State) (brand g : Nat) : lasting (commitBy s brand g) = lasting s := by simp [commitBy]

@[simp] theorem lasting_digestWord (s : State) (brand g k value : Nat) : lasting (digestWord s brand g k value) = lasting s := by
  simp [digestWord]

@[simp] theorem lasting_ctrlWrite (s : State) (brand g value : Nat) : lasting (ctrlWrite s brand g value) = lasting s := by simp [ctrlWrite]

/- ### Machine/Start.lean -/

@[simp] theorem lasting_raisePhase (s : State) (p : Nat) : lasting (raisePhase s p) = lasting s := by simp [raisePhase]

@[simp] theorem lasting_writeRec (s : State) (r : JRec) : lasting (writeRec s r) = lasting s := by simp [writeRec]

@[simp] theorem lasting_mergeCopy (s : State) : lasting (mergeCopy s) = lasting s := by simp [mergeCopy]

@[simp] theorem lasting_closeAttempt (s : State) : lasting (closeAttempt s) = lasting s := by
  unfold closeAttempt
  split <;> simp

@[simp] theorem lasting_startFails (s : State) (cause : Nat) : lasting (startFails s cause) = lasting s := by simp [startFails]

@[simp] theorem lasting_comeUpBanked (s : State) : lasting (comeUpBanked s) = lasting s := by simp [comeUpBanked]

@[simp] theorem lasting_useSlot (s : State) (x : SlotImage) (slot : Nat) : lasting (useSlot s x slot) = lasting s := by simp [useSlot]

@[simp] theorem lasting_askVersion (s : State) : lasting (askVersion s) = lasting s := by simp [askVersion]

@[simp] theorem lasting_beginAttempt (s : State) : lasting (beginAttempt s) = lasting s := by simp [beginAttempt]

@[simp] theorem lasting_decideCold (s : State) : lasting (decideCold s) = lasting s := by
  unfold decideCold
  dsimp only
  split <;> simp

@[simp] theorem lasting_loadQueue (s : State) (q : Nat) : lasting (loadQueue s q) = lasting s := by simp [loadQueue]

@[simp] theorem lasting_loadWord (s : State) (p : Nat × Nat) : lasting (loadWord s p) = lasting s := by simp [loadWord]

@[simp] theorem lasting_loadPresent (s : State) : lasting (loadPresent s) = lasting s := by simp [loadPresent]

@[simp] theorem lasting_loadThresh (s : State) : lasting (loadThresh s) = lasting s := by simp [loadThresh]

@[simp] theorem lasting_loadWear (s : State) : lasting (loadWear s) = lasting s := by simp [loadWear]

@[simp] theorem lasting_loadUnit (s : State) (e : Nat) : lasting (loadUnit s e) = lasting s := by simp [loadUnit]

@[simp] theorem lasting_loadUnits (s : State) : lasting (loadUnits s) = lasting s := by simp [loadUnits]

@[simp] theorem lasting_mapBank (ret : List Nat) (a : List Nat × State) (l : Nat) : lasting (mapBank ret a l).2 = lasting a.2 := by simp [mapBank]

@[simp] theorem lasting_formMap (s : State) : lasting (formMap s) = lasting s := by simp [formMap]

@[simp] theorem lasting_clearRange (s : State) (a n : Nat) : lasting (clearRange s a n) = lasting s := by simp [clearRange]

@[simp] theorem lasting_zeroRing (s : State) (q : Nat) : lasting (zeroRing s q) = lasting s := by simp [zeroRing]

@[simp] theorem lasting_zeroRings (s : State) (ddr : Bool) : lasting (zeroRings ddr s) = lasting s := by simp [zeroRings]

@[simp] theorem lasting_gradeLinks (s : State) : lasting (gradeLinks s) = lasting s := by simp [gradeLinks]

@[simp] theorem lasting_loadBillet (s : State) (b : Billet) : lasting (loadBillet s b) = lasting s := by simp [loadBillet]

@[simp] theorem lasting_accept (s : State) (x : SlotImage) : lasting (accept s x) = lasting s := by simp [accept]

@[simp] theorem lasting_tryOther (s : State) : lasting (tryOther s) = lasting s := by
  unfold tryOther
  split <;> simp

@[simp] theorem lasting_startGroup (s : State) (g : Nat) : lasting (startGroup s g) = lasting s := by simp [startGroup]

/- ### Machine/Ember.lean -/

@[simp] theorem lasting_clearClass (s : State) (c : Nat) : lasting (clearClass s c) = lasting s := by simp [clearClass]

@[simp] theorem lasting_assign (s : State) (c : Nat) (es : List Nat) : lasting (assign s c es) = lasting s := by simp [assign]

@[simp] theorem lasting_mapClass (s : State) (c : Nat) : lasting (mapClass s c) = lasting s := by simp [mapClass]

@[simp] theorem lasting_mapAll (s : State) : lasting (mapAll s) = lasting s := by simp [mapAll]

@[simp] theorem lasting_retireAtStart (s : State) (pb : Nat) : lasting (retireAtStart s pb) = lasting s := by
  unfold retireAtStart
  dsimp only
  repeat' split
  all_goals simp

@[simp] theorem lasting_loadTables (s : State) : lasting (loadTables s) = lasting s := by simp [loadTables]

@[simp] theorem lasting_placeGolden (s : State) : lasting (placeGolden s) = lasting s := by simp [placeGolden]

@[simp] theorem lasting_placeImages (s : State) (at_ : Nat × Nat) : lasting (placeImages s at_) = lasting s := by simp [placeImages]

@[simp] theorem lasting_startEmber (s : State) (us : List (Nat × List Nat)) (ms : Nat) : lasting (startEmber s us ms) = lasting s := by
  unfold startEmber
  dsimp only
  rw [lasting_computeStarts, lasting_withStk, lasting_setF, lasting_setF, lasting_placeImages, lasting_setF, lasting_setF]
  refine lasting_foldl _ _ _ fun s u => ?_
  rw [lasting_recount, lasting_assign, lasting_clearClass]

@[simp] theorem lasting_takeForService (s : State) : lasting (takeForService s) = lasting s := by simp [takeForService]

@[simp] theorem lasting_setActive (s : State) (trained act : List Nat) : lasting (setActive s trained act) = lasting s := by simp [setActive]

@[simp] theorem lasting_testUnit (s : State) (failed : List Nat) (e : Nat) : lasting (testUnit failed s e) = lasting s := by simp [testUnit]

@[simp] theorem lasting_startExhausted (s : State) (c : Nat) : lasting (startExhausted s c) = lasting s := by simp [startExhausted]

@[simp] theorem lasting_appIsReady (s : State) : lasting (appIsReady s) = lasting s := by
  unfold appIsReady
  dsimp only
  repeat' split
  all_goals simp

@[simp] theorem lasting_emptyPeal (s : State) : lasting (emptyPeal s) = lasting s := by simp [emptyPeal]

@[simp] theorem lasting_fullClock (s : State) : lasting (fullClock s) = lasting s := by simp [fullClock]

@[simp] theorem lasting_enterService (s : State) (at_ ms : Nat) : lasting (enterService s at_ ms) = lasting s := by simp [enterService]

/- ### Machine/Banked.lean -/

@[simp] theorem lasting_kick (s : State) (brand value : Nat) : lasting (kick s brand value) = lasting s := by simp [kick]

@[simp] theorem lasting_warmRequest (s : State) (brand value : Nat) : lasting (warmRequest s brand value) = lasting s := by
  simp [warmRequest]

/- ### Machine/Thermal.lean -/

@[simp] theorem lasting_excludeSensor (s : State) (k : Nat) : lasting (excludeSensor s k) = lasting s := by simp [excludeSensor]

@[simp] theorem lasting_countOff (s : State) (rs : List Int) : lasting (countOff s rs) = lasting s := by simp [countOff]

@[simp] theorem lasting_judgeSensors (s : State) (rs : List Int) : lasting (judgeSensors s rs) = lasting s := by simp [judgeSensors]

@[simp] theorem lasting_showSensor (s : State) (rs : List Int) (k : Nat) : lasting (showSensor rs s k) = lasting s := by simp [showSensor]

@[simp] theorem lasting_failRegion (s : State) (r : Nat) : lasting (failRegion s r) = lasting s := by simp [failRegion]

@[simp] theorem lasting_showHottest (s : State) (rs : List Int) : lasting (showHottest s rs) = lasting s := by
  unfold showHottest
  dsimp only
  repeat' split
  all_goals simp

@[simp] theorem lasting_takeStep (s : State) (n : Nat) : lasting (takeStep s n) = lasting s := by simp [takeStep]

@[simp] theorem lasting_judgeCritical (s : State) (rs : List Int) : lasting (judgeCritical s rs) = lasting s := by
  unfold judgeCritical
  dsimp only
  repeat' split
  all_goals simp

@[simp] theorem lasting_judgeThrottle (s : State) (t : Int) (now : Nat) : lasting (judgeThrottle s t now) = lasting s := by
  unfold judgeThrottle
  dsimp only
  repeat' split
  all_goals simp

@[simp] theorem lasting_countThrottled (s : State) (now : Nat) : lasting (countThrottled s now) = lasting s := by simp [countThrottled]

@[simp] theorem lasting_drainFaults (s : State) (a : Nat) : lasting (drainFaults a s) = lasting s := by
  induction a generalizing s with
  | zero => rfl
  | succ k ih =>
    unfold drainFaults
    split
    · rfl
    · exact (ih _).trans (lasting_acceptFault s)

/- ### Machine/Identity.lean -/

@[simp] theorem lasting_requestReport (s : State) : lasting (requestReport s) = lasting s := by simp [requestReport]

@[simp] theorem lasting_stageUnlock (s : State) (scope : Nat) : lasting (stageUnlock s scope) = lasting s := by simp [stageUnlock]

@[simp] theorem lasting_submitToken (s : State) : lasting (submitToken s) = lasting s := by simp [submitToken]

/- ### Machine/RegAccess.lean -/

@[simp] theorem lasting_latchHi (s : State) (a : Nat) : lasting (latchHi s a) = lasting s := by simp [latchHi]

@[simp] theorem lasting_clearRc (s : State) (a : Nat) (r : RegRow) (hw : Nat) : lasting (clearRc s a r hw) = lasting s := by simp [clearRc]

@[simp] theorem lasting_readAt (s : State) (brand addr width hw : Nat) : lasting (readAt s brand addr width hw) = lasting s := by
  unfold readAt
  repeat' split
  all_goals simp

@[simp] theorem lasting_regAccess (s : State) (brand kind addr width : Nat) (k : State → State) (hk : lasting (k s) = lasting s) :
    lasting (regAccess s brand kind addr width k) = lasting s := by
  unfold regAccess
  split
  · rfl
  · split
    · exact hk
    · split
      · simp
      · exact hk

@[simp] theorem lasting_readReg (s : State) (brand addr width hw : Nat) : lasting (readReg s brand addr width hw) = lasting s :=
  lasting_regAccess _ _ _ _ _ _ (lasting_readAt _ _ _ _ _)

@[simp] theorem lasting_writeWord (s : State) (a : Nat) (r : RegRow) (v hw : Nat) : lasting (writeWord s a r v hw) = lasting s := by
  simp [writeWord]

@[simp] theorem lasting_writeVersion (s : State) (v : Nat) : lasting (writeVersion s v) = lasting s := by simp [writeVersion]

@[simp] theorem lasting_writeRetrain (s : State) (link v : Nat) : lasting (writeRetrain s link v) = lasting s := by simp [writeRetrain]

@[simp] theorem lasting_writeBankCtrl (s : State) (r : RegRow) (v hw : Nat) : lasting (writeBankCtrl s r v hw) = lasting s := by
  simp [writeBankCtrl]

@[simp] theorem lasting_writeStart (s : State) (v : Nat) : lasting (writeStart s v) = lasting s := by simp [writeStart]

@[simp] theorem lasting_writeAttest (s : State) (r : RegRow) (v hw : Nat) : lasting (writeAttest s r v hw) = lasting s := by
  simp [writeAttest]

@[simp] theorem lasting_writeGroup (s : State) (brand addr v : Nat) : lasting (writeGroup s brand addr v) = lasting s := by simp [writeGroup]

/-- What answers a state under either branch, each of the lasting state `l`, answers one of it. -/
theorem lasting_of_ite {c : Prop} [Decidable c] {o p : Option State} {l : Lasting} (ho : ∀ t, o = some t → lasting t = l)
    (hp : ∀ t, p = some t → lasting t = l) : ∀ t, (if c then o else p) = some t → lasting t = l := by
  split <;> assumption

theorem lasting_special {s : State} {brand a v hw : Nat} {r : RegRow} : ∀ t, special s brand a v hw r = some t → lasting t = lasting s := by
  unfold special
  repeat' refine lasting_of_ite ?_ ?_
  all_goals simp

@[simp] theorem lasting_writeAt (s : State) (brand addr width value hw : Nat) : lasting (writeAt s brand addr width value hw) = lasting s := by
  unfold writeAt
  dsimp only
  split
  · simp
  · split
    · simp
    · split
      · next t ht => exact lasting_special _ ht
      · simp

@[simp] theorem lasting_writeReg (s : State) (brand addr width value hw : Nat) : lasting (writeReg s brand addr width value hw) = lasting s :=
  lasting_regAccess _ _ _ _ _ _ (lasting_writeAt _ _ _ _ _ _)

@[simp] theorem lasting_memLines (s : State) (a b : Nat) : lasting (memLines s a b).1 = lasting s := by
  induction a generalizing s b with
  | zero => rfl
  | succ k ih => simp [memLines, ih]

@[simp] theorem lasting_memRead (s : State) (a n : Nat) : lasting (memRead s a n) = lasting s := by
  unfold memRead
  dsimp only
  split <;> simp

@[simp] theorem lasting_remoteAccess (s : State) (brand kind a : Nat) (bs : List Nat) (n : Nat) :
    lasting (remoteAccess s brand kind a bs n) = lasting s := by
  simp [remoteAccess]

@[simp] theorem lasting_memAccess (s : State) (brand kind a : Nat) (bs : List Nat) (len : Nat) :
    lasting (memAccess s brand kind a bs len) = lasting s := by
  unfold memAccess
  dsimp only
  repeat' split
  all_goals simp

/- ### The rows -/

/-- The lasting state of the state a command answers; `l`, where it answers none. -/
def lastingAns (l : Lasting) (o : Ans) : Lasting :=
  match o with
  | .next t => lasting t
  | _ => l

@[simp] theorem lastingAns_next (l : Lasting) (t : State) : lastingAns l (.next t) = lasting t := rfl

@[simp] theorem lastingAns_ite (l : Lasting) (c : Prop) [Decidable c] (a b : Ans) :
    lastingAns l (if c then a else b) = if c then lastingAns l a else lastingAns l b := apply_ite (lastingAns l) c a b

@[simp] theorem lasting_newNonce (s : State) : lasting (newNonce s) = lasting s := by simp [newNonce]

@[simp] theorem lasting_execDoorbell (brand queue tail : Nat) (s : State) : lastingAns (lasting s) (execDoorbell brand queue tail s) = lasting s := by
  simp [execDoorbell]

@[simp] theorem lasting_execCqHeadWrite (brand queue value : Nat) (s : State) :
    lastingAns (lasting s) (execCqHeadWrite brand queue value s) = lasting s := by
  simp [execCqHeadWrite]

@[simp] theorem lasting_execCommandAdmit (queue : Nat) (s : State) : lastingAns (lasting s) (execCommandAdmit queue s) = lasting s := by
  simp [execCommandAdmit]

@[simp] theorem lasting_execNop (queue : Nat) (s : State) : lastingAns (lasting s) (execNop queue s) = lasting s := by simp [execNop]

@[simp] theorem lasting_execBankSwap (queue : Nat) (s : State) : lastingAns (lasting s) (execBankSwap queue s) = lasting s := by
  simp [execBankSwap]

@[simp] theorem lasting_execFlowSkip (brand flow : Nat) (s : State) : lastingAns (lasting s) (execFlowSkip brand flow s) = lasting s := by
  simp [execFlowSkip]

@[simp] theorem lasting_execGoldenInject (brand word15 : Nat) (s : State) : lastingAns (lasting s) (execGoldenInject brand word15 s) = lasting s := by
  simp [execGoldenInject]

@[simp] theorem lasting_execCompletionRelease (s : State) : lastingAns (lasting s) (execCompletionRelease s) = lasting s := by
  unfold execCompletionRelease
  split <;> simp

@[simp] theorem lasting_execGoldenCompare (cmdtag : Nat) (s : State) : lastingAns (lasting s) (execGoldenCompare cmdtag s) = lasting s := by
  unfold execGoldenCompare
  split <;> simp

@[simp] theorem lasting_execEngineFence (cls unit : Nat) (sharedPart : Bool) (s : State) :
    lastingAns (lasting s) (execEngineFence cls unit sharedPart s) = lasting s := by
  simp [execEngineFence]

@[simp] theorem lasting_execSpareReady (at_ : Nat) (s : State) : lastingAns (lasting s) (execSpareReady at_ s) = lasting s := by
  simp [execSpareReady]

@[simp] theorem lasting_execProactiveStart (pass : Bool) (s : State) : lastingAns (lasting s) (execProactiveStart pass s) = lasting s := by
  unfold execProactiveStart
  dsimp only
  repeat' split
  all_goals simp

@[simp] theorem lasting_execProactiveSwitch (at_ : Nat) (s : State) : lastingAns (lasting s) (execProactiveSwitch at_ s) = lasting s := by
  simp [execProactiveSwitch]

@[simp] theorem lasting_execDrainDone (e : Nat) (testPass : Bool) (s : State) : lastingAns (lasting s) (execDrainDone e testPass s) = lasting s := by
  simp [execDrainDone]

@[simp] theorem lasting_execWearEval (ages hotRegions : List Nat) (ce : List (Nat × Nat)) (s : State) :
    lastingAns (lasting s) (execWearEval ages hotRegions ce s) = lasting s := by
  simp [execWearEval]

@[simp] theorem lasting_execNetworkDatagram (ring : Nat) (bytes : List Nat) (s : State) :
    lastingAns (lasting s) (execNetworkDatagram ring bytes s) = lasting s := by
  simp [execNetworkDatagram]

@[simp] theorem lasting_execRingWpWrite (brand ring value : Nat) (s : State) :
    lastingAns (lasting s) (execRingWpWrite brand ring value s) = lasting s := by
  simp [execRingWpWrite]

@[simp] theorem lasting_execPad (ring : Nat) (s : State) : lastingAns (lasting s) (execPad ring s) = lasting s := by simp [execPad]

@[simp] theorem lasting_execPrimSet (ring : Nat) (s : State) : lastingAns (lasting s) (execPrimSet ring s) = lasting s := by
  simp [execPrimSet]

@[simp] theorem lasting_execPrimDel (ring : Nat) (s : State) : lastingAns (lasting s) (execPrimDel ring s) = lasting s := by
  simp [execPrimDel]

@[simp] theorem lasting_execAgentSet (ring : Nat) (s : State) : lastingAns (lasting s) (execAgentSet ring s) = lasting s := by
  simp [execAgentSet]

@[simp] theorem lasting_execAgentDel (ring : Nat) (s : State) : lastingAns (lasting s) (execAgentDel ring s) = lasting s := by
  simp [execAgentDel]

@[simp] theorem lasting_execEgo (ring : Nat) (s : State) : lastingAns (lasting s) (execEgo ring s) = lasting s := by simp [execEgo]

@[simp] theorem lasting_execHeatClear (ring : Nat) (s : State) : lastingAns (lasting s) (execHeatClear ring s) = lasting s := by
  simp [execHeatClear]

@[simp] theorem lasting_execSealMark (ring : Nat) (s : State) : lastingAns (lasting s) (execSealMark ring s) = lasting s := by
  simp [execSealMark]

@[simp] theorem lasting_execUnknownRecord (ring : Nat) (s : State) : lastingAns (lasting s) (execUnknownRecord ring s) = lasting s := by
  simp [execUnknownRecord]

@[simp] theorem lasting_execWorldSeal (at_ : Nat) (s : State) : lastingAns (lasting s) (execWorldSeal at_ s) = lasting s := by
  unfold execWorldSeal
  dsimp only
  repeat' split
  all_goals simp

@[simp] theorem lasting_execSealMaxExpired (at_ : Nat) (s : State) : lastingAns (lasting s) (execSealMaxExpired at_ s) = lasting s := by
  simp [execSealMaxExpired]

@[simp] theorem lasting_execSealComplete (at_ : Nat) (s : State) : lastingAns (lasting s) (execSealComplete at_ s) = lasting s := by
  simp [execSealComplete]

@[simp] theorem lasting_execStagingCopyDone (s : State) : lastingAns (lasting s) (execStagingCopyDone s) = lasting s := by
  simp [execStagingCopyDone]

@[simp] theorem lasting_execAssayLoadDone (at_ : Nat) (s : State) : lastingAns (lasting s) (execAssayLoadDone at_ s) = lasting s := by
  unfold execAssayLoadDone
  dsimp only
  split
  · exact lasting_atTime _ _
  · rw [lastingAns_next, lasting_ite, lasting_inconsistent, ite_self, lasting_showAssay, lasting_setF, lasting_withAsy, lasting_setF, lasting_bump,
      lasting_asyStore, lasting_asyStore, lasting_asyStore, lasting_asyStore, lasting_foldl _ _ _ fun _ _ => lasting_notesFx _ _, lasting_atTime]

@[simp] theorem lasting_execRepairStatic (unit : Nat) (s : State) : lastingAns (lasting s) (execRepairStatic unit s) = lasting s := by
  simp [execRepairStatic]

@[simp] theorem lasting_execBuildStatic (unit : Nat) (s : State) : lastingAns (lasting s) (execBuildStatic unit s) = lasting s := by
  simp [execBuildStatic]

@[simp] theorem lasting_execBuildDyn (unit : Nat) (s : State) : lastingAns (lasting s) (execBuildDyn unit s) = lasting s := by
  simp [execBuildDyn]

@[simp] theorem lasting_execCrucibleDrainEnd (unit : Nat) (s : State) : lastingAns (lasting s) (execCrucibleDrainEnd unit s) = lasting s := by
  unfold execCrucibleDrainEnd
  split <;> simp

@[simp] theorem lasting_execCrucibleGolden (unit : Nat) (s : State) : lastingAns (lasting s) (execCrucibleGolden unit s) = lasting s := by
  simp [execCrucibleGolden]

@[simp] theorem lasting_execRepair (unit : Nat) (s : State) : lastingAns (lasting s) (execRepair unit s) = lasting s := by simp [execRepair]

@[simp] theorem lasting_execBuild (unit : Nat) (s : State) : lastingAns (lasting s) (execBuild unit s) = lasting s := by simp [execBuild]

@[simp] theorem lasting_execPealBarrier (at_ : Nat) (s : State) : lastingAns (lasting s) (execPealBarrier at_ s) = lasting s := by
  simp [execPealBarrier]

@[simp] theorem lasting_execPealSelectOfs (at_ : Nat) (s : State) : lastingAns (lasting s) (execPealSelectOfs at_ s) = lasting s := by
  simp [execPealSelectOfs]

@[simp] theorem lasting_execPealEnd (at_ : Nat) (s : State) : lastingAns (lasting s) (execPealEnd at_ s) = lasting s := by simp [execPealEnd]

@[simp] theorem lasting_execPealGolden (unit : Nat) (s : State) : lastingAns (lasting s) (execPealGolden unit s) = lasting s := by
  simp [execPealGolden]

@[simp] theorem lasting_execExpand (unit : Nat) (s : State) : lastingAns (lasting s) (execExpand unit s) = lasting s := by simp [execExpand]

@[simp] theorem lasting_execSwageGolden (unit : Nat) (s : State) : lastingAns (lasting s) (execSwageGolden unit s) = lasting s := by
  simp [execSwageGolden]

@[simp] theorem lasting_execStrike (unit : Nat) (s : State) : lastingAns (lasting s) (execStrike unit s) = lasting s := by
  unfold execStrike
  split
  · split
    · simp
    · split <;> simp
  · rfl

@[simp] theorem lasting_execStrikeCut (at_ k : Nat) (done : List (Nat × Nat)) (s : State) :
    lastingAns (lasting s) (execStrikeCut at_ k done s) = lasting s := by
  unfold execStrikeCut
  dsimp only
  repeat' split
  all_goals simp

@[simp] theorem lasting_execHammerGolden (unit : Nat) (s : State) : lastingAns (lasting s) (execHammerGolden unit s) = lasting s := by
  unfold execHammerGolden
  split <;> simp

@[simp] theorem lasting_execStrokeInEdge (at_ highNs : Nat) (s : State) : lastingAns (lasting s) (execStrokeInEdge at_ highNs s) = lasting s := by
  simp [execStrokeInEdge]

@[simp] theorem lasting_execStrokeInMissing (at_ : Nat) (s : State) : lastingAns (lasting s) (execStrokeInMissing at_ s) = lasting s := by
  unfold execStrokeInMissing
  dsimp only
  split <;> simp

@[simp] theorem lasting_execFlywheelStroke (at_ : Nat) (s : State) : lastingAns (lasting s) (execFlywheelStroke at_ s) = lasting s := by
  unfold execFlywheelStroke
  dsimp only
  repeat' split
  all_goals simp

@[simp] theorem lasting_execComputedStroke (at_ : Nat) (s : State) : lastingAns (lasting s) (execComputedStroke at_ s) = lasting s := by
  unfold execComputedStroke
  dsimp only
  split <;> simp

@[simp] theorem lasting_execGptpLost (at_ : Nat) (s : State) : lastingAns (lasting s) (execGptpLost at_ s) = lasting s := by
  unfold execGptpLost
  dsimp only
  repeat' split
  all_goals simp

@[simp] theorem lasting_execHoldoverExpired (at_ : Nat) (s : State) : lastingAns (lasting s) (execHoldoverExpired at_ s) = lasting s := by
  simp [execHoldoverExpired]

@[simp] theorem lasting_execGptpRestored (r : GptpTime) (s : State) : lastingAns (lasting s) (execGptpRestored r s) = lasting s := by
  simp [execGptpRestored]

@[simp] theorem lasting_execStrokeInstant (at_ : Nat) (s : State) : lastingAns (lasting s) (execStrokeInstant at_ s) = lasting s := by
  unfold execStrokeInstant
  dsimp only
  split <;> simp

@[simp] theorem lasting_execReproStroke (at_ : Nat) (s : State) : lastingAns (lasting s) (execReproStroke at_ s) = lasting s := by
  unfold execReproStroke
  dsimp only
  split <;> simp

@[simp] theorem lasting_execReproEnter (at_ : Nat) (s : State) : lastingAns (lasting s) (execReproEnter at_ s) = lasting s := by
  unfold execReproEnter
  dsimp only
  split <;> simp

@[simp] theorem lasting_execReproExit (at_ : Nat) (s : State) : lastingAns (lasting s) (execReproExit at_ s) = lasting s := by
  unfold execReproExit
  dsimp only
  split <;> simp

@[simp] theorem lasting_execEntryDue (at_ idx : Nat) (s : State) : lastingAns (lasting s) (execEntryDue at_ idx s) = lasting s := by
  simp [execEntryDue]

@[simp] theorem lasting_execLaunchStart (at_ : Nat) (s : State) : lastingAns (lasting s) (execLaunchStart at_ s) = lasting s := by
  unfold execLaunchStart
  dsimp only
  repeat' split
  all_goals simp

@[simp] theorem lasting_execLaunchCopyDone (at_ : Nat) (s : State) : lastingAns (lasting s) (execLaunchCopyDone at_ s) = lasting s := by
  unfold execLaunchCopyDone
  dsimp only
  split <;> simp

@[simp] theorem lasting_execLaunchLate (at_ idx : Nat) (s : State) : lastingAns (lasting s) (execLaunchLate at_ idx s) = lasting s := by
  unfold execLaunchLate
  dsimp only
  repeat' split
  all_goals simp

@[simp] theorem lasting_execSwapReq (brand : Nat) (s : State) : lastingAns (lasting s) (execSwapReq brand s) = lasting s := by
  simp [execSwapReq]

@[simp] theorem lasting_execSelect (unit : Nat) (s : State) : lastingAns (lasting s) (execSelect unit s) = lasting s := by simp [execSelect]

@[simp] theorem lasting_execMerge (unit : Nat) (s : State) : lastingAns (lasting s) (execMerge unit s) = lasting s := by simp [execMerge]

@[simp] theorem lasting_execTongsGolden (unit : Nat) (s : State) : lastingAns (lasting s) (execTongsGolden unit s) = lasting s := by
  unfold execTongsGolden
  split <;> simp

@[simp] theorem lasting_execInboxWrite (brand slot : Nat) (line : List Nat) (s : State) :
    lastingAns (lasting s) (execInboxWrite brand slot line s) = lasting s := by
  simp [execInboxWrite]

@[simp] theorem lasting_execInboxClear (brand mask : Nat) (s : State) : lastingAns (lasting s) (execInboxClear brand mask s) = lasting s := by
  simp [execInboxClear]

@[simp] theorem lasting_execGatherOffset (at_ k : Nat) (s : State) : lastingAns (lasting s) (execGatherOffset at_ k s) = lasting s := by
  unfold execGatherOffset
  dsimp only
  repeat' split
  all_goals simp

@[simp] theorem lasting_execAssay (unit : Nat) (s : State) : lastingAns (lasting s) (execAssay unit s) = lasting s := by
  unfold execAssay
  split <;> simp

@[simp] theorem lasting_execAssayGolden (unit : Nat) (s : State) : lastingAns (lasting s) (execAssayGolden unit s) = lasting s := by
  unfold execAssayGolden
  split <;> simp

@[simp] theorem lasting_execAssayGridDone (at_ : Nat) (s : State) : lastingAns (lasting s) (execAssayGridDone at_ s) = lasting s := by
  unfold execAssayGridDone
  dsimp only
  split
  · exact lasting_atTime _ _
  · rw [lastingAns_next, lasting_ite, lasting_doubt, ite_self, lasting_showAssay, lasting_withAsy, lasting_setF, lasting_setF, lasting_setF,
      lasting_asyStore, lasting_withFree, lasting_asyStore, lasting_notesFx, lasting_atTime]

@[simp] theorem lasting_execDeltaWatchCheck (s : State) : lastingAns (lasting s) (execDeltaWatchCheck s) = lasting s := by
  simp [execDeltaWatchCheck]

@[simp] theorem lasting_execAssayFreeze (at_ : Nat) (s : State) : lastingAns (lasting s) (execAssayFreeze at_ s) = lasting s := by
  unfold execAssayFreeze
  dsimp only
  repeat' split
  all_goals simp

@[simp] theorem lasting_execRefine (unit : Nat) (s : State) : lastingAns (lasting s) (execRefine unit s) = lasting s := by
  unfold execRefine
  split <;> simp

@[simp] theorem lasting_execQuenchDeadline (at_ : Nat) (phases : List (Nat × Nat × Nat)) (s : State) :
    lastingAns (lasting s) (execQuenchDeadline at_ phases s) = lasting s := by
  unfold execQuenchDeadline
  dsimp only
  split <;> simp

@[simp] theorem lasting_execQuenchGolden (unit : Nat) (s : State) : lastingAns (lasting s) (execQuenchGolden unit s) = lasting s := by
  simp [execQuenchGolden]

@[simp] theorem lasting_execAnvilWriteback (line : Nat) (s : State) : lastingAns (lasting s) (execAnvilWriteback line s) = lasting s := by
  simp [execAnvilWriteback]

@[simp] theorem lasting_execScrub (at_ bank : Nat) (assay : Bool) (s : State) : lastingAns (lasting s) (execScrub at_ bank assay s) = lasting s := by
  simp [execScrub]

@[simp] theorem lasting_execScrubForced (bank : Nat) (assay : Bool) (s : State) :
    lastingAns (lasting s) (execScrubForced bank assay s) = lasting s := by
  simp [execScrubForced]

@[simp] theorem lasting_execBankRetire (s : State) : lastingAns (lasting s) (execBankRetire s) = lasting s := by
  unfold execBankRetire
  dsimp only
  repeat' split
  all_goals simp

@[simp] theorem lasting_execBankCopyDone (s : State) : lastingAns (lasting s) (execBankCopyDone s) = lasting s := by simp [execBankCopyDone]

@[simp] theorem lasting_execBankSwitch (at_ : Nat) (s : State) : lastingAns (lasting s) (execBankSwitch at_ s) = lasting s := by
  unfold execBankSwitch
  dsimp only
  repeat' split
  all_goals simp

@[simp] theorem lasting_execMr4Poll (ch rank value : Nat) (s : State) : lastingAns (lasting s) (execMr4Poll ch rank value s) = lasting s := by
  simp [execMr4Poll]

@[simp] theorem lasting_execDdrRefresh (ch : Nat) (s : State) : lastingAns (lasting s) (execDdrRefresh ch s) = lasting s := by
  simp [execDdrRefresh]

@[simp] theorem lasting_execPatrolScrub (s : State) : lastingAns (lasting s) (execPatrolScrub s) = lasting s := by simp [execPatrolScrub]

@[simp] theorem lasting_execDdrSrTimeout (at_ inSelfRefresh : Nat) (s : State) :
    lastingAns (lasting s) (execDdrSrTimeout at_ inSelfRefresh s) = lasting s := by
  unfold execDdrSrTimeout
  dsimp only
  split <;> simp

@[simp] theorem lasting_execSubResetDdr (ch : Nat) (ok : Bool) (s : State) : lastingAns (lasting s) (execSubResetDdr ch ok s) = lasting s := by
  simp [execSubResetDdr]

@[simp] theorem lasting_execSubResetEth (mac : Nat) (s : State) : lastingAns (lasting s) (execSubResetEth mac s) = lasting s := by
  simp [execSubResetEth]

@[simp] theorem lasting_execSubResetPcie (s : State) : lastingAns (lasting s) (execSubResetPcie s) = lasting s := by simp [execSubResetPcie]

@[simp] theorem lasting_execResetPinAssert (pin : Nat) (s : State) : lastingAns (lasting s) (execResetPinAssert pin s) = lasting s := by
  simp [execResetPinAssert]

@[simp] theorem lasting_execResetPinRelease (pin : Nat) (s : State) : lastingAns (lasting s) (execResetPinRelease pin s) = lasting s := by
  simp [execResetPinRelease]

@[simp] theorem lasting_execPwrGoodFall (s : State) : lastingAns (lasting s) (execPwrGoodFall s) = lasting s := by simp [execPwrGoodFall]

@[simp] theorem lasting_execPwrGoodRise (s : State) : lastingAns (lasting s) (execPwrGoodRise s) = lasting s := by simp [execPwrGoodRise]

@[simp] theorem lasting_execReleaseBegin (roleStrap nodeStrap : Nat) (s : State) :
    lastingAns (lasting s) (execReleaseBegin roleStrap nodeStrap s) = lasting s := by
  simp [execReleaseBegin]

@[simp] theorem lasting_execDomainQualified (domain khz : Nat) (s : State) :
    lastingAns (lasting s) (execDomainQualified domain khz s) = lasting s := by
  simp [execDomainQualified]

@[simp] theorem lasting_execClockFailRetry (s : State) : lastingAns (lasting s) (execClockFailRetry s) = lasting s := by
  simp [execClockFailRetry]

@[simp] theorem lasting_execClockOutOfTol (domain khz : Nat) (s : State) : lastingAns (lasting s) (execClockOutOfTol domain khz s) = lasting s := by
  simp [execClockOutOfTol]

@[simp] theorem lasting_execRefclkLost (s : State) : lastingAns (lasting s) (execRefclkLost s) = lasting s := by simp [execRefclkLost]

@[simp] theorem lasting_execColdEscalate (s : State) : lastingAns (lasting s) (execColdEscalate s) = lasting s := by simp [execColdEscalate]

@[simp] theorem lasting_execPlanDue (at_ : Nat) (s : State) : lastingAns (lasting s) (execPlanDue at_ s) = lasting s := by
  unfold execPlanDue
  dsimp only
  repeat' split
  all_goals simp

@[simp] theorem lasting_execStopPlanRepeat (at_ : Nat) (s : State) : lastingAns (lasting s) (execStopPlanRepeat at_ s) = lasting s := by
  simp [execStopPlanRepeat]

@[simp] theorem lasting_execCanFrameSent (ctrl : Nat) (ok : Bool) (s : State) : lastingAns (lasting s) (execCanFrameSent ctrl ok s) = lasting s := by
  simp [execCanFrameSent]

@[simp] theorem lasting_execFaultRecord (block code cls unit : Nat) (s : State) :
    lastingAns (lasting s) (execFaultRecord block code cls unit s) = lasting s := by
  simp [execFaultRecord]

@[simp] theorem lasting_execFaultAccept (s : State) : lastingAns (lasting s) (execFaultAccept s) = lasting s := by simp [execFaultAccept]

@[simp] theorem lasting_execClrFirst (brand : Nat) (s : State) : lastingAns (lasting s) (execClrFirst brand s) = lasting s := by
  simp [execClrFirst]

@[simp] theorem lasting_execLockstepMismatch (pair : Nat) (s : State) : lastingAns (lasting s) (execLockstepMismatch pair s) = lasting s := by
  unfold execLockstepMismatch
  dsimp only
  repeat' split
  all_goals simp

@[simp] theorem lasting_execPairTakeoverDone (s : State) : lastingAns (lasting s) (execPairTakeoverDone s) = lasting s := by
  unfold execPairTakeoverDone
  split <;> simp

@[simp] theorem lasting_execThOpen (brand group : Nat) (both : Bool) (s : State) :
    lastingAns (lasting s) (execThOpen brand group both s) = lasting s := by
  simp [execThOpen]

@[simp] theorem lasting_execThClose (brand group : Nat) (s : State) : lastingAns (lasting s) (execThClose brand group s) = lasting s := by
  simp [execThClose]

@[simp] theorem lasting_execThCommit (brand group : Nat) (s : State) : lastingAns (lasting s) (execThCommit brand group s) = lasting s := by
  simp [execThCommit]

@[simp] theorem lasting_execThAbort (brand group : Nat) (s : State) : lastingAns (lasting s) (execThAbort brand group s) = lasting s := by
  simp [execThAbort]

@[simp] theorem lasting_execThTimeout (group : Nat) (s : State) : lastingAns (lasting s) (execThTimeout group s) = lasting s := by
  simp [execThTimeout]

@[simp] theorem lasting_execStartFail (cause : Nat) (s : State) : lastingAns (lasting s) (execStartFail cause s) = lasting s := by
  simp [execStartFail]

@[simp] theorem lasting_execStartTimeout (s : State) : lastingAns (lasting s) (execStartTimeout s) = lasting s := by simp [execStartTimeout]

@[simp] theorem lasting_execDomainQualTimeout (domain : Nat) (s : State) : lastingAns (lasting s) (execDomainQualTimeout domain s) = lasting s := by
  simp [execDomainQualTimeout]

@[simp] theorem lasting_execBilletVerify (slotA slotB : SlotImage) (s : State) :
    lastingAns (lasting s) (execBilletVerify slotA slotB s) = lasting s := by
  simp [execBilletVerify]

@[simp] theorem lasting_execJournalDecide (s : State) : lastingAns (lasting s) (execJournalDecide s) = lasting s := by
  simp [execJournalDecide]

@[simp] theorem lasting_execStartCommit (monitorAgrees : Bool) (s : State) :
    lastingAns (lasting s) (execStartCommit monitorAgrees s) = lasting s := by
  simp [execStartCommit]

@[simp] theorem lasting_execBankedReport (at_ : Nat) (s : State) : lastingAns (lasting s) (execBankedReport at_ s) = lasting s := by
  simp [execBankedReport]

@[simp] theorem lasting_execReadJournal (obj : List Nat) (nonce fromSeq : Nat) (s : State) :
    lastingAns (lasting s) (execReadJournal obj nonce fromSeq s) = lasting s := by
  simp [execReadJournal]

@[simp] theorem lasting_execClearJournal (obj : List Nat) (nonce : Nat) (s : State) :
    lastingAns (lasting s) (execClearJournal obj nonce s) = lasting s := by
  simp [execClearJournal]

@[simp] theorem lasting_execRestart (obj : List Nat) (nonce : Nat) (s : State) : lastingAns (lasting s) (execRestart obj nonce s) = lasting s := by
  simp [execRestart]

@[simp] theorem lasting_execMaintenanceColdReset (s : State) : lastingAns (lasting s) (execMaintenanceColdReset s) = lasting s := by
  simp [execMaintenanceColdReset]

@[simp] theorem lasting_execWdogKick (brand value : Nat) (s : State) : lastingAns (lasting s) (execWdogKick brand value s) = lasting s := by
  simp [execWdogKick]

@[simp] theorem lasting_execSwWarmReq (brand value : Nat) (s : State) : lastingAns (lasting s) (execSwWarmReq brand value s) = lasting s := by
  simp [execSwWarmReq]

@[simp] theorem lasting_execWdogExpire (s : State) : lastingAns (lasting s) (execWdogExpire s) = lasting s := by simp [execWdogExpire]

@[simp] theorem lasting_execBellEdge (at_ highNs : Nat) (s : State) : lastingAns (lasting s) (execBellEdge at_ highNs s) = lasting s := by
  unfold execBellEdge
  dsimp only
  repeat' split
  all_goals simp

@[simp] theorem lasting_execBellMissing (at_ : Nat) (s : State) : lastingAns (lasting s) (execBellMissing at_ s) = lasting s := by
  simp [execBellMissing]

@[simp] theorem lasting_execStroke (at_ : Nat) (hdr : List Nat) (s : State) : lastingAns (lasting s) (execStroke at_ hdr s) = lasting s := by
  simp [execStroke]

@[simp] theorem lasting_execStrokeMessageLate (at_ : Nat) (s : State) : lastingAns (lasting s) (execStrokeMessageLate at_ s) = lasting s := by
  unfold execStrokeMessageLate
  dsimp only
  split <;> simp

@[simp] theorem lasting_execCalWindowOpen (at_ : Nat) (s : State) : lastingAns (lasting s) (execCalWindowOpen at_ s) = lasting s := by
  simp [execCalWindowOpen]

@[simp] theorem lasting_execCalPulse (at_ highNs : Nat) (s : State) : lastingAns (lasting s) (execCalPulse at_ highNs s) = lasting s := by
  unfold execCalPulse
  dsimp only
  repeat' split
  all_goals simp

@[simp] theorem lasting_execCal (at_ : Nat) (hdr : List Nat) (s : State) : lastingAns (lasting s) (execCal at_ hdr s) = lasting s := by
  simp [execCal]

@[simp] theorem lasting_execTargetFix (delays : List Nat) (s : State) : lastingAns (lasting s) (execTargetFix delays s) = lasting s := by
  simp [execTargetFix]

@[simp] theorem lasting_execCopy (unit : Nat) (s : State) : lastingAns (lasting s) (execCopy unit s) = lasting s := by
  unfold execCopy
  split <;> simp

@[simp] theorem lasting_execFill (unit : Nat) (s : State) : lastingAns (lasting s) (execFill unit s) = lasting s := by
  unfold execFill
  split <;> simp

@[simp] theorem lasting_execListPush (unit : Nat) (s : State) : lastingAns (lasting s) (execListPush unit s) = lasting s := by
  unfold execListPush
  split <;> simp

@[simp] theorem lasting_execBellowsGolden (unit : Nat) (s : State) : lastingAns (lasting s) (execBellowsGolden unit s) = lasting s := by
  unfold execBellowsGolden
  split <;> simp

@[simp] theorem lasting_execDigest (unit : Nat) (s : State) : lastingAns (lasting s) (execDigest unit s) = lasting s := by
  unfold execDigest
  split <;> simp

@[simp] theorem lasting_execEmberQuickTest (passed badBanks : List Nat) (ms : Nat) (s : State) :
    lastingAns (lasting s) (execEmberQuickTest passed badBanks ms s) = lasting s := by
  simp [execEmberQuickTest]

@[simp] theorem lasting_execDdrTrained (mask : Nat) (s : State) : lastingAns (lasting s) (execDdrTrained mask s) = lasting s := by
  simp [execDdrTrained]

@[simp] theorem lasting_execDdrSweepDone (s : State) : lastingAns (lasting s) (execDdrSweepDone s) = lasting s := by simp [execDdrSweepDone]

@[simp] theorem lasting_execSelfTestDone (failed ages : List Nat) (s : State) :
    lastingAns (lasting s) (execSelfTestDone failed ages s) = lasting s := by
  simp [execSelfTestDone]

@[simp] theorem lasting_execOsLoadDone (digest : List Nat) (s : State) : lastingAns (lasting s) (execOsLoadDone digest s) = lasting s := by
  simp [execOsLoadDone]

@[simp] theorem lasting_execAppReady (brand : Nat) (s : State) : lastingAns (lasting s) (execAppReady brand s) = lasting s := by
  simp [execAppReady]

@[simp] theorem lasting_execLinkTrain (link badLaneTx badLaneRx : Nat) (s : State) :
    lastingAns (lasting s) (execLinkTrain link badLaneTx badLaneRx s) = lasting s := by
  simp [execLinkTrain]

@[simp] theorem lasting_execRetrain (link : Nat) (s : State) : lastingAns (lasting s) (execRetrain link s) = lasting s := by
  simp [execRetrain]

@[simp] theorem lasting_execRetrainFail (at_ link : Nat) (s : State) : lastingAns (lasting s) (execRetrainFail at_ link s) = lasting s := by
  simp [execRetrainFail]

@[simp] theorem lasting_execSyncTimeout (at_ link : Nat) (s : State) : lastingAns (lasting s) (execSyncTimeout at_ link s) = lasting s := by
  simp [execSyncTimeout]

@[simp] theorem lasting_execSkpReceive (link : Nat) (laneErrs : List Nat) (s : State) :
    lastingAns (lasting s) (execSkpReceive link laneErrs s) = lasting s := by
  unfold execSkpReceive
  dsimp only
  repeat' split
  all_goals simp

@[simp] theorem lasting_execFlitReceive (link : Nat) (frame : List Nat) (s : State) :
    lastingAns (lasting s) (execFlitReceive link frame s) = lasting s := by
  simp [execFlitReceive]

@[simp] theorem lasting_execControlFlit (link : Nat) (payload : List Nat) (s : State) :
    lastingAns (lasting s) (execControlFlit link payload s) = lasting s := by
  simp [execControlFlit]

@[simp] theorem lasting_execReplayTimeout (link : Nat) (s : State) : lastingAns (lasting s) (execReplayTimeout link s) = lasting s := by
  simp [execReplayTimeout]

@[simp] theorem lasting_execWr (link : Nat) (hdr : List Nat) (lines : List (List Nat)) (s : State) :
    lastingAns (lasting s) (execWr link hdr lines s) = lasting s := by
  simp [execWr]

@[simp] theorem lasting_execRd (link : Nat) (hdr : List Nat) (s : State) : lastingAns (lasting s) (execRd link hdr s) = lasting s := by
  simp [execRd]

@[simp] theorem lasting_execWack (link : Nat) (hdr : List Nat) (s : State) : lastingAns (lasting s) (execWack link hdr s) = lasting s := by
  unfold execWack
  dsimp only
  repeat' split
  all_goals simp

@[simp] theorem lasting_execRdr (link : Nat) (hdr : List Nat) (lines : List (List Nat)) (s : State) :
    lastingAns (lasting s) (execRdr link hdr lines s) = lasting s := by
  unfold execRdr
  dsimp only
  repeat' split
  all_goals simp

@[simp] theorem lasting_execRemoteTimeout (tag : Nat) (s : State) : lastingAns (lasting s) (execRemoteTimeout tag s) = lasting s := by
  unfold execRemoteTimeout
  split <;> simp

@[simp] theorem lasting_execTimeReq (at_ link : Nat) (hdr : List Nat) (s : State) :
    lastingAns (lasting s) (execTimeReq at_ link hdr s) = lasting s := by
  simp [execTimeReq]

@[simp] theorem lasting_execTimeRsp (at_ link : Nat) (hdr : List Nat) (s : State) :
    lastingAns (lasting s) (execTimeRsp at_ link hdr s) = lasting s := by
  simp [execTimeRsp]

@[simp] theorem lasting_execHeartbeat (link : Nat) (s : State) : lastingAns (lasting s) (execHeartbeat link s) = lasting s := by
  unfold execHeartbeat
  split
  · rfl
  · split <;> simp

@[simp] theorem lasting_execHeartbeatTick (at_ : Nat) (s : State) : lastingAns (lasting s) (execHeartbeatTick at_ s) = lasting s := by
  simp [execHeartbeatTick]

@[simp] theorem lasting_execLinkId (link : Nat) (hdr : List Nat) (s : State) : lastingAns (lasting s) (execLinkId link hdr s) = lasting s := by
  simp [execLinkId]

@[simp] theorem lasting_execAdmitMessage (at_ : Nat) (hdr : List Nat) (s : State) :
    lastingAns (lasting s) (execAdmitMessage at_ hdr s) = lasting s := by
  simp [execAdmitMessage]

@[simp] theorem lasting_execWorkerAdmit (at_ node delay : Nat) (s : State) :
    lastingAns (lasting s) (execWorkerAdmit at_ node delay s) = lasting s := by
  unfold execWorkerAdmit
  dsimp only
  repeat' split
  all_goals simp

@[simp] theorem lasting_execEngineTaskDone (cls unit : Nat) (s : State) : lastingAns (lasting s) (execEngineTaskDone cls unit s) = lasting s := by
  unfold execEngineTaskDone
  dsimp only
  repeat' split
  all_goals simp

@[simp] theorem lasting_execAttestReq (brand : Nat) (s : State) : lastingAns (lasting s) (execAttestReq brand s) = lasting s := by
  simp [execAttestReq]

@[simp] theorem lasting_execAttestDone (s : State) : lastingAns (lasting s) (execAttestDone s) = lasting s := by
  unfold execAttestDone
  split <;> simp

@[simp] theorem lasting_execDebugSubmit (s : State) : lastingAns (lasting s) (execDebugSubmit s) = lasting s := by simp [execDebugSubmit]

@[simp] theorem lasting_execTapInstruction (ir : Nat) (s : State) : lastingAns (lasting s) (execTapInstruction ir s) = lasting s := by
  simp [execTapInstruction]

@[simp] theorem lasting_execModeReqService (brand : Nat) (s : State) : lastingAns (lasting s) (execModeReqService brand s) = lasting s := by
  simp [execModeReqService]

@[simp] theorem lasting_execModeReqRepro (brand : Nat) (others : List (Nat × Nat)) (s : State) :
    lastingAns (lasting s) (execModeReqRepro brand others s) = lasting s := by
  simp [execModeReqRepro]

@[simp] theorem lasting_execMode (link : Nat) (hdr : List Nat) (s : State) : lastingAns (lasting s) (execMode link hdr s) = lasting s := by
  simp [execMode]

@[simp] theorem lasting_execGateOpen (gate : Nat) (s : State) : lastingAns (lasting s) (execGateOpen gate s) = lasting s := by
  simp [execGateOpen]

@[simp] theorem lasting_execTaskPlace (cls : Nat) (s : State) : lastingAns (lasting s) (execTaskPlace cls s) = lasting s := by
  simp [execTaskPlace]

@[simp] theorem lasting_execSensorUpdate (at_ : Nat) (readings : List Int) (s : State) :
    lastingAns (lasting s) (execSensorUpdate at_ readings s) = lasting s := by
  unfold execSensorUpdate
  dsimp only
  split <;> simp

@[simp] theorem lasting_execThrottleStepApply (s : State) : lastingAns (lasting s) (execThrottleStepApply s) = lasting s := by
  unfold execThrottleStepApply
  split <;> simp

@[simp] theorem lasting_execThermalTrip (region : Nat) (s : State) : lastingAns (lasting s) (execThermalTrip region s) = lasting s := by
  simp [execThermalTrip]

@[simp] theorem lasting_execPpsEdge (at_ highNs : Nat) (s : State) : lastingAns (lasting s) (execPpsEdge at_ highNs s) = lasting s := by
  simp [execPpsEdge]

@[simp] theorem lasting_execRegisterRead (brand addr width : Nat) (s : State) :
    lastingAns (lasting s) (execRegisterRead brand addr width s) = lasting s := by
  simp [execRegisterRead]

@[simp] theorem lasting_execRcRead (brand addr hw : Nat) (s : State) : lastingAns (lasting s) (execRcRead brand addr hw s) = lasting s := by
  simp [execRcRead]

@[simp] theorem lasting_execLoWordRead (brand addr : Nat) (s : State) : lastingAns (lasting s) (execLoWordRead brand addr s) = lasting s := by
  simp [execLoWordRead]

@[simp] theorem lasting_execDdrVerWrite (brand value : Nat) (s : State) : lastingAns (lasting s) (execDdrVerWrite brand value s) = lasting s := by
  simp [execDdrVerWrite]

@[simp] theorem lasting_execUbfRetrainReq (brand link : Nat) (s : State) : lastingAns (lasting s) (execUbfRetrainReq brand link s) = lasting s := by
  simp [execUbfRetrainReq]

@[simp] theorem lasting_execRegisterWrite (brand addr width value hw : Nat) (s : State) :
    lastingAns (lasting s) (execRegisterWrite brand addr width value hw s) = lasting s := by
  simp [execRegisterWrite]

@[simp] theorem lasting_execTimetableWrite (brand addr value : Nat) (s : State) :
    lastingAns (lasting s) (execTimetableWrite brand addr value s) = lasting s := by
  simp [execTimetableWrite]

@[simp] theorem lasting_execThStageWrite (brand addr value : Nat) (s : State) :
    lastingAns (lasting s) (execThStageWrite brand addr value s) = lasting s := by
  simp [execThStageWrite]

@[simp] theorem lasting_execMemoryAccess (brand kind addr : Nat) (bytes : List Nat) (len : Nat) (s : State) :
    lastingAns (lasting s) (execMemoryAccess brand kind addr bytes len s) = lasting s := by
  simp [execMemoryAccess]

/- ### The four commands of the lasting state -/

/-- WRITE_SLOT leaves the version floor and the wear records (R471). -/
theorem lasting_of_execWriteSlot {s t : State} {obj : List Nat} {nonce slot offset : Nat} {bytes : List Nat}
    (ht : execWriteSlot obj nonce slot offset bytes s = .next t) : ∃ a b, lasting t = { lasting s with slotA := a, slotB := b } := by
  unfold execWriteSlot at ht
  split at ht
  · cases ht; exact ⟨_, _, rfl⟩
  · split at ht <;> cases ht <;> exact ⟨_, _, rfl⟩

/-- Whether the billet is accepted or slot B tried, the lasting state stays (R504). -/
theorem lasting_of_acceptOrTry (u : State) (x : SlotImage) (b : Billet) :
    ∃ t, (if versionOk u b then .next (accept u x) else .next (tryOther u) : Ans) = .next t ∧ lasting t = lasting u := by
  split
  · exact ⟨_, rfl, lasting_accept _ _⟩
  · exact ⟨_, rfl, lasting_tryOther _⟩

/-- RPMB_CHECK leaves the boot slots and the wear records (R505, R506). -/
theorem execRpmbCheck_lasting (answer : RpmbAnswer) (s : State) :
    ∃ t v, execRpmbCheck answer s = .next t ∧ lasting t = { lasting s with minVer := v } := by
  unfold execRpmbCheck
  split
  · exact ⟨_, _, rfl, rfl⟩
  · split
    · exact ⟨_, _, rfl, rfl⟩
    · split
      · exact ⟨_, _, rfl, lasting_accept _ _⟩
      · split
        · exact ⟨_, _, rfl, lasting_startFails _ _⟩
        · obtain ⟨t, ht, hl⟩ := lasting_of_acceptOrTry _ _ _
          exact ⟨t, _, ht, hl⟩

/-- A written wear record leaves the boot slots and the version floor (R480). -/
theorem lasting_writeWear (s : State) : ∃ r n, lasting (writeWear s) = { lasting s with records := r, wearSeq := n } := ⟨_, _, rfl⟩

/-- The advance moves the version floor alone (R507). -/
theorem lasting_advance (s : State) (writeOk : Bool) : ∃ v, lasting (advance s writeOk) = { lasting s with minVer := v } := by
  unfold advance
  split
  · split
    · exact ⟨_, rfl⟩
    · exact ⟨_, lasting_sendFault _ _ _ _ _⟩
  · exact ⟨_, rfl⟩

/-- FULL_SERVICE leaves the boot slots (R464). -/
theorem lasting_of_execFullService {s t : State} {at_ ms : Nat} {ok : Bool} (ht : execFullService at_ ms ok s = .next t) :
    ∃ v r n, lasting t = { lasting s with minVer := v, records := r, wearSeq := n } := by
  unfold execFullService at ht
  dsimp only at ht
  split at ht <;> cases ht
  · exact ⟨_, _, _, lasting_atTime _ _⟩
  · obtain ⟨r, n, hwear⟩ := lasting_writeWear (computeStarts (advance (sendFault (writeRec (enterService (atTime s at_) at_ ms)
      (thisRec (enterService (atTime s at_) at_ ms) 2 0)) 0x01 0x007 0 0) ok))
    obtain ⟨v, hadvance⟩ := lasting_advance (sendFault (writeRec (enterService (atTime s at_) at_ ms)
      (thisRec (enterService (atTime s at_) at_ ms) 2 0)) 0x01 0x007 0 0) ok
    refine ⟨v, r, n, ?_⟩
    rw [hwear, lasting_computeStarts, hadvance, lasting_sendFault, lasting_writeRec, lasting_enterService, lasting_atTime]

/-- Every command but those four keeps the lasting state. -/
theorem lasting_of_exec {i : Instr} {s t : State} (ht : exec i s = .next t) (hslot : ∀ o n sl off b, i ≠ .writeSlot o n sl off b)
    (hrpmb : ∀ a, i ≠ .rpmbCheck a) (hfull : ∀ a m ok, i ≠ .fullService a m ok) (hwear : i ≠ .wearRecordWrite) : lasting t = lasting s := by
  have hans : lastingAns (lasting s) (exec i s) = lasting s := by
    cases i
    case writeSlot o n sl off b => exact absurd rfl (hslot o n sl off b)
    case rpmbCheck a => exact absurd rfl (hrpmb a)
    case fullService a m ok => exact absurd rfl (hfull a m ok)
    case wearRecordWrite => exact absurd rfl hwear
    all_goals simp [exec]
  rwa [ht] at hans

end Sys2Proof.Machine

open Sys2Proof Sys2Proof.Machine

/-- Settles O9: every command but four keeps the lasting state (`lasting_of_exec`), and each of the four moves its own part of it. -/
theorem lastingStateChangesOnlyByItsCommands : Obligations.LastingStateChangesOnlyByItsCommands := by
  intro i s t ht
  have hparts : ∀ {l : Lasting}, lasting t = l → (t.start.slotA = l.slotA ∧ t.start.slotB = l.slotB) ∧ t.start.minVer = l.minVer ∧
      t.spr.records = l.records ∧ t.spr.wearSeq = l.wearSeq := by
    rintro _ rfl
    exact ⟨⟨rfl, rfl⟩, rfl, rfl, rfl⟩
  rcases Classical.em (∃ o n sl off b, i = .writeSlot o n sl off b) with ⟨o, n, sl, off, b, rfl⟩ | hslot
  · obtain ⟨_, _, hl⟩ := lasting_of_execWriteSlot ht
    obtain ⟨_, hver, hrec⟩ := hparts hl
    exact ⟨fun h => absurd rfl (h o n sl off b), fun _ _ => hver, fun _ _ => hrec⟩
  rcases Classical.em (∃ a, i = .rpmbCheck a) with ⟨a, rfl⟩ | hrpmb
  · obtain ⟨u, _, hu, hl⟩ := execRpmbCheck_lasting a s
    cases hu.symm.trans ht
    obtain ⟨hslots, _, hrec⟩ := hparts hl
    exact ⟨fun _ => hslots, fun h => absurd rfl (h a), fun _ _ => hrec⟩
  rcases Classical.em (∃ a m ok, i = .fullService a m ok) with ⟨a, m, ok, rfl⟩ | hfull
  · obtain ⟨_, _, _, hl⟩ := lasting_of_execFullService ht
    exact ⟨fun _ => (hparts hl).1, fun _ h => absurd rfl (h a m ok), fun _ h => absurd rfl (h a m ok)⟩
  rcases Classical.em (i = .wearRecordWrite) with rfl | hwear
  · obtain ⟨_, _, hl⟩ := lasting_writeWear s
    cases ht
    obtain ⟨hslots, hver, _⟩ := hparts hl
    exact ⟨fun _ => hslots, fun _ _ => hver, fun h => absurd rfl h⟩
  · obtain ⟨hslots, hver, hrec⟩ := hparts (lasting_of_exec ht (fun o n sl off b h => hslot ⟨o, n, sl, off, b, h⟩) (fun a h => hrpmb ⟨a, h⟩)
      (fun a m ok h => hfull ⟨a, m, ok, h⟩) hwear)
    exact ⟨fun _ => hslots, fun _ _ => hver, fun _ _ => hrec⟩

end

section
/-! Links, remote accesses, two-handed changes, the start and Banked, spares, attestation and sensors: states of the hypotheses where a
statement's conclusion fails, and what the model does there. -/

namespace Sys2Proof.Machine

set_option Elab.async false

/- ### Links (R381, R385, R386) -/

/-- Link 0 is up, and its last replay was the first from its flit. -/
def linkAfterReplay : State :=
  { State.reset with
    regs := [((UBF_L_STATUS 0).addr, 0x3FE)]
    ubf := { State.reset.ubf with links := [{ replays := 1 }, {}, {}, {}] } }

theorem linkAfterReplay_inv : linkAfterReplay.Inv := by decide

/-- A retrain of an up link is `startRetrain`. -/
theorem execRetrain_of_up {s : State} {link : Nat} (hl : link < 4) (hup : linkState s link = 2) :
    exec (.retrain link) s = .next (startRetrain s link) := by
  change execRetrain link s = _
  simp [execRetrain, hup, Nat.not_le.mpr hl]

/-- The cause ends the count of replays in a row (R386). -/
theorem replays_startRetrain_linkAfterReplay : (lnk (startRetrain linkAfterReplay 0) 0).replays = 0 := by decide

/-- Link 0 is up, and its last frame was bad. -/
def linkAfterBadFrame : State :=
  { State.reset with
    regs := [((UBF_L_STATUS 0).addr, 0x3FE)]
    ubf := { State.reset.ubf with links := [{ badPending := true }, {}, {}, {}] } }

theorem linkAfterBadFrame_inv : linkAfterBadFrame.Inv := by decide

/-- A frame whose CRC fits the expected sequence number is taken by `dataFx`. -/
theorem execFlitReceive_of_crc {s : State} {link : Nat} {frame : List Nat} (hl : link < 4) (hup : linkUp s link = true)
    (hcrc : fldAt frame 32 4 = crc32c (frame.take 32 ++ [(lnk s link).rxSeq])) :
    exec (.flitReceive link frame) s = .next (dataFx s link (frame.take 32)) := by
  change execFlitReceive link frame s = _
  simp [execFlitReceive, receiveFrame, hup, hcrc, Nat.not_le.mpr hl]

/-- The frame of a zero payload under sequence number 0. -/
def zeroFrame : List Nat := frameOf (List.replicate 32 0) 0

theorem crc_zeroFrame : fldAt zeroFrame 32 4 = crc32c (zeroFrame.take 32 ++ [0]) := by decide +kernel

/-- The frame that makes the bad one good writes UBF 0x001 (R385). -/
theorem fifo_dataFx_linkAfterBadFrame (p : List Nat) : (dataFx linkAfterBadFrame 0 p).flt.fifo.length = 1 := rfl

/- ### RDR (R316, R394) -/

/-- A task whose entry names physical Bellows unit 512; the register with its count of lines would lie in block 0x09. -/
def copyNamingUnit512 : Task := { id := 0, queue := 0, num := 0, cmd := [], pri := 1, punit := 512 }

/-- The read of one line to address 0 for `copyNamingUnit512`. -/
def readForUnit512 : Remote := { tag := 0, node := 0, kind := 1, unit := 0, task := 0, len := 64 }

/-- `readForUnit512` is outstanding under tag 0; queue 0 writes with brand 1. -/
def readForUnit512Pending : State :=
  { State.reset with
    regs := [((TAB_Q_CFG 0).addr, 0x100)]
    tabA := { tasks := [copyNamingUnit512] }
    tabB := { tasks := [copyNamingUnit512] }
    ubf := { State.reset.ubf with pending := [readForUnit512] } }

theorem readForUnit512Pending_inv : readForUnit512Pending.Inv := by decide

/-- The response with status 0 to an outstanding request is its good answer. -/
theorem execRdr_of_pending {s : State} {link : Nat} {hdr : List Nat} {lines : List (List Nat)} {r : Remote} (hc : carries s link hdr = true)
    (ht : hTarget hdr = nodeId (takeMsg s link hdr (lineFlits lines)))
    (hp : pendingTag (takeMsg s link hdr (lineFlits lines)) (hTag hdr) = some r) (ha : hArg hdr = 0) :
    exec (.rdr link hdr lines) s = .next (remoteOk (takeMsg s link hdr (lineFlits lines)) r lines) := by
  change execRdr link hdr lines s = _
  simp [execRdr, hc, ← ht, hp, ha]

/-- The line written counts in the register of unit 512. -/
theorem rd_remoteOk_readForUnit512Pending :
    rd (remoteOk (takeMsg readForUnit512Pending 0 [] (lineFlits [List.replicate 64 0])) readForUnit512 [List.replicate 64 0])
      (BLW_U_LINES 512).addr = 1 := by decide +kernel

/- ### TH_STAGE_WRITE (R420, R425, R427) -/

/-- Brand 1 stages group 0. -/
def group0Staging : State := { State.reset with regs := [((FWL_TH_STATUS 0).addr, 0x101)] }

theorem group0Staging_inv : group0Staging.Inv := by decide

/-- Word 11 of firewall region 0 belongs to group 0 with no bit of access 2H, so a write of it stages nothing. -/
theorem staged_execThStageWrite_group0Staging :
    (match exec (.thStageWrite 1 0x4120002C 0) group0Staging with | .next t => t.fwl.staged | _ => [(0, 0, 0)]) = [] := by decide +kernel

/- ### EMBER_QUICK_TEST (R212, R286, R461) -/

/-- A line with a flag that says it is full and a stroke of none, as a message to the inbox would have it. -/
def staleLine : List Nat := List.replicate 20 0 ++ [1] ++ List.replicate 43 0

/-- A worker in phase 5 whose billet places `staleLine` as golden data at address 0, where the inbox lies after reset. -/
def goldenInInbox : State :=
  { State.reset with
    regs := [(RST_START.addr, 5), (UBF_NODE_CFG.addr, 2)]
    bil := { State.reset.bil with golden := [(0, staleLine)] } }

theorem goldenInInbox_inv : goldenInInbox.Inv := by decide

/-- The inbox takes the golden line for a stale message and writes TNG 0x004 (R212). -/
theorem fifo_execEmberQuickTest_goldenInInbox :
    (match exec (.emberQuickTest [] [] 0) goldenInInbox with | .next t => t.flt.fifo.length | _ => 1) = 1 := by decide +kernel

/- ### MAINTENANCE_COLD_RESET (R441) -/

/-- A Banked device that is due for its cold reset; FLT_STATUS is listed twice, which the statement does not exclude. -/
def statusListedTwice : State :=
  { State.reset with
    regs := [(TOP_MODE.addr, 3), (FLT_STATUS.addr, 1), (FLT_STATUS.addr, 1)]
    rst := { State.reset.rst with reach := 0 }
    start := { State.reset.start with coldDue := true } }

/-- The reset's write of SAFE 0 removes the first entry, and the second one shows SAFE still. -/
theorem safe_execMaintenanceColdReset_statusListedTwice :
    (match exec .maintenanceColdReset statusListedTwice with | .next t => flag t FLT_STATUS_SAFE | _ => true) = true := by decide +kernel

/- ### PROACTIVE_START (R487, R489) -/

/-- Unit 216, the first of class 8, is past a threshold and in service at logical index 0, and unit 217 is its one spare. -/
def lastSpareOfClass8 : State :=
  { State.reset with
    regs := [(TOP_MODE.addr, 0), (SPR_POLICY.addr, 0x10), ((mapP 8 0).addr, 0x100), ((SPR_U_STATE 217).addr, 1)]
    spr := { State.reset.spr with crossed := [216] } }

theorem lastSpareOfClass8_inv : lastSpareOfClass8.Inv := by decide

theorem proactivePair_lastSpareOfClass8 : proactivePair lastSpareOfClass8 = some (216, 217) := by decide +kernel

/-- The spare fails its test, and the class is exhausted; SPR.OUT has no bit for class 8 (`noteExhausted`). -/
theorem out_execProactiveStart_lastSpareOfClass8 :
    (match exec (.proactiveStart false) lastSpareOfClass8 with
      | .next t => exhausted t (classOfE 217) && !bit (getF t SPR_OUT) (classOfE 217) | _ => true) = true := by decide +kernel

/- ### A full collector (R432, R434) -/

/-- 256 records of class 4, none of which a later record may replace. -/
def fullFifo : List FaultRec := List.replicate 256 { block := 0, code := 0, cls := 4, unit := 0, stroke := 0, time := 0 }

/-- The Anvil's last line. -/
def lastLine : Nat := anvilEnd - 64

/-- The firewall denies brand 1 the Anvil with class 3, an attestation report to `lastLine` runs, and the collector is full. -/
def reportDeniedWhileFull : State :=
  { State.reset with
    regs := [((FWL_REGION0 2).addr, 0x0FFFFFFF), ((FWL_REGION0 10).addr, 3), ((FWL_TH_SEQ 0).addr, 1)]
    flt := { State.reset.flt with fifo := fullFifo }
    sec := { State.reset.sec with att := some (lastLine, []) }
    pins := { State.reset.pins with safeState := false } }

theorem reportDeniedWhileFull_inv : reportDeniedWhileFull.Inv := by decide

theorem fwDenies_reportDeniedWhileFull (n : Nat) : fwDenies reportDeniedWhileFull 0 1 1 lastLine n = some 3 := by
  have hfind : (List.range 64).find? (fwHits reportDeniedWhileFull 0 lastLine) = some 0 := by decide +kernel
  have hmask : bit (fwMask reportDeniedWhileFull 0 0 1) 0 = false := by decide
  have hclass : bits (fwCtrl reportDeniedWhileFull 0 0) 1 2 = 1 := by decide
  have hslot : slotOf 1 = some 0 := rfl
  unfold fwDenies
  rw [if_neg (by decide), hfind]
  simp [hslot, hmask, hclass]

/-- A report's state when it is written: its free value is drawn and its request taken. -/
def reportTaken (s : State) : State := { (fresh s).2 with sec := { s.sec with att := none } }

/-- The report's first line is denied with a record of class 3; it is lost, and the record of the loss latches SAFE_STATE. -/
theorem safe_storeBrand_reportTaken (bs : List Nat) : (storeBrand (reportTaken reportDeniedWhileFull) 1 lastLine bs).1.pins.safeState = true := by
  have hdenied : fwDenies (reportTaken reportDeniedWhileFull) 0 1 1 lastLine bs.length = some 3 := fwDenies_reportDeniedWhileFull _
  have htarget : targetOf (reportTaken reportDeniedWhileFull) lastLine = some 0 := by decide
  have hlatched : (deny (reportTaken reportDeniedWhileFull) 0 3 1 1 lastLine).pins.safeState = true := by decide +kernel
  simp [storeBrand, htarget, hdenied, hlatched]

/-- A line written is one write. -/
theorem pieces_of_line {w : Nat × List Nat} (ha : w.1 % 64 = 0) (hl : w.2.length ≤ 64) : pieces w = if w.2 = [] then [] else [w] := by
  have hdrop : w.2.drop 64 = [] := List.drop_eq_nil_of_le hl
  simp [pieces, piecesGo, ha, hdrop, List.take_of_length_le hl]

/-- Between the Anvil and the Assay's store lies no target, and a write there does nothing. -/
theorem writeOne_of_noTarget {brand : Nat} {x : State × List (Nat × List Nat)} {p : Nat × List Nat} (hlo : anvilEnd ≤ p.1) (hhi : p.1 < asyBase) :
    (writeOne brand x p).1 = x.1 := by
  have hddr : asyBase < ddrBase := by decide
  have hasy : asyBase < 0x40000000 := by decide
  have htarget : targetOf x.1 p.1 = none := by
    unfold targetOf
    rw [if_neg (by omega), if_neg (by omega), if_neg (by omega), if_neg (by omega)]
  simp [writeOne, storeBrand, htarget]

theorem writes_of_noTarget {brand : Nat} {l : List (Nat × List Nat)} (hl : ∀ p ∈ l, anvilEnd ≤ p.1 ∧ p.1 < asyBase) :
    ∀ x : State × List (Nat × List Nat), (l.foldl (writeOne brand) x).1 = x.1 := by
  induction l with
  | nil => exact fun _ => rfl
  | cons p l ih =>
    intro x
    have hp := hl p List.mem_cons_self
    exact (ih (fun q hq => hl q (List.mem_cons_of_mem _ hq)) _).trans (writeOne_of_noTarget hp.1 hp.2)

/-- A report written from `lastLine` on reaches the Anvil with its first line alone. -/
theorem writesFx_from_lastLine {s : State} {brand : Nat} {r : List Nat} (hr : r ≠ []) :
    writesFx s brand ((List.range 16).map (fun k => (lastLine + 64 * k, (r.drop (64 * k)).take 64))) =
      (storeBrand s brand lastLine (r.take 64)).1 := by
  have hline : ∀ k, pieces (lastLine + 64 * k, (r.drop (64 * k)).take 64) =
      if (r.drop (64 * k)).take 64 = [] then [] else [(lastLine + 64 * k, (r.drop (64 * k)).take 64)] :=
    fun k => pieces_of_line (by show (anvilEnd - 64 + 64 * k) % 64 = 0; unfold anvilEnd; omega) (by rw [List.length_take]; exact Nat.min_le_left _ _)
  have hsplit : List.range 16 = 0 :: List.range' 1 15 := by decide
  unfold writesFx writeAll
  rw [List.flatMap_map, hsplit, List.flatMap_cons, hline 0, if_neg (by simpa using hr), List.foldl_append, writes_of_noTarget]
  · rfl
  · intro p hp
    obtain ⟨k, hk, hmem⟩ := List.mem_flatMap.mp hp
    obtain ⟨hlo, hhi⟩ := List.mem_range'_1.mp hk
    rw [hline k] at hmem
    split at hmem
    · exact absurd hmem (by simp)
    · rw [List.mem_singleton.mp hmem]
      show anvilEnd ≤ anvilEnd - 64 + 64 * k ∧ anvilEnd - 64 + 64 * k < asyBase
      unfold anvilEnd asyBase
      omega

/-- The report's bytes. -/
def reportOf (s : State) (nonce : List Nat) : List Nat := reportBody s nonce ++ signature s.sec s.free (reportBody s nonce)

theorem reportOf_ne_nil (s : State) (nonce : List Nat) : reportOf s nonce ≠ [] := by
  have hhead : ∀ n fs, layout (n + 1) fs ≠ [] := fun n fs => by simp [layout, leBytes]
  unfold reportOf reportBody
  dsimp only
  simp only [List.append_assoc]
  exact List.append_ne_nil_of_left_ne_nil (hhead 143 _) _

/-- The end of a report: its 16 lines are written with brand 1, and DONE is set (R513). -/
theorem execAttestDone_of_request {s : State} {a : Nat} {nonce : List Nat} (h : s.sec.att = some (a, nonce)) :
    exec .attestDone s = .next (setF (setF (writesFx (reportTaken s) 1
      ((List.range 16).map (fun k => (a + 64 * k, ((reportOf s nonce).drop (64 * k)).take 64)))) SEC_ATT_CTRL_BUSY 0) SEC_ATT_CTRL_DONE 1) := by
  change execAttestDone s = _
  simp only [execAttestDone, h]
  rfl

theorem safe_execAttestDone_reportDeniedWhileFull {t : State} (ht : exec .attestDone reportDeniedWhileFull = .next t) :
    t.pins.safeState = true := by
  have hnext := Host.Outcome.next.inj (ht.symm.trans (execAttestDone_of_request (a := lastLine) (nonce := []) rfl))
  rw [hnext, setF_pins, setF_pins, writesFx_from_lastLine (reportOf_ne_nil _ _)]
  exact safe_storeBrand_reportTaken _

/-- The collector is full; the pins are at rest. -/
def sensorsWhileFull : State :=
  { State.reset with flt := { State.reset.flt with fifo := fullFifo }, pins := { State.reset.pins with safeState := false } }

theorem sensorsWhileFull_inv : sensorsWhileFull.Inv := by decide

/-- SAFE_STATE, once high, stays high through a reaction, a record and each part of a sensor update. -/
theorem safe_ite {c : Prop} [Decidable c] {a b : State} (ha : a.pins.safeState = true) (hb : b.pins.safeState = true) :
    (if c then a else b).pins.safeState = true := by
  split
  · exact ha
  · exact hb

theorem safe_foldl {f : State → Nat → State} (hf : ∀ s k, s.pins.safeState = true → (f s k).pins.safeState = true) (l : List Nat) :
    ∀ s : State, s.pins.safeState = true → (l.foldl f s).pins.safeState = true := by
  induction l with
  | nil => exact fun _ h => h
  | cons k l ih => exact fun s h => ih _ (hf s k h)

theorem safe_sendFault {s : State} (h : s.pins.safeState = true) (block code cls unit : Nat) :
    (sendFault s block code cls unit).pins.safeState = true := by
  unfold sendFault pushFault
  refine safe_ite (by exact h) (safe_ite (by exact h) ?_)
  split
  · exact h
  · have hlogged : ∀ r, (logRec (bump s FLT_DROPPED 1) r).pins.safeState = true := fun r => safe_ite (by exact h) (by exact h)
    exact safe_ite (hlogged _) (safe_ite rfl (safe_ite rfl (safe_ite rfl (hlogged _))))

theorem safe_excludeSensor {s : State} (h : s.pins.safeState = true) (k : Nat) : (excludeSensor s k).pins.safeState = true := by
  unfold excludeSensor
  exact safe_sendFault (by exact h) _ _ _ _

theorem safe_failRegion {s : State} (h : s.pins.safeState = true) (r : Nat) : (failRegion s r).pins.safeState = true := by
  unfold failRegion
  exact safe_ite h (safe_sendFault (by exact h) _ _ _ _)

theorem safe_showHottest {s : State} (h : s.pins.safeState = true) (rs : List Int) : (showHottest s rs).pins.safeState = true := by
  unfold showHottest
  split
  · exact h
  · exact safe_ite (by exact h) (by exact h)

theorem safe_takeStep {s : State} (h : s.pins.safeState = true) (n : Nat) : (takeStep s n).pins.safeState = true := by
  unfold takeStep
  exact safe_ite h (safe_sendFault (by exact h) _ _ _ _)

theorem safe_judgeCritical {s : State} (h : s.pins.safeState = true) (rs : List Int) : (judgeCritical s rs).pins.safeState = true := by
  unfold judgeCritical
  have hstep : ∀ u : State, u.pins.safeState = true → (if inService' u then takeStep u 3 else u).pins.safeState = true :=
    fun u hu => safe_ite (safe_takeStep hu 3) hu
  exact safe_ite (by exact h) (safe_ite (hstep _ (by exact h)) (safe_sendFault (hstep _ (by exact h)) _ _ _ _))

theorem safe_judgeThrottle {s : State} (h : s.pins.safeState = true) (t : Int) (now : Nat) : (judgeThrottle s t now).pins.safeState = true := by
  unfold judgeThrottle
  refine safe_ite (by exact h) (safe_ite ?_ (by exact h))
  split
  · exact h
  · exact safe_ite (by exact h) (by exact h)

/-- Once the sensors out of range are excluded, a sensor update lets a latched SAFE_STATE be. -/
theorem safe_execSensorUpdate {s t : State} {at_ : Nat} {rs : List Int} (ht : exec (.sensorUpdate at_ rs) s = .next t)
    (h : (((List.range 64).filter (fun k => validSensor (countThrottled (atTime s at_) at_) k && outOfRange rs k)).foldl excludeSensor
      (countThrottled (atTime s at_) at_)).pins.safeState = true) : t.pins.safeState = true := by
  have hjudged : (judgeSensors (countThrottled (atTime s at_) at_) rs).pins.safeState = true :=
    safe_foldl (fun _ k hk => safe_excludeSensor hk k) _ _ h
  have hshown := safe_foldl (f := showSensor rs) (fun _ _ hk => hk) (List.range 64) _ hjudged
  have hcritical := safe_judgeCritical (safe_showHottest (safe_foldl (fun _ k hk => safe_failRegion hk k) (List.range 9) _ hshown) rs) rs
  change execSensorUpdate at_ rs s = _ at ht
  unfold execSensorUpdate at ht
  dsimp only at ht
  split at ht
  · obtain rfl := Host.Outcome.next.inj ht
    split
    · exact safe_judgeThrottle hcritical _ _
    · exact hcritical
  · obtain rfl := Host.Outcome.next.inj ht
    exact hcritical

/-- A reading of -900 excludes sensor 0 with a record of class 4; it is lost, and the record of the loss latches SAFE_STATE. -/
theorem safe_excludeSensor_sensorsWhileFull :
    (((List.range 64).filter (fun k => validSensor (countThrottled (atTime sensorsWhileFull 0) 0) k && outOfRange [-900] k)).foldl excludeSensor
      (countThrottled (atTime sensorsWhileFull 0) 0)).pins.safeState = true := by decide +kernel

end Sys2Proof.Machine

open Sys2Proof Sys2Proof.Machine

/-- Refutes O42: the cause that starts a retrain ends the count of replays in a row, which is kept beside the registers (R386). -/
theorem not_linksTrainRetrainAndGoDown : ¬ Obligations.LinksTrainRetrainAndGoDown := by
  intro h
  obtain ⟨_, _, _, hretrain, _⟩ := h linkAfterReplay 0 0 0 0 linkAfterReplay_inv (by decide) (by decide)
  obtain ⟨t, ht, _, hparts, _⟩ := hretrain (by decide) rfl
  obtain rfl := Host.Outcome.next.inj (ht.symm.trans (execRetrain_of_up (by decide) (by decide)))
  have hubf : (startRetrain linkAfterReplay 0).ubf = linkAfterReplay.ubf := hparts .ubf (by decide)
  have hzero := replays_startRetrain_linkAfterReplay
  rw [lnk, hubf] at hzero
  exact absurd hzero (by decide)

/-- Refutes O43: a good frame after a bad one writes UBF 0x001, so the collector's part changes too (R385). -/
theorem not_flitsAreCheckedAcknowledgedAndReplayed : ¬ Obligations.FlitsAreCheckedAcknowledgedAndReplayed := by
  intro h
  obtain ⟨_, hgood, _⟩ := h linkAfterBadFrame 0 zeroFrame [] [] linkAfterBadFrame_inv (by decide) (by decide)
  obtain ⟨t, ht, _, _, _, hparts, _⟩ := hgood crc_zeroFrame
  obtain rfl := Host.Outcome.next.inj (ht.symm.trans (execFlitReceive_of_crc (by decide) (by decide) crc_zeroFrame))
  have hflt : (dataFx linkAfterBadFrame 0 (zeroFrame.take 32)).flt = linkAfterBadFrame.flt := hparts .flt (by decide)
  have hfifo := fifo_dataFx_linkAfterBadFrame (zeroFrame.take 32)
  rw [hflt] at hfifo
  exact absurd hfifo (by decide)

/-- Refutes O44: what a task read is counted at the Bellows unit that the task names, and the register of a unit 512 lies in none of the blocks
listed. -/
theorem not_remoteAccessesAreServedAndEnd : ¬ Obligations.RemoteAccessesAreServedAndEnd := by
  intro ⟨_, h⟩
  obtain ⟨_, _, _, hread, _⟩ := h readForUnit512Pending 0 [] [List.replicate 64 0] readForUnit512 copyNamingUnit512
    readForUnit512Pending_inv (by decide) (by decide) (by decide) (by decide)
  obtain ⟨t, ht, _, _, _, _, hblocks⟩ := hread rfl (by decide) rfl rfl (by decide) rfl (by decide)
  obtain rfl := Host.Outcome.next.inj (ht.symm.trans
    (execRdr_of_pending (r := readForUnit512) (by decide) (by decide) (by decide) (by decide)))
  have hsame := hblocks (BLW_U_LINES 512).addr (by decide)
  rw [rd_remoteOk_readForUnit512Pending] at hsame
  exact absurd hsame (by decide)

/-- Refutes O48: the words of group 0 include word 11 of each firewall region, which has no bit of access 2H, and a write of it is not staged. -/
theorem not_twoHandedChanges : ¬ Obligations.TwoHandedChanges := by
  intro h
  obtain ⟨_, hstage, _⟩ := h group0Staging 1 0 group0Staging_inv (by decide) (by decide) (by decide) (by decide)
  obtain ⟨t, ht, _, hfwl, _⟩ := hstage 0x4120002C 0 (by decide +kernel) (by decide) (by decide) (by decide) 0 (by decide +kernel)
  have hstaged := staged_execThStageWrite_group0Staging
  simp only [ht, hfwl] at hstaged
  exact absurd hstaged (by decide)

/-- Refutes O54: golden data that lies where the inbox does counts as a message, and a stale one writes a record (R212). -/
theorem not_theStartReachesFullService : ¬ Obligations.TheStartReachesFullService := by
  intro h
  obtain ⟨hworker, _⟩ := h goldenInInbox 0 0 0 0 [] [] [] goldenInInbox_inv
  obtain ⟨t, ht, _, _, _, _, hparts⟩ := hworker (by decide) (by decide)
  have hflt : t.flt = goldenInInbox.flt := hparts .flt (by decide)
  have hfifo := fifo_execEmberQuickTest_goldenInInbox
  simp only [ht, hflt] at hfifo
  exact absurd hfifo (by decide)

/-- Refutes O56: where the list of the registers is not in its canonical form, which the statement does not ask, the cold reset leaves SAFE. -/
theorem not_bankedReportsAndMaintenance : ¬ Obligations.BankedReportsAndMaintenance := by
  intro h
  obtain ⟨_, _, _, hcold⟩ := h statusListedTwice 0 0 0 0 0 [] []
  obtain ⟨t, ht, _, _, hreset⟩ := hcold (by decide) rfl rfl
  have hsafe := safe_execMaintenanceColdReset_statusListedTwice
  simp only [ht] at hsafe
  exact absurd (hsafe.symm.trans hreset.status.2.1) (by decide)

/-- Refutes O57: class 8 has no bit in SPR.OUT, so a spare of it that fails its test leaves the class exhausted without one (R489). -/
theorem not_wornUnitsAreReplaced : ¬ Obligations.WornUnitsAreReplaced := by
  intro h
  obtain ⟨_, _, _, hstart, _⟩ := h lastSpareOfClass8 0 216 217 0 0 [] [] [] false lastSpareOfClass8_inv
  obtain ⟨_, t, ht, _, _, _, _, _, hout, _⟩ := hstart (by decide) rfl rfl proactivePair_lastSpareOfClass8 (by decide)
  have hnone := out_execProactiveStart_lastSpareOfClass8
  simp only [ht, Bool.and_eq_true, Bool.not_eq_true'] at hnone
  obtain ⟨hexhausted, hbit⟩ := hnone
  exact absurd (hbit.symm.trans (hout hexhausted)) (by decide)

/-- Refutes O58: a report that the firewall denies while the collector is full loses a record, and the record of the loss latches SAFE_STATE. -/
theorem not_attestationDebugAndScan : ¬ Obligations.AttestationDebugAndScan := by
  intro h
  obtain ⟨_, _, hdone, _⟩ := h reportDeniedWhileFull 1 0 reportDeniedWhileFull_inv (by decide)
  obtain ⟨t, ht, _, _, _, _, _, hparts⟩ := hdone (lastLine, []) rfl
  have hpins : t.pins = reportDeniedWhileFull.pins := hparts .pins (by decide)
  exact absurd (congrArg Pins.safeState hpins) (by rw [safe_execAttestDone_reportDeniedWhileFull ht]; decide)

/-- Refutes O59: a sensor update whose record is lost in a full collector latches SAFE_STATE, which is a pin. -/
theorem not_thermalStepsTripsAndPps : ¬ Obligations.ThermalStepsTripsAndPps := by
  intro h
  obtain ⟨hupdate, _⟩ := h sensorsWhileFull 0 0 0 0 [-900] sensorsWhileFull_inv
  obtain ⟨t, ht, _, _, _, _, _, _, _, hparts, _⟩ := hupdate
  have hpins : t.pins = sensorsWhileFull.pins := hparts .pins (by decide)
  exact absurd (congrArg Pins.safeState hpins) (by rw [safe_execSensorUpdate ht safe_excludeSensor_sensorsWhileFull]; decide)

end

section
/-! Failed starts, the watchdog and the software warm request (R443, R457, R458, R472, R473), with the rules by which a frame passes through
a record of the collector, full or not (R431 to R434), and through the journal (R466). -/

namespace Sys2Proof.Machine

set_option Elab.async false

variable {l : List Part} {rs : List Nat} {z s t : State}

/- ### Frames through single components -/

theorem Framed.withFlt (x : Flt) (hl : .flt ∈ l) (h : Framed l rs z s) : Framed l rs z { s with flt := x } :=
  h.parts (fun p hp => by cases p <;> simp_all [SamePart, SameMem, byteAt]) rfl

theorem Framed.withStart (x : Start) (hl : .start ∈ l) (h : Framed l rs z s) : Framed l rs z { s with start := x } :=
  h.parts (fun p hp => by cases p <;> simp_all [SamePart, SameMem, byteAt]) rfl

theorem Framed.withRst (x : Rst) (hl : .rst ∈ l) (h : Framed l rs z s) : Framed l rs z { s with rst := x } :=
  h.parts (fun p hp => by cases p <;> simp_all [SamePart, SameMem, byteAt]) rfl

theorem Framed.withSec (x : Sec) (hl : .sec ∈ l) (h : Framed l rs z s) : Framed l rs z { s with sec := x } :=
  h.parts (fun p hp => by cases p <;> simp_all [SamePart, SameMem, byteAt]) rfl

theorem Framed.withFree (x : Nat) (hl : .free ∈ l) (h : Framed l rs z s) : Framed l rs z { s with free := x } :=
  h.parts (fun p hp => by cases p <;> simp_all [SamePart, SameMem, byteAt]) rfl

/-- A frame weakens to more parts and registers. -/
theorem Framed.mono {l' : List Part} {rs' : List Nat} (hl : ∀ p ∈ l, p ∈ l') (hr : ∀ a ∈ rs, a ∈ rs') (h : Framed l rs z s) : Framed l' rs' z s :=
  ⟨fun p hp => h.1 p fun hin => hp (hl p hin), fun a ha => h.2 a fun hin => ha (hr a hin)⟩

theorem Framed.ite {c : Prop} [Decidable c] (hs : Framed l rs z s) (ht : Framed l rs z t) : Framed l rs z (if c then s else t) := by
  split
  · exact hs
  · exact ht

/- ### Records of the collector (R431 to R434) -/

/-- The registers a record may move: the collector's status, its count of lost records, and the levels of the plan pins (R289, R432, R434). -/
def faultRegs : List Nat := [FLT_STATUS.addr, FLT_DROPPED.addr, ASY_STATUS.addr]

theorem Framed.logRec (r : FaultRec) (hl : .flt ∈ l) (hr : FLT_STATUS.addr ∈ rs) (h : Framed l rs z s) : Framed l rs z (logRec s r) := by
  unfold Machine.logRec
  exact .ite ((h.withFlt _ hl).setF _ hr) ((h.withFlt _ hl).setF _ hr)

theorem Framed.showPins (hr : ASY_STATUS.addr ∈ rs) (h : Framed l rs z s) : Framed l rs z (showPins s) := by
  unfold Machine.showPins
  exact ((h.setF _ (f := ASY_STATUS_SAFE) hr).setF _ (f := ASY_STATUS_LIVE) hr).setF _ (f := ASY_STATUS_FAULT) hr

theorem Framed.latchSafe (hp : .pins ∈ l) (hf : FLT_STATUS.addr ∈ rs) (ha : ASY_STATUS.addr ∈ rs) (h : Framed l rs z s) :
    Framed l rs z (latchSafe s) := by
  unfold Machine.latchSafe
  exact ((h.setF 1 (f := FLT_STATUS_SAFE) hf).withPins _ hp).showPins ha

theorem Framed.reactPlain (k : Nat) (hl : .flt ∈ l) (hp : .pins ∈ l) (hf : FLT_STATUS.addr ∈ rs) (ha : ASY_STATUS.addr ∈ rs) (h : Framed l rs z s) :
    Framed l rs z (reactPlain s k) := by
  have hsafe := h.latchSafe hp hf ha
  unfold Machine.reactPlain
  exact .ite ((h.setF 1 (f := FLT_STATUS_SERVICE) hf).withFlt _ hl) (.ite hsafe (.ite (hsafe.withFlt _ hl) (.ite (hsafe.withFlt _ hl) h)))

/-- A record changes the collector alone, and, where it is lost, what the record of the loss latches (R432, R434). -/
theorem framed_sendFault (s : State) (block code cls unit : Nat) : Framed [.flt, .pins] faultRegs s (sendFault s block code cls unit) := by
  have hdropped : Framed [.flt, .pins] faultRegs s (Machine.bump s FLT_DROPPED 1) := (framed_refl _ _ s).bump 1 (by decide)
  unfold Machine.sendFault pushFault
  refine .ite ((framed_refl _ _ s).withFlt _ (by decide)) (.ite hdropped ?_)
  split
  · exact ((framed_refl _ _ s).withFlt _ (by decide)).bump 1 (by decide)
  · exact (hdropped.logRec _ (by decide) (by decide)).reactPlain _ (by decide) (by decide) (by decide) (by decide)

theorem getF_sendFault {f : Fld} (hf : f.addr ∉ faultRegs) (s : State) (block code cls unit : Nat) :
    getF (sendFault s block code cls unit) f = getF s f := (framed_sendFault s block code cls unit).getF_eq hf

theorem sendFault_start (s : State) (block code cls unit : Nat) : (sendFault s block code cls unit).start = s.start :=
  (framed_sendFault s block code cls unit).1 .start (by decide)

theorem sendFault_rst (s : State) (block code cls unit : Nat) : (sendFault s block code cls unit).rst = s.rst :=
  (framed_sendFault s block code cls unit).1 .rst (by decide)

/- ### The journal and a failed start (R458, R459, R466) -/

theorem mem_putRec (j : List JRec) (r : JRec) : r ∈ putRec j r := by simp [putRec]

theorem getLast_copyRec (c : List JRec) (r : JRec) : (copyRec c r).getLast? = some r := by
  unfold copyRec
  rw [List.getLast?_drop, if_neg (by rw [List.length_append, List.length_singleton]; omega), List.getLast?_append]
  rfl

theorem newestSeq_congr (h : t.start = s.start) : newestSeq t = newestSeq s := by unfold newestSeq; rw [h]

theorem Framed.writeRec (r : JRec) (hl : .start ∈ l) (hr : RST_JOURNAL.addr ∈ rs) (h : Framed l rs z s) : Framed l rs z (writeRec s r) :=
  (h.withStart _ hl).setF _ hr

theorem writeRec_wf (r : JRec) (h : swf resetOf s.regs = true) : swf resetOf (writeRec s r).regs = true := setF_wf _ _ _ h

/-- A record written stands in the journal with the next number (R466). -/
theorem mem_writeRec (s : State) (r : JRec) : { r with rseq := newestSeq s + 1, time := knownTime s } ∈ (writeRec s r).start.journal := mem_putRec _ _

/-- A failed start of a cause but ROLE is its record in the journal, its phase and cause, and one record of the collector. -/
theorem startFails_eq (s : State) {c : Nat} (hc : c ≠ 5) :
    startFails s c = sendFault (setF (setF (writeRec s (thisRec s 3 c)) RST_START_CAUSE c) RST_START_PHASE 14) 0x01 0x006 7 0 := by
  unfold startFails
  dsimp only
  rw [if_neg hc]

section FailedStart

variable {c : Nat} (hc5 : c ≠ 5)
include hc5

theorem phase_startFails (hwf : swf resetOf s.regs = true) : phase (startFails s c) = 14 := by
  rw [startFails_eq s hc5, phase, getF_sendFault (by decide)]
  exact getF_setF_same _ _ _ (setF_wf _ _ _ (writeRec_wf _ hwf)) (by decide)

theorem cause_startFails (hwf : swf resetOf s.regs = true) (hc : c < 256) : getF (startFails s c) RST_START_CAUSE = c := by
  rw [startFails_eq s hc5, getF_sendFault (by decide), getF_setF_beside _ RST_START_PHASE RST_START_CAUSE _ (setF_wf _ _ _ (writeRec_wf _ hwf)) (by decide) rfl (by decide),
    getF_setF_same _ _ _ (writeRec_wf _ hwf) (by decide)]
  exact Nat.mod_eq_of_lt hc

theorem journal_startFails (s : State) :
    (startFails s c).start.journal.any (fun r => r.typ == 3 && r.cause == c && r.rseq == newestSeq s + 1) = true := by
  rw [startFails_eq s hc5, sendFault_start]
  exact List.any_eq_true.mpr ⟨_, mem_writeRec s (thisRec s 3 c), by simp [thisRec]⟩

theorem fifo_startFails (hq : s.flt.fifo.length < 256) : (startFails s c).flt.fifo = s.flt.fifo ++ [mkRec s 0x01 0x006 7 0] := by
  rw [startFails_eq s hc5]
  exact sendFault_fifo_from _ _ _ _ hq

theorem Framed.startFails (hs : .start ∈ l) (hf : .flt ∈ l) (hr : RST_START.addr ∈ rs) (hj : RST_JOURNAL.addr ∈ rs) (hq : s.flt.fifo.length < 256)
    (h : Framed l rs z s) : Framed l rs z (startFails s c) := by
  rw [startFails_eq s hc5]
  exact (((h.writeRec _ hs hj).setF c (f := RST_START_CAUSE) hr).setF 14 (f := RST_START_PHASE) hr).sendFault _ _ _ _ hq hf

theorem mode_startFails (s : State) : mode (startFails s c) = mode s := by
  rw [startFails_eq s hc5, mode, getF_sendFault (by decide), getF_setF_other _ _ _ _ (by decide), getF_setF_other _ _ _ _ (by decide)]
  exact getF_setF_other _ _ _ _ (by decide)

/-- A start that fails, as the statements say it (R458). -/
theorem startFailed_startFails (hwf : swf resetOf s.regs = true) (hc : c < 256) : StartFailed s (startFails s c) c [] where
  shown := ⟨phase_startFails hc5 hwf, cause_startFails hc5 hwf hc, mode_startFails hc5 s⟩
  record := journal_startFails hc5 s
  fault hq := by rw [fifo_startFails hc5 (by omega)]; exact List.getLast?_concat ..
  frame hq := (framed_refl _ _ s).startFails hc5 (by decide) (by decide) (by decide) (by decide) (by omega)

end FailedStart

/- ### The watchdog and the software warm request (R472, R473) -/

theorem execStartFail_of_starting {c : Nat} (hs : starting s = true) (h1 : 1 ≤ c) (h2 : c ≤ 0x0C) : exec (.startFail c) s = .next (startFails s c) := by
  change execStartFail c s = _
  simp [execStartFail, hs, h1, h2]

theorem execStartTimeout_of_starting (hs : starting s = true) : exec .startTimeout s = .next (startFails s 0x0B) := by
  change execStartTimeout s = _
  simp [execStartTimeout, hs]

theorem execWdogKick_of_granted {brand : Nat} (value : Nat) (hg : fwDenies s 2 brand 1 RST_WDOG_KICK.addr 4 = none) :
    exec (.wdogKick brand value) s = .next (kick s brand value) := congrArg Host.Outcome.next (guarded_granted s brand 1 _ _ hg)

theorem execSwWarmReq_of_granted {brand : Nat} (value : Nat) (hg : fwDenies s 2 brand 1 RST_SW_REQ.addr 4 = none) :
    exec (.swWarmReq brand value) s = .next (warmRequest s brand value) := congrArg Host.Outcome.next (guarded_granted s brand 1 _ _ hg)

theorem execWdogExpire_of_armed (ha : s.start.wdogArmed = true) : exec .wdogExpire s = .next (sendFault s 0x01 0x002 6 0) := by
  change execWdogExpire s = _
  simp [execWdogExpire, ha]

end Sys2Proof.Machine

open Sys2Proof Sys2Proof.Machine

/-- Settles O55: a failed start is `startFailed_startFails`, and the watchdog and the warm request write the time of a kick or one record. -/
theorem failedStartsAndTheWatchdogAreRecorded : Obligations.FailedStartsAndTheWatchdogAreRecorded := by
  refine ⟨fun s c hi hs hq => ⟨fun h1 h2 h5 => ?_, ?_⟩, fun s brand value hq hkick hreq => ⟨fun hb => ?_, fun hv => ?_, fun hb hen => ?_, fun hen => ?_, fun ha => ?_⟩⟩
  · exact ⟨_, execStartFail_of_starting hs h1 h2, startFailed_startFails h5 hi.1 (by omega), fifo_startFails h5 hq⟩
  · exact ⟨_, execStartTimeout_of_starting hs, startFailed_startFails (by decide) hi.1 (by decide), fifo_startFails (by decide) hq⟩
  · have hkicked : kick s brand 0x4B49434B = answer { s with start := { s.start with wdogAt := s.time } } .ok := if_pos ⟨hb, rfl⟩
    exact ⟨_, execWdogKick_of_granted _ hkick, by rw [hkicked]; rfl, by rw [hkicked]; rfl,
      by rw [hkicked]; exact ((framed_refl _ _ s).withStart _ (by decide)).answer _⟩
  · have hrefused : kick s brand value = answer s .error := if_neg fun h => hv h.2
    exact ⟨_, execWdogKick_of_granted _ hkick, by rw [hrefused]; rfl, by rw [hrefused]; exact (framed_refl _ _ s).answer _⟩
  · have hasked : warmRequest s brand 0x5741524D = answer (sendFault s 0x01 0x003 6 0) .ok := if_pos ⟨hb, rfl, hen⟩
    exact ⟨_, execSwWarmReq_of_granted _ hreq, by rw [hasked]; rfl, by rw [hasked]; exact sendFault_fifo _ _ _ _ hq,
      by rw [hasked]; exact ((framed_refl _ _ s).sendFault _ _ _ _ hq (by decide)).answer _⟩
  · have hrefused : warmRequest s brand value = answer s .error := if_neg fun h => by simp [hen] at h
    exact ⟨_, execSwWarmReq_of_granted _ hreq, by rw [hrefused]; rfl, by rw [hrefused]; exact (framed_refl _ _ s).answer _⟩
  · exact ⟨_, execWdogExpire_of_armed ha, sendFault_fifo _ _ _ _ hq, (framed_refl _ _ s).sendFault _ _ _ _ hq (by decide)⟩

end

section
/-! The collector (R431 to R436): a record that is queued, replaced or lost, what the collector's oldest record leaves, and the cold
escalation with the state that a cold reset leaves (R441, R444). -/

namespace Sys2Proof.Machine

set_option Elab.async false

variable {z s t : State}

/- ### The registers a reset keeps (R443, R444) -/

theorem sget_filter_key {α : Type} (d : Nat → α) (f : Nat → Bool) (m : List (Nat × α)) (a : Nat) :
    sget d (m.filter fun p => f p.1) a = if f a then sget d m a else d a := by
  induction m with
  | nil => simp [sget]
  | cons p m ih =>
    obtain ⟨b, w⟩ := p
    by_cases hb : f b = true
    · rw [List.filter_cons_of_pos (by exact hb), sget, sget, ih]
      by_cases hab : a = b
      · simp [hab, hb]
      · simp [hab]
    · rw [List.filter_cons_of_neg (by exact hb), sget, ih]
      by_cases hab : a = b
      · simp [hab, hb]
      · simp [hab]

/-- A kept register reads as before, and every other one its reset value. -/
theorem rd_of_keepRegs {f : Nat → Bool} (h : t.regs = keepRegs s f) (a : Nat) : rd t a = if f a then rd s a else (resetOf a).toNat := by
  unfold rd
  rw [h, keepRegs, sget_filter_key]
  split <;> rfl

theorem keepRegs_wf {f : Nat → Bool} (h : swf resetOf s.regs = true) : swf resetOf (keepRegs s f) = true := swf_filter _ _ _ h

/-- The registers of a cold reset before the collector's status is written. -/
def coldRegs (s : State) : State := { s with regs := keepRegs s coldKeeps }

theorem coldRegs_wf (h : swf resetOf s.regs = true) : swf resetOf (coldRegs s).regs = true := keepRegs_wf h

theorem getF_coldState (s : State) (f : Fld) :
    getF (coldState s) f = getF (setF (setF (setF (coldRegs s) FLT_STATUS_RING_WR 16) FLT_STATUS_SAFE 0) FLT_STATUS_SERVICE 0) f :=
  getF_congr rfl f

theorem rd_coldState_other (s : State) {a : Nat} (ha : a ≠ FLT_STATUS.addr) : rd (coldState s) a = if coldKeeps a then rd s a else (resetOf a).toNat := by
  unfold coldState
  dsimp only
  rw [rd_setF_other _ FLT_STATUS_SERVICE _ _ ha, rd_setF_other _ FLT_STATUS_SAFE _ _ ha, rd_setF_other _ FLT_STATUS_RING_WR _ _ ha]
  exact rd_of_keepRegs rfl a

section ColdStatus

variable (h : swf resetOf s.regs = true)
include h

theorem coldStatus_wf : swf resetOf (setF (coldRegs s) FLT_STATUS_RING_WR 16).regs = true ∧
    swf resetOf (setF (setF (coldRegs s) FLT_STATUS_RING_WR 16) FLT_STATUS_SAFE 0).regs = true :=
  ⟨setF_wf _ _ _ (coldRegs_wf h), setF_wf _ _ _ (setF_wf _ _ _ (coldRegs_wf h))⟩

theorem getF_coldState_ringWr : getF (coldState s) FLT_STATUS_RING_WR = 16 := by
  obtain ⟨hw1, hw2⟩ := coldStatus_wf h
  rw [getF_coldState, getF_setF_beside _ FLT_STATUS_SERVICE FLT_STATUS_RING_WR _ hw2 (by decide) rfl (by decide),
    getF_setF_beside _ FLT_STATUS_SAFE FLT_STATUS_RING_WR _ hw1 (by decide) rfl (by decide)]
  exact getF_setF_same _ _ _ (coldRegs_wf h) (by decide)

theorem flag_coldState_safe : flag (coldState s) FLT_STATUS_SAFE = false := by
  obtain ⟨hw1, hw2⟩ := coldStatus_wf h
  rw [flag, getF_coldState, getF_setF_beside _ FLT_STATUS_SERVICE FLT_STATUS_SAFE _ hw2 (by decide) rfl (by decide),
    getF_setF_same _ FLT_STATUS_SAFE _ hw1 (by decide)]
  rfl

theorem flag_coldState_service : flag (coldState s) FLT_STATUS_SERVICE = false := by
  rw [flag, getF_coldState, getF_setF_same _ FLT_STATUS_SERVICE _ (coldStatus_wf h).2 (by decide)]
  rfl

theorem getF_coldState_first : getF (coldState s) FLT_STATUS_FIRST = getF s FLT_STATUS_FIRST := by
  obtain ⟨hw1, hw2⟩ := coldStatus_wf h
  rw [getF_coldState, getF_setF_beside _ FLT_STATUS_SERVICE FLT_STATUS_FIRST _ hw2 (by decide) rfl (by decide),
    getF_setF_beside _ FLT_STATUS_SAFE FLT_STATUS_FIRST _ hw1 (by decide) rfl (by decide),
    getF_setF_beside _ FLT_STATUS_RING_WR FLT_STATUS_FIRST _ (coldRegs_wf h) (by decide) rfl (by decide), getF, getF]
  exact congrArg (bits · _ _) (rd_of_keepRegs (s := s) (t := coldRegs s) (f := coldKeeps) rfl FLT_STATUS_FIRST.addr)

/-- The model's cold reset is the one the statements describe, whatever the episode. -/
theorem coldReset_coldState (r : Rst) : ColdReset s { coldState s with rst := r } where
  regs _ ha := rd_coldState_other s ha
  status := ⟨getF_coldState_ringWr h, flag_coldState_safe h, flag_coldState_service h, getF_coldState_first h⟩
  stroke := ⟨rfl, rfl, rfl, rfl, rfl⟩
  engines := ⟨rfl, rfl, rfl, rfl, rfl, rfl, rfl⟩
  memory := ⟨rfl, rfl, rfl, rfl, rfl⟩
  lasting := ⟨rfl, rfl, rfl, rfl, rfl⟩
  rest := ⟨rfl, rfl, rfl, rfl⟩

end ColdStatus

/-- A source of reach 4 that begins an episode resets the device cold (R445). -/
theorem assertSource_cold (s : State) (cause : Nat) (h : s.rst.reach = 0) :
    assertSource s cause 4 =
      { coldState s with rst := { s.rst with reach := 4, causes := setBits 0 cause 1 1, released := false, counted := 0 } } := by
  unfold assertSource
  simp [h, resetTo]
  rfl

/- ### A record that finds the collector full (R432) -/

theorem replaceNewest_length {l q : List FaultRec} {r : FaultRec} (h : replaceNewest l r = some q) : q.length = l.length := by
  induction l generalizing q with
  | nil => simp [replaceNewest] at h
  | cons p l ih =>
    rw [replaceNewest] at h
    split at h
    next l' hl =>
      obtain rfl := Option.some.inj h
      simp [ih hl]
    next =>
      split at h
      · obtain rfl := Option.some.inj h
        simp
      · cases h

theorem sendFault_of_dropped {block code cls unit : Nat} (hq : 256 ≤ s.flt.fifo.length) (hc : cls ≤ 1) :
    sendFault s block code cls unit = bump s FLT_DROPPED 1 := by
  have hcls : cls % 16 ≤ 1 := by omega
  unfold sendFault pushFault
  rw [if_neg (by omega), if_pos (by exact hcls)]

theorem sendFault_of_replaced {block code cls unit : Nat} {q : List FaultRec} (hq : 256 ≤ s.flt.fifo.length) (h1 : 1 < cls) (h16 : cls < 16)
    (h : replaceNewest s.flt.fifo (mkRec s block code cls unit) = some q) :
    sendFault s block code cls unit = bump { s with flt := { s.flt with fifo := q } } FLT_DROPPED 1 := by
  have hcls : ¬ cls % 16 ≤ 1 := by omega
  unfold sendFault pushFault
  rw [if_neg (by omega), if_neg (by exact hcls), h]

/- ### The collector's oldest record (R432 to R436) -/

/-- The collector without its oldest record. -/
def fifoRest (s : State) (rest : List FaultRec) : State := { s with flt := { s.flt with fifo := rest } }

theorem execFaultAccept_of_first {r : FaultRec} {rest : List FaultRec} (h : s.flt.fifo = r :: rest) :
    exec .faultAccept s = .next (react (logRec (fifoRest s rest) r) r (reactionOf s r)) := by
  change execFaultAccept s = _
  unfold execFaultAccept acceptFault
  rw [h]
  rfl

theorem logRec_of_room {r : FaultRec} (h : getF s FLT_STATUS_FIRST < 16) :
    logRec s r = setF { s with flt := { s.flt with first := s.flt.first ++ [r] } } FLT_STATUS_FIRST (getF s FLT_STATUS_FIRST + 1) := if_pos h

theorem logRec_of_full {r : FaultRec} (h : ¬ getF s FLT_STATUS_FIRST < 16) :
    logRec s r = setF { s with flt := { s.flt with ring := s.flt.ring.filter (·.1 ≠ getF s FLT_STATUS_RING_WR) ++ [(getF s FLT_STATUS_RING_WR, r)] } }
      FLT_STATUS_RING_WR (if getF s FLT_STATUS_RING_WR ≥ 63 then 16 else getF s FLT_STATUS_RING_WR + 1) := if_neg h

theorem logRec_fifo (s : State) (r : FaultRec) : (logRec s r).flt.fifo = s.flt.fifo := by
  unfold logRec
  split <;> rfl

theorem logRec_wf (r : FaultRec) (h : swf resetOf s.regs = true) : swf resetOf (logRec s r).regs = true := by
  unfold logRec
  split
  · exact setF_wf _ _ _ h
  · exact setF_wf _ _ _ h

theorem framed_logRec_fifoRest (s : State) (rest : List FaultRec) (r : FaultRec) : Framed [.flt] [FLT_STATUS.addr] s (logRec (fifoRest s rest) r) :=
  ((framed_refl _ _ s).withFlt _ (by decide)).logRec _ (by decide) (by decide)

theorem logRec_pins (s : State) (rest : List FaultRec) (r : FaultRec) : (logRec (fifoRest s rest) r).pins = s.pins :=
  (framed_logRec_fifoRest s rest r).1 .pins (by decide)

theorem react_zero (s : State) (r : FaultRec) : react s r 0 = s := by simp [react, reactPlain]

theorem react_service (s : State) (r : FaultRec) :
    react s r 3 = { setF s FLT_STATUS_SERVICE 1 with flt := { s.flt with serviceIrq := true } } := by simp [react, reactPlain]

theorem react_safe (s : State) (r : FaultRec) : react s r 4 = latchSafe s := by simp [react, reactPlain]

theorem react_cold (s : State) (r : FaultRec) : react s r 6 = reactCold s r := by simp [react]

/-- SAFE shows once it is latched. -/
theorem flag_latchSafe (h : swf resetOf s.regs = true) : flag (latchSafe s) FLT_STATUS_SAFE = true := by
  rw [flag, latchSafe, showPins, getF_setF_other _ _ _ _ (by decide), getF_setF_other _ _ _ _ (by decide), getF_setF_other _ _ _ _ (by decide)]
  exact beq_iff_eq.mpr (getF_setF_same s FLT_STATUS_SAFE 1 h (by decide))

theorem execClrFirst_of_granted {brand : Nat} (hg : fwDenies s 2 brand 1 FLT_CTRL.addr 4 = none) (h1 : 1 ≤ brand) (h4 : brand ≤ 4) :
    exec (.clrFirst brand) s = .next (answer (setF { s with flt := { s.flt with first := [] } } FLT_STATUS_FIRST 0) .ok) :=
  congrArg Host.Outcome.next ((guarded_granted s brand 1 _ _ hg).trans (if_pos ⟨h1, h4⟩))

theorem execColdEscalate_of_pending (hp : s.flt.coldPending = true) :
    exec .coldEscalate s = .next (assertSource s (if bit s.flt.coldCauses 7 && !bit s.flt.coldCauses 6 then 7 else 6) 4) := by
  change execColdEscalate s = _
  simp [execColdEscalate, hp]

/-- A record of an accepted one in the first area (R432). -/
theorem execFaultAccept_firstRoom {r : FaultRec} {rest : List FaultRec} (hwf : swf resetOf s.regs = true) (hf : s.flt.fifo = r :: rest)
    (hk : reactionOf s r = 0) (hroom : getF s FLT_STATUS_FIRST < 16) :
    ∃ t, exec .faultAccept s = .next t ∧ t.flt = { s.flt with fifo := rest, first := s.flt.first ++ [r] } ∧
      getF t FLT_STATUS_FIRST = getF s FLT_STATUS_FIRST + 1 ∧ Framed [.flt] [FLT_STATUS_FIRST.addr] s t := by
  have hlog : logRec (fifoRest s rest) r = _ := logRec_of_room (s := fifoRest s rest) hroom
  refine ⟨_, execFaultAccept_of_first hf, ?_⟩
  rw [hk, react_zero]
  refine ⟨by rw [hlog]; rfl, ?_, framed_logRec_fifoRest s rest r⟩
  rw [hlog, getF_setF_same _ FLT_STATUS_FIRST _ (by exact hwf) (by decide)]
  exact Nat.mod_eq_of_lt (show getF s FLT_STATUS_FIRST + 1 < 2 ^ 5 by omega)

/-- An accepted record with the first area full enters the ring (R432). -/
theorem execFaultAccept_ring {r : FaultRec} {rest : List FaultRec} (hwf : swf resetOf s.regs = true) (hf : s.flt.fifo = r :: rest)
    (hk : reactionOf s r = 0) (hfull : getF s FLT_STATUS_FIRST = 16) :
    ∃ t, exec .faultAccept s = .next t ∧ (getF s FLT_STATUS_RING_WR, r) ∈ t.flt.ring ∧
      (∀ p ∈ s.flt.ring, p.1 ≠ getF s FLT_STATUS_RING_WR → p ∈ t.flt.ring) ∧ t.flt.first = s.flt.first ∧ t.flt.fifo = rest ∧
      getF t FLT_STATUS_RING_WR = (if getF s FLT_STATUS_RING_WR ≥ 63 then 16 else getF s FLT_STATUS_RING_WR + 1) ∧
      Framed [.flt] [FLT_STATUS_SAFE.addr] s t := by
  have hlog : logRec (fifoRest s rest) r = _ := logRec_of_full (s := fifoRest s rest) (by show ¬ getF s FLT_STATUS_FIRST < 16; omega)
  refine ⟨_, execFaultAccept_of_first hf, ?_⟩
  rw [hk, react_zero]
  refine ⟨?_, fun p hp hne => ?_, by rw [hlog]; rfl, logRec_fifo _ _, ?_, framed_logRec_fifoRest s rest r⟩
  · rw [hlog]
    exact List.mem_append_right _ (List.mem_singleton_self _)
  · rw [hlog]
    exact List.mem_append_left _ (List.mem_filter.mpr ⟨hp, decide_eq_true (by exact hne)⟩)
  · rw [hlog, getF_setF_same _ FLT_STATUS_RING_WR _ (by exact hwf) (by decide)]
    refine Nat.mod_eq_of_lt ?_
    show (if getF s FLT_STATUS_RING_WR ≥ 63 then 16 else getF s FLT_STATUS_RING_WR + 1) < 2 ^ 6
    split <;> omega

end Sys2Proof.Machine

open Sys2Proof Sys2Proof.Machine

/-- Settles O49: a record is queued, dropped or replaces another (`sendFault_of_dropped`, `sendFault_of_replaced`); the oldest is logged
(`logRec`) and its reaction applies; the cold escalation is `assertSource_cold`. -/
theorem recordsAreCollectedAndReactedTo : Obligations.RecordsAreCollectedAndReactedTo := by
  refine ⟨fun s block code cls unit hi => ⟨fun hq => ?_, fun hq hc => ?_, fun q hq h1 h16 hr => ?_⟩,
    fun s brand hi => ⟨fun r rest hf hk hroom => execFaultAccept_firstRoom hi.1 hf hk hroom,
      fun r rest hf hk hfull => execFaultAccept_ring hi.1 hf hk hfull, fun r rest hf hk => ?_, fun r rest hf hk => ?_, fun r rest hf hk => ?_,
      fun hp hr => ?_, fun hg h1 h4 => ?_⟩⟩
  · exact ⟨_, rfl, by rw [sendFault_eq _ _ _ _ _ hq], (framed_refl _ _ s).sendFault _ _ _ _ hq (by decide)⟩
  · refine ⟨_, congrArg Host.Outcome.next (sendFault_of_dropped hq hc), rfl, getF_bump_same s FLT_DROPPED 1 hi.1 (by decide),
      (framed_refl _ _ s).bump 1 (by decide)⟩
  · refine ⟨_, congrArg Host.Outcome.next (sendFault_of_replaced hq h1 h16 hr), rfl, replaceNewest_length hr,
      getF_bump_same { s with flt := { s.flt with fifo := q } } FLT_DROPPED 1 hi.1 (by decide),
      ((framed_refl _ _ s).withFlt _ (by decide)).bump 1 (by decide)⟩
  · refine ⟨_, execFaultAccept_of_first hf, ?_⟩
    have hlogged := framed_logRec_fifoRest s rest r
    rw [hk, react_service]
    exact ⟨beq_iff_eq.mpr (getF_setF_same _ FLT_STATUS_SERVICE 1 (logRec_wf (s := fifoRest s rest) r hi.1) (by decide)), rfl, logRec_fifo _ _,
      (hlogged.setF 1 (f := FLT_STATUS_SERVICE) (by decide)).withFlt _ (by decide)⟩
  · refine ⟨_, execFaultAccept_of_first hf, ?_⟩
    have hlogged : Framed [.flt, .pins] [FLT_STATUS.addr, ASY_STATUS.addr] s (logRec (fifoRest s rest) r) :=
      (framed_logRec_fifoRest s rest r).mono (by simp) (by simp)
    rw [hk, react_safe]
    exact ⟨flag_latchSafe (logRec_wf (s := fifoRest s rest) r hi.1),
      congrArg (fun p : Pins => { p with safeState := true, faultN := false }) (logRec_pins s rest r), logRec_fifo _ _,
      hlogged.latchSafe (by decide) (by decide) (by decide)⟩
  · refine ⟨_, execFaultAccept_of_first hf, ?_⟩
    have hlogged : Framed [.flt, .pins] [FLT_STATUS.addr, ASY_STATUS.addr] s (logRec (fifoRest s rest) r) :=
      (framed_logRec_fifoRest s rest r).mono (by simp) (by simp)
    rw [hk, react_cold]
    exact ⟨flag_latchSafe (logRec_wf (s := fifoRest s rest) r hi.1), rfl,
      congrArg (fun p : Pins => { p with safeState := true, faultN := false }) (logRec_pins s rest r), logRec_fifo _ _,
      (hlogged.reactPlain 6 (by decide) (by decide) (by decide) (by decide)).withFlt _ (by decide)⟩
  · refine ⟨_, (execColdEscalate_of_pending hp).trans (congrArg Host.Outcome.next (assertSource_cold s _ hr)), rfl, rfl, ?_, rfl, ?_⟩
    · show setBits 0 (if bit s.flt.coldCauses 7 && !bit s.flt.coldCauses 6 then 7 else 6) 1 1 = _
      split <;> rfl
    · exact coldReset_coldState hi.1 _
  · exact ⟨_, execClrFirst_of_granted hg h1 h4, rfl, rfl, getF_setF_same { s with flt := { s.flt with first := [] } } FLT_STATUS_FIRST 0 hi.1 (by decide),
      (((framed_refl _ _ s).withFlt _ (by decide)).setF 0 (f := FLT_STATUS_FIRST) (by decide)).answer _⟩

end

section
/-! Reset episodes (R444 to R448, R456): the state a warm reset leaves, the pins, the loss of power, and the release. -/

namespace Sys2Proof.Machine

set_option Elab.async false

variable {l : List Part} {rs : List Nat} {z s t : State}

/- ### Flags -/

theorem flag_setF_one {f : Fld} (h : swf resetOf s.regs = true) (hf : f.lo + f.w ≤ 32) (hw : f.w = 1) : flag (setF s f 1) f = true := by
  rw [flag, getF_setF_same s f 1 h hf, hw]
  rfl

theorem flag_setF_b2n {f : Fld} (b : Bool) (h : swf resetOf s.regs = true) (hf : f.lo + f.w ≤ 32) (hw : f.w = 1) : flag (setF s f (b2n b)) f = b := by
  rw [flag, getF_setF_same s f _ h hf, hw]
  cases b <;> rfl

theorem flag_setF_other {f g : Fld} (v : Nat) (h : g.addr ≠ f.addr) : flag (setF s f v) g = flag s g := by
  rw [flag, getF_setF_other s f g v h, flag]

theorem Framed.flag_eq {f : Fld} (h : Framed l rs s t) (hf : f.addr ∉ rs) : flag t f = flag s f := by rw [flag, h.getF_eq hf, flag]

theorem getF_of_rd {f : Fld} (h : rd t f.addr = rd s f.addr) : getF t f = getF s f := by rw [getF, h, getF]

/- ### Self-refresh of the channels in use (R447) -/

/-- The listed channels refresh themselves. -/
def selfRefresh (s : State) (cs : List Nat) : State := cs.foldl (fun s c => setF s (DDR_CH_STATUS_SELF_REFRESH c) 1) s

/-- Only registers change. -/
theorem selfRefresh_eq (s : State) (cs : List Nat) : selfRefresh s cs = { s with regs := (selfRefresh s cs).regs } := by
  induction cs generalizing s with
  | nil => rfl
  | cons c cs ih => exact ih (setF s (DDR_CH_STATUS_SELF_REFRESH c) 1)

theorem selfRefresh_wf (cs : List Nat) (h : swf resetOf s.regs = true) : swf resetOf (selfRefresh s cs).regs = true := by
  induction cs generalizing s with
  | nil => exact h
  | cons c cs ih => exact ih (setF_wf s _ _ h)

theorem rd_selfRefresh_other (cs : List Nat) {a : Nat} (ha : ∀ c ∈ cs, a ≠ (DDR_CH_STATUS_SELF_REFRESH c).addr) : rd (selfRefresh s cs) a = rd s a := by
  induction cs generalizing s with
  | nil => rfl
  | cons c cs ih =>
    exact (ih (s := setF s _ 1) fun x hx => ha x (List.mem_cons_of_mem _ hx)).trans (rd_setF_other s _ _ _ (ha c List.mem_cons_self))

theorem flag_selfRefresh (cs : List Nat) (c : Nat) (h : swf resetOf s.regs = true) :
    flag (selfRefresh s cs) (DDR_CH_STATUS_SELF_REFRESH c) = (cs.contains c || flag s (DDR_CH_STATUS_SELF_REFRESH c)) := by
  induction cs generalizing s with
  | nil => simp [selfRefresh]
  | cons x cs ih =>
    refine (ih (s := setF s (DDR_CH_STATUS_SELF_REFRESH x) 1) (setF_wf s _ _ h)).trans ?_
    by_cases hx : c = x
    · subst hx
      rw [flag_setF_one h (by show 2 + 1 ≤ 32; decide) rfl]
      simp
    · have haddr : (DDR_CH_STATUS_SELF_REFRESH c).addr ≠ (DDR_CH_STATUS_SELF_REFRESH x).addr := by
        show 0x41500000 + c * 0x1000 ≠ 0x41500000 + x * 0x1000
        omega
      rw [flag_setF_other 1 haddr]
      simp [hx]

/- ### The state a warm reset leaves (R441, R444, R447) -/

/-- A warm reset before the registers that show it are written. -/
def warmBase (s : State) : State :=
  { regs := keepRegs s warmKeeps, mem := ddrMem s.mem, aonTime := s.aonTime, bell := { targetFixed := s.bell.targetFixed }
    pln := { sent := s.pln.sent, canTx0 := s.pln.canTx0, canTx1 := s.pln.canTx1, eth := s.pln.eth, cfg := s.pln.cfg, seq := s.pln.seq, stroke := s.pln.stroke }
    ddr := warmDdr s, rst := s.rst, start := keptStart s false, spr := keptSpr s
    flt := { s.flt with warmPending := false, coldPending := false, warmCauses := 0, coldCauses := 0, serviceIrq := false }
    sec := keptSec s, pins := heldPins s s.pins.safeState true, resp := s.resp, free := s.free, pending := s.pending }

/-- A warm reset with the channels in use refreshing themselves. -/
def warmRefreshed (s : State) : State := selfRefresh (warmBase s) (bitList 6 (getF s DDR_MAP_ACTIVE))

/-- The registers that a warm reset writes. -/
def warmShow (s u : State) : State :=
  setF (setF (setF (setF u UBF_NODE_CFG_EXP 0) BEL_CFG_MANAGER (getF s BEL_CFG_MANAGER)) FLT_STATUS_SAFE 0) FLT_STATUS_SERVICE 0

theorem warmState_eq (s : State) : warmState s = warmShow s (warmRefreshed s) := rfl

/-- Beside the registers, a warm reset is its base. -/
theorem warmState_parts (s : State) : warmState s = { warmBase s with regs := (warmState s).regs } := by
  rw [warmState_eq, warmRefreshed, selfRefresh_eq]
  rfl

theorem rd_warmShow_other (s u : State) {a : Nat} (ha : a ∉ [FLT_STATUS.addr, UBF_NODE_CFG.addr, BEL_CFG.addr]) : rd (warmShow s u) a = rd u a := by
  simp only [List.mem_cons, List.not_mem_nil, or_false, not_or] at ha
  obtain ⟨hflt, hcfg, hbel⟩ := ha
  rw [warmShow, rd_setF_other _ FLT_STATUS_SERVICE _ _ hflt, rd_setF_other _ FLT_STATUS_SAFE _ _ hflt, rd_setF_other _ BEL_CFG_MANAGER _ _ hbel,
    rd_setF_other _ UBF_NODE_CFG_EXP _ _ hcfg]

theorem selfRefresh_addr {cs : List Nat} {a : Nat} (ha : a < 0x41500000 ∨ 0x41600000 ≤ a) (hcs : ∀ c ∈ cs, c < 6) :
    ∀ c ∈ cs, a ≠ (DDR_CH_STATUS_SELF_REFRESH c).addr := fun c hc => by
  have := hcs c hc
  show a ≠ 0x41500000 + c * 0x1000
  omega

theorem bitList_lt {n m c : Nat} (h : c ∈ bitList n m) : c < n := List.mem_range.mp (List.mem_filter.mp h).1

/-- The registers of a warm reset before those that show it: the kept ones, and the channels' self-refresh. -/
theorem rd_warmRefreshed {a : Nat} (ha : a < 0x41500000 ∨ 0x41600000 ≤ a) :
    rd (warmRefreshed s) a = if warmKeeps a then rd s a else (resetOf a).toNat :=
  (rd_selfRefresh_other _ (selfRefresh_addr ha fun _ hc => bitList_lt hc)).trans (rd_of_keepRegs rfl a)

theorem rd_warmState {a : Nat}
    (ha : a ∉ [FLT_STATUS.addr, UBF_NODE_CFG.addr, BEL_CFG.addr] ++ (List.range 6).map (fun c => (DDR_CH_STATUS_SELF_REFRESH c).addr)) :
    rd (warmState s) a = if warmKeeps a then rd s a else (resetOf a).toNat := by
  rw [List.mem_append, not_or] at ha
  rw [warmState_eq, rd_warmShow_other _ _ ha.1, warmRefreshed,
    rd_selfRefresh_other _ fun c hc e => ha.2 (List.mem_map.mpr ⟨c, List.mem_range.mpr (bitList_lt hc), e.symm⟩)]
  exact rd_of_keepRegs rfl a

/-- A field of a kept register outside the DDR block before the registers that show the reset are written. -/
theorem getF_warmRefreshed (f : Fld) (hk : warmKeeps f.addr = true) (ha : f.addr < 0x41500000 ∨ 0x41600000 ≤ f.addr) :
    getF (warmRefreshed s) f = getF s f :=
  getF_of_rd (by rw [rd_warmRefreshed ha, if_pos hk])

section WarmReset

variable (h : swf resetOf s.regs = true)
include h

theorem warmRefreshed_wf : swf resetOf (warmRefreshed s).regs = true :=
  selfRefresh_wf _ (keepRegs_wf (s := s) h)

theorem flag_warmState_selfRefresh {c : Nat} (hc : c < 6) : flag (warmState s) (DDR_CH_STATUS_SELF_REFRESH c) =
    (bit (getF s DDR_MAP_ACTIVE) c || flag s (DDR_CH_STATUS_SELF_REFRESH c)) := by
  have haddr : (DDR_CH_STATUS_SELF_REFRESH c).addr ∉ [FLT_STATUS.addr, UBF_NODE_CFG.addr, BEL_CFG.addr] := by
    simp only [List.mem_cons, List.not_mem_nil, or_false, not_or]
    omega
  have hkept : warmKeeps (DDR_CH_STATUS_SELF_REFRESH c).addr = true := by
    have hlo : 0x41500000 ≤ (DDR_CH_STATUS_SELF_REFRESH c).addr := Nat.le_add_right _ _
    have hhi : (DDR_CH_STATUS_SELF_REFRESH c).addr < 0x41600000 := by show 0x41500000 + c * 0x1000 < 0x41600000; omega
    simp [warmKeeps, hlo, hhi]
  have hshow : flag (warmState s) (DDR_CH_STATUS_SELF_REFRESH c) =
      flag (warmRefreshed s) (DDR_CH_STATUS_SELF_REFRESH c) :=
    congrArg (· == 1) (getF_of_rd (by rw [warmState_eq, rd_warmShow_other _ _ haddr]))
  have hbase : flag (warmBase s) (DDR_CH_STATUS_SELF_REFRESH c) = flag s (DDR_CH_STATUS_SELF_REFRESH c) :=
    congrArg (· == 1) (getF_of_rd (by rw [rd_of_keepRegs (s := s) (t := warmBase s) (f := warmKeeps) rfl, if_pos hkept]))
  have hin : (bitList 6 (getF s DDR_MAP_ACTIVE)).contains c = bit (getF s DDR_MAP_ACTIVE) c := by simp [bitList, hc]
  rw [hshow, warmRefreshed, flag_selfRefresh _ _ (keepRegs_wf (s := s) h), hbase, hin]

/-- NODE_CFG and BEL_CFG as a warm reset leaves them (R441). -/
theorem straps_warmState : getF (warmState s) UBF_NODE_CFG_ROLE = getF s UBF_NODE_CFG_ROLE ∧
    getF (warmState s) UBF_NODE_CFG_NODE_ID = getF s UBF_NODE_CFG_NODE_ID ∧ getF (warmState s) UBF_NODE_CFG_EXP = 0 ∧
    getF (warmState s) BEL_CFG_MANAGER = getF s BEL_CFG_MANAGER := by
  have hw := warmRefreshed_wf h
  have hcfg : ∀ f : Fld, f.addr = UBF_NODE_CFG.addr →
      getF (warmState s) f = getF (setF (warmRefreshed s) UBF_NODE_CFG_EXP 0) f := fun f hf => by
    have hne : ∀ g : Fld, UBF_NODE_CFG.addr ≠ g.addr → f.addr ≠ g.addr := fun g hg => hf ▸ hg
    rw [warmState_eq, warmShow, getF_setF_other _ FLT_STATUS_SERVICE _ _ (hne _ (by decide)), getF_setF_other _ FLT_STATUS_SAFE _ _ (hne _ (by decide)),
      getF_setF_other _ BEL_CFG_MANAGER _ _ (hne _ (by decide))]
  refine ⟨?_, ?_, ?_, ?_⟩
  · rw [hcfg UBF_NODE_CFG_ROLE rfl, getF_setF_beside _ UBF_NODE_CFG_EXP UBF_NODE_CFG_ROLE _ hw (by decide) rfl (by decide)]
    exact getF_warmRefreshed _ (by decide) (by decide)
  · rw [hcfg UBF_NODE_CFG_NODE_ID rfl, getF_setF_beside _ UBF_NODE_CFG_EXP UBF_NODE_CFG_NODE_ID _ hw (by decide) rfl (by decide)]
    exact getF_warmRefreshed _ (by decide) (by decide)
  · rw [hcfg UBF_NODE_CFG_EXP rfl]
    exact getF_setF_same _ UBF_NODE_CFG_EXP 0 hw (by decide)
  · rw [warmState_eq, warmShow, getF_setF_other _ FLT_STATUS_SERVICE _ _ (by decide), getF_setF_other _ FLT_STATUS_SAFE _ _ (by decide),
      getF_setF_same _ BEL_CFG_MANAGER _ (setF_wf _ _ _ hw) (by decide)]
    exact Nat.mod_eq_of_lt (getF_lt s BEL_CFG_MANAGER)

/-- The collector's status as a warm reset leaves it. -/
theorem status_warmState : flag (warmState s) FLT_STATUS_SAFE = false ∧ flag (warmState s) FLT_STATUS_SERVICE = false ∧
    getF (warmState s) FLT_STATUS_FIRST = getF s FLT_STATUS_FIRST ∧ getF (warmState s) FLT_STATUS_RING_WR = getF s FLT_STATUS_RING_WR := by
  have hw := setF_wf _ BEL_CFG_MANAGER (getF s BEL_CFG_MANAGER) (setF_wf _ UBF_NODE_CFG_EXP 0 (warmRefreshed_wf h))
  have hkept : ∀ f : Fld, f.addr = FLT_STATUS.addr → 2 ≤ f.lo → f.lo + f.w ≤ 32 → getF (warmState s) f = getF s f := fun f hf hlo hhi => by
    have hne : ∀ g : Fld, FLT_STATUS.addr ≠ g.addr → f.addr ≠ g.addr := fun g hg => hf ▸ hg
    rw [warmState_eq, warmShow, getF_setF_beside _ FLT_STATUS_SERVICE f _ (setF_wf _ _ _ hw) (by decide) hf (.inl hlo),
      getF_setF_beside _ FLT_STATUS_SAFE f _ hw (by decide) hf (.inl (by show 0 + 1 ≤ f.lo; omega)),
      getF_setF_other _ BEL_CFG_MANAGER f _ (hne _ (by decide)), getF_setF_other _ UBF_NODE_CFG_EXP f _ (hne _ (by decide))]
    exact getF_warmRefreshed f (hf ▸ by decide) (hf ▸ by decide)
  refine ⟨?_, ?_, hkept _ rfl (by decide) (by decide), hkept _ rfl (by decide) (by decide)⟩
  · rw [flag, warmState_eq, warmShow, getF_setF_beside _ FLT_STATUS_SERVICE FLT_STATUS_SAFE _ (setF_wf _ _ _ hw) (by decide) rfl (by decide),
      getF_setF_same _ FLT_STATUS_SAFE 0 hw (by decide)]
    rfl
  · rw [flag, warmState_eq, warmShow, getF_setF_same _ FLT_STATUS_SERVICE 0 (setF_wf _ _ _ hw) (by decide)]
    rfl

end WarmReset

/-- The DDR keeps its bytes through a warm reset, and the rest of memory reads 0 (R366, R447). -/
theorem byteAt_warmState (s : State) (a : Nat) : byteAt (warmState s) a = if ddrBase ≤ a then byteAt s a else 0 := by
  have hcells : (warmState s).mem.cells = s.mem.cells.filter (fun c => decide (ddrBase ≤ c.1)) := by rw [warmState_parts]; rfl
  unfold byteAt
  rw [hcells, sget_filter_key zeroByte (fun a => decide (ddrBase ≤ a))]
  by_cases ha : ddrBase ≤ a <;> simp [ha, zeroByte]

/-- The model's warm reset is the one the statements describe, whatever the episode. -/
theorem warmReset_warmState (h : swf resetOf s.regs = true) (r : Rst) : WarmReset s { warmState s with rst := r } where
  regs _ ha := rd_warmState ha
  channels _ hc := flag_warmState_selfRefresh h (List.mem_range.mp hc)
  straps := straps_warmState h
  status := status_warmState h
  stroke := by rw [warmState_parts]; exact ⟨rfl, rfl, rfl, rfl, rfl⟩
  engines := by rw [warmState_parts]; exact ⟨rfl, rfl, rfl, rfl, rfl, rfl⟩
  plan := by rw [warmState_parts]; rfl
  memory := by
    refine ⟨?_, byteAt_warmState s, ?_, ?_, ?_, ?_⟩
    all_goals rw [warmState_parts]; rfl
  lasting := by rw [warmState_parts]; exact ⟨rfl, rfl, rfl, rfl, rfl⟩
  rest := by rw [warmState_parts]; exact ⟨rfl, rfl, rfl, rfl⟩

end Sys2Proof.Machine
end

section
/-! The reset pins, the loss of power and the release (R444 to R448, R456). -/

namespace Sys2Proof.Machine

set_option Elab.async false

variable {l : List Part} {rs : List Nat} {z s t : State}

/- ### Reset pins (R446) -/

theorem selfRefresh_withRst (s : State) (r : Rst) (cs : List Nat) : selfRefresh { s with rst := r } cs = { selfRefresh s cs with rst := r } := by
  induction cs generalizing s with
  | nil => rfl
  | cons c cs ih => exact ih (setF s (DDR_CH_STATUS_SELF_REFRESH c) 1)

/-- A warm reset leaves the episode as it is. -/
theorem warmState_withRst (s : State) (r : Rst) : warmState { s with rst := r } = { warmState s with rst := r } :=
  congrArg (warmShow s) (selfRefresh_withRst (warmBase s) r _)

/-- A source of reach 3 that begins an episode resets the device warm (R445). -/
theorem assertSource_warm (s : State) (cause : Nat) (h : s.rst.reach = 0) :
    assertSource s cause 3 = { warmState s with
      rst := { s.rst with reach := 3, causes := setBits 0 cause 1 1, released := false, counted := 0, warmAt := s.aonTime,
                          warmTimes := s.rst.warmTimes ++ [s.aonTime] } } := by
  rw [← warmState_withRst]
  unfold assertSource
  dsimp only
  rw [if_pos (show s.rst.reach = 0 ∧ max s.rst.reach 3 = 3 from ⟨h, by rw [h]; rfl⟩), if_pos (Or.inl h), if_pos h, if_pos h, h]
  rfl

/-- The episode is held by one source alone. -/
def heldBy (s : State) (cause : Nat) : State := { s with rst := { s.rst with held := [cause] } }

theorem holdSource_of_none (cause : Nat) (h : s.rst.held = []) : holdSource s cause = heldBy s cause := by
  unfold holdSource
  rw [h]
  rfl

theorem execResetPinAssert_cold (hp : s.rst.pwrGood = true) (hr : s.rst.reach = 0) (hh : s.rst.held = []) :
    exec (.resetPinAssert 0) s = .next { coldState s with
      rst := { s.rst with reach := 4, held := [4], causes := 0x10, released := false, counted := 0 } } := by
  change execResetPinAssert 0 s = _
  unfold execResetPinAssert
  rw [if_neg (by simp [hp, hh])]
  dsimp only [pinCause]
  rw [if_neg (by simp), if_pos rfl, if_pos rfl, holdSource_of_none 4 hh, assertSource_cold (heldBy s 4) _ hr]
  rfl

theorem execResetPinAssert_warm (hp : s.rst.pwrGood = true) (hr : s.rst.reach = 0) (hh : s.rst.held = []) (hx : warmExcess s = false) :
    exec (.resetPinAssert 1) s = .next { warmState s with
      rst := { s.rst with reach := 3, held := [8], causes := 0x100, released := false, counted := 0, warmAt := s.aonTime,
                          warmTimes := s.rst.warmTimes ++ [s.aonTime] } } := by
  change execResetPinAssert 1 s = _
  unfold execResetPinAssert
  rw [if_neg (by simp [hp, hh])]
  dsimp only [pinCause]
  rw [if_neg (by simp [hx]), if_neg (by decide), if_neg (by decide), holdSource_of_none 8 hh, assertSource_warm (heldBy s 8) _ hr, heldBy, warmState_withRst]
  rfl

theorem execResetPinRelease_held {pin : Nat} (hlt : pin < 2) (hp : s.rst.pwrGood = true) (hh : pinCause pin ∈ s.rst.held) :
    exec (.resetPinRelease pin) s = .next (freeSource (if pin = 0 then endScan s else s) (pinCause pin)) := by
  change execResetPinRelease pin s = _
  unfold execResetPinRelease
  rw [if_neg (by simp [hp, hlt]), if_pos (by simp [hh])]

theorem execResetPinRelease_short (hp : s.rst.pwrGood = true) (hh : 8 ∉ s.rst.held) :
    exec (.resetPinRelease 1) s = .next (sendFault (bump s RST_PIN_SHORT_WARM 1) 0x01 0x001 0 1) := by
  change execResetPinRelease 1 s = _
  unfold execResetPinRelease
  rw [if_neg (by simp [hp]), if_neg (by simp [pinCause, hh])]
  rfl

theorem execPwrGoodRise_of_down (hp : s.rst.pwrGood = false) : exec .pwrGoodRise s = .next { (endScan s) with
    regs := [], flt := {}, rst := { held := s.rst.held.filter (· != 3), reach := 4, causes := 8, pwrGood := true } } := by
  change execPwrGoodRise s = _
  unfold execPwrGoodRise
  rw [if_neg (by simp [hp])]

/- ### The release (R445, R448, R456) -/

theorem countEpisode_wf (h : swf resetOf s.regs = true) : swf resetOf (countEpisode s).regs = true := by
  unfold countEpisode
  dsimp only
  split
  · exact h
  · refine setF_wf _ _ _ ?_
    split
    · exact setF_wf _ _ _ h
    · exact h

theorem countEpisode_rst (s : State) : (countEpisode s).rst = { s.rst with counted := s.rst.reach } := by
  unfold countEpisode
  dsimp only
  split
  next h => exact congrArg (fun n => ({ s.rst with counted := n } : Rst)) h
  next =>
    show Rst.mk _ _ _ _ _ _ _ _ = _
    split <;> rfl

theorem framed_countEpisode (s : State) : Framed [.rst] [RST_EPISODES.addr] s (countEpisode s) := by
  unfold countEpisode
  dsimp only
  refine .ite (framed_refl _ _ s) (Framed.withRst _ (by decide) (.setF _ ?_ (.ite ((framed_refl _ _ s).setF _ (by decide)) (framed_refl _ _ s))))
  split <;> decide

/-- An episode not counted before counts under its reach. -/
theorem getF_countEpisode {f : Fld} (hf : f = if s.rst.reach = 4 then RST_EPISODES_COLD else RST_EPISODES_WARM) (hr : s.rst.reach ≠ 0)
    (hc : s.rst.counted = 0) (h : swf resetOf s.regs = true) : getF (countEpisode s) f = min (getF s f + 1) (2 ^ f.w - 1) := by
  have hcount : countEpisode s = { bump s f 1 with rst := { s.rst with counted := s.rst.reach } } := by
    unfold countEpisode
    dsimp only
    rw [if_neg (by omega), if_neg (by omega), hf]
    rfl
  rw [hcount]
  exact getF_bump_same s f 1 h (by rw [hf]; split <;> decide)

theorem newNonce_wf (h : swf resetOf s.regs = true) : swf resetOf (newNonce s).regs = true := setF_wf _ _ _ h

theorem framed_newNonce (s : State) : Framed [.free] [DBG_NONCE.addr] s (newNonce s) :=
  ((framed_refl _ _ s).withFree (s.free + 1) (by decide)).setF _ (by decide)

theorem getF_newNonce_nonce (h : swf resetOf s.regs = true) : getF (newNonce s) DBG_NONCE = Config.freeValue s.free % 2 ^ 32 :=
  getF_setF_same { s with free := s.free + 1 } DBG_NONCE _ h (by decide)

theorem latchStraps_wf (role node : Nat) (h : swf resetOf s.regs = true) : swf resetOf (latchStraps s role node).regs = true :=
  setF_wf _ _ _ (setF_wf _ _ _ (setF_wf _ _ _ h))

theorem framed_latchStraps (s : State) (role node : Nat) : Framed [] [UBF_NODE_CFG.addr, BEL_CFG.addr] s (latchStraps s role node) :=
  (((framed_refl _ _ s).setF _ (f := UBF_NODE_CFG_ROLE) (by decide)).setF _ (f := UBF_NODE_CFG_NODE_ID) (by decide)).setF _ (f := BEL_CFG_MANAGER) (by decide)

section Straps

variable (role node : Nat) (h : swf resetOf s.regs = true)
include h

theorem getF_latchStraps_role : getF (latchStraps s role node) UBF_NODE_CFG_ROLE = role % 2 ^ UBF_NODE_CFG_ROLE.w := by
  rw [latchStraps, getF_setF_other _ _ _ _ (by decide),
    getF_setF_beside _ UBF_NODE_CFG_NODE_ID UBF_NODE_CFG_ROLE _ (setF_wf _ _ _ h) (by decide) rfl (by decide)]
  exact getF_setF_same _ UBF_NODE_CFG_ROLE _ h (by decide)

theorem getF_latchStraps_nodeId : getF (latchStraps s role node) UBF_NODE_CFG_NODE_ID = node % 2 ^ UBF_NODE_CFG_NODE_ID.w := by
  rw [latchStraps, getF_setF_other _ _ _ _ (by decide)]
  exact getF_setF_same _ UBF_NODE_CFG_NODE_ID _ (setF_wf _ _ _ h) (by decide)

theorem flag_latchStraps_manager : flag (latchStraps s role node) BEL_CFG_MANAGER = decide (role % 4 = 1) :=
  (flag_setF_b2n _ (setF_wf _ _ _ (setF_wf _ _ _ h)) (by decide) rfl).trans rfl

end Straps

/-- The registers that show the cause of an episode, and its free nonce (R444, R511). -/
def showCause (s : State) : State := newNonce (setF (setF s RST_CAUSE s.rst.causes) RST_CAUSE_REACH s.rst.reach)

theorem showCause_wf (h : swf resetOf s.regs = true) : swf resetOf (showCause s).regs = true := newNonce_wf (setF_wf _ _ _ (setF_wf _ _ _ h))

theorem framed_showCause (s : State) : Framed [.free] [RST_CAUSE.addr, DBG_NONCE.addr] s (showCause s) :=
  (((framed_refl _ _ s).setF _ (f := RST_CAUSE) (by decide)).setF _ (f := RST_CAUSE_REACH) (by decide)).trans
    ((framed_newNonce _).mono (by simp) (by simp))

theorem getF_showCause_nonce (h : swf resetOf s.regs = true) : getF (showCause s) DBG_NONCE = Config.freeValue s.free % 2 ^ 32 :=
  getF_newNonce_nonce (setF_wf _ _ _ (setF_wf _ _ _ h))

theorem getF_showCause_reach (h : swf resetOf s.regs = true) : getF (showCause s) RST_CAUSE_REACH = s.rst.reach % 8 := by
  rw [showCause, (framed_newNonce _).getF_eq (by decide)]
  exact getF_setF_same _ RST_CAUSE_REACH _ (setF_wf _ _ _ h) (by decide)

/-- A bit of a word is a field of one bit. -/
theorem bit_getF_word (s : State) {f : Fld} (hlo : f.lo = 0) (hw : f.w = 32) (k : Nat) : bit (getF s f) k = (getF s ⟨f.addr, k, 1⟩ == 1) := by
  have hword : getF s f = rd s f.addr := by
    rw [getF, hlo, hw, bits, Nat.pow_zero, Nat.div_one]
    exact Nat.mod_eq_of_lt (rd_lt s _)
  rw [hword]
  rfl

/-- The causes show in the bits from 3 on (R444). -/
theorem bit_showCause (h : swf resetOf s.regs = true) {k : Nat} (h3 : 3 ≤ k) (hk : k < 32) :
    bit (getF (showCause s) RST_CAUSE) k = bit s.rst.causes k := by
  have hword : rd (setF s RST_CAUSE s.rst.causes) RST_CAUSE.addr = s.rst.causes % 2 ^ 32 := by
    have hsame := getF_setF_same s RST_CAUSE s.rst.causes h (by decide)
    rw [getF, bits, Nat.pow_zero, Nat.div_one] at hsame
    exact (Nat.mod_eq_of_lt (rd_lt _ _)).symm.trans hsame
  have hfield : getF (showCause s) ⟨RST_CAUSE.addr, k, 1⟩ = s.rst.causes % 2 ^ 32 / 2 ^ k % 2 := by
    rw [showCause, (framed_newNonce _).getF_eq (f := ⟨RST_CAUSE.addr, k, 1⟩) (show RST_CAUSE.addr ∉ [DBG_NONCE.addr] by decide),
      getF_setF_beside _ RST_CAUSE_REACH ⟨RST_CAUSE.addr, k, 1⟩ _ (setF_wf _ _ _ h) (by decide) rfl (.inl h3), getF, hword]
    rfl
  rw [bit_getF_word _ rfl rfl, hfield, bit]
  have hbit : s.rst.causes % 2 ^ 32 / 2 ^ k % 2 = s.rst.causes / 2 ^ k % 2 := by
    have := Nat.testBit_mod_two_pow s.rst.causes 32 k
    simp only [hk, decide_true, Bool.true_and] at this
    rw [← Nat.toNat_testBit, ← Nat.toNat_testBit, this]
  rw [hbit]

/-- A release that is due: the episode is counted and its cause shown; then the straps, or the channels that lost their content. -/
theorem execReleaseBegin_of_due (role node : Nat) (hr : s.rst.reach ≠ 0) (hn : s.rst.released = false) (hh : s.rst.held = []) (hp : s.rst.pwrGood = true) :
    exec (.releaseBegin role node) s = .next (if s.rst.reach = 4 then
        latchStraps (showCause (countEpisode { s with rst := { s.rst with released := true } })) role node
      else showLost (setF (showCause (countEpisode { s with rst := { s.rst with released := true } })) RST_START_WARM 1)) := by
  have hreach : (showCause (countEpisode { s with rst := { s.rst with released := true } })).rst.reach = s.rst.reach := by
    show (countEpisode _).rst.reach = _
    rw [countEpisode_rst]
  change execReleaseBegin role node s = _
  unfold execReleaseBegin
  rw [if_neg (by simp [hr, hn, hh, hp])]
  change (if (showCause (countEpisode { s with rst := { s.rst with released := true } })).rst.reach = 4 then _ else _) = _
  rw [hreach]
  split <;> rfl

/- ### What every release that is due leaves (R444, R445) -/

/-- The state of a release once the episode is counted and its cause shown. -/
def releaseShown (s : State) : State := showCause (countEpisode { s with rst := { s.rst with released := true } })

theorem releaseShown_rst (s : State) : (releaseShown s).rst = { s.rst with released := true, counted := s.rst.reach } :=
  countEpisode_rst { s with rst := { s.rst with released := true } }

theorem framed_releaseShown (s : State) : Framed [.rst, .free] [RST_CAUSE.addr, RST_EPISODES.addr, DBG_NONCE.addr] s (releaseShown s) :=
  (((framed_refl _ _ s).withRst { s.rst with released := true } (by decide)).trans ((framed_countEpisode _).mono (by simp) (by simp))).trans
    ((framed_showCause _).mono (by simp) (by simp))

section ReleaseShown

variable (h : swf resetOf s.regs = true)
include h

theorem releaseShown_wf : swf resetOf (releaseShown s).regs = true :=
  showCause_wf (countEpisode_wf (s := { s with rst := { s.rst with released := true } }) h)

theorem bit_releaseShown {k : Nat} (hk : k ∈ List.range' 3 9) : bit (getF (releaseShown s) RST_CAUSE) k = bit s.rst.causes k := by
  obtain ⟨h3, h12⟩ := List.mem_range'_1.mp hk
  refine (bit_showCause (countEpisode_wf (s := { s with rst := { s.rst with released := true } }) h) h3 (by omega)).trans ?_
  rw [countEpisode_rst]

theorem reach_releaseShown : getF (releaseShown s) RST_CAUSE_REACH = s.rst.reach % 8 := by
  refine (getF_showCause_reach (countEpisode_wf (s := { s with rst := { s.rst with released := true } }) h)).trans ?_
  rw [countEpisode_rst]

theorem nonce_releaseShown : getF (releaseShown s) DBG_NONCE = Config.freeValue s.free % 2 ^ 32 := by
  have hfree : (countEpisode { s with rst := { s.rst with released := true } }).free = s.free := (framed_countEpisode _).1 .free (by decide)
  exact (getF_showCause_nonce (countEpisode_wf (s := { s with rst := { s.rst with released := true } }) h)).trans (by rw [hfree])

/-- An episode that is released for the first time counts under its reach (R444). -/
theorem episodes_releaseShown {f : Fld} (hf : f = if s.rst.reach = 4 then RST_EPISODES_COLD else RST_EPISODES_WARM) (hr : s.rst.reach ≠ 0)
    (hc : s.rst.counted = 0) : getF (releaseShown s) f = min (getF s f + 1) (2 ^ f.w - 1) :=
  ((framed_showCause _).getF_eq (by rw [hf]; split <;> decide)).trans
    (getF_countEpisode (s := { s with rst := { s.rst with released := true } }) hf hr hc h)

end ReleaseShown

/- ### Channels that lost their content (R366, R370) -/

/-- A record of class 0 that finds no room is only counted (R432). -/
theorem framed_sendFault_low (s : State) (block code cls unit : Nat) (hc : cls ≤ 1) :
    Framed [.flt] [FLT_DROPPED.addr] s (sendFault s block code cls unit) := by
  by_cases hq : s.flt.fifo.length < 256
  · exact (framed_refl _ _ s).sendFault _ _ _ _ hq (by decide)
  · rw [sendFault_of_dropped (by omega) hc]
    exact (framed_refl _ _ s).bump 1 (by decide)

theorem sendFault_wf (block code cls unit : Nat) (h : swf resetOf s.regs = true) : swf resetOf (sendFault s block code cls unit).regs = true :=
  (kept_sendFault s block code cls unit ⟨id, id, id, rfl⟩).regs h

/-- A channel shows that it lost its content, and a record names it. -/
def lostShown (s : State) (c : Nat) : State := sendFault (setF s (DDR_CH_STATUS_CONTENT_LOST c) 1) 0x15 0x006 0 (c * 2)

theorem framed_lostShown (s : State) (c : Nat) : Framed [.flt] [FLT_DROPPED.addr, (DDR_CH_STATUS_CONTENT_LOST c).addr] s (lostShown s c) :=
  ((framed_refl _ _ s).setF 1 (f := DDR_CH_STATUS_CONTENT_LOST c) (by simp)).trans
    ((framed_sendFault_low _ _ _ _ _ (by decide)).mono (by simp) (by simp))

theorem lostShown_wf (c : Nat) (h : swf resetOf s.regs = true) : swf resetOf (lostShown s c).regs = true := sendFault_wf _ _ _ _ (setF_wf _ _ _ h)

theorem framed_lostShown_foldl (cs : List Nat) (s : State) :
    Framed [.flt] (FLT_DROPPED.addr :: cs.map (fun c => (DDR_CH_STATUS_CONTENT_LOST c).addr)) s (cs.foldl lostShown s) := by
  induction cs generalizing s with
  | nil => exact framed_refl _ _ s
  | cons c cs ih =>
    exact ((framed_lostShown s c).mono (by simp) (by simp)).trans ((ih (lostShown s c)).mono (by simp) fun a ha => by
      rw [List.map_cons]
      rcases List.mem_cons.mp ha with rfl | ha
      · simp
      · exact List.mem_cons_of_mem _ (List.mem_cons_of_mem _ ha))

/-- A channel's mark stays, whatever other channels are marked. -/
theorem contentLost_lostShown {c : Nat} (x : Nat) (hc : c < 6) (h : swf resetOf s.regs = true)
    (hs : flag s (DDR_CH_STATUS_CONTENT_LOST c) = true ∨ x = c) : flag (lostShown s x) (DDR_CH_STATUS_CONTENT_LOST c) = true := by
  have hdropped : (DDR_CH_STATUS_CONTENT_LOST c).addr ∉ [FLT_DROPPED.addr] := by
    simp only [List.mem_singleton]
    omega
  rw [lostShown, (framed_sendFault_low _ _ _ _ _ (by decide)).flag_eq hdropped]
  by_cases hx : x = c
  · subst hx
    exact flag_setF_one h (by show 4 + 1 ≤ 32; decide) rfl
  · have haddr : (DDR_CH_STATUS_CONTENT_LOST c).addr ≠ (DDR_CH_STATUS_CONTENT_LOST x).addr := by
      show 0x41500000 + c * 0x1000 ≠ 0x41500000 + x * 0x1000
      omega
    rw [flag_setF_other 1 haddr]
    exact hs.resolve_right hx

theorem contentLost_lostShown_foldl (cs : List Nat) {c : Nat} (hc : c < 6) :
    ∀ s : State, swf resetOf s.regs = true → flag s (DDR_CH_STATUS_CONTENT_LOST c) = true ∨ c ∈ cs →
      flag (cs.foldl lostShown s) (DDR_CH_STATUS_CONTENT_LOST c) = true := by
  induction cs with
  | nil => exact fun s _ hs => hs.resolve_right (by simp)
  | cons x cs ih =>
    intro s h hs
    refine ih (lostShown s x) (lostShown_wf x h) ?_
    rcases hs with hs | hs
    · exact .inl (contentLost_lostShown x hc h (.inl hs))
    · rcases List.mem_cons.mp hs with rfl | hs
      · exact .inl (contentLost_lostShown c hc h (.inr rfl))
      · exact .inr hs

/-- The registers below the DDR block's do not show the channels. -/
theorem getF_lostShown_foldl (cs : List Nat) (s : State) {f : Fld} (hf : f.addr < 0x41500000) : getF (cs.foldl lostShown s) f = getF s f := by
  refine (framed_lostShown_foldl cs s).getF_eq fun hin => ?_
  rcases List.mem_cons.mp hin with hdropped | hshown
  · have : FLT_DROPPED.addr = 0x41e02008 := rfl
    omega
  · obtain ⟨c, _, hc⟩ := List.mem_map.mp hshown
    have : 0x41500000 ≤ (DDR_CH_STATUS_CONTENT_LOST c).addr := Nat.le_add_right _ _
    omega

/-- A release of a warm episode shows WARM, then the channels that lost their content. -/
theorem execReleaseBegin_warm {role node : Nat} (hr : s.rst.reach = 3) (hn : s.rst.released = false) (hh : s.rst.held = []) (hp : s.rst.pwrGood = true) :
    exec (.releaseBegin role node) s = .next (s.ddr.contentLost.foldl lostShown (setF (releaseShown s) RST_START_WARM 1)) := by
  have hddr : (setF (releaseShown s) RST_START_WARM 1).ddr = s.ddr := (framed_releaseShown s).1 .ddr (by decide)
  rw [execReleaseBegin_of_due role node (by omega) hn hh hp, if_neg (by omega)]
  exact congrArg (fun cs => Host.Outcome.next (cs.foldl lostShown (setF (releaseShown s) RST_START_WARM 1))) (congrArg Ddr.contentLost hddr)

theorem execReleaseBegin_cold {role node : Nat} (hr : s.rst.reach = 4) (hn : s.rst.released = false) (hh : s.rst.held = []) (hp : s.rst.pwrGood = true) :
    exec (.releaseBegin role node) s = .next (latchStraps (releaseShown s) role node) := by
  rw [execReleaseBegin_of_due role node (by omega) hn hh hp, if_pos hr]
  rfl

end Sys2Proof.Machine

open Sys2Proof Sys2Proof.Machine

/-- Settles O51: the pins' resets are `coldReset_coldState` and `warmReset_warmState`, and a release shows its episode (`releaseShown`). -/
theorem resetPinsAndPower : Obligations.ResetPinsAndPower := by
  intro s role node hi
  refine ⟨fun hp hr hh => ?_, fun hp hr hh hx => ?_, fun hp h4 => ?_, fun hp h8 => ?_, fun hp h8 hq => ?_, ?_, fun hp => ?_, fun hr hn hh hp => ?_,
    fun hr hn hh hp => ?_⟩
  · exact ⟨_, execResetPinAssert_cold hp hr hh, rfl, coldReset_coldState hi.1 _⟩
  · exact ⟨_, execResetPinAssert_warm hp hr hh hx, rfl, warmReset_warmState hi.1 _⟩
  · exact ⟨_, execResetPinRelease_held (by decide) hp h4, rfl, rfl, ((framed_refl _ _ s).withPins _ (by decide)).withRst _ (by decide)⟩
  · exact ⟨_, execResetPinRelease_held (by decide) hp h8, rfl, (framed_refl _ _ s).withRst _ (by decide)⟩
  · have hq' : (bump s RST_PIN_SHORT_WARM 1).flt.fifo.length < 256 := hq
    refine ⟨_, execResetPinRelease_short hp h8, ?_, sendFault_fifo_from (s := s) _ _ _ _ hq, ((framed_refl _ _ s).bump 1 (by decide)).sendFault _ _ _ _ hq' (by decide)⟩
    rw [getF_sendFault (by decide)]
    exact getF_bump_same s _ 1 hi.1 (by decide)
  · exact ⟨_, rfl, rfl, rfl, rfl, rfl, rfl, rfl, rfl, rfl, rfl, rfl, rfl, rfl, rfl, rfl⟩
  · exact ⟨_, execPwrGoodRise_of_down hp, rfl, rfl, rfl, rfl, fun p hl => by cases p <;> simp_all [SamePart, SameMem, byteAt, endScan]⟩
  · have hw := releaseShown_wf hi.1
    have hstraps := framed_latchStraps (releaseShown s) role node
    refine ⟨_, execReleaseBegin_cold hr hn hh hp, ?_, getF_latchStraps_role role node hw, getF_latchStraps_nodeId role node hw,
      flag_latchStraps_manager role node hw, fun k hk => ?_, ?_, fun hc => ?_, ?_,
      ((framed_releaseShown s).mono (by simp) (by simp)).trans (hstraps.mono (by simp) (by simp))⟩
    · show (releaseShown s).rst = _
      rw [releaseShown_rst, hr]
    · rw [hstraps.getF_eq (by decide), bit_releaseShown hi.1 hk]
    · rw [hstraps.getF_eq (by decide), reach_releaseShown hi.1, hr]
    · rw [hstraps.getF_eq (by decide), episodes_releaseShown hi.1 (by rw [if_pos hr]) (by omega) hc]
    · rw [hstraps.getF_eq (by decide), nonce_releaseShown hi.1]
  · have hw := setF_wf (releaseShown s) RST_START_WARM 1 (releaseShown_wf hi.1)
    have hlost := framed_lostShown_foldl s.ddr.contentLost (setF (releaseShown s) RST_START_WARM 1)
    refine ⟨_, execReleaseBegin_warm hr hn hh hp, ?_, ?_, fun k hk => ?_, ?_, fun hc => ?_, fun c hc h6 => contentLost_lostShown_foldl _ h6 _ hw (.inr hc), ?_, fun hnone => ?_⟩
    · have hrst : (s.ddr.contentLost.foldl lostShown (setF (releaseShown s) RST_START_WARM 1)).rst = (releaseShown s).rst := hlost.1 .rst (by decide)
      rw [hrst, releaseShown_rst, hr]
    · rw [flag, getF_lostShown_foldl _ _ (by decide)]
      exact flag_setF_one (releaseShown_wf hi.1) (by decide) rfl
    · rw [getF_lostShown_foldl _ _ (by decide), getF_setF_other _ _ _ _ (by decide), bit_releaseShown hi.1 hk]
    · rw [getF_lostShown_foldl _ _ (by decide), getF_setF_other _ _ _ _ (by decide), reach_releaseShown hi.1, hr]
    · rw [getF_lostShown_foldl _ _ (by decide), getF_setF_other _ _ _ _ (by decide), episodes_releaseShown hi.1 (by rw [hr]; rfl) (by omega) hc]
    · have hall : Framed [.rst, .free, .flt] [RST_CAUSE.addr, RST_EPISODES.addr, DBG_NONCE.addr, RST_START.addr] s (setF (releaseShown s) RST_START_WARM 1) :=
        ((framed_releaseShown s).mono (by simp) (by simp)).setF 1 (by decide)
      exact fun p hp => (hall.1 p hp).trans (hlost.1 p fun hflt => hp (by simp_all))
    · rw [hnone]
      have hall : Framed [.rst, .free] [RST_CAUSE.addr, RST_EPISODES.addr, DBG_NONCE.addr, RST_START.addr] s (setF (releaseShown s) RST_START_WARM 1) :=
        ((framed_releaseShown s).mono (by simp) (by simp)).setF 1 (by decide)
      exact ⟨hall.1 .flt (by decide), hall.2⟩

end

section
/-! The clocks (R449 to R451, R474): a domain that qualifies or fails, the retry of a failed clock, and the clocks' records. -/

namespace Sys2Proof.Machine

set_option Elab.async false

variable {l : List Part} {rs : List Nat} {z s t : State} {d : Nat}

/- ### The end of a domain's wait (R445, R449, R454) -/

theorem bootRuns_wf (h : swf resetOf s.regs = true) : swf resetOf (bootRuns s).regs = true := by
  unfold bootRuns
  split
  · exact setF_wf _ _ _ h
  · exact h

theorem framed_bootRuns (s : State) : Framed [.sec] [RST_START.addr] s (bootRuns s) := by
  unfold bootRuns
  exact .ite (((framed_refl _ _ s).setF 1 (f := RST_START_PHASE) (by decide)).withSec _ (by decide)) (framed_refl _ _ s)

theorem framed_phase5 (s : State) : Framed [] [RST_START.addr] s (phase5 s) := by
  unfold phase5
  exact .ite ((framed_refl _ _ s).setF 5 (f := RST_START_PHASE) (by decide)) (framed_refl _ _ s)

theorem framed_endEpisode (s : State) : Framed [.rst] [] s (endEpisode s) := by
  unfold endEpisode
  exact .ite ((framed_refl _ _ s).withRst _ (by decide)) (framed_refl _ _ s)

/-- With both domains of the boot processors qualified the boot ROMs run (R454, R494). -/
theorem bootRuns_of_qualified (h1 : flag s (CLK_D_STATUS_QUALIFIED 1) = true) (h2 : flag s (CLK_D_STATUS_QUALIFIED 2) = true)
    (hp : phase s = 0) (h : swf resetOf s.regs = true) : phase (bootRuns s) = 1 ∧ (bootRuns s).sec.keyPresent = true := by
  have hboot : bootRuns s = { setF s RST_START_PHASE 1 with
      sec := { s.sec with keyPresent := true, secret := if s.sec.keyPresent then s.sec.secret else Config.pufSecret } } := if_pos ⟨h1, h2, hp⟩
  rw [hboot]
  exact ⟨getF_setF_same s RST_START_PHASE 1 h (by decide), rfl⟩

theorem phase5_of_other (hp : phase s ≠ 4) : phase5 s = s := if_neg fun h => hp h.1

/-- The release ends with its last domain (R445). -/
theorem endEpisode_of_done (hr : s.rst.released = true) (hall : (reachDomains s.rst.reach).all (domainDone s) = true) :
    (endEpisode s).rst.reach = 0 ∧ (endEpisode s).rst.released = false := by
  unfold endEpisode
  rw [if_pos ⟨hr, hall⟩]
  exact ⟨rfl, rfl⟩

/-- A domain's own registers when it qualifies (R449). -/
def domainShown (s : State) (d khz : Nat) : State :=
  setF (setF (setF (setF s (CLK_D_STATUS_LOCKED d) 1) (CLK_D_STATUS_QUALIFIED d) 1) (CLK_D_FREQ d) khz) CLK_REF_PRESENT 1

theorem execDomainQualified_of_waiting {khz : Nat} (h0 : 0 < d) (h9 : d < 9) (hq : flag s (CLK_D_STATUS_QUALIFIED d) = false)
    (hr : s.rst.released = true) (hf : flag s (CLK_D_STATUS_FAILED d) = false) :
    exec (.domainQualified d khz) s = .next (endEpisode (phase5 (bootRuns (domainShown s d khz)))) := by
  change execDomainQualified d khz s = _
  unfold execDomainQualified
  rw [if_neg (by omega), if_neg (by simp [hq]), if_neg (by simp [hr, hf])]
  rfl

/-- A domain's registers, and the registers they are not. -/
theorem status_ne_freq (d x : Nat) : (CLK_D_STATUS d).addr ≠ (CLK_D_FREQ x).addr := by
  show 0x40200000 + d * 0x1000 ≠ 0x40200004 + x * 0x1000
  omega

theorem status_ne_ref (h9 : d < 9) : (CLK_D_STATUS d).addr ≠ CLK_REF.addr := by
  show 0x40200000 + d * 0x1000 ≠ 0x40280004
  omega

theorem freq_ne_ref (h9 : d < 9) : (CLK_D_FREQ d).addr ≠ CLK_REF.addr := by
  show 0x40200004 + d * 0x1000 ≠ 0x40280004
  omega

theorem status_ne_start (d : Nat) : (CLK_D_STATUS d).addr ≠ RST_START.addr := by
  show 0x40200000 + d * 0x1000 ≠ 0x40100030
  omega

theorem freq_ne_start (d : Nat) : (CLK_D_FREQ d).addr ≠ RST_START.addr := by
  show 0x40200004 + d * 0x1000 ≠ 0x40100030
  omega

theorem status_ne_status {x : Nat} (h : x ≠ d) : (CLK_D_STATUS x).addr ≠ (CLK_D_STATUS d).addr := by
  show 0x40200000 + x * 0x1000 ≠ 0x40200000 + d * 0x1000
  omega

theorem framed_domainShown (s : State) (d khz : Nat) :
    Framed [] [(CLK_D_STATUS d).addr, (CLK_D_FREQ d).addr, CLK_REF.addr] s (domainShown s d khz) :=
  ((((framed_refl _ _ s).setF _ (f := CLK_D_STATUS_LOCKED d) (by simp)).setF _ (f := CLK_D_STATUS_QUALIFIED d) (by simp)).setF _ (f := CLK_D_FREQ d)
    (by simp)).setF _ (f := CLK_REF_PRESENT) (by simp)

theorem domainShown_wf (d khz : Nat) (h : swf resetOf s.regs = true) : swf resetOf (domainShown s d khz).regs = true :=
  setF_wf _ _ _ (setF_wf _ _ _ (setF_wf _ _ _ (setF_wf _ _ _ h)))

section DomainShown

variable (khz : Nat) (h9 : d < 9) (h : swf resetOf s.regs = true)
include h9 h

theorem qualified_domainShown : flag (domainShown s d khz) (CLK_D_STATUS_QUALIFIED d) = true := by
  rw [domainShown, flag_setF_other (f := CLK_REF_PRESENT) (g := CLK_D_STATUS_QUALIFIED d) _ (status_ne_ref h9),
    flag_setF_other (f := CLK_D_FREQ d) (g := CLK_D_STATUS_QUALIFIED d) _ (status_ne_freq d d)]
  exact flag_setF_one (setF_wf _ _ _ h) (by show 1 + 1 ≤ 32; decide) rfl

theorem locked_domainShown : flag (domainShown s d khz) (CLK_D_STATUS_LOCKED d) = true := by
  rw [domainShown, flag_setF_other (f := CLK_REF_PRESENT) (g := CLK_D_STATUS_LOCKED d) _ (status_ne_ref h9),
    flag_setF_other (f := CLK_D_FREQ d) (g := CLK_D_STATUS_LOCKED d) _ (status_ne_freq d d), flag,
    getF_setF_beside _ (CLK_D_STATUS_QUALIFIED d) (CLK_D_STATUS_LOCKED d) 1 (setF_wf _ _ _ h) (by show 1 + 1 ≤ 32; decide) rfl (.inr (by show 0 + 1 ≤ 1; decide))]
  exact flag_setF_one h (by show 0 + 1 ≤ 32; decide) rfl

theorem freq_domainShown : getF (domainShown s d khz) (CLK_D_FREQ d) = khz % 2 ^ (CLK_D_FREQ d).w := by
  rw [domainShown, getF_setF_other _ CLK_REF_PRESENT (CLK_D_FREQ d) _ (freq_ne_ref h9)]
  exact getF_setF_same _ (CLK_D_FREQ d) khz (setF_wf _ _ _ (setF_wf _ _ _ h)) (by show 0 + 24 ≤ 32; decide)

end DomainShown

/-- Another domain's status is as before. -/
theorem flag_domainShown_other {x : Nat} (khz : Nat) {f : Fld} (hf : f.addr = (CLK_D_STATUS x).addr) (hx : x ≠ d) (hx9 : x < 9) :
    flag (domainShown s d khz) f = flag s f := by
  refine (framed_domainShown s d khz).flag_eq ?_
  rw [hf]
  simp only [List.mem_cons, List.not_mem_nil, or_false, not_or]
  exact ⟨status_ne_status hx, status_ne_freq x d, status_ne_ref hx9⟩

/-- The steps that follow a domain's qualification leave its registers. -/
theorem framed_qualified (s : State) : Framed [.rst, .sec] [RST_START.addr] s (endEpisode (phase5 (bootRuns s))) :=
  (((framed_bootRuns s).mono (by simp) (by simp)).trans ((framed_phase5 _).mono (by simp) (by simp))).trans
    ((framed_endEpisode _).mono (by simp) (by simp))

theorem status_notin_start {f : Fld} (hf : f.addr = (CLK_D_STATUS d).addr) : f.addr ∉ [RST_START.addr] := by
  rw [hf, List.mem_singleton]
  exact status_ne_start d

theorem reachDomains_lt {r x : Nat} (hx : x ∈ reachDomains r) : x < 9 := by
  unfold reachDomains at hx
  split at hx
  all_goals
    simp only [List.mem_cons, List.not_mem_nil, or_false] at hx
    omega

/-- A domain in the release sequence qualifies: its registers show it, the boot ROMs run once theirs have, and the last one ends the sequence. -/
theorem domainQualified_of_waiting (khz : Nat) (hwf : swf resetOf s.regs = true) (h0 : 0 < d) (h9 : d < 9)
    (hq : flag s (CLK_D_STATUS_QUALIFIED d) = false) (hr : s.rst.released = true) (hf : flag s (CLK_D_STATUS_FAILED d) = false) :
    ∃ t, exec (.domainQualified d khz) s = .next t ∧ flag t (CLK_D_STATUS_QUALIFIED d) = true ∧ flag t (CLK_D_STATUS_LOCKED d) = true ∧
      getF t (CLK_D_FREQ d) = khz % 2 ^ (CLK_D_FREQ d).w ∧
      (d ≤ 2 → flag s (CLK_D_STATUS_QUALIFIED (3 - d)) = true → phase s = 0 → phase t = 1 ∧ t.sec.keyPresent = true) ∧
      ((reachDomains s.rst.reach).all (fun x => x == d || domainDone s x) = true → t.rst.reach = 0 ∧ t.rst.released = false) ∧
      Framed [.rst, .sec] [(CLK_D_STATUS_FAILED d).addr, (CLK_D_FREQ d).addr, CLK_REF_PRESENT.addr, RST_START.addr] s t := by
  have hshown := domainShown_wf d khz hwf
  have hafter := framed_qualified (domainShown s d khz)
  have hqualified := qualified_domainShown khz h9 hwf
  refine ⟨_, execDomainQualified_of_waiting h0 h9 hq hr hf, ?_, ?_, ?_, fun h2 hother hp => ?_, fun hall => ?_, ?_⟩
  · rw [hafter.flag_eq (f := CLK_D_STATUS_QUALIFIED d) (status_notin_start (d := d) rfl), hqualified]
  · rw [hafter.flag_eq (f := CLK_D_STATUS_LOCKED d) (status_notin_start (d := d) rfl), locked_domainShown khz h9 hwf]
  · rw [hafter.getF_eq (f := CLK_D_FREQ d) (by rw [List.mem_singleton]; exact freq_ne_start d), freq_domainShown khz h9 hwf]
  · have hboth : flag (domainShown s d khz) (CLK_D_STATUS_QUALIFIED (3 - d)) = true :=
      (flag_domainShown_other (x := 3 - d) khz (f := CLK_D_STATUS_QUALIFIED (3 - d)) rfl (by omega) (by omega)).trans hother
    have hphase : phase (domainShown s d khz) = 0 := ((framed_domainShown s d khz).getF_eq (by
      simp only [List.mem_cons, List.not_mem_nil, or_false, not_or]
      exact ⟨(status_ne_start d).symm, (freq_ne_start d).symm, by decide⟩)).trans hp
    have hboot : phase (bootRuns (domainShown s d khz)) = 1 ∧ (bootRuns (domainShown s d khz)).sec.keyPresent = true := by
      obtain rfl | rfl : d = 1 ∨ d = 2 := by omega
      · exact bootRuns_of_qualified hqualified hboth hphase hshown
      · exact bootRuns_of_qualified hboth hqualified hphase hshown
    have hend := framed_endEpisode (bootRuns (domainShown s d khz))
    rw [phase5_of_other (by rw [hboot.1]; decide)]
    have hsec : (endEpisode (bootRuns (domainShown s d khz))).sec = (bootRuns (domainShown s d khz)).sec := hend.1 .sec (by decide)
    exact ⟨(hend.getF_eq (by simp)).trans hboot.1, by rw [hsec]; exact hboot.2⟩
  · have hboot := ((framed_bootRuns (domainShown s d khz)).mono (l' := [.sec]) (rs' := [RST_START.addr]) (by simp) (by simp)).trans
      ((framed_phase5 _).mono (by simp) (by simp))
    have hrst : (phase5 (bootRuns (domainShown s d khz))).rst = s.rst := hboot.1 .rst (by decide)
    refine endEpisode_of_done (by rw [hrst]; exact hr) (List.all_eq_true.mpr fun x hx => ?_)
    rw [hrst] at hx
    have hx9 := reachDomains_lt hx
    rw [domainDone, hboot.flag_eq (f := CLK_D_STATUS_QUALIFIED x) (status_notin_start (d := x) rfl),
      hboot.flag_eq (f := CLK_D_STATUS_FAILED x) (status_notin_start (d := x) rfl)]
    by_cases hxd : x = d
    · subst hxd
      rw [hqualified]
      rfl
    · rw [flag_domainShown_other khz (f := CLK_D_STATUS_QUALIFIED x) rfl hxd hx9, flag_domainShown_other khz (f := CLK_D_STATUS_FAILED x) rfl hxd hx9]
      have := List.all_eq_true.mp hall x hx
      simpa [hxd, domainDone] using this
  · exact ((framed_domainShown s d khz).mono (by simp) (by simp)).trans (hafter.mono (by simp) (by simp))

/- ### A domain that does not qualify in time (R449, R450) -/

/-- The journal copy of a domain of the boot processors that failed, and the retry that is due (R450). -/
def retryAsked (s : State) : State :=
  { s with start := { s.start with aonCopy := copyRec s.start.aonCopy { thisRec s 3 8 with rseq := newestSeq s + 1, slot := 0xFF }, retryDue := true } }

theorem execDomainQualTimeout_of_waiting (h0 : 0 < d) (h9 : d < 9) (hr : s.rst.released = true) (hd : domainDone s d = false) :
    exec (.domainQualTimeout d) s = .next (if d ≤ 2 then retryAsked (setF s (CLK_D_STATUS_FAILED d) 1) else
      endEpisode (if starting (setF s (CLK_D_STATUS_FAILED d) 1) then startFails (setF s (CLK_D_STATUS_FAILED d) 1) 8 else setF s (CLK_D_STATUS_FAILED d) 1)) := by
  change execDomainQualTimeout d s = _
  unfold execDomainQualTimeout
  rw [if_neg (by simp [hr, hd]; omega)]
  exact (apply_ite Host.Outcome.next _ _ _).symm

theorem phase_failed (s : State) (d : Nat) : phase (setF s (CLK_D_STATUS_FAILED d) 1) = phase s :=
  getF_setF_other _ (CLK_D_STATUS_FAILED d) RST_START_PHASE _ (status_ne_start d).symm

theorem starting_failed (s : State) (d : Nat) : starting (setF s (CLK_D_STATUS_FAILED d) 1) = starting s := by
  rw [starting, phase_failed, starting]

theorem flag_failed (d : Nat) (h : swf resetOf s.regs = true) : flag (setF s (CLK_D_STATUS_FAILED d) 1) (CLK_D_STATUS_FAILED d) = true :=
  flag_setF_one h (by show 2 + 1 ≤ 32; decide) rfl

theorem framed_failed (s : State) (d : Nat) : Framed [] [(CLK_D_STATUS_FAILED d).addr] s (setF s (CLK_D_STATUS_FAILED d) 1) :=
  (framed_refl _ _ s).setF 1 (by simp)

/-- A failed domain shows it through the failed start that follows, and through the end of the sequence. -/
theorem getF_startFails {c : Nat} {f : Fld} (hc5 : c ≠ 5) (hf : f.addr ∉ faultRegs) (hs : f.addr ≠ RST_START.addr) (hj : f.addr ≠ RST_JOURNAL.addr) :
    getF (startFails s c) f = getF s f := by
  rw [startFails_eq s hc5, getF_sendFault hf, getF_setF_other _ RST_START_PHASE f _ hs, getF_setF_other _ RST_START_CAUSE f _ hs, writeRec]
  exact getF_setF_other _ _ f _ hj

theorem status_notin_faults {f : Fld} (hf : f.addr = (CLK_D_STATUS d).addr) (h9 : d < 9) : f.addr ∉ faultRegs := by
  have ha : f.addr = 0x40200000 + d * 0x1000 := hf
  have h1 : 0x41000000 ≤ FLT_STATUS.addr := by decide
  have h2 : 0x41000000 ≤ FLT_DROPPED.addr := by decide
  have h3 : 0x40300000 ≤ ASY_STATUS.addr := by decide
  simp only [faultRegs, List.mem_cons, List.not_mem_nil, or_false, not_or]
  omega

/-- A domain of the boot processors that fails asks for a cold retry, a later one ends the sequence as failed (R450). -/
theorem domainQualTimeout_of_waiting (hwf : swf resetOf s.regs = true) (h0 : 0 < d) (h9 : d < 9) (hr : s.rst.released = true)
    (hd : domainDone s d = false) :
    ∃ t, exec (.domainQualTimeout d) s = .next t ∧ flag t (CLK_D_STATUS_FAILED d) = true ∧
      (d ≤ 2 → t.start.retryDue = true ∧ t.start.aonCopy.getLast?.map (fun r => (r.typ, r.cause)) = some (3, 8) ∧
        Framed [.start] [(CLK_D_STATUS_FAILED d).addr] s t) ∧
      (2 < d → starting s = false → Framed [.rst] [(CLK_D_STATUS_FAILED d).addr] s t) ∧
      (2 < d → starting s = true → phase t = 14 ∧ getF t RST_START_CAUSE = 8 ∧
        t.start.journal.any (fun r => r.typ == 3 && r.cause == 8 && r.rseq == newestSeq s + 1) = true) ∧
      (s.flt.fifo.length < 255 → Framed [.flt, .start, .rst] [(CLK_D_STATUS_FAILED d).addr, RST_START.addr, RST_JOURNAL.addr] s t) := by
  have hfailed := framed_failed s d
  refine ⟨_, execDomainQualTimeout_of_waiting h0 h9 hr hd, ?_⟩
  rw [starting_failed]
  by_cases h2 : d ≤ 2
  · have hframe : Framed [.start] [(CLK_D_STATUS_FAILED d).addr] s (retryAsked (setF s (CLK_D_STATUS_FAILED d) 1)) :=
      (hfailed.mono (by simp) (by simp)).withStart _ (by decide)
    rw [if_pos h2]
    refine ⟨flag_failed d hwf, fun _ => ⟨rfl, ?_, hframe⟩, fun h => by omega, fun h => by omega, fun _ => hframe.mono (by simp) (by simp)⟩
    rw [retryAsked, getLast_copyRec]
    rfl
  · rw [if_neg h2]
    cases hst : starting s with
    | false =>
      have hframe : Framed [.rst] [(CLK_D_STATUS_FAILED d).addr] s (endEpisode (setF s (CLK_D_STATUS_FAILED d) 1)) :=
        (hfailed.mono (by simp) (by simp)).trans ((framed_endEpisode _).mono (by simp) (by simp))
      rw [if_neg (by simp)]
      exact ⟨((framed_endEpisode _).flag_eq (f := CLK_D_STATUS_FAILED d) (by simp)).trans (flag_failed d hwf), fun h => absurd h h2,
        fun _ _ => hframe, fun _ h => absurd h (by simp), fun _ => hframe.mono (by simp) (by simp)⟩
    | true =>
      have hw := setF_wf s (CLK_D_STATUS_FAILED d) 1 hwf
      have hend := framed_endEpisode (startFails (setF s (CLK_D_STATUS_FAILED d) 1) 8)
      have hstart : (endEpisode (startFails (setF s (CLK_D_STATUS_FAILED d) 1) 8)).start = (startFails (setF s (CLK_D_STATUS_FAILED d) 1) 8).start :=
        hend.1 .start (by decide)
      rw [if_pos rfl]
      refine ⟨?_, fun h => absurd h h2, fun _ h => absurd h (by simp), fun _ _ => ⟨?_, ?_, ?_⟩, fun hq => ?_⟩
      · rw [hend.flag_eq (f := CLK_D_STATUS_FAILED d) (by simp), flag, getF_startFails (f := CLK_D_STATUS_FAILED d) (by decide)
          (status_notin_faults (d := d) rfl h9) (status_ne_start d) (by show 0x40200000 + d * 0x1000 ≠ RST_JOURNAL.addr; simp; omega)]
        exact flag_failed d hwf
      · exact (hend.getF_eq (by simp)).trans (phase_startFails (by decide) hw)
      · exact (hend.getF_eq (by simp)).trans (cause_startFails (by decide) hw (by decide))
      · rw [hstart]
        exact journal_startFails (by decide) (setF s (CLK_D_STATUS_FAILED d) 1)
      · have hlong : (setF s (CLK_D_STATUS_FAILED d) 1).flt.fifo.length < 256 := by show s.flt.fifo.length < 256; omega
        exact (Framed.startFails (by decide) (by decide) (by decide) (by simp) (by simp) hlong (hfailed.mono (by simp) (by simp))).trans
          (hend.mono (by simp) (by simp))

/- ### The retry of a failed clock (R450) -/

/-- The retry is a cold release with the straps as they were latched. -/
theorem execClockFailRetry_of_due (hr : s.start.retryDue = true) : exec .clockFailRetry s = .next (latchStraps
    (newNonce { coldState s with rst := { s.rst with reach := 4, released := true } }) (role s) (nodeId s)) := by
  change execClockFailRetry s = _
  unfold execClockFailRetry
  rw [if_neg (by simp [hr])]
  rfl

theorem clockFailRetry_of_due (h : swf resetOf s.regs = true) (hr : s.start.retryDue = true) :
    ∃ t u, exec .clockFailRetry s = .next t ∧ t.rst = { s.rst with reach := 4, released := true } ∧
      t.start.retryDue = false ∧ ColdReset s u ∧ Framed [.rst, .free] [UBF_NODE_CFG.addr, BEL_CFG.addr, DBG_NONCE.addr] u t ∧
      role t = role s ∧ nodeId t = nodeId s ∧ flag t BEL_CFG_MANAGER = decide (role s = 1) ∧
      getF t DBG_NONCE = Config.freeValue s.free % 2 ^ 32 := by
  have hcold : swf resetOf (coldState s).regs = true := setF_wf _ _ _ (setF_wf _ _ _ (setF_wf _ _ _ (keepRegs_wf (s := s) h)))
  have hnonce : swf resetOf (newNonce { coldState s with rst := { s.rst with reach := 4, released := true } }).regs = true :=
    newNonce_wf (s := { coldState s with rst := { s.rst with reach := 4, released := true } }) hcold
  have hrole : role s < 4 := getF_lt s UBF_NODE_CFG_ROLE
  have hnode : nodeId s < 16 := getF_lt s UBF_NODE_CFG_NODE_ID
  refine ⟨_, coldState s, execClockFailRetry_of_due hr, rfl, rfl, coldReset_coldState h s.rst, ?_, ?_, ?_, ?_, ?_⟩
  · exact (((framed_refl [.rst, .free] [UBF_NODE_CFG.addr, BEL_CFG.addr, DBG_NONCE.addr] (coldState s)).withRst
      { s.rst with reach := 4, released := true } (by decide)).trans ((framed_newNonce _).mono (by simp) (by simp))).trans
      ((framed_latchStraps _ _ _).mono (by simp) (by simp))
  · exact (getF_latchStraps_role _ _ hnonce).trans (Nat.mod_eq_of_lt hrole)
  · exact (getF_latchStraps_nodeId _ _ hnonce).trans (Nat.mod_eq_of_lt hnode)
  · rw [flag_latchStraps_manager _ _ hnonce, Nat.mod_eq_of_lt hrole]
  · rw [(framed_latchStraps _ _ _).getF_eq (by decide)]
    exact getF_newNonce_nonce (s := { coldState s with rst := { s.rst with reach := 4, released := true } }) hcold

/- ### Clocks out of tolerance and the lost reference clock (R451) -/

theorem oot_ne_freq (d : Nat) : (CLK_D_OOT d).addr ≠ (CLK_D_FREQ d).addr := by
  show 0x40200008 + d * 0x1000 ≠ 0x40200004 + d * 0x1000
  omega

theorem oot_ne_status (d : Nat) : (CLK_D_OOT d).addr ≠ (CLK_D_STATUS d).addr := by
  show 0x40200008 + d * 0x1000 ≠ 0x40200000 + d * 0x1000
  omega

/-- A domain's own registers when it leaves its tolerance. -/
def tolShown (s : State) (d khz : Nat) : State :=
  bump (setF (setF s (CLK_D_FREQ d) khz) (CLK_D_STATUS_OUT_TOL d) 1) (CLK_D_OOT d) 1

theorem framed_tolShown (s : State) (d khz : Nat) :
    Framed [] [(CLK_D_STATUS d).addr, (CLK_D_FREQ d).addr, (CLK_D_OOT d).addr] s (tolShown s d khz) :=
  (((framed_refl _ _ s).setF _ (f := CLK_D_FREQ d) (by simp)).setF _ (f := CLK_D_STATUS_OUT_TOL d) (by simp)).bump _ (f := CLK_D_OOT d) (by simp)

theorem execClockOutOfTol_of_first {khz : Nat} (h0 : 0 < d) (h9 : d < 9) (hq : flag s (CLK_D_STATUS_QUALIFIED d) = true)
    (ho : flag s (CLK_D_STATUS_OUT_TOL d) = false) : exec (.clockOutOfTol d khz) s =
      .next (sendFault (tolShown s d khz) 0x02 (if d ≤ 2 then 0x002 else 0x001) (if d ≤ 2 then 7 else 6) d) := by
  have ho' : flag (setF s (CLK_D_FREQ d) khz) (CLK_D_STATUS_OUT_TOL d) = false :=
    (flag_setF_other (f := CLK_D_FREQ d) (g := CLK_D_STATUS_OUT_TOL d) khz (status_ne_freq d d)).trans ho
  change execClockOutOfTol d khz s = _
  unfold execClockOutOfTol
  rw [if_neg (by simp [hq]; omega)]
  dsimp only
  rw [if_neg (by simp [ho'])]
  by_cases h2 : d ≤ 2
  · simp only [if_pos h2]
    rfl
  · simp only [if_neg h2]
    rfl

/-- The first loss of tolerance shows, counts, and is recorded (R451). -/
theorem clockOutOfTol_of_first (khz : Nat) (h : swf resetOf s.regs = true) (h0 : 0 < d) (h9 : d < 9) (hq : flag s (CLK_D_STATUS_QUALIFIED d) = true)
    (ho : flag s (CLK_D_STATUS_OUT_TOL d) = false) (hf : s.flt.fifo.length < 256) :
    ∃ t, exec (.clockOutOfTol d khz) s = .next t ∧ flag t (CLK_D_STATUS_OUT_TOL d) = true ∧
      getF t (CLK_D_FREQ d) = khz % 2 ^ (CLK_D_FREQ d).w ∧ getF t (CLK_D_OOT d) = min (getF s (CLK_D_OOT d) + 1) (2 ^ (CLK_D_OOT d).w - 1) ∧
      t.flt.fifo = s.flt.fifo ++ [if d ≤ 2 then mkRec s 0x02 0x002 7 d else mkRec s 0x02 0x001 6 d] ∧
      Framed [.flt] [(CLK_D_STATUS_FAILED d).addr, (CLK_D_FREQ d).addr, (CLK_D_OOT d).addr] s t := by
  have hw1 := setF_wf s (CLK_D_FREQ d) khz h
  have hw2 := setF_wf _ (CLK_D_STATUS_OUT_TOL d) 1 hw1
  have hrec : Framed [.flt] [] (tolShown s d khz) (sendFault (tolShown s d khz) 0x02 (if d ≤ 2 then 0x002 else 0x001) (if d ≤ 2 then 7 else 6) d) :=
    (framed_refl _ _ _).sendFault _ _ _ _ hf (by decide)
  refine ⟨_, execClockOutOfTol_of_first h0 h9 hq ho, ?_, ?_, ?_, ?_, ((framed_tolShown s d khz).mono (by simp) (by simp)).trans (hrec.mono (by simp) (by simp))⟩
  · rw [hrec.flag_eq (f := CLK_D_STATUS_OUT_TOL d) (by simp), tolShown, bump,
      flag_setF_other (f := CLK_D_OOT d) (g := CLK_D_STATUS_OUT_TOL d) _ (oot_ne_status d).symm]
    exact flag_setF_one hw1 (by show 3 + 1 ≤ 32; decide) rfl
  · rw [hrec.getF_eq (f := CLK_D_FREQ d) (by simp), tolShown, bump, getF_setF_other _ (CLK_D_OOT d) (CLK_D_FREQ d) _ (oot_ne_freq d).symm,
      getF_setF_other _ (CLK_D_STATUS_OUT_TOL d) (CLK_D_FREQ d) _ (status_ne_freq d d).symm]
    exact getF_setF_same _ (CLK_D_FREQ d) khz h (by show 0 + 24 ≤ 32; decide)
  · rw [hrec.getF_eq (f := CLK_D_OOT d) (by simp), tolShown, getF_bump_same _ (CLK_D_OOT d) 1 hw2 (by show 0 + 32 ≤ 32; decide),
      getF_setF_other _ (CLK_D_STATUS_OUT_TOL d) (CLK_D_OOT d) _ (oot_ne_status d),
      getF_setF_other _ (CLK_D_FREQ d) (CLK_D_OOT d) _ (oot_ne_freq d)]
  · rw [sendFault_fifo_from (s := s) _ _ _ _ hf]
    split <;> rfl

end Sys2Proof.Machine

open Sys2Proof Sys2Proof.Machine

/-- Settles O52: a domain qualifies (`domainQualified_of_waiting`) or fails (`domainQualTimeout_of_waiting`), a failed clock is retried cold
(`clockFailRetry_of_due`), and a clock's loss is recorded. -/
theorem clocksQualifyOrFail : Obligations.ClocksQualifyOrFail := by
  intro s d khz hi h0 h9
  refine ⟨domainQualified_of_waiting khz hi.1 h0 h9, domainQualTimeout_of_waiting hi.1 h0 h9, clockFailRetry_of_due hi.1,
    clockOutOfTol_of_first khz hi.1 h0 h9, fun hq => ?_⟩
  have hrec : Framed [.flt] [] (setF (setF s CLK_REF_PRESENT 0) CLK_REF_LOST_SEEN 1)
      (sendFault (setF (setF s CLK_REF_PRESENT 0) CLK_REF_LOST_SEEN 1) 0x02 0x003 7 0) := (framed_refl _ _ _).sendFault _ _ _ _ hq (by decide)
  refine ⟨_, rfl, ?_, ?_, sendFault_fifo_from (s := s) _ _ _ _ hq, ?_⟩
  · rw [hrec.getF_eq (by simp), getF_setF_beside _ CLK_REF_LOST_SEEN CLK_REF_PRESENT _ (setF_wf _ _ _ hi.1) (by decide) rfl (by decide)]
    exact getF_setF_same s CLK_REF_PRESENT 0 hi.1 (by decide)
  · rw [hrec.getF_eq (by simp)]
    exact getF_setF_same _ CLK_REF_LOST_SEEN 1 (setF_wf _ _ _ hi.1) (by decide)
  · exact (((framed_refl _ _ s).setF 0 (f := CLK_REF_PRESENT) (by simp)).setF 1 (f := CLK_REF_LOST_SEEN) (by decide)).trans
      (hrec.mono (by simp) (by simp))

end

section
/-! The start's choices (R453 to R456, R466, R468, R504 to R506, R512): the slot, the journal's decision, the version check and the commits. -/

namespace Sys2Proof.Machine

set_option Elab.async false

variable {l : List Part} {rs : List Nat} {z s t : State} {a b : SlotImage}

/- ### The slots (R504) -/

theorem authentic_of_slotCause (h : slotCause s a = 0) : authentic s.sec a = true := by
  unfold slotCause at h
  split at h
  · assumption
  · exact absurd h (by decide)

/-- The start knows its slots, and the cause of the slot that failed first. -/
def slotsKnown (s : State) (cause : Nat) (other : Option SlotImage) : State :=
  { s with start := { s.start with known := true, failCause := cause, other := other } }

theorem execBilletVerify_of_slotA (hp : phase s = 1) (hk : s.start.known = false) (ha : slotCause s (slotRead a s.start.slotA) = 0) :
    exec (.billetVerify a b) s = .next (useSlot (slotsKnown s 0 (some (slotRead b s.start.slotB))) (slotRead a s.start.slotA) 0) := by
  change execBilletVerify a b s = _
  unfold execBilletVerify
  rw [if_neg (by simp [hp, hk])]
  dsimp only
  rw [if_pos (authentic_of_slotCause ha), ha, if_pos rfl]
  rfl

theorem execBilletVerify_of_slotB (hp : phase s = 1) (hk : s.start.known = false) (ha : slotCause s (slotRead a s.start.slotA) ≠ 0)
    (hb : slotCause s (slotRead b s.start.slotB) = 0) : ∃ cause,
    exec (.billetVerify a b) s = .next (useSlot (slotsKnown s cause s.start.other) (slotRead b s.start.slotB) 1) := by
  change ∃ cause, execBilletVerify a b s = .next (useSlot (slotsKnown s cause s.start.other) (slotRead b s.start.slotB) 1)
  unfold execBilletVerify
  rw [if_neg (by simp [hp, hk])]
  dsimp only
  rw [if_neg ha, if_pos hb]
  exact ⟨_, rfl⟩

theorem execBilletVerify_of_neither (hp : phase s = 1) (hk : s.start.known = false) (ha : slotCause s (slotRead a s.start.slotA) ≠ 0)
    (hb : slotCause s (slotRead b s.start.slotB) ≠ 0) : ∃ digest, exec (.billetVerify a b) s = .next { s with start := { s.start with
      known := true, digest := digest, failCause := if authentic s.sec (slotRead a s.start.slotA) then slotCause s (slotRead a s.start.slotA)
        else if authentic s.sec (slotRead b s.start.slotB) then slotCause s (slotRead b s.start.slotB) else 1 } } := by
  change ∃ digest, execBilletVerify a b s = .next { s with start := { s.start with
      known := true, digest := digest, failCause := if authentic s.sec (slotRead a s.start.slotA) then slotCause s (slotRead a s.start.slotA)
        else if authentic s.sec (slotRead b s.start.slotB) then slotCause s (slotRead b s.start.slotB) else 1 } }
  unfold execBilletVerify
  rw [if_neg (by simp [hp, hk])]
  dsimp only
  rw [if_neg ha, if_neg hb]
  exact ⟨_, rfl⟩

/- ### The journal's decision (R466, R468) -/

theorem framed_mergeCopy (s : State) : Framed [.start] [RST_JOURNAL.addr] s (mergeCopy s) :=
  ((framed_refl _ _ s).withStart _ (by decide)).setF _ (by decide)

theorem framed_closeAttempt (s : State) : Framed [.start] [RST_JOURNAL.addr] s (closeAttempt s) := by
  unfold closeAttempt
  split
  · exact (framed_refl _ _ s).writeRec _ (by decide) (by decide)
  · exact framed_refl _ _ s

theorem mergeCopy_chosen (s : State) : (mergeCopy s).start.chosen = s.start.chosen := rfl

theorem closeAttempt_chosen (s : State) : (closeAttempt s).start.chosen = s.start.chosen := by
  unfold closeAttempt
  split <;> rfl

theorem mergeCopy_wf (h : swf resetOf s.regs = true) : swf resetOf (mergeCopy s).regs = true := setF_wf _ _ _ h

theorem closeAttempt_wf (h : swf resetOf s.regs = true) : swf resetOf (closeAttempt s).regs = true := by
  unfold closeAttempt
  split
  · exact writeRec_wf _ h
  · exact h

/-- What the decision sees: the journal with its copy merged and an open attempt closed. -/
def journalSeen (s : State) : State := closeAttempt (mergeCopy s)

theorem framed_journalSeen (s : State) : Framed [.start] [RST_JOURNAL.addr] s (journalSeen s) := (framed_mergeCopy s).trans (framed_closeAttempt _)

theorem journalSeen_wf (h : swf resetOf s.regs = true) : swf resetOf (journalSeen s).regs = true := closeAttempt_wf (mergeCopy_wf h)

/-- The failed attempts and the open Banked record as the decision shows them. -/
def journalShown (s : State) : State :=
  setF (setF s RST_JOURNAL_FAILS (min (failedAttempts s.start.journal) 3)) RST_JOURNAL_BANKED 0

theorem framed_journalShown (s : State) : Framed [] [RST_JOURNAL.addr] s (journalShown s) :=
  ((framed_refl _ _ s).setF _ (f := RST_JOURNAL_FAILS) (by decide)).setF _ (f := RST_JOURNAL_BANKED) (by decide)

theorem execJournalDecide_cold (hp : phase s = 1) (hk : s.start.known = true) (hw : isWarmStart s = false) :
    exec .journalDecide s = .next (decideCold (journalSeen s)) := by
  have hwarm : isWarmStart (closeAttempt (mergeCopy s)) = false := ((framed_journalSeen s).flag_eq (by decide)).trans hw
  change execJournalDecide s = _
  unfold execJournalDecide
  rw [if_neg (by simp [hp, hk])]
  dsimp only
  rw [hwarm]
  rfl

theorem decideCold_of_noBanked (hb : openBanked s.start.journal = none) : decideCold s = if 3 ≤ failedAttempts s.start.journal then
    comeUpBanked (setF (writeRec (journalShown s) (thisRec (journalShown s) 4 ((failCauses s.start.journal 1).headD 0))) RST_JOURNAL_BANKED 1)
    else beginAttempt (journalShown s) := by
  unfold decideCold
  dsimp only
  rw [hb]
  rfl

/-- An attempt's record is written. -/
def attemptWritten (s : State) : State := writeRec s { thisRec s 1 0 with emberMs := 0xFFFF, fullMs := 0xFFFF }

theorem beginAttempt_of_chosen (hc : s.start.chosen.isSome = true) : beginAttempt s = askVersion (setF (attemptWritten s) RST_START_PHASE 2) := by
  unfold beginAttempt
  exact if_pos hc

theorem framed_askVersion (s : State) : Framed [.sec, .free] [] s (askVersion s) :=
  (((framed_refl [.sec, .free] [] s).withFree (s.free + 1) (by decide)).withSec { s.sec with rpmbNonce := beBytes 16 (Config.freeValue s.free) } (by decide))

/-- The other fields of the journal's register stay as they are. -/
theorem getF_writeRec_beside (r : JRec) {f : Fld} (h : swf resetOf s.regs = true) (hf : f.addr = RST_JOURNAL.addr) (hlo : f.lo + f.w ≤ 4) :
    getF (writeRec s r) f = getF s f :=
  getF_setF_beside { s with start := (writeRec s r).start } RST_JOURNAL_NEXT f _ h (by decide) hf (.inr hlo)

theorem fails_journalShown (h : swf resetOf s.regs = true) : getF (journalShown s) RST_JOURNAL_FAILS = min (failedAttempts s.start.journal) 3 := by
  rw [journalShown, getF_setF_beside _ RST_JOURNAL_BANKED RST_JOURNAL_FAILS _ (setF_wf _ _ _ h) (by decide) rfl (by decide),
    getF_setF_same _ RST_JOURNAL_FAILS _ h (by decide)]
  exact Nat.mod_eq_of_lt (by show _ < 4; omega)

theorem banked_journalShown (h : swf resetOf s.regs = true) : flag (journalShown s) RST_JOURNAL_BANKED = false := by
  rw [journalShown, flag, getF_setF_same _ RST_JOURNAL_BANKED _ (setF_wf _ _ _ h) (by decide)]
  rfl

theorem journalShown_wf (h : swf resetOf s.regs = true) : swf resetOf (journalShown s).regs = true := setF_wf _ _ _ (setF_wf _ _ _ h)

/-- An attempt begins: its record is written, and the version is asked for under a new nonce (R468, R506). -/
theorem attempt_begins (h : swf resetOf s.regs = true) (hc : s.start.chosen.isSome = true) :
    phase (beginAttempt s) = 2 ∧ (beginAttempt s).start.journal.any (fun r => r.typ == 1) = true ∧
      (beginAttempt s).sec = { s.sec with rpmbNonce := beBytes 16 (Config.freeValue s.free) } ∧ (beginAttempt s).free = s.free + 1 ∧
      Framed [.start, .sec, .free] [RST_START.addr, RST_JOURNAL.addr] s (beginAttempt s) := by
  rw [beginAttempt_of_chosen hc]
  refine ⟨?_, ?_, rfl, rfl, ?_⟩
  · rw [phase, (framed_askVersion _).getF_eq (by simp)]
    exact getF_setF_same _ RST_START_PHASE 2 (writeRec_wf _ h) (by decide)
  · exact List.any_eq_true.mpr ⟨_, mem_writeRec s _, rfl⟩
  · exact (((framed_refl _ _ s).writeRec _ (by decide) (by decide)).setF 2 (f := RST_START_PHASE) (by decide)).trans
      ((framed_askVersion _).mono (by simp) (by simp))

/-- The other journal fields of an attempt that begins are as they were. -/
theorem getF_beginAttempt_journal {f : Fld} (h : swf resetOf s.regs = true) (hc : s.start.chosen.isSome = true) (hf : f.addr = RST_JOURNAL.addr)
    (hlo : f.lo + f.w ≤ 4) : getF (beginAttempt s) f = getF s f := by
  rw [beginAttempt_of_chosen hc, (framed_askVersion _).getF_eq (by simp), getF_setF_other _ RST_START_PHASE f _ (by rw [hf]; decide)]
  exact getF_writeRec_beside _ h hf hlo

/- ### Banked (R469) -/

theorem framed_comeUpBanked (s : State) : Framed [.start, .pins] [RST_START.addr, TOP_MODE.addr, ASY_STATUS.addr] s (comeUpBanked s) := by
  have hregs : Framed [.start, .pins] [RST_START.addr, TOP_MODE.addr, ASY_STATUS.addr] s (setF (setF s TOP_MODE_MODE 3) RST_START_PHASE 13) :=
    ((framed_refl _ _ s).setF 3 (f := TOP_MODE_MODE) (by decide)).setF 13 (f := RST_START_PHASE) (by decide)
  have hparts := (hregs.withStart { s.start with banked := true } (by decide)).withPins { s.pins with safeState := true, faultN := false } (by decide)
  exact hparts.showPins (by decide)

/-- The registers before the pins are shown. -/
theorem getF_showPins {f : Fld} (hf : f.addr ≠ ASY_STATUS.addr) : getF (showPins s) f = getF s f :=
  ((framed_refl [] [ASY_STATUS.addr] s).showPins (by decide)).getF_eq (by simpa using hf)

theorem comesUpBanked (h : swf resetOf s.regs = true) : phase (comeUpBanked s) = 13 ∧ mode (comeUpBanked s) = 3 ∧ (comeUpBanked s).start.banked = true ∧
    (comeUpBanked s).start.journal = s.start.journal ∧ (comeUpBanked s).pins = { s.pins with safeState := true, faultN := false } := by
  refine ⟨?_, ?_, rfl, rfl, rfl⟩
  · refine (getF_showPins (by decide)).trans ?_
    exact getF_setF_same _ RST_START_PHASE 13 (setF_wf _ _ _ h) (by decide)
  · refine (getF_showPins (by decide)).trans ?_
    refine (getF_setF_other _ RST_START_PHASE TOP_MODE_MODE _ (by decide)).trans ?_
    exact getF_setF_same _ TOP_MODE_MODE 3 h (by decide)

/- ### Loading the billet (R20, R254, R293, R348, R477, R480) -/

/-- What every step of the billet's load leaves alone: all but five parts, the start's phase and the version floor. -/
structure Loads (s t : State) : Prop where
  parts : PartsBut [.start, .spr, .pln, .mem, .flt] s t
  start : rd t RST_START.addr = rd s RST_START.addr
  minVer : t.start.minVer = s.start.minVer

theorem loads_refl (s : State) : Loads s s := ⟨(framed_refl _ [] s).1, rfl, rfl⟩

theorem Loads.trans (h : Loads z s) (k : Loads s t) : Loads z t :=
  ⟨fun p hp => (h.parts p hp).trans (k.parts p hp), k.start.trans h.start, k.minVer.trans h.minVer⟩

theorem Loads.of_framed (h : Framed l rs s t) (hl : ∀ p ∈ l, p ∈ [Part.start, .spr, .pln, .mem, .flt]) (hr : RST_START.addr ∉ rs)
    (hm : t.start.minVer = s.start.minVer) : Loads s t := ⟨(h.mono hl (fun _ ha => ha)).1, h.rd_eq hr, hm⟩

theorem loads_wr (s : State) {x : Nat} (v : Nat) (h : x ≠ RST_START.addr) : Loads s (wr s x v) :=
  ⟨partsBut_regs _ s _ s.resp, rd_wr_other s x _ v h.symm, rfl⟩

/-- The registers that the load shows lie above the start's. -/
theorem loads_setF (s : State) (f : Fld) (v : Nat) (h : RST_START.addr < f.addr) : Loads s (setF s f v) := loads_wr s _ (Nat.ne_of_gt h)

/-- An element of an array of registers lies at or above the array. -/
theorem above_start {base n : Nat} (h : RST_START.addr < base) : RST_START.addr < base + n := Nat.lt_of_lt_of_le h (Nat.le_add_right _ _)

theorem Loads.setF (f : Fld) (v : Nat) (h : RST_START.addr < f.addr) (k : Loads z s) : Loads z (setF s f v) := k.trans (loads_setF s f v h)

theorem Loads.foldl {α : Type} {f : State → α → State} (hf : ∀ s x, Loads s (f s x)) (xs : List α) (s : State) : Loads s (xs.foldl f s) := by
  induction xs generalizing s with
  | nil => exact loads_refl s
  | cons x xs ih => exact (hf s x).trans (ih _)

theorem Loads.ite {c : Prop} [Decidable c] (hs : Loads z s) (ht : Loads z t) : Loads z (if c then s else t) := by
  split
  · exact hs
  · exact ht

theorem loads_sendFault (s : State) (block code cls unit : Nat) (hc : cls ≤ 1) : Loads s (sendFault s block code cls unit) :=
  .of_framed (framed_sendFault_low s block code cls unit hc) (by decide) (by decide) (by rw [sendFault_start])

/-- A billet's word never shows in the start's register (R20). -/
theorem loads_loadWord (s : State) (p : Nat × Nat) : Loads s (loadWord s p) := by
  unfold loadWord
  dsimp only
  split
  · exact loads_refl s
  next hm =>
    refine loads_wr s _ fun h => hm ?_
    rw [h]
    decide

theorem loads_loadQueue (s : State) (q : Nat) : Loads s (loadQueue s q) := by
  have hq : ∀ base, RST_START.addr < base → RST_START.addr < base + q * 0x1000 := fun _ h => above_start h
  unfold loadQueue set64
  exact ((((((((((((loads_setF s _ _ (hq _ (by decide))).setF _ _ (hq _ (by decide))).setF _ _ (hq _ (by decide))).setF _ _ (hq _ (by decide))).setF _ _
    (hq _ (by decide))).setF _ _ (hq _ (by decide))).setF _ _ (hq _ (by decide))).setF _ _ (hq _ (by decide))).setF _ _ (hq _ (by decide))).setF _ _
    (hq _ (by decide))).setF _ _ (hq _ (by decide))).setF _ _ (hq _ (by decide))).setF _ _ (hq _ (by decide))

theorem loads_loadPresent (s : State) : Loads s (loadPresent s) := by
  unfold loadPresent
  exact (((loads_setF s HAM_CSET_EN _ (by decide)).setF SWG_FAM_EN_LO _ (by decide)).setF SWG_FAM_EN_HI _ (by decide)).setF QNC_PROG_EN _ (by decide)

theorem loads_loadThresh (s : State) : Loads s (loadThresh s) := by
  unfold loadThresh
  exact .ite (loads_refl s) (((loads_setF s SPR_THRESH0_AGE_PPM _ (by decide)).setF SPR_THRESH0_HOT_H _ (by decide)).setF SPR_THRESH1 _ (by decide))

theorem Framed.withSpr (x : Spr) (hl : .spr ∈ l) (h : Framed l rs z s) : Framed l rs z { s with spr := x } :=
  h.parts (fun p hp => by cases p <;> simp_all [SamePart, SameMem, byteAt]) rfl

theorem loads_withSpr (s : State) (x : Spr) : Loads s { s with spr := x } :=
  .of_framed ((framed_refl [.spr] [] s).withSpr x (by decide)) (by decide) (by decide) rfl

theorem loads_withMem (s : State) (m : Mem) : Loads s { s with mem := m } :=
  ⟨fun p hp => by cases p <;> simp_all [SamePart], rfl, rfl⟩

theorem loads_loadWear (s : State) : Loads s (loadWear s) := by
  unfold loadWear
  exact .ite (loads_withSpr s _) ((loads_withSpr s _).trans (loads_sendFault _ _ _ _ _ (by decide)))

theorem loads_loadUnit (s : State) (e : Nat) : Loads s (loadUnit s e) := by
  unfold loadUnit
  exact (loads_setF s (SPR_U_STATE_STATE e) _ (above_start (by decide))).setF (SPR_U_STATE_FENCES e) _ (above_start (by decide))

theorem loads_recount (s : State) (c : Nat) : Loads s (recount s c) := by
  unfold recount
  exact (loads_setF s (SPR_COUNT_SPARE c) _ (above_start (by decide))).setF (SPR_COUNT_WORN c) _ (above_start (by decide))

theorem loads_loadUnits (s : State) : Loads s (loadUnits s) := by
  have hretired : Loads s { s with start := { s.start with retired := s.bil.retired ++ s.spr.wearRetired } } :=
    .of_framed ((framed_refl [.start] [] s).withStart _ (by decide)) (by decide) (by decide) rfl
  unfold loadUnits
  exact (hretired.trans (.foldl loads_loadUnit _ _)).trans
    (.foldl (fun s c => (loads_setF s (SPR_COUNT_LOGICAL c) _ (above_start (by decide))).trans (loads_recount _ c)) _ _)

theorem loads_mapBank (ret : List Nat) (x : List Nat × State) (b : Nat) : Loads x.2 (mapBank ret x b).2 := by
  unfold mapBank
  exact (loads_setF x.2 (ANV_MAP b) _ (above_start (by decide))).setF (ANV_BANK_CE_IN_USE _) _ (above_start (by decide))

theorem loads_mapBanks (ret bs free : List Nat) (s : State) : Loads s (bs.foldl (mapBank ret) (free, s)).2 := by
  induction bs generalizing free s with
  | nil => exact loads_refl s
  | cons b bs ih => exact (loads_mapBank ret (free, s) b).trans (ih _ _)

/-- The retired banks are marked. -/
def banksRetired (s : State) (ret : List Nat) : State :=
  (List.range 1088).foldl (fun s pb => if ret.contains pb then setF s (ANV_BANK_CE_RETIRED pb) 1 else s) s

theorem loads_banksRetired (s : State) (ret : List Nat) : Loads s (banksRetired s ret) :=
  .foldl (fun s pb => .ite (loads_setF s (ANV_BANK_CE_RETIRED pb) _ (above_start (by decide))) (loads_refl s)) _ s

/-- The map over the banks that stand, with the spares left. -/
def bankMap (s : State) (ret : List Nat) : List Nat × State :=
  (List.range 1024).foldl (mapBank ret) (((List.range 64).map (· + 1024)).filter (fun pb => !ret.contains pb), banksRetired s ret)

theorem loads_bankMap (s : State) (ret : List Nat) : Loads s (bankMap s ret).2 := by
  unfold bankMap
  exact (loads_banksRetired s ret).trans (loads_mapBanks ret _ _ _)

theorem formMap_eq (s : State) : formMap s = setF (bankMap s (s.bil.banks ++ s.spr.wearBanks)).2 ANV_STATUS_SPARES_FREE
    (bankMap s (s.bil.banks ++ s.spr.wearBanks)).1.length := rfl

theorem loads_formMap (s : State) : Loads s (formMap s) := by
  rw [formMap_eq]
  exact (loads_bankMap s _).setF ANV_STATUS_SPARES_FREE _ (by decide)

theorem loads_tagWrite (s : State) (line : Nat) : Loads s (tagWrite s line) := by
  unfold tagWrite
  exact .ite (loads_withMem s _) (loads_refl s)

theorem loads_zeroRing (s : State) (q : Nat) : Loads s (zeroRing s q) :=
  (loads_withMem s (clearRange s (qCqBase s q) (16 * cqSize s q)).mem).trans (.foldl loads_tagWrite _ _)

theorem loads_zeroRings (ddr : Bool) (s : State) : Loads s (zeroRings ddr s) :=
  .foldl (fun s q => .ite (loads_zeroRing s q) (loads_refl s)) _ s

theorem loads_gradeLinks (s : State) : Loads s (gradeLinks s) := by
  unfold gradeLinks
  exact .ite ((loads_setF s (UBF_L_STATUS_STATE 2) _ (by decide)).setF (UBF_L_STATUS_STATE 3) _ (by decide)) (loads_refl s)

theorem loads_withPln (s : State) (x : Pln) : Loads s { s with pln := x } :=
  .of_framed ((framed_refl [.pln] [] s).withPln x (by decide)) (by decide) (by decide) rfl

/-- The load, once the billet is the device's. -/
theorem loads_loadBillet (s : State) (b : Billet) : Loads { s with bil := b } (loadBillet s b) := by
  have hwords : Loads { s with bil := b } ((b.regs ++ missingWords b).foldl loadWord { s with bil := b }) := .foldl loads_loadWord _ _
  have hshown := ((hwords.trans (.foldl loads_loadQueue (List.range 64) _)).trans (loads_loadPresent _)).trans (loads_loadThresh _)
  have hnode := (hshown.setF UBF_NODE_CFG_EXP b.exp (by decide)).setF SEC_BILLET b.version (by decide)
  exact (((((hnode.trans (loads_withPln _ _)).trans (loads_zeroRings false _)).trans (loads_gradeLinks _)).trans (loads_loadWear _)).trans
    (loads_loadUnits _)).trans (loads_formMap _)

/- ### The version check (R504 to R506) -/

/-- An accepted billet is the device's, and the commits are next. -/
theorem accept_loads (h : swf resetOf s.regs = true) (x : SlotImage) : (accept s x).bil = billetOf s.sec x ∧ phase (accept s x) = 3 ∧
    (accept s x).start.minVer = s.start.minVer ∧ PartsBut [.bil, .start, .spr, .pln, .ubf, .tab, .tabX, .mem, .flt, .thm, .anv] s (accept s x) := by
  have hload := loads_loadBillet (setF s RST_START_PHASE 3) (billetOf s.sec x)
  refine ⟨hload.parts .bil (by decide), ?_, hload.minVer, fun p hp => ?_⟩
  · exact (getF_of_rd (f := RST_START_PHASE) hload.start).trans (getF_setF_same s RST_START_PHASE 3 h (by decide))
  · have hsub : ∀ q ∈ [Part.start, .spr, .pln, .mem, .flt], q ∈ [Part.bil, .start, .spr, .pln, .ubf, .tab, .tabX, .mem, .flt, .thm, .anv] := by decide
    have hbil : PartsBut [.bil] s { setF s RST_START_PHASE 3 with bil := billetOf s.sec x } := fun q hq => by
      cases q <;> simp_all [SamePart, SameMem, byteAt]
    exact (hbil p fun hin => hp (by simp_all)).trans (hload.parts p fun hin => hp (hsub p hin))

theorem execRpmbCheck_noRpmb {ans : RpmbAnswer} (hp : phase s = 2) (hc : s.start.chosen = some a) (hn : (billetOf s.sec a).noRpmb = true) :
    exec (.rpmbCheck ans) s = .next (accept s a) := by
  change execRpmbCheck ans s = _
  unfold execRpmbCheck
  rw [if_neg (by simp [hp]), hc]
  exact if_pos hn

/-- The version floor as the eMMC gave it. -/
def floorKnown (s : State) (v : Nat) : State := { s with start := { s.start with minVer := v } }

theorem execRpmbCheck_keyed {ans : RpmbAnswer} (hp : phase s = 2) (hc : s.start.chosen = some a) (hn : (billetOf s.sec a).noRpmb = false)
    (ht : ans.inTime = true) (hk : ans.keyed = true) (ho : rpmbOk s.sec ans = true) (hv : rpmbMin ans ≤ (billetOf s.sec a).version) :
    exec (.rpmbCheck ans) s = .next (accept (floorKnown s (rpmbMin ans)) a) := by
  have hversion : versionOk (floorKnown s (rpmbMin ans)) (billetOf s.sec a) = true := by simp [versionOk, floorKnown, hv]
  change execRpmbCheck ans s = _
  unfold execRpmbCheck
  rw [if_neg (by simp [hp]), hc]
  dsimp only
  rw [if_neg (by simp [hn]), if_neg (by simp [ht, ho]), hk]
  exact if_pos hversion

theorem execRpmbCheck_late {ans : RpmbAnswer} (hp : phase s = 2) (hc : s.start.chosen = some a) (hn : (billetOf s.sec a).noRpmb = false)
    (ht : ans.inTime = false) : exec (.rpmbCheck ans) s = .next (startFails s 3) := by
  change execRpmbCheck ans s = _
  unfold execRpmbCheck
  rw [if_neg (by simp [hp]), hc]
  dsimp only
  rw [if_neg (by simp [hn]), if_pos (by simp [ht])]

/- ### The words of the two-hand groups (R425) -/

/-- The addresses of a group's words. -/
def groupAddrs (g : Nat) : List Nat := (groupWords g).map (·.1)

/-- Where a group's words lie: a base and a length. -/
def groupSpan (g : Nat) : Nat × Nat :=
  if g ≤ 3 then (0x41200000 + g * 0x1000, 0xC00) else if g = 4 then (0x41E01000, 0x800) else if g = 5 then (0x40100010, 8)
  else if g = 6 then (0x41100000, 0x20000) else (0x41D00010, 4)

theorem groupAddrs_firewall {g : Nat} (h : g ≤ 3) : groupAddrs g = (List.range 768).map (fun i => 0x41200000 + g * 0x1000 + 4 * i) := by
  rw [groupAddrs, groupWords, if_pos h, List.map_map]
  rfl

theorem groupAddrs_reactions : groupAddrs 4 = (List.range 512).map (fun i => 0x41E01000 + 4 * i) := by
  rw [groupAddrs, groupWords, if_neg (by decide), if_pos rfl, List.map_map]
  rfl

theorem groupAddrs_spares : groupAddrs 6 =
    0x41100000 :: (List.range 11).flatMap (fun c => (List.range (physCount c)).map (fun l => 0x41110000 + c * 0x400 + 4 * l)) := by
  rw [groupAddrs, groupWords, if_neg (by decide), if_neg (by decide), if_neg (by decide), if_pos rfl, List.map_cons, List.map_flatMap]
  simp only [List.map_map]
  rfl

theorem physCount_le (c : Nat) (h : c < 11) : physCount c ≤ 144 := by
  revert h
  revert c
  decide

theorem groupAddrs_span {g x : Nat} (hg : g < 8) (hx : x ∈ groupAddrs g) : (groupSpan g).1 ≤ x ∧ x < (groupSpan g).1 + (groupSpan g).2 := by
  by_cases h3 : g ≤ 3
  · rw [groupAddrs_firewall h3] at hx
    obtain ⟨i, hi, rfl⟩ := List.mem_map.mp hx
    have := List.mem_range.mp hi
    simp only [groupSpan, if_pos h3]
    omega
  · obtain rfl | rfl | rfl | rfl : g = 4 ∨ g = 5 ∨ g = 6 ∨ g = 7 := by omega
    · rw [groupAddrs_reactions] at hx
      obtain ⟨i, hi, rfl⟩ := List.mem_map.mp hx
      have := List.mem_range.mp hi
      show 0x41E01000 ≤ _ ∧ _ < 0x41E01000 + 0x800
      omega
    · revert hx
      revert x
      decide
    · rw [groupAddrs_spares] at hx
      show 0x41100000 ≤ x ∧ x < 0x41100000 + 0x20000
      rcases List.mem_cons.mp hx with rfl | hx
      · decide
      · obtain ⟨c, hc, hx⟩ := List.mem_flatMap.mp hx
        obtain ⟨i, hi, rfl⟩ := List.mem_map.mp hx
        have := List.mem_range.mp hi
        have := List.mem_range.mp hc
        have := physCount_le c (by omega)
        omega
    · revert hx
      revert x
      decide

/-- No address stands twice in a group. -/
theorem groupAddrs_nodup {g : Nat} (hg : g < 8) : (groupAddrs g).Nodup := by
  have hstep : ∀ base n, ((List.range n).map (fun i => base + 4 * i)).Nodup := fun base n =>
    List.Pairwise.map _ (fun i j (h : i ≠ j) => by show base + 4 * i ≠ base + 4 * j; omega) List.nodup_range
  by_cases h3 : g ≤ 3
  · rw [groupAddrs_firewall h3]
    exact hstep _ _
  · obtain rfl | rfl | rfl | rfl : g = 4 ∨ g = 5 ∨ g = 6 ∨ g = 7 := by omega
    · rw [groupAddrs_reactions]
      exact hstep _ _
    · decide
    · rw [groupAddrs_spares, List.nodup_cons, List.Nodup, List.pairwise_flatMap]
      refine ⟨fun h => ?_, fun c _ => hstep _ _, List.nodup_range.imp_of_mem fun {c d} hc hd hne x hxc y hyd hxy => ?_⟩
      · obtain ⟨c, _, hx⟩ := List.mem_flatMap.mp h
        obtain ⟨i, _, hi⟩ := List.mem_map.mp hx
        omega
      · obtain ⟨i, hi, rfl⟩ := List.mem_map.mp hxc
        obtain ⟨j, hj, rfl⟩ := List.mem_map.mp hyd
        have := List.mem_range.mp hi
        have := List.mem_range.mp hj
        have := physCount_le c (List.mem_range.mp hc)
        have := physCount_le d (List.mem_range.mp hd)
        omega
    · decide

/-- The registers a start commit of a group writes: its words, its status and its count. -/
def groupRegs (g : Nat) : List Nat := groupAddrs g ++ [(FWL_TH_STATUS_STATE g).addr, (FWL_TH_SEQ g).addr]

/-- A group's words lie apart from the status and the count of every group. -/
theorem groupAddrs_apart {g x : Nat} (hg : g < 8) (hx : x ∈ groupAddrs g) : x < 0x41280000 ∨ 0x41280400 ≤ x := by
  have := groupAddrs_span hg hx
  have hspan : ∀ g < 8, (groupSpan g).1 + (groupSpan g).2 ≤ 0x41280000 ∨ 0x41280400 ≤ (groupSpan g).1 := by decide
  have := hspan g hg
  omega

theorem groupAddrs_ne {g k x : Nat} (hg : g < 8) (hk : k < 8) (hx : x ∈ groupAddrs g) : x ≠ (FWL_TH_STATUS_STATE k).addr ∧ x ≠ (FWL_TH_SEQ k).addr := by
  have := groupAddrs_apart hg hx
  show x ≠ 0x41280004 + k * 0x40 ∧ x ≠ 0x41280008 + k * 0x40
  omega

theorem groupAddrs_disjoint {g k x : Nat} (hg : g < 8) (hk : k < 8) (hne : g ≠ k) (hx : x ∈ groupAddrs g) : x ∉ groupAddrs k := fun hxk => by
  have := groupAddrs_span hg hx
  have := groupAddrs_span hk hxk
  have hspan : ∀ g < 8, ∀ k < 8, g ≠ k → (groupSpan g).1 + (groupSpan g).2 ≤ (groupSpan k).1 ∨ (groupSpan k).1 + (groupSpan k).2 ≤ (groupSpan g).1 := by
    decide
  have := hspan g hg k hk hne
  omega

theorem groupRegs_disjoint {g k x : Nat} (hg : g < 8) (hk : k < 8) (hne : g ≠ k) (hx : x ∈ groupRegs g) : x ∉ groupRegs k := by
  simp only [groupRegs, List.mem_append, List.mem_cons, List.not_mem_nil, or_false, not_or] at hx ⊢
  rcases hx with hx | rfl | rfl
  · have := groupAddrs_apart hg hx
    exact ⟨groupAddrs_disjoint hg hk hne hx, by omega, by omega⟩
  · exact ⟨fun h => by have := groupAddrs_apart hk h; omega, by omega, by omega⟩
  · exact ⟨fun h => by have := groupAddrs_apart hk h; omega, by omega, by omega⟩

/- ### A group's start commit (R430) -/

/-- Words of a group are written from the billet. -/
def wordsWritten (s : State) (g : Nat) (ws : List (Nat × Nat)) : State := ws.foldl (fun s p => wr s p.1 (startWord s.bil g p)) s

theorem framed_wr (s : State) (x v : Nat) : Framed [] [x] s (wr s x v) :=
  ⟨partsBut_regs [] s _ s.resp, fun y hy => rd_wr_other s x y v (by simpa using hy)⟩

theorem framed_wordsWritten (s : State) (g : Nat) (ws : List (Nat × Nat)) : Framed [] (ws.map (·.1)) s (wordsWritten s g ws) := by
  induction ws generalizing s with
  | nil => exact framed_refl _ _ s
  | cons p ws ih =>
    exact ((framed_wr s p.1 (startWord s.bil g p)).mono (by simp) (by simp)).trans ((ih _).mono (by simp) (by simp +contextual))

theorem wordsWritten_wf (g : Nat) (ws : List (Nat × Nat)) (h : swf resetOf s.regs = true) : swf resetOf (wordsWritten s g ws).regs = true := by
  induction ws generalizing s with
  | nil => exact h
  | cons p ws ih => exact ih (wr_wf s p.1 _ h)

/-- Each word written once holds the billet's value. -/
theorem rd_wordsWritten (g : Nat) (ws : List (Nat × Nat)) (hn : (ws.map (·.1)).Nodup) (h : swf resetOf s.regs = true) {p : Nat × Nat} (hp : p ∈ ws) :
    rd (wordsWritten s g ws) p.1 = startWord s.bil g p % 2 ^ 32 := by
  induction ws generalizing s with
  | nil => exact absurd hp List.not_mem_nil
  | cons q ws ih =>
    rw [List.map_cons, List.nodup_cons] at hn
    obtain ⟨hq, hn⟩ := hn
    rcases List.mem_cons.mp hp with rfl | hp
    · exact ((framed_wordsWritten _ g ws).rd_eq hq).trans (rd_wr_same s p.1 _ h)
    · exact ih (s := wr s q.1 (startWord s.bil g q)) hn (wr_wf s q.1 _ h) hp

/-- A group's commit of the start, over its words written. -/
theorem startGroup_eq (s : State) (g : Nat) : startGroup s g = setF (setF (setF (wordsWritten s g (groupWords g)) (FWL_TH_SEQ g)
    (getF (wordsWritten s g (groupWords g)) (FWL_TH_SEQ g) + 1)) (FWL_TH_STATUS_STAGER g) 1) (FWL_TH_STATUS_RESULT g) 1 := rfl

theorem framed_startGroup (s : State) (g : Nat) : Framed [] (groupRegs g) s (startGroup s g) := by
  have hwords : Framed [] (groupRegs g) s (wordsWritten s g (groupWords g)) := (framed_wordsWritten s g _).mono (by simp) fun _ hx => List.mem_append_left _ hx
  rw [startGroup_eq]
  exact ((hwords.setF _ (f := FWL_TH_SEQ g) (by simp [groupRegs])).setF 1 (f := FWL_TH_STATUS_STAGER g) (by simp [groupRegs])).setF 1
    (f := FWL_TH_STATUS_RESULT g) (by simp [groupRegs])

theorem startGroup_wf (g : Nat) (h : swf resetOf s.regs = true) : swf resetOf (startGroup s g).regs = true :=
  setF_wf _ _ _ (setF_wf _ _ _ (setF_wf _ _ _ (wordsWritten_wf g _ h)))

/-- A group was committed by the start: its result, its count, and its words (R430). -/
structure Started (s t : State) (g : Nat) : Prop where
  result : getF t (FWL_TH_STATUS_RESULT g) = 1
  seq : getF t (FWL_TH_SEQ g) = (getF s (FWL_TH_SEQ g) + 1) % 2 ^ 32
  words : ∀ p ∈ groupWords g, rd t p.1 = startWord s.bil g p % 2 ^ 32

theorem status_ne_seq (g k : Nat) : (FWL_TH_STATUS_STATE g).addr ≠ (FWL_TH_SEQ k).addr := by
  show 0x41280004 + g * 0x40 ≠ 0x41280008 + k * 0x40
  omega

theorem started_startGroup {g : Nat} (hg : g < 8) (h : swf resetOf s.regs = true) : Started s (startGroup s g) g where
  result := by
    rw [startGroup_eq]
    exact getF_setF_same _ (FWL_TH_STATUS_RESULT g) 1 (setF_wf _ _ _ (setF_wf _ _ _ (wordsWritten_wf g _ h))) (by show 2 + 3 ≤ 32; decide)
  seq := by
    have hseq : getF (wordsWritten s g (groupWords g)) (FWL_TH_SEQ g) = getF s (FWL_TH_SEQ g) :=
      (framed_wordsWritten s g _).getF_eq fun hin => (groupAddrs_ne hg hg hin).2 rfl
    rw [startGroup_eq, getF_setF_other _ (FWL_TH_STATUS_RESULT g) (FWL_TH_SEQ g) _ (status_ne_seq g g).symm,
      getF_setF_other _ (FWL_TH_STATUS_STAGER g) (FWL_TH_SEQ g) _ (status_ne_seq g g).symm,
      getF_setF_same _ (FWL_TH_SEQ g) _ (wordsWritten_wf g _ h) (by show 0 + 32 ≤ 32; decide), hseq]
  words p hp := by
    have hmem : p.1 ∈ groupAddrs g := List.mem_map.mpr ⟨p, hp, rfl⟩
    obtain ⟨hstatus, hseq⟩ := groupAddrs_ne hg hg hmem
    rw [startGroup_eq, rd_setF_other _ (FWL_TH_STATUS_RESULT g) _ _ hstatus, rd_setF_other _ (FWL_TH_STATUS_STAGER g) _ _ hstatus,
      rd_setF_other _ (FWL_TH_SEQ g) _ _ hseq]
    exact rd_wordsWritten g _ (groupAddrs_nodup hg) h hp

/-- What another group's commit leaves of one before it, and what one after it finds. -/
theorem Started.mono {u v : State} {g : Nat} (h : Started s t g) (hs : ∀ x ∈ groupRegs g, rd s x = rd u x) (hb : s.bil = u.bil)
    (ht : ∀ x ∈ groupRegs g, rd v x = rd t x) : Started u v g where
  result := (getF_of_rd (f := FWL_TH_STATUS_RESULT g) (ht _ (by simp [groupRegs]))).trans h.result
  seq := by
    rw [getF_of_rd (f := FWL_TH_SEQ g) (ht _ (by simp [groupRegs])), h.seq, getF_of_rd (f := FWL_TH_SEQ g) (hs _ (by simp [groupRegs]))]
  words p hp := by rw [ht _ (List.mem_append_left _ (List.mem_map.mpr ⟨p, hp, rfl⟩)), h.words p hp, hb]

theorem framed_startGroup_foldl (gs : List Nat) (s : State) : Framed [] (gs.flatMap groupRegs) s (gs.foldl startGroup s) := by
  induction gs generalizing s with
  | nil => exact framed_refl _ _ s
  | cons g gs ih => exact ((framed_startGroup s g).mono (by simp) (by simp +contextual)).trans ((ih _).mono (by simp) (by simp +contextual))

theorem startGroup_foldl_wf (gs : List Nat) (h : swf resetOf s.regs = true) : swf resetOf (gs.foldl startGroup s).regs = true := by
  induction gs generalizing s with
  | nil => exact h
  | cons g gs ih => exact ih (startGroup_wf g h)

/-- The groups' commits one after the other: each holds, since no group writes another's registers. -/
theorem started_foldl (gs : List Nat) (hn : gs.Nodup) (h8 : ∀ g ∈ gs, g < 8) (h : swf resetOf s.regs = true) :
    ∀ g ∈ gs, Started s (gs.foldl startGroup s) g := by
  induction gs generalizing s with
  | nil => exact fun g hg => absurd hg List.not_mem_nil
  | cons k gs ih =>
    rw [List.nodup_cons] at hn
    obtain ⟨hk, hn⟩ := hn
    have hk8 := h8 k List.mem_cons_self
    have hgs8 : ∀ g ∈ gs, g < 8 := fun g hg => h8 g (List.mem_cons_of_mem _ hg)
    intro g hg
    rcases List.mem_cons.mp hg with rfl | hg
    · refine (started_startGroup hk8 h).mono (fun _ _ => rfl) rfl fun x hx => (framed_startGroup_foldl gs _).rd_eq fun hin => ?_
      obtain ⟨q, hq, hxq⟩ := List.mem_flatMap.mp hin
      exact groupRegs_disjoint hk8 (hgs8 q hq) (fun e => hk (e ▸ hq)) hx hxq
    · have hne : g ≠ k := fun e => hk (e ▸ hg)
      exact (ih hn hgs8 (startGroup_wf k h) g hg).mono
        (fun x hx => (framed_startGroup s k).rd_eq (groupRegs_disjoint (hgs8 g hg) hk8 hne hx)) ((framed_startGroup s k).1 .bil (by decide)) fun _ _ => rfl

/- ### START_COMMIT (R430, R456, R512) -/

theorem startGroups_lt : ∀ g ∈ startGroups s, g < 8 := by
  unfold startGroups
  split <;> decide

theorem startGroups_nodup (s : State) : (startGroups s).Nodup := by
  unfold startGroups
  split <;> decide

/-- The start's and the clocks' registers are no group's. -/
theorem notin_startGroups {x : Nat} (h : x < 0x40100010 ∨ 0x40100018 ≤ x ∧ x < 0x41100000) : x ∉ (startGroups s).flatMap groupRegs := fun hin => by
  obtain ⟨g, hg, hx⟩ := List.mem_flatMap.mp hin
  have hg8 := startGroups_lt g hg
  simp only [groupRegs, List.mem_append, List.mem_cons, List.not_mem_nil, or_false] at hx
  have hspan : ∀ g < 8, (groupSpan g).1 = 0x40100010 ∧ (groupSpan g).2 = 8 ∨ 0x41100000 ≤ (groupSpan g).1 := by decide
  have := hspan g hg8
  rcases hx with hx | hx | hx
  · have := groupAddrs_span hg8 hx
    omega
  · omega
  · omega

/-- The groups are committed, and the clocks are next. -/
def groupsStarted (s : State) : State := setF ((startGroups s).foldl startGroup s) RST_START_PHASE 4

theorem execStartCommit_agreed (hp : phase s = 3) : exec (.startCommit true) s = .next (phase5 (groupsStarted s)) := by
  change execStartCommit true s = _
  unfold execStartCommit
  rw [if_neg (by simp [hp])]
  rfl

theorem execStartCommit_refused (hp : phase s = 3) :
    exec (.startCommit false) s = .next (startFails (sendFault (thResult s 0 2) 0x12 0x002 4 0) 7) := by
  change execStartCommit false s = _
  unfold execStartCommit
  rw [if_neg (by simp [hp])]
  rfl

theorem groupsStarted_wf (h : swf resetOf s.regs = true) : swf resetOf (groupsStarted s).regs = true := setF_wf _ _ _ (startGroup_foldl_wf _ h)

theorem framed_groupsStarted (s : State) : Framed [] (RST_START.addr :: (startGroups s).flatMap groupRegs) s (groupsStarted s) :=
  ((framed_startGroup_foldl (startGroups s) s).mono (by simp) fun _ hx => List.mem_cons_of_mem _ hx).setF 4 (f := RST_START_PHASE) List.mem_cons_self

/-- The start's register is no group's. -/
theorem started_groupsStarted (h : swf resetOf s.regs = true) {g : Nat} (hg : g ∈ startGroups s) : Started s (phase5 (groupsStarted s)) g := by
  have hregs : ∀ x ∈ groupRegs g, x ≠ RST_START.addr := fun x hx e =>
    notin_startGroups (s := s) (x := x) (by rw [e]; decide) (List.mem_flatMap.mpr ⟨g, hg, hx⟩)
  refine (started_foldl _ (startGroups_nodup s) (fun g hg => startGroups_lt g hg) h g hg).mono (fun _ _ => rfl) rfl fun x hx => ?_
  rw [(framed_phase5 _).rd_eq (by simpa using hregs x hx), groupsStarted, rd_setF_other _ RST_START_PHASE _ _ (hregs x hx)]

/-- With the engines' clocks qualified the start goes on at once (R449, R457). -/
theorem phase_groupsStarted (h : swf resetOf s.regs = true) : phase (phase5 (groupsStarted s)) =
    if flag s (CLK_D_STATUS_QUALIFIED 3) && flag s (CLK_D_STATUS_QUALIFIED 4) then 5 else 4 := by
  have hphase : getF (groupsStarted s) RST_START_PHASE = 4 := getF_setF_same _ RST_START_PHASE 4 (startGroup_foldl_wf _ h) (by decide)
  have hclock : ∀ d, (CLK_D_STATUS_QUALIFIED d).addr ∉ RST_START.addr :: (startGroups s).flatMap groupRegs →
      flag (groupsStarted s) (CLK_D_STATUS_QUALIFIED d) = flag s (CLK_D_STATUS_QUALIFIED d) := fun d hd => (framed_groupsStarted s).flag_eq hd
  have hnot : ∀ d, d < 9 → (CLK_D_STATUS_QUALIFIED d).addr ∉ RST_START.addr :: (startGroups s).flatMap groupRegs := fun d hd => by
    rw [List.mem_cons, not_or]
    exact ⟨status_ne_start d, notin_startGroups (by show _ ∨ 0x40100018 ≤ 0x40200000 + d * 0x1000 ∧ 0x40200000 + d * 0x1000 < 0x41100000; omega)⟩
  unfold phase5
  rw [hphase, hclock 3 (hnot 3 (by decide)), hclock 4 (hnot 4 (by decide))]
  cases flag s (CLK_D_STATUS_QUALIFIED 3) <;> cases flag s (CLK_D_STATUS_QUALIFIED 4)
  case true.true => exact getF_setF_same _ RST_START_PHASE 5 (groupsStarted_wf h) (by decide)
  all_goals exact hphase

/-- The commit that the monitor pair refused: its result and its record. -/
def commitRefused (s : State) : State := sendFault (thResult s 0 2) 0x12 0x002 4 0

theorem commitRefused_wf (h : swf resetOf s.regs = true) : swf resetOf (commitRefused s).regs = true := sendFault_wf _ _ _ _ (setF_wf _ _ _ h)

/-- A refused commit fails the start with cause 7 (R458). -/
theorem startFailed_commitRefused (h : swf resetOf s.regs = true) :
    StartFailed s (startFails (commitRefused s) 7) 7 [(FWL_TH_STATUS_STATE 0).addr] where
  shown := ⟨phase_startFails (by decide) (commitRefused_wf h), cause_startFails (by decide) (commitRefused_wf h) (by decide), by
    rw [mode_startFails (by decide), commitRefused, mode, getF_sendFault (by decide)]
    exact getF_setF_other s (FWL_TH_STATUS_RESULT 0) TOP_MODE_MODE 2 (by decide)⟩
  record := by
    have hstart : (commitRefused s).start = s.start := sendFault_start _ _ _ _ _
    rw [← newestSeq_congr hstart]
    exact journal_startFails (by decide) _
  fault hq := by
    have hq' : (thResult s 0 2).flt.fifo.length < 256 := by show s.flt.fifo.length < 256; omega
    have hfifo : (commitRefused s).flt.fifo = s.flt.fifo ++ [mkRec (thResult s 0 2) 0x12 0x002 4 0] := sendFault_fifo _ _ _ _ hq'
    have htime : (commitRefused s).time = s.time := sendFault_time _ _ _ _ hq'
    have hstk : (commitRefused s).stk = s.stk := sendFault_stk _ _ _ _
    rw [fifo_startFails (by decide) (by rw [hfifo, List.length_append, List.length_singleton]; omega), mkRec_congr hstk htime]
    exact List.getLast?_concat ..
  frame hq := by
    have hq' : (thResult s 0 2).flt.fifo.length < 256 := by show s.flt.fifo.length < 256; omega
    have hfifo : (commitRefused s).flt.fifo = s.flt.fifo ++ [mkRec (thResult s 0 2) 0x12 0x002 4 0] := sendFault_fifo _ _ _ _ hq'
    have hresult : Framed [.start, .flt] ([RST_START.addr, RST_JOURNAL.addr] ++ [(FWL_TH_STATUS_STATE 0).addr]) s (thResult s 0 2) :=
      (framed_refl _ _ s).setF 2 (f := FWL_TH_STATUS_RESULT 0) (by decide)
    exact (hresult.sendFault 0x12 0x002 4 0 hq' (by decide)).startFails (by decide) (by decide) (by decide) (by decide) (by decide)
      (by rw [hfifo, List.length_append, List.length_singleton]; omega)

theorem result_commitRefused (h : swf resetOf s.regs = true) : getF (startFails (commitRefused s) 7) (FWL_TH_STATUS_RESULT 0) = 2 := by
  rw [getF_startFails (by decide) (by decide) (by decide) (by decide), commitRefused, getF_sendFault (by decide)]
  exact getF_setF_same s (FWL_TH_STATUS_RESULT 0) 2 h (by decide)

/- ### The slot that serves (R504) -/

/-- Slot B serves with a record (R504). -/
theorem slotB_serves (cause : Nat) (h : swf resetOf s.regs = true) (hq : s.flt.fifo.length < 256) :
    (useSlot (slotsKnown s cause s.start.other) b 1).start.chosen = some b ∧ (useSlot (slotsKnown s cause s.start.other) b 1).start.chosenSlot = 1 ∧
      getF (useSlot (slotsKnown s cause s.start.other) b 1) RST_START_SLOT = 1 ∧
      (useSlot (slotsKnown s cause s.start.other) b 1).flt.fifo = s.flt.fifo ++ [mkRec s 0x14 0x001 0 0] ∧
      Framed [.start, .flt] [RST_START.addr] s (useSlot (slotsKnown s cause s.start.other) b 1) := by
  have hserves : useSlot (slotsKnown s cause s.start.other) b 1 = sendFault (setF { s with start := { (slotsKnown s cause s.start.other).start with
      chosen := some b, chosenSlot := 1, digest := slotDigest b } } RST_START_SLOT 1) 0x14 0x001 0 0 := rfl
  rw [hserves]
  refine ⟨by rw [sendFault_start]; rfl, by rw [sendFault_start]; rfl, ?_, sendFault_fifo_from (s := s) _ _ _ _ hq, ?_⟩
  · rw [getF_sendFault (by decide)]
    exact getF_setF_same _ RST_START_SLOT 1 h (by decide)
  · have hstart : Framed [.start, .flt] [RST_START.addr] s { s with start := { (slotsKnown s cause s.start.other).start with
        chosen := some b, chosenSlot := 1, digest := slotDigest b } } := (framed_refl _ _ s).withStart _ (by decide)
    exact (hstart.setF 1 (f := RST_START_SLOT) (by decide)).sendFault _ _ _ _ hq (by decide)

/-- Three failed attempts leave the device Banked with their record (R468, R469). -/
theorem banked_of_failed (h : swf resetOf s.regs = true) (h3 : 3 ≤ failedAttempts s.start.journal) (r : JRec) (hr : r.typ = 4) :
    phase (comeUpBanked (setF (writeRec (journalShown s) r) RST_JOURNAL_BANKED 1)) = 13 ∧
      mode (comeUpBanked (setF (writeRec (journalShown s) r) RST_JOURNAL_BANKED 1)) = 3 ∧
      (comeUpBanked (setF (writeRec (journalShown s) r) RST_JOURNAL_BANKED 1)).start.banked = true ∧
      (comeUpBanked (setF (writeRec (journalShown s) r) RST_JOURNAL_BANKED 1)).pins = { s.pins with safeState := true, faultN := false } ∧
      flag (comeUpBanked (setF (writeRec (journalShown s) r) RST_JOURNAL_BANKED 1)) RST_JOURNAL_BANKED = true ∧
      getF (comeUpBanked (setF (writeRec (journalShown s) r) RST_JOURNAL_BANKED 1)) RST_JOURNAL_FAILS = 3 ∧
      (comeUpBanked (setF (writeRec (journalShown s) r) RST_JOURNAL_BANKED 1)).start.journal.any (fun r => r.typ == 4) = true ∧
      Framed [.start, .pins] [RST_START.addr, RST_JOURNAL.addr, TOP_MODE.addr, ASY_STATUS.addr] s
        (comeUpBanked (setF (writeRec (journalShown s) r) RST_JOURNAL_BANKED 1)) := by
  have hw := writeRec_wf (s := journalShown s) r (journalShown_wf h)
  obtain ⟨hphase, hmode, hbanked, hjournal, hpins⟩ := comesUpBanked (s := setF (writeRec (journalShown s) r) RST_JOURNAL_BANKED 1) (setF_wf _ _ _ hw)
  have hframe := framed_comeUpBanked (setF (writeRec (journalShown s) r) RST_JOURNAL_BANKED 1)
  refine ⟨hphase, hmode, hbanked, hpins, ?_, ?_, ?_, ?_⟩
  · rw [hframe.flag_eq (by decide)]
    exact flag_setF_one hw (by decide) rfl
  · rw [hframe.getF_eq (by decide), getF_setF_beside _ RST_JOURNAL_BANKED RST_JOURNAL_FAILS _ hw (by decide) rfl (by decide),
      getF_writeRec_beside (f := RST_JOURNAL_FAILS) r (journalShown_wf h) rfl (by decide), fails_journalShown h, Nat.min_eq_right h3]
  · rw [hjournal]
    exact List.any_eq_true.mpr ⟨_, mem_writeRec (journalShown s) r, by simp [hr]⟩
  · have hwritten : Framed [.start, .pins] [RST_START.addr, RST_JOURNAL.addr, TOP_MODE.addr, ASY_STATUS.addr] s (writeRec (journalShown s) r) :=
      ((framed_journalShown s).mono (by simp) (by simp)).writeRec r (by decide) (by decide)
    exact (hwritten.setF 1 (f := RST_JOURNAL_BANKED) (by decide)).trans (hframe.mono (by simp) (by simp +contextual))

end Sys2Proof.Machine

open Sys2Proof Sys2Proof.Machine

/-- Settles O53: the slot is `useSlot`, the decision `attempt_begins` or `banked_of_failed`, the accepted billet `accept_loads`, and the commits
`started_groupsStarted` or `startFailed_commitRefused`. -/
theorem theStartChoosesItsBillet : Obligations.TheStartChoosesItsBillet := by
  intro s a b ans hi
  refine ⟨fun hp hk ha => ?_, fun hp hk ha hb hq => ?_, fun hp hk ha hb => ?_, fun hp hk hw hc hn => ⟨fun hlt => ?_, fun hge => ?_⟩,
    fun hp hc => ⟨fun hn => ?_, fun hn ht hkey hok hv => ?_, fun hn ht => ?_⟩, fun hp => ⟨?_, ?_⟩⟩
  · exact ⟨_, execBilletVerify_of_slotA hp hk ha, rfl, rfl, rfl, rfl, rfl, rfl,
      ((framed_refl [.start] [] s).withStart (slotsKnown s 0 (some (slotRead b s.start.slotB))).start (by decide)).withStart _ (by decide)⟩
  · obtain ⟨cause, hexec⟩ := execBilletVerify_of_slotB hp hk ha hb
    exact ⟨_, hexec, slotB_serves cause hi.1 hq⟩
  · obtain ⟨digest, hexec⟩ := execBilletVerify_of_neither hp hk ha hb
    exact ⟨_, hexec, rfl, rfl, rfl, (framed_refl _ _ s).withStart _ (by decide)⟩
  · have hjw := journalSeen_wf hi.1
    have hseen := framed_journalSeen s
    have hsec : (journalSeen s).sec = s.sec := hseen.1 .sec (by decide)
    have hfree : (journalSeen s).free = s.free := hseen.1 .free (by decide)
    have hchosen : (journalShown (journalSeen s)).start.chosen.isSome = true := by
      show (closeAttempt (mergeCopy s)).start.chosen.isSome = true
      rw [closeAttempt_chosen]
      exact hc
    obtain ⟨hphase, hrec, hnonce, hdrawn, hframe⟩ := attempt_begins (journalShown_wf hjw) hchosen
    refine ⟨_, execJournalDecide_cold hp hk hw, ?_⟩
    rw [decideCold_of_noBanked (s := journalSeen s) hn, if_neg (by exact Nat.not_le.mpr hlt)]
    refine ⟨hphase, ?_, ?_, hrec, ?_, ?_, (hseen.mono (by simp) (by simp)).trans (((framed_journalShown _).mono (by simp) (by simp)).trans hframe)⟩
    · rw [flag, getF_beginAttempt_journal (f := RST_JOURNAL_BANKED) (journalShown_wf hjw) hchosen rfl (by decide)]
      exact banked_journalShown hjw
    · rw [getF_beginAttempt_journal (f := RST_JOURNAL_FAILS) (journalShown_wf hjw) hchosen rfl (by decide), fails_journalShown hjw]
      exact Nat.min_eq_left (Nat.le_of_lt hlt)
    · rw [hnonce]
      show { (journalSeen s).sec with rpmbNonce := beBytes 16 (Config.freeValue (journalSeen s).free) } = _
      rw [hsec, hfree]
    · rw [hdrawn]
      exact congrArg (· + 1) hfree
  · have hseen := framed_journalSeen s
    have hpins : (journalSeen s).pins = s.pins := hseen.1 .pins (by decide)
    obtain ⟨hphase, hmode, hbanked, hpinned, hflag, hfails, hrec, hframe⟩ := banked_of_failed (journalSeen_wf hi.1) hge
      (thisRec (journalShown (journalSeen s)) 4 ((failCauses (journalSeen s).start.journal 1).headD 0)) rfl
    refine ⟨_, execJournalDecide_cold hp hk hw, ?_⟩
    rw [decideCold_of_noBanked (s := journalSeen s) hn, if_pos (by exact hge)]
    exact ⟨hphase, hmode, hbanked, by rw [hpinned, hpins], hflag, hfails, hrec, (hseen.mono (by simp) (by simp)).trans hframe⟩
  · obtain ⟨hbil, hphase, _, hparts⟩ := accept_loads hi.1 a
    exact ⟨_, execRpmbCheck_noRpmb hp hc hn, hbil, hphase, hparts⟩
  · obtain ⟨hbil, hphase, hmin, hparts⟩ := accept_loads (s := floorKnown s (rpmbMin ans)) hi.1 a
    have hfloor : Framed [.bil, .start, .spr, .pln, .ubf, .tab, .tabX, .mem, .flt, .thm, .anv] [] s (floorKnown s (rpmbMin ans)) :=
      (framed_refl _ _ s).withStart _ (by decide)
    exact ⟨_, execRpmbCheck_keyed hp hc hn ht hkey hok hv, hbil, hphase, hmin, fun p hnot => (hfloor.1 p hnot).trans (hparts p hnot)⟩
  · exact ⟨_, execRpmbCheck_late hp hc hn ht, startFailed_startFails (by decide) hi.1 (by decide)⟩
  · refine ⟨_, execStartCommit_agreed hp, phase_groupsStarted hi.1, fun g hg => ?_, fun g hg => (started_groupsStarted hi.1 hg).words, ?_⟩
    · exact ⟨(started_groupsStarted hi.1 hg).result, (started_groupsStarted hi.1 hg).seq⟩
    · exact (framed_groupsStarted s).trans ((framed_phase5 _).mono (by simp) (by simp))
  · exact ⟨_, execStartCommit_refused hp, startFailed_commitRefused hi.1, result_commitRefused hi.1⟩

end

section
/-! Children and workers (R389 to R391, R395): a link's peer, the admission of a worker at its own end and at the manager's. -/

namespace Sys2Proof.Machine

set_option Elab.async false

variable {l : List Part} {rs : List Nat} {z s t : State} {link : Nat} {hdr : List Nat}

/- ### Messages change links alone (R381 to R384) -/

/-- Nothing but the links differs, and there are as many. -/
structure Relinked (s t : State) : Prop where
  eq : t = { s with ubf := { s.ubf with links := t.ubf.links } }
  len : t.ubf.links.length = s.ubf.links.length

theorem relinked_refl (s : State) : Relinked s s := ⟨rfl, rfl⟩

theorem Relinked.trans (h : Relinked z s) (k : Relinked s t) : Relinked z t := ⟨by rw [k.eq, h.eq], k.len.trans h.len⟩

theorem relinked_setLnk (s : State) (i : Nat) (x : Link) : Relinked s (setLnk s i x) := ⟨rfl, by simp [setLnk, setAt]⟩

theorem relinked_pump (s : State) (i : Nat) : Relinked s (pump s i) := by
  unfold pump
  split
  · exact relinked_setLnk s i _
  · exact relinked_refl s

theorem relinked_sendMsg (s : State) (i : Nat) (hdr : List Nat) (fs : List (List Nat)) : Relinked s (sendMsg s i hdr fs) := by
  unfold sendMsg
  dsimp only
  split
  · exact relinked_refl s
  · exact (relinked_setLnk s i _).trans (relinked_pump _ i)

theorem relinked_sendSync (s : State) (typ n a b : Nat) : Relinked s (sendSync s typ n a b) := by
  unfold sendSync sendTo
  split
  · exact relinked_sendMsg s _ _ _
  · exact relinked_refl s

theorem relinked_sendSyncAll (s : State) (typ a b : Nat) : Relinked s (sendSyncAll s typ a b) := by
  unfold sendSyncAll
  generalize (List.range 16).filter _ = ns
  induction ns generalizing s with
  | nil => exact relinked_refl s
  | cons n ns ih => exact (relinked_sendSync s typ n a b).trans (ih _)

theorem relinked_takeMsg (s : State) (i : Nat) (hdr : List Nat) (fs : List (List Nat)) : Relinked s (takeMsg s i hdr fs) := by
  unfold takeMsg
  dsimp only
  split
  · exact (relinked_setLnk s i _).trans (relinked_setLnk _ i _)
  · exact relinked_refl s

theorem relinked_noteSync (s : State) (i : Nat) : Relinked s (noteSync s i) := relinked_setLnk s i _

theorem relinked_syncDown (s : State) (hdr : List Nat) : Relinked s (syncDown s hdr) := (relinked_takeMsg s 0 hdr []).trans (relinked_noteSync _ 0)

theorem Relinked.regs (h : Relinked s t) : t.regs = s.regs := by rw [h.eq]

theorem Relinked.framed (hl : .ubf ∈ l) (h : Relinked s t) : Framed l rs s t := by
  rw [h.eq]
  exact (framed_refl l rs s).withUbf _ hl

theorem Relinked.lost (h : Relinked s t) : t.ubf.lost = s.ubf.lost := by rw [h.eq]

theorem Relinked.isAdmitted (h : Relinked s t) (n : Nat) : isAdmitted t n = isAdmitted s n := by
  unfold Machine.isAdmitted
  rw [getF_congr h.regs, h.lost]

/- ### The moment of the last sync message (R388) -/

theorem lnk_setLnk_same (s : State) (x : Link) (h : link < s.ubf.links.length) : lnk (setLnk s link x) link = x := by
  simp [lnk, setLnk, setAt, h]

theorem pumpGo_syncAt (k : Nat) (x : Link) : (pumpGo k x).syncAt = x.syncAt := by
  induction k generalizing x with
  | zero => rfl
  | succ k ih =>
    unfold pumpGo
    dsimp only
    split
    · rfl
    · split
      · exact ih _
      · split
        · rfl
        · exact ih _

/-- A link that keeps its moment keeps it in the list of links. -/
theorem syncAt_setLnk (s : State) (i : Nat) {x : Link} (h : x.syncAt = (lnk s i).syncAt) (j : Nat) :
    (lnk (setLnk s i x) j).syncAt = (lnk s j).syncAt := by
  unfold lnk setLnk setAt at *
  rw [List.getD_eq_getElem?_getD, List.getElem?_set]
  split
  next hij =>
    subst hij
    split
    · exact h
    next hlen => simp [hlen]
  · rw [List.getD_eq_getElem?_getD]

theorem syncAt_sendMsg (s : State) (i : Nat) (hdr : List Nat) (fs : List (List Nat)) (j : Nat) :
    (lnk (sendMsg s i hdr fs) j).syncAt = (lnk s j).syncAt := by
  unfold sendMsg pump
  dsimp only
  split
  · rfl
  · split
    · exact (syncAt_setLnk _ i (pumpGo_syncAt _ _) j).trans (syncAt_setLnk s i (by rfl) j)
    · exact syncAt_setLnk s i (by rfl) j

theorem syncAt_sendSync (s : State) (typ n a b j : Nat) : (lnk (sendSync s typ n a b) j).syncAt = (lnk s j).syncAt := by
  unfold sendSync sendTo
  split
  · exact syncAt_sendMsg _ _ _ _ _
  · rfl

/- ### LINK_ID (R389) -/

/-- The peer a LINK_ID names, shown in the link's status. -/
def peerShown (s : State) (link : Nat) (hdr : List Nat) : State :=
  setF (setF (noteSync (takeMsg s link hdr []) link) (UBF_L_STATUS_PEER link) (hAddr hdr)) (UBF_L_STATUS_PEER_VALID link) 1

theorem framed_peerShown (s : State) (link : Nat) (hdr : List Nat) : Framed [.ubf] [(UBF_L_STATUS_STATE link).addr] s (peerShown s link hdr) :=
  ((((relinked_takeMsg s link hdr []).trans (relinked_noteSync _ link)).framed (by decide)).setF _ (f := UBF_L_STATUS_PEER link) (by simp)).setF 1
    (f := UBF_L_STATUS_PEER_VALID link) (by simp)

section PeerShown

variable (h : swf resetOf s.regs = true)
include h

theorem noteSync_takeMsg_wf (link : Nat) (hdr : List Nat) : swf resetOf (noteSync (takeMsg s link hdr []) link).regs = true := by
  rw [((relinked_takeMsg s link hdr []).trans (relinked_noteSync _ link)).regs]
  exact h

theorem peerShown_wf (link : Nat) (hdr : List Nat) : swf resetOf (peerShown s link hdr).regs = true :=
  setF_wf _ _ _ (setF_wf _ _ _ (noteSync_takeMsg_wf h link hdr))

theorem peerValid_peerShown (link : Nat) (hdr : List Nat) : getF (peerShown s link hdr) (UBF_L_STATUS_PEER_VALID link) = 1 :=
  getF_setF_same _ (UBF_L_STATUS_PEER_VALID link) 1 (setF_wf _ _ _ (noteSync_takeMsg_wf h link hdr)) (by show 14 + 1 ≤ 32; decide)

theorem peer_peerShown (link : Nat) (hdr : List Nat) :
    getF (peerShown s link hdr) (UBF_L_STATUS_PEER link) = hAddr hdr % 2 ^ (UBF_L_STATUS_PEER link).w := by
  have hw := noteSync_takeMsg_wf h link hdr
  rw [peerShown, getF_setF_beside _ (UBF_L_STATUS_PEER_VALID link) (UBF_L_STATUS_PEER link) _ (setF_wf _ _ _ hw) (by show 14 + 1 ≤ 32; decide) rfl
    (.inr (by show 10 + 4 ≤ 14; decide))]
  exact getF_setF_same _ (UBF_L_STATUS_PEER link) _ hw (by show 10 + 4 ≤ 32; decide)

end PeerShown

theorem links_peerShown (s : State) (link : Nat) (hdr : List Nat) : (peerShown s link hdr).ubf.links.length = s.ubf.links.length :=
  ((relinked_takeMsg s link hdr []).trans (relinked_noteSync _ link)).len

theorem syncAt_peerShown (h : link < s.ubf.links.length) (hdr : List Nat) : (lnk (peerShown s link hdr) link).syncAt = s.time := by
  have htaken := relinked_takeMsg s link hdr []
  have htime : (takeMsg s link hdr []).time = s.time := by rw [htaken.eq]
  show (lnk (setLnk (takeMsg s link hdr []) link _) link).syncAt = s.time
  rw [lnk_setLnk_same _ _ (by rw [htaken.len]; exact h), htime]

/-- The tree's registers are not a link's. -/
theorem nodeCfg_ne_status (f : Fld) (link : Nat) (h4 : link < 4) (hf : f.addr = UBF_NODE_CFG.addr) : f.addr ∉ [(UBF_L_STATUS_STATE link).addr] := by
  rw [hf, List.mem_singleton]
  show 0x41680000 ≠ 0x41600000 + link * 0x1000
  omega

theorem nodeId_peerShown (s : State) (h4 : link < 4) (hdr : List Nat) : nodeId (peerShown s link hdr) = nodeId s :=
  (framed_peerShown s link hdr).getF_eq (nodeCfg_ne_status UBF_NODE_CFG_NODE_ID link h4 rfl)

theorem isUpstream_peerShown (s : State) (h4 : link < 4) (hdr : List Nat) : isUpstream (peerShown s link hdr) link = isUpstream s link := by
  rw [isUpstream, nodeId_peerShown s h4, isUpstream]

theorem peerFits_peerShown (s : State) (h4 : link < 4) (hdr : List Nat) : peerFits (peerShown s link hdr) link hdr = peerFits s link hdr := by
  unfold peerFits isManager role
  rw [nodeId_peerShown s h4, (framed_peerShown s link hdr).getF_eq (nodeCfg_ne_status UBF_NODE_CFG_ROLE link h4 rfl),
    (framed_peerShown s link hdr).getF_eq (nodeCfg_ne_status UBF_NODE_CFG_EXP link h4 rfl)]

theorem execLinkId_eq (h4 : link < 4) : exec (.linkId link hdr) s =
    if isUpstream s link then .next (if isWorker (peerShown s link hdr) ∧ !(peerShown s link hdr).bell.admitted
      then askTime { peerShown s link hdr with ubf := { (peerShown s link hdr).ubf with xfers := [] } } else peerShown s link hdr)
    else if peerFits s link hdr then .next (setLnk (peerShown s link hdr) link { (lnk (peerShown s link hdr) link) with refused := false })
    else .next (sendFault (setF (setLnk (peerShown s link hdr) link { (lnk (peerShown s link hdr) link) with refused := true }) UBF_NODE_LOST_REFUSED
      (setBits (getF (setLnk (peerShown s link hdr) link { (lnk (peerShown s link hdr) link) with refused := true }) UBF_NODE_LOST_REFUSED)
        (hAddr hdr % 16) 1 1)) 0x16 0x006 0 link) := by
  rw [← isUpstream_peerShown s h4 hdr, ← peerFits_peerShown s h4 hdr]
  change execLinkId link hdr s = _
  unfold execLinkId
  rw [if_neg (by omega)]
  rfl

/-- Asking for the time changes the messages alone. -/
theorem framed_askTime (s : State) : Framed [.ubf] [] s (askTime s) :=
  ((framed_refl [.ubf] [] s).withUbf { s.ubf with sentAt := s.time } (by decide)).trans ((relinked_sendSync _ _ _ _ _).framed (by decide))

theorem syncAt_askTime (s : State) (j : Nat) : (lnk (askTime s) j).syncAt = (lnk s j).syncAt := syncAt_sendSync _ _ _ _ _ _

/-- LINK_ID of the parent: the link's peer and its moment, and a request for the time at most. -/
theorem linkId_of_upstream (h : s.Inv) (h4 : link < 4) (hdr : List Nat) (hu : isUpstream s link = true) :
    ∃ t, exec (.linkId link hdr) s = .next t ∧ getF t (UBF_L_STATUS_PEER_VALID link) = 1 ∧
      getF t (UBF_L_STATUS_PEER link) = hAddr hdr % 2 ^ (UBF_L_STATUS_PEER link).w ∧ (lnk t link).syncAt = s.time ∧
      Framed [.ubf] [(UBF_L_STATUS_STATE link).addr] s t := by
  obtain ⟨hregs, _, hlinks⟩ := h
  have hsync := syncAt_peerShown (s := s) (link := link) (by omega) hdr
  have hframe := framed_peerShown s link hdr
  rw [execLinkId_eq h4, if_pos hu]
  refine ⟨_, rfl, ?_⟩
  split
  · have hask := framed_askTime { peerShown s link hdr with ubf := { (peerShown s link hdr).ubf with xfers := [] } }
    have hcleared : Framed [.ubf] [] (peerShown s link hdr) { peerShown s link hdr with ubf := { (peerShown s link hdr).ubf with xfers := [] } } :=
      (framed_refl _ _ _).withUbf _ (by decide)
    have hlast := hcleared.trans hask
    exact ⟨(hlast.getF_eq (f := UBF_L_STATUS_PEER_VALID link) (by simp)).trans (peerValid_peerShown hregs link hdr),
      (hlast.getF_eq (f := UBF_L_STATUS_PEER link) (by simp)).trans (peer_peerShown hregs link hdr),
      (syncAt_askTime _ _).trans hsync, hframe.trans (hlast.mono (by simp) (by simp))⟩
  · exact ⟨peerValid_peerShown hregs link hdr, peer_peerShown hregs link hdr, hsync, hframe⟩

/-- LINK_ID of the child that belongs on the link. -/
theorem linkId_of_fits (h : s.Inv) (h4 : link < 4) (hdr : List Nat) (hu : isUpstream s link = false) (hp : peerFits s link hdr = true) :
    ∃ t, exec (.linkId link hdr) s = .next t ∧ (lnk t link).refused = false ∧ getF t (UBF_L_STATUS_PEER_VALID link) = 1 ∧
      getF t (UBF_L_STATUS_PEER link) = hAddr hdr % 2 ^ (UBF_L_STATUS_PEER link).w ∧ Framed [.ubf] [(UBF_L_STATUS_STATE link).addr] s t := by
  obtain ⟨hregs, _, hlinks⟩ := h
  rw [execLinkId_eq h4, if_neg (by simp [hu]), if_pos hp]
  refine ⟨_, rfl, ?_, peerValid_peerShown hregs link hdr, peer_peerShown hregs link hdr,
    (framed_peerShown s link hdr).trans ((relinked_setLnk _ link _).framed (by decide))⟩
  rw [lnk_setLnk_same _ _ (by rw [links_peerShown]; omega)]

/-- Bit n of a mask is set. -/
theorem bit_setBits_same (m n : Nat) : bit (setBits m n 1 1) n = true := beq_iff_eq.mpr (bits_setBits_same m n 1 1)

theorem bit_mod_two_pow (m : Nat) {n w : Nat} (h : n < w) : bit (m % 2 ^ w) n = bit m n := by
  have hbit := Nat.testBit_mod_two_pow m w n
  simp only [h, decide_true, Bool.true_and] at hbit
  unfold bit
  rw [← Nat.toNat_testBit, ← Nat.toNat_testBit, hbit]

theorem bit_getF_setF {f : Fld} (h : swf resetOf s.regs = true) (hf : f.lo + f.w ≤ 32) {n : Nat} (hn : n < f.w) (m : Nat) :
    bit (getF (setF s f (setBits m n 1 1)) f) n = true := by
  rw [getF_setF_same s f _ h hf, bit_mod_two_pow _ hn, bit_setBits_same]

/-- A refused peer: the link is marked, and the node too. -/
def peerRefused (s : State) (link n : Nat) : State :=
  setF (setLnk s link { (lnk s link) with refused := true }) UBF_NODE_LOST_REFUSED
    (setBits (getF (setLnk s link { (lnk s link) with refused := true }) UBF_NODE_LOST_REFUSED) n 1 1)

/-- LINK_ID of any other node. -/
theorem linkId_of_refused (h : s.Inv) (h4 : link < 4) (hdr : List Nat) (hu : isUpstream s link = false) (hp : peerFits s link hdr = false)
    (hq : s.flt.fifo.length < 256) :
    ∃ t, exec (.linkId link hdr) s = .next t ∧ (lnk t link).refused = true ∧ bit (getF t UBF_NODE_LOST_REFUSED) (hAddr hdr % 16) = true ∧
      t.flt = { s.flt with fifo := s.flt.fifo ++ [mkRec s 0x16 0x006 0 link] } ∧
      Framed [.ubf, .flt] [(UBF_L_STATUS_STATE link).addr, UBF_NODE_LOST.addr] s t := by
  obtain ⟨hregs, _, hlinks⟩ := h
  have hframe : Framed [.ubf, .flt] [(UBF_L_STATUS_STATE link).addr, UBF_NODE_LOST.addr] s (peerShown s link hdr) :=
    (framed_peerShown s link hdr).mono (by simp) (by simp)
  have hmarked := hframe.trans ((relinked_setLnk (peerShown s link hdr) link { (lnk (peerShown s link hdr) link) with refused := true }).framed (by decide))
  have hrefused : Framed [.ubf, .flt] [(UBF_L_STATUS_STATE link).addr, UBF_NODE_LOST.addr] s (peerRefused (peerShown s link hdr) link (hAddr hdr % 16)) :=
    hmarked.setF _ (f := UBF_NODE_LOST_REFUSED) (by simp)
  have hflt : (peerRefused (peerShown s link hdr) link (hAddr hdr % 16)).flt = s.flt := (framed_peerShown s link hdr).1 .flt (by decide)
  have hstk : (peerRefused (peerShown s link hdr) link (hAddr hdr % 16)).stk = s.stk := (framed_peerShown s link hdr).1 .stk (by decide)
  have htime : (peerRefused (peerShown s link hdr) link (hAddr hdr % 16)).time = s.time := ((framed_peerShown s link hdr).1 .time (by decide)).1
  have hq' : (peerRefused (peerShown s link hdr) link (hAddr hdr % 16)).flt.fifo.length < 256 := by rw [hflt]; exact hq
  have hrec := (framed_refl [.flt] [] (peerRefused (peerShown s link hdr) link (hAddr hdr % 16))).sendFault 0x16 0x006 0 link hq' (by decide)
  rw [execLinkId_eq h4, if_neg (by simp [hu]), if_neg (by simp [hp])]
  refine ⟨sendFault (peerRefused (peerShown s link hdr) link (hAddr hdr % 16)) 0x16 0x006 0 link, rfl, ?_, ?_, ?_, hrefused.trans (hrec.mono (by simp) (by simp))⟩
  · have hubf : (sendFault (peerRefused (peerShown s link hdr) link (hAddr hdr % 16)) 0x16 0x006 0 link).ubf =
        (peerRefused (peerShown s link hdr) link (hAddr hdr % 16)).ubf := hrec.1 .ubf (by decide)
    unfold lnk
    rw [hubf]
    show (lnk (setLnk (peerShown s link hdr) link _) link).refused = true
    rw [lnk_setLnk_same _ _ (by rw [links_peerShown]; omega)]
  · rw [hrec.getF_eq (by simp)]
    exact bit_getF_setF (f := UBF_NODE_LOST_REFUSED) (peerShown_wf hregs link hdr) (by decide) (Nat.mod_lt _ (by decide)) _
  · rw [sendFault_eq _ _ _ _ _ hq', hflt, mkRec_congr hstk htime]

/- ### A node's admission (R331, R390, R391) -/

/-- The registers that the end of a REPRO run shows in (R331). -/
theorem framed_leaveRepro (s : State) (why cls node : Nat) (hq : s.flt.fifo.length < 256) :
    Framed [.car, .flt, .ubf] [TOP_MODE.addr, TOP_MODE_WHY.addr] s (leaveRepro s why cls node) := by
  have hwhy : Framed [.car, .flt, .ubf] [TOP_MODE.addr, TOP_MODE_WHY.addr] s (setF (setWhy s why cls node) TOP_MODE_REQ_PEND 1) :=
    ((framed_refl _ _ s).setF _ (f := TOP_MODE_WHY) (by decide)).setF 1 (f := TOP_MODE_REQ_PEND) (by decide)
  have hnoted : Framed [.car, .flt, .ubf] [TOP_MODE.addr, TOP_MODE_WHY.addr] s (noteLeave s why cls node) :=
    (hwhy.withCar { s.car with leaving := true } (by decide)).sendFault 0x00 0x021 0 0 hq (by decide)
  unfold leaveRepro
  dsimp only
  exact .ite (framed_refl _ _ s) (.ite (hnoted.trans ((relinked_sendSyncAll _ _ _ _).framed (by decide)))
    (hnoted.trans ((relinked_sendSync _ _ _ _ _).framed (by decide))))

theorem lost_leaveRepro (s : State) (why cls node : Nat) (hq : s.flt.fifo.length < 256) : (leaveRepro s why cls node).ubf.lost = s.ubf.lost := by
  have hnoted : (noteLeave s why cls node).ubf = s.ubf := by
    unfold noteLeave
    rw [sendFault_eq _ _ _ _ _ (by exact hq)]
    rfl
  unfold leaveRepro
  dsimp only
  split
  · rfl
  · split
    · rw [(relinked_sendSyncAll _ _ _ _).lost, hnoted]
    · rw [(relinked_sendSync _ _ _ _ _).lost, hnoted]

/-- A node shows as admitted, before a REPRO run ends with it. -/
def nodeShown (s : State) (n : Nat) : State :=
  let s := setF s UBF_NODE_ADMIT (setBits (getF s UBF_NODE_ADMIT) n 1 1)
  let slots := match (List.range 4).find? (fun l => peerOf (nodeId s) l == some n && !isUpstream s l) with
    | some l => getF s (UBF_LINK_SLOTS l)
    | none => 0
  { s with ubf := { s.ubf with lost := s.ubf.lost.filter (· != n), lostSlots := Nat.xor s.ubf.lostSlots (Nat.land s.ubf.lostSlots slots) } }

theorem admitNode_eq (s : State) (n : Nat) : admitNode s n = leaveRepro (nodeShown s n) 5 0 n := rfl

theorem framed_nodeShown (s : State) (n : Nat) : Framed [.ubf] [UBF_NODE_ADMIT.addr] s (nodeShown s n) := by
  have hmask : Framed [.ubf] [UBF_NODE_ADMIT.addr] s (setF s UBF_NODE_ADMIT (setBits (getF s UBF_NODE_ADMIT) n 1 1)) :=
    (framed_refl _ _ s).setF _ (by decide)
  exact hmask.withUbf (nodeShown s n).ubf (by decide)

/-- A node's admission leaves the mask's register, the lost nodes and the end of a REPRO run. -/
theorem framed_admitNode (s : State) (n : Nat) (hq : s.flt.fifo.length < 256) :
    Framed [.car, .flt, .ubf] [UBF_NODE_ADMIT.addr, TOP_MODE.addr, TOP_MODE_WHY.addr] s (admitNode s n) := by
  rw [admitNode_eq]
  exact ((framed_nodeShown s n).mono (by simp) (by simp)).trans ((framed_leaveRepro (nodeShown s n) 5 0 n hq).mono (by simp) (by simp))

theorem lost_admitNode (s : State) (n : Nat) (hq : s.flt.fifo.length < 256) : (admitNode s n).ubf.lost = s.ubf.lost.filter (· != n) := by
  rw [admitNode_eq, lost_leaveRepro (nodeShown s n) 5 0 n hq]
  rfl

theorem isAdmitted_admitNode (h : swf resetOf s.regs = true) {n : Nat} (hn : n < 16) (hq : s.flt.fifo.length < 256) :
    isAdmitted (admitNode s n) n = true := by
  have hmask : getF (admitNode s n) UBF_NODE_ADMIT = getF (setF s UBF_NODE_ADMIT (setBits (getF s UBF_NODE_ADMIT) n 1 1)) UBF_NODE_ADMIT := by
    rw [admitNode_eq]
    exact (framed_leaveRepro (nodeShown s n) 5 0 n hq).getF_eq (by decide)
  unfold isAdmitted
  rw [hmask, bit_getF_setF h (by decide) hn, lost_admitNode s n hq]
  simp

/- ### ADMIT at the worker (R69, R375, R391) -/

theorem execAdmitMessage_of_target {at_ : Nat} (ht : hTarget hdr = nodeId s) (hw : isWorker s = true) (ho : s.ubf.orphan = false) :
    exec (.admitMessage at_ hdr) s = .next (joinNode (syncDown (atTime s at_) hdr) (hAddr hdr) (hBody hdr)) := by
  have hrel := relinked_syncDown (atTime s at_) hdr
  have hregs : (syncDown (atTime s at_) hdr).regs = s.regs := hrel.regs
  have hnode : nodeId (syncDown (atTime s at_) hdr) = nodeId s := getF_congr hregs _
  have hrole : isWorker (syncDown (atTime s at_) hdr) = isWorker s := congrArg (· == 2) (getF_congr hregs _)
  have horphan : (syncDown (atTime s at_) hdr).ubf.orphan = false := by rw [hrel.eq]; exact ho
  change execAdmitMessage at_ hdr s = _
  unfold execAdmitMessage
  dsimp only
  rw [hnode, if_pos ht, hrole, hw, horphan, if_pos (by decide)]

/-- The worker's target and compensation. -/
def targetTaken (s : State) (target : Nat) : State := setF (setF s BEL_TARGET_NS target) BEL_COMP (target - ownDelay s)

theorem framed_targetTaken (s : State) (target : Nat) : Framed [] [BEL_TARGET_NS.addr, BEL_COMP.addr] s (targetTaken s target) :=
  ((framed_refl _ _ s).setF _ (f := BEL_TARGET_NS) (by decide)).setF _ (f := BEL_COMP) (by decide)

theorem target_targetTaken (h : swf resetOf s.regs = true) (target : Nat) :
    getF (targetTaken s target) BEL_TARGET_NS = target % 2 ^ BEL_TARGET_NS.w := by
  rw [targetTaken, getF_setF_other _ BEL_COMP BEL_TARGET_NS _ (by decide)]
  exact getF_setF_same s BEL_TARGET_NS target h (by decide)

theorem comp_targetTaken (h : swf resetOf s.regs = true) (target : Nat) :
    getF (targetTaken s target) BEL_COMP = (target - ownDelay s) % 2 ^ BEL_COMP.w :=
  getF_setF_same _ BEL_COMP _ (setF_wf _ _ _ h) (by decide)

/-- The worker takes source 6 and begins its place; its pins show that it runs. -/
def placeTaken (s : State) (stroke : Nat) : State :=
  let s := setF s CAR_STATUS_SOURCE 6
  let s := { s with bell := { s.bell with admitted := true, adopt := some stroke, admittedAt := s.time } }
  showPins { s with pins := { s.pins with safeState := flag s FLT_STATUS_SAFE, faultN := !flag s FLT_STATUS_SAFE } }

theorem framed_placeTaken (s : State) (stroke : Nat) : Framed [.bell, .pins] [CAR_STATUS.addr, ASY_STATUS.addr] s (placeTaken s stroke) := by
  have hsource : Framed [.bell, .pins] [CAR_STATUS.addr, ASY_STATUS.addr] s (setF s CAR_STATUS_SOURCE 6) := (framed_refl _ _ s).setF 6 (by decide)
  exact ((hsource.withBell _ (by decide)).withPins _ (by decide)).showPins (by decide)

theorem source_placeTaken (h : swf resetOf s.regs = true) (stroke : Nat) : source (placeTaken s stroke) = 6 :=
  (getF_showPins (by decide)).trans (getF_setF_same s CAR_STATUS_SOURCE 6 h (by decide))

theorem safe_placeTaken (s : State) (stroke : Nat) : (placeTaken s stroke).pins.safeState = flag s FLT_STATUS_SAFE :=
  flag_setF_other (f := CAR_STATUS_SOURCE) (g := FLT_STATUS_SAFE) 6 (by decide)

theorem joinNode_of_noAdmit (s : State) (target : Nat) : joinNode s target noAdmit = targetTaken s target := if_pos rfl

theorem joinNode_of_late {target stroke : Nat} (hs : stroke ≠ noAdmit) (hd : delayFits target (ownDelay s) = false) :
    joinNode s target stroke = sendFault s 0x05 0x005 4 0 := by
  unfold joinNode
  rw [if_neg hs, if_pos (by simp [hd])]

theorem joinNode_of_fits {target stroke : Nat} (hs : stroke ≠ noAdmit) (hd : delayFits target (ownDelay s) = true) (ha : s.bell.admitted = false) :
    joinNode s target stroke = placeTaken (admitNode (setF (targetTaken s target) BEL_STATUS_CALIBRATED 1)
      (nodeId (setF (targetTaken s target) BEL_STATUS_CALIBRATED 1))) stroke := by
  unfold joinNode
  rw [if_neg hs, if_neg (by simp [hd])]
  exact if_neg (ne_true_of_eq_false (by exact ha))

/-- A worker whose delay fits takes its place: it shows the target, its admission and source 6. -/
theorem joins_of_fits {target stroke : Nat} (h : swf resetOf s.regs = true) (hs : stroke ≠ noAdmit) (hd : delayFits target (ownDelay s) = true)
    (ha : s.bell.admitted = false) (hq : s.flt.fifo.length < 256) :
    (joinNode s target stroke).bell = { s.bell with admitted := true, adopt := some stroke, admittedAt := s.time } ∧
      source (joinNode s target stroke) = 6 ∧ getF (joinNode s target stroke) BEL_TARGET_NS = target % 2 ^ BEL_TARGET_NS.w ∧
      getF (joinNode s target stroke) BEL_COMP = (target - ownDelay s) % 2 ^ BEL_COMP.w ∧ getF (joinNode s target stroke) BEL_STATUS_CALIBRATED = 1 ∧
      isAdmitted (joinNode s target stroke) (nodeId s) = true ∧ (joinNode s target stroke).pins.safeState = flag s FLT_STATUS_SAFE ∧
      Framed [.bell, .ubf, .pins, .time, .car, .flt] [CAR_STATUS.addr, BEL_TARGET_NS.addr, BEL_COMP.addr, BEL_STATUS.addr, UBF_NODE_ADMIT.addr,
        ASY_STATUS.addr, TOP_MODE.addr, TOP_MODE_WHY.addr] s (joinNode s target stroke) := by
  have hw := setF_wf (targetTaken s target) BEL_STATUS_CALIBRATED 1 (setF_wf _ _ _ (setF_wf _ _ _ h))
  have hcal : Framed [] [BEL_TARGET_NS.addr, BEL_COMP.addr, BEL_STATUS.addr] s (setF (targetTaken s target) BEL_STATUS_CALIBRATED 1) :=
    ((framed_targetTaken s target).mono (by simp) (by simp +contextual)).setF 1 (f := BEL_STATUS_CALIBRATED) (by decide)
  have hnode : nodeId (setF (targetTaken s target) BEL_STATUS_CALIBRATED 1) = nodeId s := hcal.getF_eq (by decide)
  have hadmit := framed_admitNode (setF (targetTaken s target) BEL_STATUS_CALIBRATED 1) (nodeId s) hq
  have hadmitw : swf resetOf (admitNode (setF (targetTaken s target) BEL_STATUS_CALIBRATED 1) (nodeId s)).regs = true :=
    (kept_admitNode _ _ ⟨id, id, id, rfl⟩).regs hw
  have hplace := framed_placeTaken (admitNode (setF (targetTaken s target) BEL_STATUS_CALIBRATED 1) (nodeId s)) stroke
  have hbell : (admitNode (setF (targetTaken s target) BEL_STATUS_CALIBRATED 1) (nodeId s)).bell = s.bell := hadmit.1 .bell (by decide)
  have htime : (admitNode (setF (targetTaken s target) BEL_STATUS_CALIBRATED 1) (nodeId s)).time = s.time := (hadmit.1 .time (by decide)).1
  rw [joinNode_of_fits hs hd ha, hnode]
  refine ⟨?_, source_placeTaken hadmitw stroke, ?_, ?_, ?_, ?_, ?_, ?_⟩
  · show { (admitNode (setF (targetTaken s target) BEL_STATUS_CALIBRATED 1) (nodeId s)).bell with
      admitted := true, adopt := some stroke, admittedAt := (admitNode (setF (targetTaken s target) BEL_STATUS_CALIBRATED 1) (nodeId s)).time } = _
    rw [hbell, htime]
  · rw [hplace.getF_eq (by decide), hadmit.getF_eq (by decide), getF_setF_other _ BEL_STATUS_CALIBRATED BEL_TARGET_NS _ (by decide), target_targetTaken h]
  · rw [hplace.getF_eq (by decide), hadmit.getF_eq (by decide), getF_setF_other _ BEL_STATUS_CALIBRATED BEL_COMP _ (by decide), comp_targetTaken h]
  · rw [hplace.getF_eq (by decide), hadmit.getF_eq (by decide)]
    exact getF_setF_same _ BEL_STATUS_CALIBRATED 1 (setF_wf _ _ _ (setF_wf _ _ _ h)) (by decide)
  · have hubf : (placeTaken (admitNode (setF (targetTaken s target) BEL_STATUS_CALIBRATED 1) (nodeId s)) stroke).ubf =
        (admitNode (setF (targetTaken s target) BEL_STATUS_CALIBRATED 1) (nodeId s)).ubf := hplace.1 .ubf (by decide)
    have hadmitted := isAdmitted_admitNode hw (n := nodeId s) (getF_lt s UBF_NODE_CFG_NODE_ID) hq
    unfold isAdmitted at hadmitted ⊢
    rw [hplace.getF_eq (by decide), hubf]
    exact hadmitted
  · rw [safe_placeTaken, hadmit.flag_eq (by decide), hcal.flag_eq (by decide)]
  · exact ((hcal.mono (by simp) (by simp +contextual)).trans (hadmit.mono (by simp) (by simp +contextual))).trans (hplace.mono (by simp) (by simp))

/-- ADMIT finds the worker as it was, but for the message and the time. -/
theorem framed_admitSeen (s : State) (at_ : Nat) (hdr : List Nat) : Framed [.ubf, .time] [] s (syncDown (atTime s at_) hdr) :=
  ((framed_refl _ _ s).atTime at_ (by decide)).trans ((relinked_syncDown _ _).framed (by decide))

/- ### WORKER_ADMIT at the manager (R390, R391) -/

/-- The manager admits a node and tells it the target and the stroke. -/
def admissionSent (s : State) (node : Nat) : State :=
  sendSync (admitNode s node) 0x17 node (targetNs s) s.stk.no

theorem mem_underCal {node : Nat} (h0 : 0 < node) (h16 : node < 16) (he : bit (getF s UBF_NODE_CFG_EXP) node = true) (ha : isAdmitted s node = false)
    (hl : linkTo (nodeId s) node = some link) (hu : linkUp s link = true) (hr : (lnk s link).refused = false)
    (hp : (parentOf node).all (fun p => p == 0 || isAdmitted s p) = true) : node ∈ underCal s := by
  have hparent : ∃ p, parentOf node = some p := by
    unfold parentOf
    rw [if_neg (by omega)]
    split
    · exact ⟨_, rfl⟩
    · exact ⟨_, rfl⟩
  obtain ⟨p, hparent⟩ := hparent
  rw [hparent] at hp
  unfold underCal workers
  rw [List.mem_filter, List.mem_filter, hl, hparent]
  refine ⟨⟨List.mem_range.mpr h16, by simp [he]; omega⟩, ?_⟩
  cases p with
  | zero => simp [ha, hu, hr]
  | succ p =>
    have hadmitted : isAdmitted s (p + 1) = true := by simpa using hp
    simp [ha, hu, hr, hadmitted]

theorem execWorkerAdmit_of_due {at_ node delay : Nat} (hm : isManager s = true) (hc : node ∈ underCal s) (hi : s.stk.inst ≤ at_) (hd : delay ≤ 1900)
    (hf : delayFits (targetNs s) delay = true) : exec (.workerAdmit at_ node delay) s =
      .next (if flag (admissionSent (atTime s at_) node) TOP_MODE_REQ_PEND ∧ mode (admissionSent (atTime s at_) node) = 0
        then sendSync (admissionSent (atTime s at_) node) 0x14 node 1 0 else admissionSent (atTime s at_) node) := by
  have hm' : isManager (atTime s at_) = true := hm
  have hc' : (underCal (atTime s at_)).contains node = true := List.contains_iff_mem.mpr hc
  have hf' : delayFits (targetNs (atTime s at_)) delay = true := hf
  have hi' : ¬ at_ < (atTime s at_).stk.inst := Nat.not_lt.mpr hi
  change execWorkerAdmit at_ node delay s = _
  unfold execWorkerAdmit
  dsimp only
  rw [if_neg (by simp only [hm', hc', hi']; simp; omega), if_pos hf']
  rfl

end Sys2Proof.Machine

open Sys2Proof Sys2Proof.Machine

/-- Settles O46: LINK_ID is `linkId_of_upstream`, `linkId_of_fits` and `linkId_of_refused`; ADMIT is `joins_of_fits`; the manager's admission is
`admitNode` with its messages. -/
theorem childrenAreAcceptedAndWorkersAdmitted : Obligations.ChildrenAreAcceptedAndWorkersAdmitted := by
  intro s at_ link node delay hdr hi h4
  have hseen := framed_admitSeen s at_ hdr
  have hregs : (syncDown (atTime s at_) hdr).regs = s.regs := (relinked_syncDown (atTime s at_) hdr).regs
  have hw : swf resetOf (syncDown (atTime s at_) hdr).regs = true := by rw [hregs]; exact hi.1
  have hown : ownDelay (syncDown (atTime s at_) hdr) = ownDelay s := getF_congr hregs _
  have hnode : nodeId (syncDown (atTime s at_) hdr) = nodeId s := getF_congr hregs _
  have hflt : (syncDown (atTime s at_) hdr).flt = s.flt := hseen.1 .flt (by decide)
  have hstk : (syncDown (atTime s at_) hdr).stk = s.stk := hseen.1 .stk (by decide)
  have hbell : (syncDown (atTime s at_) hdr).bell = s.bell := hseen.1 .bell (by decide)
  have htime : (syncDown (atTime s at_) hdr).time = (atTime s at_).time := by rw [(relinked_syncDown (atTime s at_) hdr).eq]
  refine ⟨linkId_of_upstream hi h4 hdr, linkId_of_fits hi h4 hdr, linkId_of_refused hi h4 hdr, fun ht hwk ho ha hb hd hq => ?_,
    fun ht hwk ho hb => ?_, fun ht hwk ho hb hd hq => ?_, fun hm h0 h16 he ha hl hu hr hp hinst hdel hd hq => ?_⟩
  · obtain ⟨hbell', hsource, htarget, hcomp, hcal, hadm, hsafe, hframe⟩ := joins_of_fits (s := syncDown (atTime s at_) hdr) (target := hAddr hdr)
      (stroke := hBody hdr) hw hb (by rw [hown]; exact hd) (by rw [hbell]; exact ha) (by rw [hflt]; exact hq)
    refine ⟨_, execAdmitMessage_of_target ht hwk ho, by rw [hbell', hbell, htime], hsource, htarget, by rw [hcomp, hown], hcal, by rw [← hnode]; exact hadm,
      ?_, (hseen.mono (by simp) (by simp)).trans hframe⟩
    rw [hsafe, hseen.flag_eq (by simp)]
  · refine ⟨_, execAdmitMessage_of_target ht hwk ho, ?_⟩
    rw [hb, joinNode_of_noAdmit]
    refine ⟨target_targetTaken hw _, ?_, (hseen.mono (by simp) (by simp)).trans ((framed_targetTaken _ _).mono (by simp) (by simp))⟩
    rw [comp_targetTaken hw, hown]
  · have hq' : (syncDown (atTime s at_) hdr).flt.fifo.length < 256 := by rw [hflt]; exact hq
    refine ⟨_, execAdmitMessage_of_target ht hwk ho, ?_⟩
    rw [joinNode_of_late hb (by rw [hown]; exact hd)]
    refine ⟨?_, (hseen.mono (by simp) (by simp)).sendFault _ _ _ _ hq' (by decide)⟩
    have hrec : mkRec (syncDown (atTime s at_) hdr) 0x05 0x005 4 0 = mkRec (atTime s at_) 0x05 0x005 4 0 :=
      mkRec_congr (s := atTime s at_) hstk htime _ _ _ _
    rw [sendFault_eq _ _ _ _ _ hq', hflt, hrec]
  · have hadmit := framed_admitNode (atTime s at_) node hq
    have hsent : Relinked (admitNode (atTime s at_) node) (admissionSent (atTime s at_) node) := relinked_sendSync _ _ _ _ _
    have hadmitted := isAdmitted_admitNode (s := atTime s at_) hi.1 h16 hq
    have hlost := lost_admitNode (atTime s at_) node hq
    have hframe : Framed [.ubf, .time, .car, .flt] [UBF_NODE_ADMIT.addr, TOP_MODE.addr, TOP_MODE_WHY.addr] s (admissionSent (atTime s at_) node) :=
      (((framed_refl _ _ s).atTime at_ (by decide)).trans (hadmit.mono (by simp) (by simp))).trans (hsent.framed (by decide))
    rw [execWorkerAdmit_of_due hm (mem_underCal h0 h16 he ha hl hu hr hp) hinst hdel hd]
    refine ⟨_, rfl, ?_⟩
    split
    · have hasked : Relinked (admissionSent (atTime s at_) node) (sendSync (admissionSent (atTime s at_) node) 0x14 node 1 0) := relinked_sendSync _ _ _ _ _
      exact ⟨by rw [hasked.isAdmitted, hsent.isAdmitted, hadmitted], by rw [hasked.lost, hsent.lost, hlost]; rfl, hframe.trans (hasked.framed (by decide))⟩
    · exact ⟨by rw [hsent.isAdmitted, hadmitted], by rw [hsent.lost, hlost]; rfl, hframe⟩

end

section
/-! Stores to the Anvil (R344 to R346, R352, R421): what a write of lines leaves alone, and the bytes it leaves where no line is in error. -/

namespace Sys2Proof.Machine

set_option Elab.async false

variable {l : List Part} {rs bl : List Nat} {z s t : State} {line off : Nat} {bs : List Nat}

/- ### Frames over register blocks -/

/-- Only the listed parts, and only registers of the listed blocks, change. -/
def Moves (l : List Part) (bl : List Nat) (s t : State) : Prop := PartsBut l s t ∧ BlocksBut bl s t

theorem moves_refl (l : List Part) (bl : List Nat) (s : State) : Moves l bl s s := ⟨(framed_refl l [] s).1, fun _ _ => rfl⟩

theorem Moves.trans (h : Moves l bl z s) (k : Moves l bl s t) : Moves l bl z t :=
  ⟨fun p hp => (h.1 p hp).trans (k.1 p hp), fun a ha => (k.2 a ha).trans (h.2 a ha)⟩

theorem Moves.mono {l' : List Part} {bl' : List Nat} (hl : ∀ p ∈ l, p ∈ l') (hb : ∀ b ∈ bl, b ∈ bl') (h : Moves l bl s t) : Moves l' bl' s t :=
  ⟨fun p hp => h.1 p fun hin => hp (hl p hin), fun a ha => h.2 a fun hin => ha (hb _ hin)⟩

theorem Moves.of_framed (hb : ∀ a ∈ rs, blockOf a ∈ bl) (h : Framed l rs s t) : Moves l bl s t := ⟨h.1, fun a ha => h.2 a fun hin => ha (hb a hin)⟩

theorem Moves.setF {f : Fld} (v : Nat) (hf : blockOf f.addr ∈ bl) (h : Moves l bl z s) : Moves l bl z (setF s f v) :=
  h.trans (.of_framed (by simpa using hf) ((framed_refl l [f.addr] s).setF v (by simp)))

theorem Moves.bump {f : Fld} (n : Nat) (hf : blockOf f.addr ∈ bl) (h : Moves l bl z s) : Moves l bl z (bump s f n) := h.setF _ hf

theorem Moves.framed (hb : bl = []) (h : Moves l bl s t) : Framed l [] s t := ⟨h.1, fun a _ => h.2 a (by simp [hb])⟩

/-- Memory alone changes. -/
theorem moves_mem (s : State) (m : Mem) : Moves [.mem] [] s { s with mem := m } :=
  ⟨fun p hp => by cases p <;> simp_all [SamePart], fun _ _ => rfl⟩

/-- The blocks of a record's traces: the Assay's status and the collector (R289, R432, R434). -/
theorem moves_sendFault (s : State) (block code cls unit : Nat) : Moves [.flt, .pins] [0x0F, 0x1E] s (sendFault s block code cls unit) :=
  .of_framed (by decide) (framed_sendFault s block code cls unit)

/- ### Memory's own operations -/

theorem poke_eq (s : State) (a : Nat) (bs : List Nat) : poke s a bs = { s with mem := (poke s a bs).mem } := by
  induction bs generalizing s a with
  | nil => rfl
  | cons b bs ih => exact ih (setByte s a b) (a + 1)

theorem poke_errs (s : State) (a : Nat) (bs : List Nat) : (poke s a bs).mem.errs = s.mem.errs := by
  induction bs generalizing s a with
  | nil => rfl
  | cons b bs ih => exact ih (setByte s a b) (a + 1)

theorem byteAt_congr (h : t.mem.cells = s.mem.cells) (a : Nat) : byteAt t a = byteAt s a := by
  unfold byteAt
  rw [h]

theorem setByte_wf (a v : Nat) (h : Memory.wf s.mem = true) : Memory.wf (setByte s a v).mem = true := by
  simp only [Memory.wf, Bool.and_eq_true] at h ⊢
  obtain ⟨⟨⟨hcells, herrs⟩, hfab⟩, hspare⟩ := h
  exact ⟨⟨⟨swf_sset zeroByte _ _ _ hcells, herrs⟩, hfab⟩, hspare⟩

/-- The bytes after a write are those written, and the others as before. -/
theorem byteAt_poke (h : Memory.wf s.mem = true) (a : Nat) (bs : List Nat) (x : Nat) :
    byteAt (poke s a bs) x = if a ≤ x ∧ x < a + bs.length then bs.getD (x - a) 0 % 256 else byteAt s x := by
  induction bs generalizing s a with
  | nil => rw [if_neg (by simp)]; rfl
  | cons b bs ih =>
    rw [poke, ih (setByte_wf a b h)]
    by_cases hx : x = a
    · subst hx
      rw [if_neg (by omega), if_pos (by simp), byteAt_setByte_same s x b h]
      simp
    · rw [byteAt_setByte_other s a x b hx]
      by_cases hin : a + 1 ≤ x ∧ x < a + 1 + bs.length
      · rw [if_pos hin, if_pos (by simp only [List.length_cons]; omega), show x - a = (x - (a + 1)) + 1 by omega, List.getD_cons_succ]
      · rw [if_neg hin, if_neg (by simp only [List.length_cons]; omega)]

/-- A line as a write leaves it: its bytes, a fresh code, no write-back pending, its TAG (R344, R346, R362). -/
def lineWritten (s : State) (line : Nat) (bs : List Nat) : State := tagWrite (dropWriteback (setErr (poke s line bs) line []) line) line

theorem moves_lineWritten (s : State) (line : Nat) (bs : List Nat) : Moves [.mem] [] s (lineWritten s line bs) := by
  have hpoke : Moves [.mem] [] s (poke s line bs) := by
    rw [poke_eq]
    exact moves_mem s _
  have hdrop : Moves [.mem] [] s (dropWriteback (setErr (poke s line bs) line []) line) := (hpoke.trans (moves_mem _ _)).trans (moves_mem _ _)
  unfold lineWritten tagWrite
  split
  · exact hdrop.trans (moves_mem _ _)
  · exact hdrop

theorem lineWritten_cells (s : State) (line : Nat) (bs : List Nat) : (lineWritten s line bs).mem.cells = (poke s line bs).mem.cells := by
  unfold lineWritten tagWrite
  split <;> rfl

theorem lineWritten_errs (s : State) (line : Nat) (bs : List Nat) (h : s.mem.errs = []) : (lineWritten s line bs).mem.errs = [] := by
  have hset : (setErr (poke s line bs) line []).mem.errs = [] := by
    show sset noErr (poke s line bs).mem.errs line _ = []
    rw [poke_errs, h]
    rfl
  unfold lineWritten tagWrite
  split <;> exact hset

theorem byteAt_lineWritten (s : State) (line : Nat) (bs : List Nat) (x : Nat) : byteAt (lineWritten s line bs) x = byteAt (poke s line bs) x :=
  byteAt_congr (lineWritten_cells s line bs) x

/- ### The inbox's watch (R212) -/

theorem moves_inboxWatch (s : State) (whole : Bool) (line : Nat) (bs : List Nat) :
    Moves [.flt, .pins] [0x0D, 0x0F, 0x1E] s (inboxWatch s whole line bs) := by
  have hfull : ∀ (s : State) slot v, Moves [.flt, .pins] [0x0D, 0x0F, 0x1E] s (setF s ⟨0x40D80040, slot, 1⟩ v) := fun s slot v =>
    (moves_refl _ _ s).setF v (f := ⟨0x40D80040, slot, 1⟩) (show blockOf 0x40D80040 ∈ _ by decide)
  unfold inboxWatch
  dsimp only
  split
  · split
    · split
      · split
        · exact hfull s _ _
        · exact moves_refl _ _ s
      · exact ((hfull s _ 0).bump 1 (f := TNG_INBOX_STALE) (by decide)).trans ((moves_sendFault _ _ _ _ _).mono (by simp) (by simp))
    · exact hfull s _ _
  · exact moves_refl _ _ s

theorem inboxWatch_of_apart (whole : Bool) (bs : List Nat) (h : line < inboxBase s ∨ inboxBase s + 2048 ≤ line) : inboxWatch s whole line bs = s := by
  unfold inboxWatch
  dsimp only
  exact if_neg (by omega)

/- ### What the check of a line leaves (R344, R352) -/

theorem moves_withAnv (s : State) (x : Anv) : Moves [.flt, .pins, .anv] [0x08, 0x0F, 0x1E] s { s with anv := x } :=
  .of_framed (rs := []) (by simp) ((framed_refl _ _ s).withAnv x (by decide))

theorem moves_record (s : State) (block code cls unit : Nat) : Moves [.flt, .pins, .anv] [0x08, 0x0F, 0x1E] s (sendFault s block code cls unit) :=
  (moves_sendFault s block code cls unit).mono (by simp) (by simp)

theorem moves_bankDue (s : State) (pb : Nat) : Moves [.flt, .pins, .anv] [0x08, 0x0F, 0x1E] s (bankDue s pb) := by
  unfold bankDue
  split
  · exact moves_refl _ _ s
  · exact moves_withAnv s _

theorem moves_oncePerStroke (s : State) (key block cls unit : Nat) : Moves [.flt, .pins, .anv] [0x08, 0x0F, 0x1E] s (oncePerStroke s key block cls unit) := by
  unfold oncePerStroke onceCode
  split
  · exact moves_refl _ _ s
  · exact (moves_withAnv s _).trans (moves_record _ _ _ _ _)

/-- A line queued to be written back reads as before. -/
theorem moves_queueWriteback (s : State) (line : Nat) : Moves [.flt, .pins, .anv] [0x08, 0x0F, 0x1E] s (queueWriteback s line) :=
  ⟨fun p hp => by cases p <;> simp_all [SamePart, SameMem, queueWriteback, byteAt], fun _ _ => rfl⟩

theorem pbankOf_lt (s : State) (a : Nat) : pbankOf s a < 2048 := getF_lt s (ANV_MAP (bankOf a))

theorem moves_countCe (s : State) {pb : Nat} (h : pb < 2048) : Moves [.flt, .pins, .anv] [0x08, 0x0F, 0x1E] s (countCe s pb) := by
  have hblock : blockOf (ANV_BANK_CE_COUNT pb).addr = 0x08 := by
    show (0x40820000 + pb * 0x4 - 0x40000000) / 0x100000 = 8
    omega
  unfold countCe
  dsimp only
  refine Moves.bump 1 (f := ANV_CE_TOTAL) (by decide) (Moves.bump 1 (f := ANV_BANK_CE_COUNT pb) (by rw [hblock]; decide) ?_)
  split
  · exact moves_withAnv s _
  · exact moves_refl _ _ s

theorem moves_anvilBad (s : State) (line : Nat) : Moves [.flt, .pins, .anv] [0x08, 0x0F, 0x1E] s (anvilBad s false line) := by
  have hshown : ∀ a b c d e f, Moves [.flt, .pins, .anv] [0x08, 0x0F, 0x1E] s
      (setF (setF (setF (setF (setF (set64 s ANV_UE_ADDR_LO ANV_UE_ADDR_HI a) ANV_UE_INFO_PBANK b) ANV_UE_INFO_SCRUB c) ANV_UE_INFO_FABRIC d)
        ANV_UE_INFO_POISON e) ANV_UE_INFO_ASY f) := fun a b c d e f =>
    (((((((moves_refl _ _ s).setF _ (f := ANV_UE_ADDR_LO) (by decide)).setF _ (f := ANV_UE_ADDR_HI) (by decide)).setF b (f := ANV_UE_INFO_PBANK)
      (by decide)).setF c (f := ANV_UE_INFO_SCRUB) (by decide)).setF d (f := ANV_UE_INFO_FABRIC) (by decide)).setF e (f := ANV_UE_INFO_POISON)
      (by decide)).setF f (f := ANV_UE_INFO_ASY) (by decide)
  unfold anvilBad
  dsimp only
  split
  · exact (hshown _ _ _ _ _ _).bump 1 (f := ANV_ASY_UE) (by decide)
  · exact ((hshown _ _ _ _ _ _).bump 1 (f := ANV_UE_TOTAL) (by decide)).trans (moves_bankDue _ _)

/-- A line of the Anvil: what its check finds, and the 64 bytes it gives. -/
theorem readLine_anvil (s : State) (h : line < asyBase) : (readLine s line).2 = [] ∨ (readLine s line).2 = [.bad (lineOf line)] ∨
    ∃ fix, (readLine s line).2 = [.corrected (lineOf line) fix] := by
  have hddr : ¬ ddrBase ≤ line := by simp only [ddrBase, asyBase] at h ⊢; omega
  unfold readLine
  simp only [hddr, decide_false, Bool.false_eq_true, false_and, if_false]
  generalize (if errAt s (lineOf line) = [] then LineRes.clean else lineCheck (errAt s (lineOf line))) = r
  cases r with
  | clean => exact .inl rfl
  | corrected fix => exact .inr (.inr ⟨fix, rfl⟩)
  | bad => exact .inr (.inl rfl)

theorem xorBytes_length (a b : List Nat) : (xorBytes a b).length = a.length := by simp [xorBytes]

theorem peek_length (s : State) (a n : Nat) : (peek s a n).length = n := by simp [peek]

theorem readLine_length {old : List Nat} (h : (readLine s line).1 = some old) : old.length = 64 := by
  unfold readLine at h
  dsimp only at h
  split at h
  · cases h
  · split at h
    · cases h
    · split at h <;> cases h
      rw [xorBytes_length, peek_length]
    · split at h <;> cases h
      rw [xorBytes_length, peek_length]

/-- The check of an Anvil line before a part of it is written (R345, R352). -/
theorem moves_mergeFx (s : State) (h : line < asyBase) :
    Moves [.flt, .pins, .anv] [0x08, 0x0F, 0x1E] s ((readLine s line).2.foldl mergeFx s) := by
  have hline : lineOf line < asyBase := by unfold lineOf; omega
  have hddr : ¬ ddrBase ≤ lineOf line := by simp only [ddrBase, asyBase] at hline ⊢; omega
  rcases readLine_anvil s h with hnone | hbad | ⟨fix, hfix⟩
  · rw [hnone]
    exact moves_refl _ _ s
  · rw [hbad]
    show Moves _ _ s (mergeFx s (.bad (lineOf line)))
    rw [mergeFx, if_neg hddr]
    exact moves_anvilBad s _
  · rw [hfix]
    show Moves _ _ s (noteFx false s (.corrected (lineOf line) fix))
    have hqueued := ((moves_countCe s (pbankOf_lt s (lineOf line))).trans
      (moves_oncePerStroke _ (pbankOf s (lineOf line)) 0x08 1 (pbankOf s (lineOf line) / 8))).trans (moves_queueWriteback _ (lineOf line))
    rw [noteFx, if_neg hddr, if_neg (Nat.not_le.mpr hline)]
    dsimp only
    split
    · exact hqueued.trans (moves_bankDue _ _)
    · exact hqueued

/- ### One line of a store (R344 to R346) -/

theorem putLine_eq (s : State) (line : Nat) (bs : List Nat) :
    putLine s line bs = inboxWatch (lineWritten s line ((bs ++ List.replicate 64 0).take 64)) true line bs := rfl

/-- The 64 bytes of a line of which a part is written. -/
def merged (old : List Nat) (off : Nat) (bs : List Nat) : List Nat := old.take off ++ bs ++ old.drop (off + bs.length)

theorem merged_length {old : List Nat} (ho : old.length = 64) (hb : off + bs.length ≤ 64) : (merged old off bs).length = 64 := by
  simp only [merged, List.length_append, List.length_take, List.length_drop]
  omega

theorem putPart_of_read {old : List Nat} (h : (readLine s line).1 = some old) : putPart s line off bs =
    inboxWatch (lineWritten ((readLine s line).2.foldl mergeFx s) line (merged old off bs)) false line (merged old off bs) := by
  unfold putPart
  dsimp only
  rw [h]
  rfl

theorem putPart_of_bad (h : (readLine s line).1 = none) : putPart s line off bs =
    putPoison ((readLine s line).2.foldl mergeFx s) line (merged (peek ((readLine s line).2.foldl mergeFx s) line 64) off bs) := by
  unfold putPart
  dsimp only
  rw [h]
  rfl

/-- What a store may change beside its bytes. -/
abbrev StoreMoves (s t : State) : Prop := Moves [.mem, .flt, .pins, .anv] [0x08, 0x0D, 0x0F, 0x1E] s t

theorem storeMoves_watched (s : State) (line : Nat) (new : List Nat) (whole : Bool) (seen : List Nat) :
    Moves [.mem, .flt, .pins] [0x0D, 0x0F, 0x1E] s (inboxWatch (lineWritten s line new) whole line seen) :=
  ((moves_lineWritten s line new).mono (by simp) (by simp)).trans ((moves_inboxWatch _ whole line seen).mono (by simp) (by simp))

/-- A watched write of a line changes the bytes that the write changes. -/
theorem byteAt_watched (s : State) (line : Nat) (new : List Nat) (whole : Bool) (seen : List Nat) (x : Nat) :
    byteAt (inboxWatch (lineWritten s line new) whole line seen) x = byteAt (poke s line new) x :=
  (((moves_inboxWatch _ whole line seen).1 .mem (by decide)).1 x).trans (byteAt_lineWritten s line new x)

theorem errs_watched (s : State) (line : Nat) (new : List Nat) (whole : Bool) (seen : List Nat) (h : s.mem.errs = []) :
    (inboxWatch (lineWritten s line new) whole line seen).mem.errs = [] :=
  ((moves_inboxWatch _ whole line seen).1 .mem (by decide)).2.1.trans (lineWritten_errs s line new h)

theorem storeMoves_putPoison (s : State) (line : Nat) (new : List Nat) : StoreMoves s (putPoison s line new) := by
  have hpoke : Moves [.mem] [] s (poke s line new) := by
    rw [poke_eq]
    exact moves_mem s _
  have hdrop : Moves [.mem] [] s (dropWriteback (poke s line new) line) := hpoke.trans (moves_mem _ _)
  have htag : Moves [.mem] [] s (tagWrite (dropWriteback (poke s line new) line) line) := by
    unfold tagWrite
    split
    · exact hdrop.trans (moves_mem _ _)
    · exact hdrop
  have herr : StoreMoves s (setErr (tagWrite (dropWriteback (poke s line new) line) line) line poison) :=
    (htag.trans (moves_mem _ _)).mono (by simp) (by simp)
  unfold putPoison
  dsimp only
  split
  · exact herr.bump 1 (f := ANV_POISON_W) (by decide)
  · exact herr

theorem byteAt_putPoison (s : State) (line : Nat) (new : List Nat) (x : Nat) : byteAt (putPoison s line new) x = byteAt (poke s line new) x := by
  refine byteAt_congr ?_ x
  unfold putPoison tagWrite
  split <;> split <;> rfl

theorem storeMoves_putPart (h : line < asyBase) (off : Nat) (bs : List Nat) : StoreMoves s (putPart s line off bs) := by
  have hcheck : StoreMoves s ((readLine s line).2.foldl mergeFx s) := (moves_mergeFx s h).mono (by simp) (by simp)
  cases hread : (readLine s line).1 with
  | some old =>
    rw [putPart_of_read hread]
    exact hcheck.trans ((storeMoves_watched _ line _ false _).mono (by simp) (by simp))
  | none =>
    rw [putPart_of_bad hread]
    exact hcheck.trans (storeMoves_putPoison _ _ _)

/-- A part of a line written leaves the other lines' bytes. -/
theorem byteAt_putPart_other (h : line < asyBase) (hb : off + bs.length ≤ 64) {x : Nat} (hx : x < line ∨ line + 64 ≤ x) :
    byteAt (putPart s line off bs) x = byteAt s x := by
  have hcheck : byteAt ((readLine s line).2.foldl mergeFx s) x = byteAt s x := ((moves_mergeFx s h).1 .mem (by decide)).1 x
  cases hread : (readLine s line).1 with
  | some old =>
    rw [putPart_of_read hread, byteAt_watched, byteAt_poke_other _ _ _ _ (by rw [merged_length (readLine_length hread) hb]; exact hx), hcheck]
  | none =>
    rw [putPart_of_bad hread, byteAt_putPoison, byteAt_poke_other _ _ _ _ (by rw [merged_length (peek_length _ _ _) hb]; exact hx), hcheck]

/-- The write of a store at one line. -/
def storePiece (s : State) (a : Nat) (bs : List Nat) : State :=
  if min (64 - a % 64) bs.length = 64 then putLine s a (bs.take 64) else putPart s (lineOf a) (a % 64) (bs.take (min (64 - a % 64) bs.length))

theorem storeGo_succ (k : Nat) (s : State) (a : Nat) (bs : List Nat) (h : bs ≠ []) :
    storeGo (k + 1) s a bs = storeGo k (storePiece s a bs) (a + min (64 - a % 64) bs.length) (bs.drop (min (64 - a % 64) bs.length)) := by
  rw [storeGo, if_neg h]
  rfl

theorem storeMoves_storePiece {a : Nat} (h : a < asyBase) (bs : List Nat) : StoreMoves s (storePiece s a bs) := by
  unfold storePiece
  split
  · rw [putLine_eq]
    exact (storeMoves_watched _ _ _ true _).mono (by simp) (by simp)
  · exact storeMoves_putPart (Nat.lt_of_le_of_lt (Nat.div_mul_le_self a 64) h) _ _

theorem byteAt_storePiece_other {a x : Nat} (h : a < asyBase) (bs : List Nat) (hx : x / 64 ≠ a / 64) : byteAt (storePiece s a bs) x = byteAt s x := by
  unfold storePiece
  split
  next hn =>
    rw [putLine_eq, byteAt_watched]
    refine byteAt_poke_other _ _ _ _ ?_
    simp only [List.length_take, List.length_append, List.length_replicate]
    omega
  · refine byteAt_putPart_other (Nat.lt_of_le_of_lt (Nat.div_mul_le_self a 64) h) ?_ ?_
    · simp only [List.length_take]
      omega
    · omega

/-- A store to the Anvil: its frame, and the lines it leaves. -/
theorem storeMoves_storeGo (k : Nat) (s : State) (a : Nat) (bs : List Nat) (h : a + bs.length ≤ anvilEnd) : StoreMoves s (storeGo k s a bs) := by
  induction k generalizing s a bs with
  | zero => exact moves_refl _ _ s
  | succ k ih =>
    by_cases hb : bs = []
    · rw [storeGo, if_pos hb]
      exact moves_refl _ _ s
    · rw [storeGo_succ k s a bs hb]
      have hlen := List.length_pos_iff.mpr hb
      exact (storeMoves_storePiece (by simp only [anvilEnd, asyBase] at *; omega) bs).trans (ih _ _ _ (by rw [List.length_drop]; omega))

theorem byteAt_storeGo_other (k : Nat) (s : State) (a : Nat) (bs : List Nat) (h : a + bs.length ≤ anvilEnd) {x : Nat}
    (hx : x / 64 < a / 64 ∨ (a + bs.length - 1) / 64 < x / 64) : byteAt (storeGo k s a bs) x = byteAt s x := by
  induction k generalizing s a bs with
  | zero => rfl
  | succ k ih =>
    by_cases hb : bs = []
    · rw [storeGo, if_pos hb]
    · rw [storeGo_succ k s a bs hb]
      have hlen := List.length_pos_iff.mpr hb
      rw [ih _ _ _ (by rw [List.length_drop]; omega) (by rw [List.length_drop]; omega),
        byteAt_storePiece_other (by simp only [anvilEnd, asyBase] at *; omega) bs (by omega)]

/- ### A store where no line is in error -/

theorem xorBytes_nil (bs : List Nat) : xorBytes bs (patternBytes []) = bs := by
  show List.zipWith Nat.xor bs (List.replicate bs.length 0) = bs
  induction bs with
  | nil => rfl
  | cons b bs ih =>
    rw [List.length_cons, List.replicate_succ, List.zipWith_cons_cons, ih]
    exact congrArg (· :: bs) (Nat.xor_zero b)

/-- A line of the Anvil without an error gives its bytes, and its check finds nothing. -/
theorem readLine_clean (h : line < asyBase) (he : s.mem.errs = []) : readLine s line = (some (peek s (lineOf line) 64), []) := by
  have hddr : ¬ ddrBase ≤ line := by simp only [ddrBase, asyBase] at h ⊢; omega
  have herr : errAt s (lineOf line) = [] := by rw [errAt, he]; rfl
  unfold readLine
  simp only [hddr, decide_false, Bool.false_eq_true, false_and, if_false, herr, if_true, xorBytes_nil]

theorem getD_peek (s : State) (a : Nat) {n i : Nat} (h : i < n) : (peek s a n).getD i 0 = byteAt s (a + i) := by
  simp [peek, h]

theorem byteAt_lt (s : State) (a : Nat) : byteAt s a < 256 := (sget zeroByte s.mem.cells a).isLt

/-- The bytes of a line with a part written: that part, and the line's own around it. -/
theorem getD_merged (s : State) (line off : Nat) (bs : List Nat) {i : Nat} (hi : i < 64) (hb : off + bs.length ≤ 64) :
    (merged (peek s line 64) off bs).getD i 0 = if off ≤ i ∧ i < off + bs.length then bs.getD (i - off) 0 else byteAt s (line + i) := by
  have htake : ((peek s line 64).take off).length = off := by rw [List.length_take, peek_length]; omega
  rw [merged, List.append_assoc, List.getD_eq_getElem?_getD, List.getD_eq_getElem?_getD, ← getD_peek s line hi, List.getD_eq_getElem?_getD]
  by_cases hlo : i < off
  · rw [if_neg (by omega), List.getElem?_append_left (by omega), List.getElem?_take, if_pos hlo]
  · rw [List.getElem?_append_right (by omega), htake]
    by_cases hhi : i < off + bs.length
    · rw [if_pos ⟨by omega, hhi⟩, List.getElem?_append_left (by omega)]
    · rw [if_neg (by omega), List.getElem?_append_right (by omega), List.getElem?_drop, show off + bs.length + (i - off - bs.length) = i by omega]

/-- Without errors a piece is a watched write of its line with its bytes in place. -/
theorem storePiece_clean {a : Nat} (h : a < asyBase) (he : s.mem.errs = []) (hw : Memory.wf s.mem = true) (bs : List Nat) :
    ∃ new whole seen, storePiece s a bs = inboxWatch (lineWritten s (lineOf a) new) whole (lineOf a) seen ∧
      ∀ x, byteAt (poke s (lineOf a) new) x =
        if a ≤ x ∧ x < a + min (64 - a % 64) bs.length then bs.getD (x - a) 0 % 256 else byteAt s x := by
  unfold storePiece
  by_cases hn : min (64 - a % 64) bs.length = 64
  · have hline : lineOf a = a := by unfold lineOf; omega
    have hnew : (bs.take 64 ++ List.replicate 64 0).take 64 = bs.take 64 := by
      rw [List.take_append_of_le_length (by rw [List.length_take]; omega), List.take_take, Nat.min_self]
    rw [if_pos hn, putLine_eq, hline, hnew]
    refine ⟨_, _, _, rfl, fun x => ?_⟩
    rw [byteAt_poke hw, hn, List.length_take, Nat.min_eq_left (by omega)]
    by_cases hx : a ≤ x ∧ x < a + 64
    · rw [if_pos hx, if_pos hx]
      simp only [List.getD_eq_getElem?_getD, List.getElem?_take, if_pos (show x - a < 64 by omega)]
    · rw [if_neg hx, if_neg hx]
  · have hline : lineOf (lineOf a) = lineOf a := by unfold lineOf; omega
    have hread := readLine_clean (s := s) (line := lineOf a) (Nat.lt_of_le_of_lt (Nat.div_mul_le_self a 64) h) he
    have hlen : (bs.take (min (64 - a % 64) bs.length)).length = min (64 - a % 64) bs.length := by rw [List.length_take]; omega
    rw [if_neg hn, putPart_of_read (by rw [hread]), hread, hline]
    refine ⟨_, _, _, rfl, fun x => ?_⟩
    show byteAt (poke s (lineOf a) _) x = _
    rw [byteAt_poke hw, merged_length (peek_length _ _ _) (by rw [hlen]; omega)]
    by_cases hin : lineOf a ≤ x ∧ x < lineOf a + 64
    · rw [if_pos hin, getD_merged s _ _ _ (by omega) (by rw [hlen]; omega), hlen]
      have haoff : a = lineOf a + a % 64 := by unfold lineOf; omega
      by_cases hx : a ≤ x ∧ x < a + min (64 - a % 64) bs.length
      · rw [if_pos (by omega), if_pos hx, show x - lineOf a - a % 64 = x - a by omega]
        simp only [List.getD_eq_getElem?_getD, List.getElem?_take, if_pos (show x - a < min (64 - a % 64) bs.length by omega)]
      · rw [if_neg (by omega), if_neg hx, Nat.mod_eq_of_lt (byteAt_lt _ _), show lineOf a + (x - lineOf a) = x by omega]
    · rw [if_neg hin, if_neg (by unfold lineOf at hin; omega)]

theorem storePiece_wf {a : Nat} (hw : Memory.wf s.mem = true) (bs : List Nat) : Memory.wf (storePiece s a bs).mem = true := by
  unfold storePiece
  split
  · exact (kept_putLine s _ _ ⟨id, id, id, rfl⟩).mem hw
  · exact (kept_putPart s _ _ _ ⟨id, id, id, rfl⟩).mem hw

/-- A piece without errors: its frame, its bytes, and still no error. -/
theorem storePiece_of_clean {a : Nat} (h : a < asyBase) (he : s.mem.errs = []) (hw : Memory.wf s.mem = true) (bs : List Nat) :
    Moves [.mem, .flt, .pins] [0x0D, 0x0F, 0x1E] s (storePiece s a bs) ∧ (storePiece s a bs).mem.errs = [] ∧
      ∀ x, byteAt (storePiece s a bs) x = if a ≤ x ∧ x < a + min (64 - a % 64) bs.length then bs.getD (x - a) 0 % 256 else byteAt s x := by
  obtain ⟨new, whole, seen, heq, hbytes⟩ := storePiece_clean h he hw bs
  rw [heq]
  exact ⟨storeMoves_watched s _ new whole seen, errs_watched s _ new whole seen he, fun x => (byteAt_watched s _ new whole seen x).trans (hbytes x)⟩

/-- Apart from the inbox nothing sees the write. -/
theorem moves_storePiece_apart {a : Nat} (h : a < asyBase) (he : s.mem.errs = []) (hw : Memory.wf s.mem = true) (bs : List Nat)
    (hin : lineOf a < inboxBase s ∨ inboxBase s + 2048 ≤ lineOf a) : Moves [.mem] [] s (storePiece s a bs) := by
  obtain ⟨new, whole, seen, heq, _⟩ := storePiece_clean h he hw bs
  have hmoves := moves_lineWritten s (lineOf a) new
  have hbase : inboxBase (lineWritten s (lineOf a) new) = inboxBase s := by
    unfold inboxBase get64
    rw [getF_of_rd (f := TNG_INBOX_BASE_LO) (hmoves.2 _ (by simp)), getF_of_rd (f := TNG_INBOX_BASE_HI) (hmoves.2 _ (by simp))]
  rw [heq, inboxWatch_of_apart whole seen (by rw [hbase]; exact hin)]
  exact hmoves

theorem moves_storeGo_clean (k : Nat) (s : State) (a : Nat) (bs : List Nat) (h : a + bs.length ≤ anvilEnd) (he : s.mem.errs = [])
    (hw : Memory.wf s.mem = true) : Moves [.mem, .flt, .pins] [0x0D, 0x0F, 0x1E] s (storeGo k s a bs) := by
  induction k generalizing s a bs with
  | zero => exact moves_refl _ _ s
  | succ k ih =>
    by_cases hb : bs = []
    · rw [storeGo, if_pos hb]
      exact moves_refl _ _ s
    · rw [storeGo_succ k s a bs hb]
      have hlen := List.length_pos_iff.mpr hb
      obtain ⟨hmoves, herr, _⟩ := storePiece_of_clean (a := a) (by simp only [anvilEnd, asyBase] at *; omega) he hw bs
      exact hmoves.trans (ih _ _ _ (by rw [List.length_drop]; omega) herr (storePiece_wf hw bs))

theorem moves_storeGo_apart (k : Nat) (s : State) (a : Nat) (bs : List Nat) (h : a + bs.length ≤ anvilEnd) (he : s.mem.errs = [])
    (hw : Memory.wf s.mem = true) (hin : a + bs.length ≤ inboxBase s ∨ inboxBase s + 2048 ≤ lineOf a) : Moves [.mem] [] s (storeGo k s a bs) := by
  induction k generalizing s a bs with
  | zero => exact moves_refl _ _ s
  | succ k ih =>
    by_cases hb : bs = []
    · rw [storeGo, if_pos hb]
      exact moves_refl _ _ s
    · rw [storeGo_succ k s a bs hb]
      have hlen := List.length_pos_iff.mpr hb
      have ha : a < asyBase := by simp only [anvilEnd, asyBase] at *; omega
      obtain ⟨_, herr, _⟩ := storePiece_of_clean ha he hw bs
      have hmoves := moves_storePiece_apart ha he hw bs (by unfold lineOf at hin ⊢; omega)
      have hbase : inboxBase (storePiece s a bs) = inboxBase s := by
        unfold inboxBase get64
        rw [getF_of_rd (f := TNG_INBOX_BASE_LO) (hmoves.2 _ (by simp)), getF_of_rd (f := TNG_INBOX_BASE_HI) (hmoves.2 _ (by simp))]
      refine hmoves.trans (ih _ _ _ (by rw [List.length_drop]; omega) herr (storePiece_wf hw bs) ?_)
      rw [hbase, List.length_drop]
      unfold lineOf at hin ⊢
      omega

/-- A store with enough steps for its lines leaves its bytes. -/
theorem byteAt_storeGo_clean (k : Nat) (s : State) (a : Nat) (bs : List Nat) (h : a + bs.length ≤ anvilEnd) (he : s.mem.errs = [])
    (hw : Memory.wf s.mem = true) (hk : bs = [] ∨ a % 64 + bs.length ≤ 64 * k) (x : Nat) :
    byteAt (storeGo k s a bs) x = if a ≤ x ∧ x < a + bs.length then bs.getD (x - a) 0 % 256 else byteAt s x := by
  induction k generalizing s a bs with
  | zero =>
    have hb : bs.length = 0 := by
      rcases hk with hb | hk
      · rw [hb]; rfl
      · omega
    rw [if_neg (by omega)]
    rfl
  | succ k ih =>
    by_cases hb : bs = []
    · subst hb
      rw [storeGo, if_pos rfl, if_neg (by simp)]
    · have hlen := List.length_pos_iff.mpr hb
      obtain ⟨_, herr, hbytes⟩ := storePiece_of_clean (a := a) (by simp only [anvilEnd, asyBase] at *; omega) he hw bs
      have hrest : bs.drop (min (64 - a % 64) bs.length) = [] ∨
          (a + min (64 - a % 64) bs.length) % 64 + (bs.drop (min (64 - a % 64) bs.length)).length ≤ 64 * k := by
        rcases hk with hk | hk
        · exact absurd hk hb
        · by_cases hfit : bs.length ≤ 64 - a % 64
          · exact .inl (by rw [Nat.min_eq_right hfit, List.drop_length])
          · exact .inr (by rw [List.length_drop]; omega)
      rw [storeGo_succ k s a bs hb, ih _ _ _ (by rw [List.length_drop]; omega) herr (storePiece_wf hw bs) hrest, hbytes, List.length_drop]
      by_cases hx : a ≤ x ∧ x < a + min (64 - a % 64) bs.length
      · rw [if_neg (by omega), if_pos hx, if_pos (by omega)]
      · by_cases hin : a ≤ x ∧ x < a + bs.length
        · rw [if_pos (by omega), if_pos hin]
          simp only [List.getD_eq_getElem?_getD, List.getElem?_drop]
          congr 3
          omega
        · rw [if_neg (by omega), if_neg hx, if_neg hin]

/- ### MEMORY_ACCESS (R421) -/

theorem targetOf_anvil (s : State) {a : Nat} (h : a < anvilEnd) : targetOf s a = some 0 := if_pos h

/-- A write to the Anvil that its firewall grants is stored. -/
theorem memAccess_of_write {brand a len : Nat} (hb : 0 < bs.length) (h : a + bs.length ≤ anvilEnd) (hg : fwDenies s 0 brand 1 a bs.length = none) :
    exec (.memoryAccess brand 1 a bs len) s = .next (answer (store s a bs) .ok) := by
  change Host.Outcome.next (memAccess s brand 1 a bs len) = _
  unfold memAccess
  dsimp only
  rw [if_pos rfl, if_neg (by omega), targetOf_anvil s (by omega), targetOf_anvil s (show a + bs.length - 1 < anvilEnd by omega)]
  dsimp only
  rw [hg]
  rfl

theorem memAccess_of_denied {brand a len cls : Nat} (hb : 0 < bs.length) (h : a + bs.length ≤ anvilEnd)
    (hg : fwDenies s 0 brand 1 a bs.length = some cls) :
    exec (.memoryAccess brand 1 a bs len) s = .next (answer (deny s 0 cls brand 1 a) .error) := by
  change Host.Outcome.next (memAccess s brand 1 a bs len) = _
  unfold memAccess
  dsimp only
  rw [if_pos rfl, if_neg (by omega), targetOf_anvil s (by omega), targetOf_anvil s (show a + bs.length - 1 < anvilEnd by omega)]
  dsimp only
  rw [hg]
  rfl

theorem memAccess_of_read {brand kind a len : Nat} (hn : 0 < len) (h : a + len ≤ anvilEnd) (hk : kind ≠ 1) (hg : fwDenies s 0 brand kind a len = none) :
    exec (.memoryAccess brand kind a bs len) s = .next (memRead s a len) := by
  change Host.Outcome.next (memAccess s brand kind a bs len) = _
  unfold memAccess
  dsimp only
  rw [if_neg hk, if_neg (by omega), targetOf_anvil s (by omega), targetOf_anvil s (show a + len - 1 < anvilEnd by omega)]
  dsimp only
  rw [hg]
  simp only [hk, if_false, if_true, ne_eq, not_true, not_false_iff]
  rfl

theorem memAccess_of_nowhere {brand kind a len : Nat} (hb : 0 < bs.length) (hn : 0 < len) (ht : targetOf s a = none) (hr : a < remoteBase) :
    exec (.memoryAccess brand kind a bs len) s = .next (answer s .error) := by
  have hpos : (if kind = 1 then bs.length else len) ≠ 0 := by split <;> omega
  change Host.Outcome.next (memAccess s brand kind a bs len) = _
  unfold memAccess
  dsimp only
  rw [if_neg hpos, ht]
  exact congrArg _ (if_neg (by omega))

/-- The port reads an address of a line as it reads the line. -/
theorem portLine_lineOf {a : Nat} (h : a < asyBase) : portLine s (lineOf a) = portLine s a := by
  have hline : lineOf (lineOf a) = lineOf a := by unfold lineOf; omega
  have hddr : ¬ ddrBase ≤ a := by simp only [ddrBase, asyBase] at h ⊢; omega
  have hddr' : ¬ ddrBase ≤ lineOf a := by unfold lineOf; omega
  unfold portLine readLine
  rw [hline]
  simp only [hddr, hddr']

/-- A read within one line that its check finds sound. -/
theorem memRead_of_line {a n : Nat} {x : List Nat} (hn : 0 < n) (ha : a < asyBase) (hl : a % 64 + n ≤ 64) (hp : portLine s a = (some x, [])) :
    memRead s a n = answer s (.data ((x.drop (a % 64)).take n)) := by
  have hone : (a % 64 + n + 63) / 64 = 1 := by omega
  have hlines : memLines s 1 (lineOf a) = (s, some (x ++ [])) := by
    unfold memLines
    rw [portLine_lineOf ha, hp]
    rfl
  unfold memRead
  dsimp only
  rw [hone, hlines, List.append_nil]

theorem moves_answer (s : State) (r : Resp) : Moves [] [] s (answer s r) := .of_framed (rs := []) (by simp) ((framed_refl _ _ s).answer r)

end Sys2Proof.Machine

open Sys2Proof Sys2Proof.Machine

/-- Settles O41: a write is `store`, whose frame is `storeMoves_storeGo` and whose bytes, where no line is in error, are `byteAt_storeGo_clean`;
a read is its line, and a denial its trace. -/
theorem memoryAccessesGoThroughTheFirewall : Obligations.MemoryAccessesGoThroughTheFirewall := by
  intro s brand kind addr len bytes hi hb hn
  obtain ⟨hregs, hmem, _⟩ := hi
  refine ⟨fun h hg => ?_, fun h hg he => ?_, fun x h hk hg hl hp => ?_, fun cls h hg hq => ?_, fun ht hr => ?_⟩
  · have hmoves := (storeMoves_storeGo (bytes.length / 64 + 2) s addr bytes h).trans ((moves_answer _ .ok).mono (by simp) (by simp))
    refine ⟨_, memAccess_of_write hb h hg, rfl, fun a ha => byteAt_storeGo_other _ s addr bytes h ha, hmoves.1, hmoves.2, fun he hin => ?_⟩
    exact (((moves_storeGo_apart (bytes.length / 64 + 2) s addr bytes h he hmem (by unfold lineOf at hin ⊢; omega)).trans
      ((moves_answer _ .ok).mono (by simp) (by simp)))).framed rfl
  · have hmoves := (moves_storeGo_clean (bytes.length / 64 + 2) s addr bytes h he hmem).trans ((moves_answer _ .ok).mono (by simp) (by simp))
    have hbytes := byteAt_storeGo_clean (bytes.length / 64 + 2) s addr bytes h he hmem (.inr (by omega))
    refine ⟨_, memAccess_of_write hb h hg, rfl, List.ext_getElem (by simp [peek]) fun i h1 h2 => ?_, fun a ha => ?_, hmoves.1, hmoves.2⟩
    · have hi : i < bytes.length := by simpa using h2
      have hbyte := hbytes (addr + i)
      rw [if_pos (by omega), Nat.add_sub_cancel_left, List.getD_eq_getElem?_getD, List.getElem?_eq_getElem hi, Option.getD_some] at hbyte
      simp only [peek, List.getElem_map, List.getElem_range]
      exact hbyte
    · exact (hbytes a).trans (if_neg (by omega))
  · have ha : addr < asyBase := by simp only [anvilEnd, asyBase] at *; omega
    exact ⟨_, (memAccess_of_read hn h hk hg).trans (congrArg _ (memRead_of_line hn ha hl hp)), rfl, (framed_refl _ _ s).answer _⟩
  · have hdenied := deny_eq s 0 cls brand 1 addr hq
    have htrace : Framed [.flt] denyRegs s (denyTrace s 0 brand 1 addr) :=
      ⟨(((((framed_refl [.flt] denyRegs s).setF _ (f := FWL_DENY_LAST_LO) (by decide)).setF _ (f := FWL_DENY_LAST_HI) (by decide)).setF _
        (f := FWL_DENY_INFO_BRAND) (by decide)).setF _ (f := FWL_DENY_INFO_KIND) (by decide)).setF _ (f := FWL_DENY_INFO_TARGET) (by decide) |>.1,
        regsBut_denyTrace 0 addr⟩
    refine ⟨_, memAccess_of_denied hb h hg, rfl, ?_, ?_, ?_⟩
    · rw [hdenied]
      rfl
    · rw [hdenied]
      exact get64_denyTrace 0 addr hregs (by simp only [anvilEnd] at h; omega)
    · rw [hdenied]
      exact (htrace.withFlt _ (by decide)).answer _
  · exact ⟨_, memAccess_of_nowhere hb hn ht hr, rfl, (framed_refl _ _ s).answer _⟩

end

section
/-! The age of a lattice (R132). -/

namespace Sys2Proof.Machine

/-- Heat numbers run over 1 to 0xFFFF_FFFF (R78): k seals after heat h, counted from 0, is k places on in a round of 2^32 - 1. -/
theorem repeat_nextHeat {h : Nat} (h0 : 0 < h) (h32 : h < 2 ^ 32) (k : Nat) :
    Nat.repeat (fun n => if n = 0xFFFFFFFF then 1 else n + 1) k h = (h - 1 + k) % (2 ^ 32 - 1) + 1 := by
  induction k with
  | zero => show h = _; omega
  | succ k ih =>
    simp only [Nat.repeat, ih]
    split <;> omega

end Sys2Proof.Machine

open Sys2Proof Sys2Proof.Machine

/-- Settles O8: heat k seals later is h + k, or h + k + 1 past the wrap, where `latAge` takes the missing 0 off again. -/
theorem latticeAgeCountsSeals : Obligations.LatticeAgeCountsSeals := by
  intro h k h0 h32 hk
  rw [repeat_nextHeat h0 h32]
  unfold latAge b2n
  by_cases hwrap : h - 1 + k < 2 ^ 32 - 1
  · rw [Nat.mod_eq_of_lt hwrap, if_neg (by simp; omega)]
    omega
  · have hround : (h - 1 + k) % (2 ^ 32 - 1) = h - 1 + k - (2 ^ 32 - 1) := by
      rw [Nat.mod_eq_sub_mod (by omega), Nat.mod_eq_of_lt (by omega)]
    rw [hround, if_pos (by simp; omega)]
    omega

end

section
/-! The intake of a SEAL mark in REPRO mode (R85): a state of the hypotheses where the statement's conclusion fails. -/

namespace Sys2Proof.Machine

/-- The device of a mode with ring 0 of 4 KiB at 0x4000, which holds the given bytes and which brand 0x40 may read. -/
def ringHolds (m : Word) (bs : List Nat) : State :=
  poke { State.reset with
    regs := [(TOP_MODE.addr, m), ((CRU_RING_BASE_LO 0).addr, 0x4000), ((CRU_RING_SIZE 0).addr, 4096), ((CRU_RING_WP 0).addr, BitVec.ofNat 32 bs.length),
      ((FWL_REGION0 2).addr, 0x0FFFFFFF), ((FWL_REGION0 5).addr, 1), ((FWL_REGION0 10).addr, 1), ((FWL_TH_SEQ 0).addr, 1)] } 0x4000 bs

/-- Outside a seal that waits for it, a SEAL mark stays in its ring in REPRO mode (R85). -/
theorem execSealMark_of_waiting {s : State} (r : Nat) (hrepro : inRepro s = true) (hseal : s.wld.sealPending = false) :
    exec (.sealMark r) s = .next s := by
  change execSealMark r s = _
  simp [execSealMark, hrepro, hseal]

/-- A SEAL mark of 32 bytes, twice its length (R94). -/
def longMark : List Nat := layout 32 [(0, 1, 15), (2, 2, 32)]

/-- REPRO mode with no seal requested, and a SEAL mark of the wrong length in ring 0. -/
def longMarkInRepro : State := ringHolds 1 longMark

theorem longMarkInRepro_inv : longMarkInRepro.Inv := by decide +kernel

theorem fetchRecord_longMarkInRepro : fetchRecord longMarkInRepro 0 = (⟨15, 0, 32, longMark⟩, []) := by decide +kernel

end Sys2Proof.Machine

open Sys2Proof Sys2Proof.Machine

/-- Refutes O24: in REPRO mode a SEAL mark waits in its ring until a seal is requested (R85), so a mark of a wrong length is not rejected then. -/
theorem not_recordsEnterTheRingsOrAreRejected : ¬ Obligations.RecordsEnterTheRingsOrAreRejected := by
  intro ⟨hintake, _⟩
  obtain ⟨_, _, hrejected⟩ := hintake longMarkInRepro 0 _ longMarkInRepro_inv (by decide +kernel) fetchRecord_longMarkInRepro rfl rfl
  obtain ⟨t, ht, _, _, hfifo, _⟩ := hrejected (by decide) (by decide) (by decide +kernel) (by decide)
  obtain rfl := Host.Outcome.next.inj (ht.symm.trans (execSealMark_of_waiting 0 (by decide) rfl))
  exact absurd (congrArg List.length hfifo) (by simp)

end

section
/-! A BUILD_DYN of no slices (R89, R103): a state of the hypotheses where the statement's conclusion fails. -/

namespace Sys2Proof.Machine

/-- A line of no target gives a reader nothing, and no check runs (R421). -/
theorem readBrand_of_nowhere {s : State} {a : Nat} (brand : Nat) (h : targetOf s a = none) : readBrand s brand a = (none, []) := by
  unfold readBrand
  rw [h]

/-- Between the Anvil and the Assay store lies no target (R32). -/
theorem targetOf_gap (s : State) {a : Nat} (hlo : anvilEnd ≤ a) (hhi : a < asyBase) : targetOf s a = none := by
  unfold targetOf
  simp only [asyBase] at hhi
  rw [if_neg (by omega), if_neg (by unfold asyBase; omega), if_neg (by omega), if_neg (by unfold ddrBase; omega)]

/-- Reads between the Anvil and the Assay store find nothing. -/
theorem notesOf_gap (s : State) (brand : Nat) {a n : Nat} (hlo : anvilEnd ≤ a) (hhi : a + n + 63 < asyBase) (hline : a % 64 = 0) :
    notesOf s brand a n = [] := by
  unfold notesOf linesOf
  split
  · rfl
  · refine List.flatMap_eq_nil_iff.mpr fun l hl => ?_
    obtain ⟨i, hi, rfl⟩ := List.mem_map.mp hl
    have hrange := List.mem_range.mp hi
    rw [readBrand_of_nowhere brand (targetOf_gap s _ _)] <;> unfold lineOf <;> omega

/-- A BUILD_DYN whose first slice lies after its last, on Crucible unit 0 (engine 18, R315). -/
def buildNoSlices : Task :=
  { id := 0, queue := 0, num := 0, cmd := layout 64 [(0, 1, 3), (1, 1, 1), (16, 2, 1)], pri := 1, loc := .running 18 }

/-- Brand 0x20 may read the Anvil. The image of the sealed heat begins with the Anvil's last line, which has one symbol in error, and the rest of
it lies in no target; the map gives the line's logical bank the physical bank 2000. There are 1,088 physical banks (R348), but the map's field has
11 bits and the statement asks nothing of it, nor of the image's place. -/
def imageBeyondTheLast : State :=
  { State.reset with
    regs := [((TAB_Q_CFG 0).addr, 0x2000), ((ANV_MAP (bankOf 0x0FFFFFC0)).addr, 2000), (HAM_HEAT_IMG_LO.addr, 0x0FFFFFC0),
      ((FWL_REGION0 2).addr, 0x0FFFFFFF), ((FWL_REGION0 4).addr, 0x4000), ((FWL_REGION0 10).addr, 1), ((FWL_TH_SEQ 0).addr, 1)]
    mem := { errs := [(0x0FFFFFC0, onePattern 5 1)] }
    tabA := { tasks := [buildNoSlices], nextId := 1 }
    tabB := { tasks := [buildNoSlices], nextId := 1 } }

/-- Reading the descriptor finds the corrected error. -/
theorem notesOf_imageBeyondTheLast : notesOf imageBeyondTheLast 0x20 0x0FFFFFC0 64 = [.corrected 0x0FFFFFC0 (onePattern 5 1)] := by decide +kernel

/-- The task writes nothing; what it does is what its reads of the image find (R344). -/
theorem crucibleWork_imageBeyondTheLast :
    crucibleWork imageBeyondTheLast buildNoSlices = { notes := [.corrected 0x0FFFFFC0 (onePattern 5 1)] } := by
  have hrows : cruRows buildNoSlices = [] := by decide
  have hopc : cOpc buildNoSlices.cmd = 3 := by decide
  have himg : (taskFrame imageBeyondTheLast buildNoSlices).img = 0x0FFFFFC0 := by decide
  have hbrand : qBrand imageBeyondTheLast buildNoSlices.queue = 0x20 := by decide
  have hagents : notesOf imageBeyondTheLast 0x20 (0x0FFFFFC0 + agentOff) (1024 * agentSize) = [] :=
    notesOf_gap _ _ (by decide) (by decide) (by decide)
  simp only [crucibleWork, hopc, dynWork, hrows, List.flatMap_nil, joinWork, imageNotes, himg, hbrand, notesOf_imageBeyondTheLast, hagents]
  rfl

/-- The corrected error is counted for its physical bank (R352). -/
theorem rd_applyWork_imageBeyondTheLast :
    rd (applyWork (setF imageBeyondTheLast (CRU_U_STATUS_DRAIN_WAIT 0) 0) 0x20 { notes := [.corrected 0x0FFFFFC0 (onePattern 5 1)] })
      (ANV_BANK_CE 2000).addr = 1 := by decide +kernel

end Sys2Proof.Machine

open Sys2Proof Sys2Proof.Machine

/-- Refutes O26: where the map names a physical bank beyond the last, a corrected error that a task's reads find is counted in a register that
`workRegs` does not list. -/
theorem not_crucibleTasksExecuteOrWait : ¬ Obligations.CrucibleTasksExecuteOrWait := by
  intro h
  obtain ⟨_, _, hbuild, _⟩ := h imageBeyondTheLast 0 buildNoSlices (by decide) (by decide)
  obtain ⟨_, _, hexecuted⟩ := hbuild (by decide) (by decide)
  rw [crucibleWork_imageBeyondTheLast] at hexecuted
  have hsame := hexecuted.rd_applyWork (a := (ANV_BANK_CE 2000).addr) rfl (by decide) (by decide +kernel)
  exact absurd (rd_applyWork_imageBeyondTheLast.symm.trans hsame) (by decide)

end

section
/-! The registers that a store to any address may move, and the stages of a seal (R85, R86, R344, R352, R363). -/

namespace Sys2Proof.Machine

variable {s t z : State} {bl : List Nat}

/- ### Register blocks -/

theorem blocksBut_refl (bl : List Nat) (s : State) : BlocksBut bl s s := fun _ _ => rfl

theorem BlocksBut.trans (h : BlocksBut bl z s) (k : BlocksBut bl s t) : BlocksBut bl z t := fun a ha => (k a ha).trans (h a ha)

theorem BlocksBut.mono {bl' : List Nat} (hb : ∀ b ∈ bl, b ∈ bl') (h : BlocksBut bl s t) : BlocksBut bl' s t := fun a ha => h a fun hin => ha (hb _ hin)

theorem BlocksBut.setF {f : Fld} (v : Nat) (hf : blockOf f.addr ∈ bl) (h : BlocksBut bl z s) : BlocksBut bl z (setF s f v) :=
  h.trans fun a ha => rd_setF_other s f v a fun e => ha (e ▸ hf)

theorem BlocksBut.bump {f : Fld} (n : Nat) (hf : blockOf f.addr ∈ bl) (h : BlocksBut bl z s) : BlocksBut bl z (bump s f n) := h.setF _ hf

theorem BlocksBut.set64 {lo hi : Fld} (v : Nat) (hlo : blockOf lo.addr ∈ bl) (hhi : blockOf hi.addr ∈ bl) (h : BlocksBut bl z s) :
    BlocksBut bl z (set64 s lo hi v) := (h.setF v hlo).setF _ hhi

theorem BlocksBut.regs (h : BlocksBut bl z s) (hr : t.regs = s.regs) : BlocksBut bl z t := h.trans fun a _ => rd_congr hr a

theorem BlocksBut.sendFault (block code cls unit : Nat) (hb : ∀ b ∈ [0x0F, 0x1E], b ∈ bl) (h : BlocksBut bl z s) :
    BlocksBut bl z (sendFault s block code cls unit) := h.trans ((moves_sendFault s block code cls unit).2.mono hb)

theorem blocksBut_foldl {β : Type} (f : State → β → State) (l : List β) (hf : ∀ s x, BlocksBut bl s (f s x)) (s : State) :
    BlocksBut bl s (l.foldl f s) := by
  induction l generalizing s with
  | nil => exact blocksBut_refl bl s
  | cons x l ih => exact (hf s x).trans (ih (f s x))

/- ### What the check of a line moves, wherever it lies -/

/-- The blocks of memory, its inbox, firewalls and channels, and of a record. -/
def storeBlocks : List Nat := [0x08, 0x0D, 0x0F, 0x12, 0x15, 0x1E]

theorem ddrPhys_lt (s : State) (l : Nat) : ddrPhys s l < 6 := by
  unfold ddrPhys
  rw [List.getD_eq_getElem?_getD]
  cases hch : (activeChs s)[l % max 1 (getF s DDR_MAP_C)]? with
  | none => decide
  | some c => exact List.mem_range.mp (List.mem_filter.mp (List.mem_of_getElem? hch)).1

theorem blocksBut_anvilBad (s : State) (scrub : Bool) (line : Nat) : BlocksBut storeBlocks s (anvilBad s scrub line) := by
  have hshown : ∀ a b c d e f, BlocksBut storeBlocks s
      (setF (setF (setF (setF (setF (set64 s ANV_UE_ADDR_LO ANV_UE_ADDR_HI a) ANV_UE_INFO_PBANK b) ANV_UE_INFO_SCRUB c) ANV_UE_INFO_FABRIC d)
        ANV_UE_INFO_POISON e) ANV_UE_INFO_ASY f) := fun a b c d e f =>
    ((((((blocksBut_refl _ s).set64 a (by decide) (by decide)).setF b (by decide)).setF c (by decide)).setF d (by decide)).setF e (by decide)).setF f
      (by decide)
  unfold anvilBad
  dsimp only
  split
  · exact (hshown _ _ _ _ _ _).bump 1 (by decide)
  · exact ((hshown _ _ _ _ _ _).bump 1 (by decide)).trans ((moves_bankDue _ _).2.mono (by decide))

theorem blocksBut_fabricFx (s : State) (line : Nat) (bad : Bool) : BlocksBut storeBlocks s (fabricFx s line bad) := by
  unfold fabricFx
  split
  · exact (blocksBut_refl _ s).bump 1 (by decide)
  · exact ((((((((blocksBut_refl _ s).bump 1 (by decide)).set64 _ (by decide) (by decide)).setF _ (by decide)).setF _ (by decide)).setF _
      (by decide)).setF _ (by decide)).setF _ (by decide)).sendFault _ _ _ _ (by decide)

theorem blocksBut_deny (s : State) (g cls brand kind a : Nat) : BlocksBut storeBlocks s (deny s g cls brand kind a) :=
  (((((blocksBut_refl _ s).set64 a (by decide) (by decide)).setF brand (by decide)).setF kind (by decide)).setF g (by decide)).sendFault _ _ _ _
    (by decide)

theorem blocksBut_ddrBadLine (s : State) (l : Nat) : BlocksBut storeBlocks s (ddrBadLine s l) := by
  have hlost : ∀ c < 6, blockOf (DDR_CH_STATUS_LOST c).addr ∈ storeBlocks := by decide
  unfold ddrBadLine
  dsimp only
  generalize (if s.ddr.ueLines.contains (ddrPhys s l, l) then s.ddr.ueLines else (ddrPhys s l, l) :: s.ddr.ueLines) = lines
  split
  · exact (((blocksBut_refl _ s).regs (t := { s with ddr := _ }) rfl).setF _ (hlost _ (ddrPhys_lt s l))).sendFault _ _ _ _ (by decide)
  · exact (blocksBut_refl _ s).regs rfl

theorem blocksBut_countedOnce (s : State) (key block cls unit line : Nat) (h : BlocksBut storeBlocks z s) :
    BlocksBut storeBlocks z (queueWriteback (oncePerStroke s key block cls unit) line) :=
  (h.trans ((moves_oncePerStroke s key block cls unit).2.mono (by decide))).regs rfl

/-- Every note of a check, at any line: memory's, the firewall's and the channels' registers, and those of a record. -/
theorem blocksBut_noteFx (s : State) (n : Note) : BlocksBut storeBlocks s (noteFx false s n) := by
  have hchannel : ∀ c < 6, blockOf (DDR_CH_CE c).addr ∈ storeBlocks ∧ blockOf (DDR_CH_UE c).addr ∈ storeBlocks ∧
      blockOf (DDR_CH_RETRY c).addr ∈ storeBlocks ∧ blockOf (DDR_CH_TAG c).addr ∈ storeBlocks := by decide
  cases n with
  | denied g cls brand kind a => exact blocksBut_deny s g cls brand kind a
  | fabric line bad => exact blocksBut_fabricFx s line bad
  | corrected line fix =>
    unfold noteFx
    dsimp only
    split
    · exact blocksBut_countedOnce _ _ _ _ _ _ ((blocksBut_refl _ s).bump 1 (hchannel _ (ddrPhys_lt _ _)).1)
    · split
      · exact blocksBut_countedOnce _ _ _ _ _ _ ((blocksBut_refl _ s).bump 1 (by decide))
      · have hcounted := blocksBut_countedOnce (countCe s (pbankOf s line)) (pbankOf s line) 0x08 1 (pbankOf s line / 8) line
          ((moves_countCe s (pbankOf_lt s line)).2.mono (by decide))
        split
        · exact hcounted.trans ((moves_bankDue _ _).2.mono (by decide))
        · exact hcounted
  | bad line =>
    unfold noteFx
    dsimp only
    split
    · exact (((((((blocksBut_refl _ s).bump 1 (hchannel _ (ddrPhys_lt _ _)).2.1).set64 _ (by decide) (by decide)).setF _ (by decide)).setF _
        (by decide)).setF _ (by decide)).sendFault _ _ _ _ (by decide)).trans (blocksBut_ddrBadLine _ _)
    · exact (blocksBut_anvilBad s false line).sendFault _ _ _ _ (by decide)
  | tag line =>
    exact (((((((blocksBut_refl _ s).bump 1 (hchannel _ (ddrPhys_lt _ _)).2.2.1).bump 1 (hchannel _ (ddrPhys_lt _ _)).2.2.2).set64 _ (by decide)
      (by decide)).setF _ (by decide)).setF _ (by decide)).setF _ (by decide)).sendFault _ _ _ _ (by decide)

theorem blocksBut_mergeFx (s : State) (n : Note) : BlocksBut storeBlocks s (mergeFx s n) := by
  unfold mergeFx
  split
  · split
    · exact blocksBut_noteFx s _
    · exact blocksBut_anvilBad s false _
  · exact blocksBut_noteFx s _

/- ### Stores -/

theorem blocksBut_storePiece (s : State) (a : Nat) (bs : List Nat) : BlocksBut storeBlocks s (storePiece s a bs) := by
  unfold storePiece
  split
  · rw [putLine_eq]
    exact (storeMoves_watched s _ _ _ _).2.mono (by decide)
  · have hchecked := blocksBut_foldl mergeFx (readLine s (lineOf a)).2 blocksBut_mergeFx s
    cases hread : (readLine s (lineOf a)).1 with
    | some old =>
      rw [putPart_of_read hread]
      exact hchecked.trans ((storeMoves_watched _ _ _ _ _).2.mono (by decide))
    | none =>
      rw [putPart_of_bad hread]
      exact hchecked.trans ((storeMoves_putPoison _ _ _).2.mono (by decide))

theorem blocksBut_store (s : State) (a : Nat) (bs : List Nat) : BlocksBut storeBlocks s (store s a bs) := by
  unfold store
  generalize bs.length / 64 + 2 = k
  induction k generalizing s a bs with
  | zero => exact blocksBut_refl _ s
  | succ k ih =>
    by_cases hb : bs = []
    · rw [storeGo, if_pos hb]
      exact blocksBut_refl _ s
    · rw [storeGo_succ k s a bs hb]
      exact (blocksBut_storePiece s a bs).trans (ih _ _ _)

theorem blocksBut_setTask (s : State) (k : Task) : BlocksBut [0x06, 0x0F, 0x1E] s (setTask s k) := by
  unfold setTask updTab
  dsimp only
  split
  · exact (blocksBut_refl _ s).regs rfl
  · exact (((blocksBut_refl _ s).regs (t := { s with tabA := _, tabB := _ }) rfl).setF 1 (by decide)).sendFault _ _ _ _ (by decide)

/- ### The stages of a seal (R85, R86, R100) -/

/-- The registers that show the sealed heat: its image, the two numbers, the origin and the layers' state (R78, R85, R100, R101). -/
def sealNumbered (s : State) (img heat ox oy tx ty : Nat) : State :=
  let s := set64 s HAM_HEAT_IMG_LO HAM_HEAT_IMG_HI img
  let s := setF (setF s CRU_HEAT_SEALED heat) CRU_HEAT_STAGING (if heat = 0xFFFFFFFF then 1 else heat + 1)
  let s := setF (setF s CRU_ORIGIN_X ox) CRU_ORIGIN_Y oy
  let s := setF (setF (setF s CRU_TORUS_X tx) CRU_TORUS_Y ty) CRU_FIELD_STATUS 0
  high s CRU_SEAL_LAG (s.time - s.wld.sealTime)

/-- The world after the seal, the gates of the heat before closed, and the Assay about to load the heat (R86, R87). -/
def sealLoading (s : State) (w : Wld) : State :=
  setF { s with
    wld := w
    tabX := { s.tabX with gates := s.tabX.gates.filter isGather }
    asy := { s.asy with loading := true, gridding := false, ovf := false, nDelta := 0, deltaSeen := 0 } } ASY_STATUS_READY 0

/-- What the Assay, its load channel, the inbox and the Peal show of the seal (R86, R130, R212, R266). -/
def sealShown (s : State) : State := pealSeal (setF (setF (showAssay s) BLW_ALC_STATUS 1) TNG_INBOX_STATUS 0)

/-- A seal of a staging image that is whole: its descriptor, origin and place on the torus, and the world after it. -/
def sealedAs (s : State) (d : List Nat) (ox oy tx ty : Nat) (w : Wld) : State :=
  sealShown (sealLoading (sealNumbered (store (staleMerges s) s.wld.staging d) s.wld.staging (getF s CRU_HEAT_STAGING) ox oy tx ty) w)

theorem leBytes_length (k n : Nat) : (leBytes k n).length = k := by
  induction k generalizing n with
  | zero => rfl
  | succ k ih => exact congrArg (· + 1) (ih _)

theorem descriptor_length (heat flags tHeat stroke : Nat) (ox oy : Int) (tx ty nPrim nAgent nTri hm : Nat) :
    (descriptor heat flags tHeat stroke ox oy tx ty nPrim nAgent nTri hm).length = 64 := leBytes_length 64 _

/-- A seal is these stages after the end of a running copy (log 144), and its heat may be inconsistent (R99). -/
theorem sealHeat_eq (s : State) : ∃ d ox oy tx ty w,
    d.length = 64 ∧ (sealHeat s = sealedAs (finishCopy s) d ox oy tx ty w ∨ sealHeat s = inconsistent (sealedAs (finishCopy s) d ox oy tx ty w)) := by
  unfold sealHeat
  extract_lets s1 img heat ego px py first ox oy dx dy tx ty full hm d old s2 s3 s4 s5 s6 s7 stale before w tabX s8 asy s9 s10 s11 tm
  have hnumbered : s7 = sealNumbered (store (staleMerges s1) s1.wld.staging d) s1.wld.staging (getF s1 CRU_HEAT_STAGING) (toU 32 ox) (toU 32 oy) tx ty := rfl
  clear_value w s7
  have hshown : s11 = sealShown (sealLoading s7 w) := rfl
  rw [hnumbered] at hshown
  refine ⟨d, toU 32 ox, toU 32 oy, tx, ty, w, descriptor_length .., ?_⟩
  rw [sealedAs, ← hshown]
  split
  · exact .inr rfl
  · exact .inl rfl

theorem blocksBut_showAssay (s : State) : BlocksBut [0x0F] s (showAssay s) := by
  unfold showAssay
  split
  next e he =>
    have hunit : e - classBase 7 < 256 := by
      unfold physE at he
      split at he
      · obtain rfl := Option.some.inj he
        rw [Nat.add_sub_cancel_left]
        exact getF_lt s (mapP 7 0)
      · cases he
    split
    · unfold assayIdle
      split
      · refine (blocksBut_refl _ s).setF _ (f := ASY_U_STATUS_PHASE (e - classBase 7)) ?_
        have hblock : blockOf (ASY_U_STATUS_PHASE (e - classBase 7)).addr = 0x0F := by
          show (0x40F00000 + (e - classBase 7) * 0x1000 - 0x40000000) / 0x100000 = 0x0F
          omega
        rw [hblock]
        decide
      · exact blocksBut_refl _ s
    · exact blocksBut_refl _ s
  · exact blocksBut_refl _ s

/-- The seal's stages before it is shown move the world's registers and the image's address, then the world, the gates and the Assay. -/
theorem moves_sealLoading (s : State) (w : Wld) : Moves [.wld, .tabX, .asy] [0x0F] s (sealLoading s w) :=
  Moves.setF 0 (f := ASY_STATUS_READY) (by decide) ⟨fun p hp => by cases p <;> simp_all [SamePart, SameMem, byteAt], fun _ _ => rfl⟩

theorem blocksBut_sealShown (s : State) : BlocksBut [0x07, 0x0C, 0x0D, 0x0F] s (sealShown s) := by
  have hassay : BlocksBut [0x07, 0x0C, 0x0D, 0x0F] s (showAssay s) := (blocksBut_showAssay s).mono (by decide)
  unfold sealShown pealSeal
  exact ((hassay.setF 1 (f := BLW_ALC_STATUS) (by decide)).setF 0 (f := TNG_INBOX_STATUS) (by decide)).setF _ (f := PEL_FRAME) (by decide)

/-- An inconsistent heat shows in its descriptor and the field status, and in a record (R99). -/
theorem rd_inconsistent (s : State) {a : Nat} (ha : a ≠ CRU_FIELD_STATUS.addr) (hb : blockOf a ∉ [0x0F, 0x1E] ∨ s.flt.fifo.length < 256) :
    rd (inconsistent s) a = rd s a := by
  have hshown : rd (setF (heatFlag s 1) CRU_FIELD_STATUS_INCONSISTENT 1) a = rd s a := by
    rw [rd_setF_other _ CRU_FIELD_STATUS_INCONSISTENT _ _ ha, heatFlag, poke_eq]
    rfl
  unfold inconsistent
  split
  · rfl
  · rcases hb with hb | hq
    · rw [(moves_sendFault _ _ _ _ _).2 a hb, hshown]
    · rw [rd_congr (sendFault_regs _ _ _ _ (by rw [setF_flt, heatFlag, poke_eq]; exact hq)), hshown]

/-- What follows the numbering of a seal leaves the two numbers. -/
theorem getF_sealedAs {f : Fld} (s : State) (d : List Nat) (ox oy tx ty : Nat) (w : Wld) (hb : blockOf f.addr = 0x0A) :
    getF (sealedAs s d ox oy tx ty w) f =
      getF (sealNumbered (store (staleMerges s) s.wld.staging d) s.wld.staging (getF s CRU_HEAT_STAGING) ox oy tx ty) f :=
  getF_of_rd ((((moves_sealLoading _ w).2.mono (by decide)).trans (blocksBut_sealShown _)) f.addr (by rw [hb]; decide))

theorem rd_high_other (s : State) (f : Fld) (n : Nat) {a : Nat} (ha : a ≠ f.addr) : rd (high s f n) a = rd s a := by
  unfold high
  split
  · exact rd_setF_other s f _ a ha
  · rfl

section SealNumbered

variable (h : swf resetOf s.regs = true) (img heat ox oy tx ty : Nat)
include h

theorem sealed_sealNumbered : getF (sealNumbered s img heat ox oy tx ty) CRU_HEAT_SEALED = heat % 2 ^ 32 := by
  unfold sealNumbered
  dsimp only
  rw [getF_of_rd (rd_high_other _ _ _ (by decide))]
  iterate 6 rw [getF_setF_other _ _ _ _ (by decide)]
  exact getF_setF_same _ _ _ (setF_wf _ _ _ (setF_wf _ _ _ h)) (by decide)

theorem staging_sealNumbered : getF (sealNumbered s img heat ox oy tx ty) CRU_HEAT_STAGING = (if heat = 0xFFFFFFFF then 1 else heat + 1) % 2 ^ 32 := by
  unfold sealNumbered
  dsimp only
  rw [getF_of_rd (rd_high_other _ _ _ (by decide))]
  iterate 5 rw [getF_setF_other _ _ _ _ (by decide)]
  exact getF_setF_same _ _ _ (setF_wf _ _ _ (setF_wf _ _ _ (setF_wf _ _ _ h))) (by decide)

end SealNumbered

/-- The end of a running copy moves no register of the world (R82). -/
theorem blocksBut_finishCopy (s : State) : BlocksBut storeBlocks s (finishCopy s) := by
  unfold finishCopy
  split
  · exact blocksBut_refl _ s
  · refine BlocksBut.regs (((blocksBut_foldl _ _ (fun s id => ?_) s).trans (blocksBut_foldl _ _ (fun s id => blocksBut_store s _ _) _)).trans
      (blocksBut_store _ _ _)) rfl
    dsimp only
    split
    · exact (blocksBut_store s _ _).trans (blocksBut_store _ _ _)
    · exact blocksBut_store s _ _

/-- A seal numbers its heat, on time or at SEAL_MAX (R78). -/
theorem heats_sealHeat (h : swf resetOf s.regs = true) : getF (sealHeat s) CRU_HEAT_SEALED = getF s CRU_HEAT_STAGING ∧
    getF (sealHeat s) CRU_HEAT_STAGING = (if getF s CRU_HEAT_STAGING = 0xFFFFFFFF then 1 else getF s CRU_HEAT_STAGING + 1) := by
  obtain ⟨d, ox, oy, tx, ty, w, _, heq⟩ := sealHeat_eq s
  have hkept : swf resetOf (store (staleMerges (finishCopy s)) (finishCopy s).wld.staging d).regs = true :=
    (kept_store _ _ _ (kept_staleMerges _ (kept_finishCopy s (kept_refl s)))).regs h
  have hstaging : getF (finishCopy s) CRU_HEAT_STAGING = getF s CRU_HEAT_STAGING := getF_of_rd (blocksBut_finishCopy s _ (by decide))
  have hlt : getF s CRU_HEAT_STAGING < 2 ^ 32 := getF_lt s CRU_HEAT_STAGING
  have hend : ∀ f : Fld, blockOf f.addr = 0x0A → f.addr ≠ CRU_FIELD_STATUS.addr →
      getF (sealHeat s) f = getF (sealedAs (finishCopy s) d ox oy tx ty w) f := fun f hb hf => by
    rcases heq with heq | heq
    · rw [heq]
    · rw [heq, getF_of_rd (rd_inconsistent _ hf (.inl (by rw [hb]; decide)))]
  refine ⟨?_, ?_⟩
  · rw [hend _ (by decide) (by decide), getF_sealedAs _ _ _ _ _ _ _ (by decide), sealed_sealNumbered hkept, hstaging, Nat.mod_eq_of_lt hlt]
  · rw [hend _ (by decide) (by decide), getF_sealedAs _ _ _ _ _ _ _ (by decide), staging_sealNumbered hkept, hstaging]
    split <;> omega

end Sys2Proof.Machine
end

section
/-! The heat numbers (R78). -/

namespace Sys2Proof.Machine

variable {s : State} {at_ : Nat}

/-- A seal whose records are applied, or whose mark is reached, completes (R85, R86). -/
theorem execSealComplete_of_ready (hseal : s.wld.sealPending = true) (hready : inRepro s = true ∧ s.wld.markReached = true ∨
    inRepro s = false ∧ ringEmpty s 0 = true ∧ ringEmpty s 1 = true ∧ s.wld.copying = false) :
    exec (.sealComplete at_) s = .next (sealHeat (atTime s at_)) := by
  change (if (atTime s at_).wld.sealPending ∧ (if inRepro s then s.wld.markReached else ringEmpty s 0 && ringEmpty s 1 && !s.wld.copying) then
    Host.Outcome.next (sealHeat (atTime s at_)) else .next (atTime s at_)) = _
  refine if_pos ⟨hseal, ?_⟩
  rcases hready with ⟨hrepro, hmark⟩ | ⟨hrepro, h0, h1, hcopy⟩
  · rw [if_pos hrepro, hmark]
  · rw [hrepro, h0, h1, hcopy]
    rfl

theorem unapplied_atTime (k : Nat) (s : State) (at_ r rp : Nat) : unapplied k (atTime s at_) r rp = unapplied k s r rp := by
  induction k generalizing rp with
  | zero => rfl
  | succ k ih =>
    simp only [unapplied, ih]
    rfl

/-- The time that passes takes no record (R84). -/
theorem unappliedAll_atTime (s : State) (at_ : Nat) : unappliedAll (atTime s at_) = unappliedAll s := by
  unfold unappliedAll
  rw [unapplied_atTime, unapplied_atTime]
  rfl

/-- At SEAL_MAX a seal defers what is unapplied (R84). -/
theorem execSealMaxExpired_of_due (hseal : s.wld.sealPending = true) (hrepro : inRepro s = false)
    (hdue : s.wld.sealTime + getF s CRU_CFG1_SEAL_MAX * 1000 ≤ at_) (hleft : unappliedAll s ≠ 0) :
    exec (.sealMaxExpired at_) s = .next (sealHeat (sendFault (bump (atTime s at_) CRU_DEFERRED (unappliedAll s)) 0x0A 0x003 0 0)) := by
  have hsame : unappliedAll (atTime s at_) = unappliedAll s := unappliedAll_atTime s at_
  change execSealMaxExpired at_ s = _
  unfold execSealMaxExpired sealDeferring
  dsimp only
  rw [hsame, if_pos ⟨hseal, by rw [show inRepro (atTime s at_) = false from hrepro]; rfl, hdue, hleft⟩, if_neg hleft]

end Sys2Proof.Machine

open Sys2Proof Sys2Proof.Machine

/-- Settles O5: a seal's numbers are `heats_sealHeat`, and a reset keeps neither register (`rd_coldState_other`, `rd_warmState`). -/
theorem heatNumbersRunFromOne : Obligations.HeatNumbersRunFromOne := by
  refine ⟨fun s => ⟨?_, ?_⟩, fun s at_ hi hseal => ⟨fun hready => ?_, fun hrepro hdue hleft => ?_⟩, fun s k hgold hredisp hheat => ?_⟩
  · rw [getF, rd_coldState_other s (by decide), if_neg (by decide)]
    decide
  · rw [getF, rd_warmState (by decide), if_neg (by decide)]
    decide
  · obtain ⟨hsealed, hstaging⟩ := heats_sealHeat (s := atTime s at_) hi.1
    exact ⟨_, execSealComplete_of_ready hseal hready, hsealed, hstaging, by rw [hstaging]; split <;> omega⟩
  · obtain ⟨hsealed, hstaging⟩ := heats_sealHeat (s := sendFault (bump (atTime s at_) CRU_DEFERRED (unappliedAll s)) 0x0A 0x003 0 0)
      ((kept_sendFault _ _ _ _ _ (kept_bump _ _ _ (kept_refl (atTime s at_)))).regs hi.1)
    have hnumber : getF (sendFault (bump (atTime s at_) CRU_DEFERRED (unappliedAll s)) 0x0A 0x003 0 0) CRU_HEAT_STAGING = getF s CRU_HEAT_STAGING :=
      getF_of_rd (((moves_sendFault _ _ _ _ _).2 _ (by decide)).trans (rd_setF_other _ CRU_DEFERRED _ _ (by decide)))
    rw [hnumber] at hsealed hstaging
    exact ⟨_, execSealMaxExpired_of_due hseal hrepro hdue hleft, hsealed, hstaging, by rw [hstaging]; split <;> omega⟩
  · simp only [resolveHeat, hgold, hredisp, hheat]
    simp

end

section
/-! A seal while the map gives the Assay a unit it does not have (R22, R492): a state of the hypotheses where the statement's conclusion fails. -/

namespace Sys2Proof.Machine

theorem moves_high (s : State) (f : Fld) (n : Nat) {bl : List Nat} (hf : blockOf f.addr ∈ bl) : Moves [] bl s (high s f n) := by
  unfold high
  split
  · exact (moves_refl _ _ s).setF _ hf
  · exact moves_refl _ _ s

theorem moves_sealNumbered (s : State) (img heat ox oy tx ty : Nat) : Moves [] [0x09, 0x0A] s (sealNumbered s img heat ox oy tx ty) := by
  unfold sealNumbered set64
  exact (((((((((moves_refl _ _ s).setF _ (f := HAM_HEAT_IMG_LO) (by decide)).setF _ (f := HAM_HEAT_IMG_HI) (by decide)).setF _
    (f := CRU_HEAT_SEALED) (by decide)).setF _ (f := CRU_HEAT_STAGING) (by decide)).setF _ (f := CRU_ORIGIN_X) (by decide)).setF _
    (f := CRU_ORIGIN_Y) (by decide)).setF _ (f := CRU_TORUS_X) (by decide)).setF _ (f := CRU_TORUS_Y) (by decide)).setF _
    (f := CRU_FIELD_STATUS) (by decide) |>.trans (moves_high _ CRU_SEAL_LAG _ (by decide))

/-- A seal waits at the image at 0x100000, with nothing in its rings. The map gives the one logical Assay unit the physical unit 2. The Assay has
units 0 and 1 (R22), but the map's field has 8 bits (R492) and the statement asks nothing of it. -/
def assayBeyondTheLast : State :=
  { State.reset with
    regs := [((mapP 7 0).addr, 256 + 2)]
    wld := { staging := 0x100000, sealPending := true } }

/-- The seal's moment. -/
def sealingBeyondTheLast : State := atTime assayBeyondTheLast 0

/-- No task runs, so no MERGE is held (R221). -/
theorem staleMerges_sealingBeyondTheLast : staleMerges sealingBeyondTheLast = sealingBeyondTheLast := rfl

/-- What the seal leaves before the Assay shows it: no part but memory, the world, the gates and the Assay moves, and no register but those of
the image's address, the world and the Assay. -/
theorem moves_sealLoading_assayBeyondTheLast {d : List Nat} (hlen : d.length = 64) (heat ox oy tx ty : Nat) (w : Wld) :
    Moves [.mem, .wld, .tabX, .asy] [0x09, 0x0A, 0x0F] sealingBeyondTheLast
      (sealLoading (sealNumbered (store sealingBeyondTheLast 0x100000 d) 0x100000 heat ox oy tx ty) w) := by
  have hstore : Moves [.mem] [] sealingBeyondTheLast (store sealingBeyondTheLast 0x100000 d) :=
    moves_storeGo_apart _ _ _ _ (by rw [hlen]; decide) rfl (by decide) (.inr (by decide))
  exact ((hstore.mono (by decide) (by decide)).trans ((moves_sealNumbered _ _ _ _ _ _ _).mono (by decide) (by decide))).trans
    ((moves_sealLoading _ w).mono (by decide) (by decide))

theorem sealNumbered_wf {s : State} (h : swf resetOf s.regs = true) (img heat ox oy tx ty : Nat) :
    swf resetOf (sealNumbered s img heat ox oy tx ty).regs = true :=
  (kept_high _ _ _ (kept_setF _ _ _ (kept_setF _ _ _ (kept_setF _ _ _ (kept_setF _ _ _ (kept_setF _ _ _ (kept_setF _ _ _ (kept_setF _ _ _
    (kept_set64 _ _ _ _ (kept_refl s)))))))))).regs h

/-- A serving Assay unit that runs no task shows that it loads the heat (R288). -/
theorem showAssay_of_loading {s : State} {u : Nat} (hunit : physE s 7 0 = some (classBase 7 + u)) (hidle : runningOn s (classBase 7 + u) = none)
    (hload : s.asy.loading = true) : showAssay s = setF s (ASY_U_STATUS_PHASE u) 1 := by
  unfold showAssay
  rw [hunit]
  simp only [hidle, Option.isNone_none, if_true, Nat.add_sub_cancel_left, assayIdle, hunit, hload]

/-- The seal shows at the unit that the map gives. -/
theorem phase_sealHeat_sealingBeyondTheLast :
    getF (sealHeat sealingBeyondTheLast) (ASY_U_STATUS_PHASE 2) = 1 := by
  obtain ⟨d, ox, oy, tx, ty, w, hlen, heq⟩ := sealHeat_eq sealingBeyondTheLast
  obtain ⟨loading, hloading⟩ : ∃ l, l = sealLoading (sealNumbered (store sealingBeyondTheLast 0x100000 d) 0x100000
      (getF sealingBeyondTheLast CRU_HEAT_STAGING) ox oy tx ty) w := ⟨_, rfl⟩
  have hmoves := moves_sealLoading_assayBeyondTheLast hlen (getF sealingBeyondTheLast CRU_HEAT_STAGING) ox oy tx ty w
  have hwf : swf resetOf loading.regs = true := by
    rw [hloading]
    exact setF_wf _ _ _ (sealNumbered_wf ((kept_store _ _ _ (kept_refl _)).regs (by decide)) _ _ _ _ _ _)
  have hload : loading.asy.loading = true := by rw [hloading]; rfl
  rw [← hloading] at hmoves
  have hunit : physE loading 7 0 = some (classBase 7 + 2) := by
    unfold physE
    rw [getF_of_rd (f := mapV 7 0) (hmoves.2 _ (by decide)), getF_of_rd (f := mapP 7 0) (hmoves.2 _ (by decide))]
    decide
  have hidle : runningOn loading (classBase 7 + 2) = none := by
    have htab : loading.tabA = sealingBeyondTheLast.tabA := (hmoves.1 .tab (by decide)).1
    rw [runningOn, tasks, htab]
    rfl
  have hshown : sealedAs sealingBeyondTheLast d ox oy tx ty w = sealShown loading := by
    rw [sealedAs, staleMerges_sealingBeyondTheLast, hloading]
    rfl
  have hphase : getF (sealShown loading) (ASY_U_STATUS_PHASE 2) = 1 := by
    unfold sealShown pealSeal
    rw [getF_setF_other _ PEL_FRAME _ _ (by decide), getF_setF_other _ TNG_INBOX_STATUS _ _ (by decide),
      getF_setF_other _ BLW_ALC_STATUS _ _ (by decide), showAssay_of_loading hunit hidle hload]
    exact getF_setF_same _ _ _ hwf (by decide)
  have hfifo : (sealShown loading).flt.fifo.length < 256 := by
    have hflt : (sealShown loading).flt = loading.flt := by
      unfold sealShown pealSeal
      rw [showAssay_of_loading hunit hidle hload]
      rfl
    rw [hflt, hmoves.1 .flt (by decide)]
    decide
  have hcopied : finishCopy sealingBeyondTheLast = sealingBeyondTheLast := rfl
  rw [hcopied, hshown] at heq
  rcases heq with heq | heq
  · rw [heq, hphase]
  · rw [heq, getF_of_rd (rd_inconsistent _ (by decide) (.inr hfifo)), hphase]

end Sys2Proof.Machine

open Sys2Proof Sys2Proof.Machine

/-- Refutes O25: the seal shows in the status of the Assay unit that the map gives, and the register of a unit 2 is none of those that `sealRegs`
lists. -/
theorem not_sealingMakesTheStagingHeatCurrent : ¬ Obligations.SealingMakesTheStagingHeatCurrent := by
  intro h
  obtain ⟨_, hcomplete, _⟩ := h assayBeyondTheLast 0 (by decide) (by decide) rfl (by decide)
  obtain ⟨t, ht, _, _, _, hframe⟩ := hcomplete rfl (by decide) (by decide) rfl ⟨rfl, by decide, .inl (by decide)⟩ (by decide)
  have hready : inRepro assayBeyondTheLast = false ∧ ringEmpty assayBeyondTheLast 0 = true ∧ ringEmpty assayBeyondTheLast 1 = true ∧
    assayBeyondTheLast.wld.copying = false := by decide
  obtain rfl := Host.Outcome.next.inj (ht.symm.trans (execSealComplete_of_ready rfl (.inr hready)))
  have hsame := getF_of_rd (f := ASY_U_STATUS_PHASE 2) (hframe.rd_eq (by decide))
  exact absurd (phase_sealHeat_sealingBeyondTheLast.symm.trans hsame) (by decide)

end

section
/-! A mesh that a full vertex pool does not hold (R80): a state of the hypotheses where the statement's conclusion fails. -/

namespace Sys2Proof.Machine

/- ### A staging image whose meshes take more vertices than the pool has -/

/-- Mesh i of the image: 255 vertices from 255 i on (R80). -/
def poolMesh (i : Nat) : List Nat := 3 :: 255 :: (List.replicate 26 0 ++ leBytes 4 (255 * i))

/-- The staging image at 0x100000 holds 2,571 such meshes, which would take 655,605 vertices where the pool has 655,360, and no other mesh; no
datagram is stalled. -/
structure PoolOverfull (s : State) : Prop where
  staging : s.wld.staging = 0x100000
  stalled : s.wld.stalled = []
  errs : s.mem.errs = []
  wf : Memory.wf s.mem = true
  meshes : ∀ i < 2571, primEntry (peek s) 0x100000 i = poolMesh i
  others : ∀ i < 65536, 2571 ≤ i → primEntry (peek s) 0x100000 i = List.replicate 32 0

theorem peek_congr {s t : State} (h : t.mem = s.mem) : peek t = peek s := by
  funext a n
  unfold peek byteAt
  rw [h]

/-- It depends on memory, the image's place and the stalled datagrams alone. -/
theorem PoolOverfull.congr {s t : State} (h : PoolOverfull s) (hmem : t.mem = s.mem) (hstaging : t.wld.staging = s.wld.staging)
    (hstalled : t.wld.stalled = s.wld.stalled) : PoolOverfull t where
  staging := hstaging.trans h.staging
  stalled := hstalled.trans h.stalled
  errs := hmem ▸ h.errs
  wf := hmem ▸ h.wf
  meshes := by rw [peek_congr hmem]; exact h.meshes
  others := by rw [peek_congr hmem]; exact h.others

theorem leNat_leBytes (k n : Nat) : leNat (leBytes k n) = n % 256 ^ k := by
  induction k generalizing n with
  | zero => simp [leBytes, leNat, Nat.mod_one]
  | succ k ih =>
    rw [leBytes, leNat, ih, Nat.mod_mod, Nat.pow_succ', Nat.mod_mul]

theorem poolMesh_fields {i : Nat} (h : i < 2571) : present (poolMesh i) = true ∧ entryKind (poolMesh i) = 3 ∧ entryNv (poolMesh i) = 255 ∧
    entryVbase (poolMesh i) = 255 * i := by
  refine ⟨rfl, rfl, rfl, ?_⟩
  show leNat (leBytes 4 (255 * i)) = 255 * i
  rw [leNat_leBytes, Nat.mod_eq_of_lt (by omega)]

variable {s : State}

theorem filterMap_eq_map_of_forall {α β : Type} {f : α → Option β} {g : α → β} {l : List α} (h : ∀ x ∈ l, f x = some (g x)) :
    l.filterMap f = l.map g := by
  induction l with
  | nil => rfl
  | cons x l ih =>
    rw [List.filterMap_cons_some (h x List.mem_cons_self), ih fun y hy => h y (List.mem_cons_of_mem x hy), List.map_cons]

/-- The ranges in use lie side by side from 0 on. -/
theorem usedVerts_poolOverfull (h : PoolOverfull s) {id : Nat} (hid : 2571 ≤ id) :
    usedVerts s id = (List.range' 0 2571).map (fun i => (255 * i, 255)) := by
  have hfound : ((List.range 2571).filterMap fun i =>
      if i ≠ id ∧ present (primEntry (peek s) s.wld.staging i) ∧ entryKind (primEntry (peek s) s.wld.staging i) = 3 then
        some (entryVbase (primEntry (peek s) s.wld.staging i), entryNv (primEntry (peek s) s.wld.staging i)) else none) =
      (List.range 2571).map (fun i => (255 * i, 255)) := by
    refine filterMap_eq_map_of_forall fun i hi => ?_
    have hi := List.mem_range.mp hi
    obtain ⟨hpresent, hkind, hnv, hbase⟩ := poolMesh_fields hi
    rw [h.staging, h.meshes i hi, if_pos ⟨by omega, hpresent, hkind⟩, hnv, hbase]
  have hnone : (((List.range 62965).map (2571 + ·)).filterMap fun i =>
      if i ≠ id ∧ present (primEntry (peek s) s.wld.staging i) ∧ entryKind (primEntry (peek s) s.wld.staging i) = 3 then
        some (entryVbase (primEntry (peek s) s.wld.staging i), entryNv (primEntry (peek s) s.wld.staging i)) else none) = [] := by
    refine List.filterMap_eq_nil_iff.mpr fun i hi => ?_
    obtain ⟨j, hj, rfl⟩ := List.mem_map.mp hi
    have hj := List.mem_range.mp hj
    rw [h.staging, h.others _ (by omega) (by omega)]
    exact if_neg fun hc => absurd hc.2.2 (by decide)
  have hsorted : ((List.range' 0 2571).map (fun i => (255 * i, 255))).Pairwise (fun a b : Nat × Nat => decide (a.1 ≤ b.1) = true) := by
    rw [List.pairwise_map]
    refine (List.pairwise_lt_range' (s := 0) (n := 2571)).imp fun hab => ?_
    exact decide_eq_true (by omega)
  unfold usedVerts
  dsimp only
  rw [show 65536 = 2571 + 62965 from rfl, List.range_add, List.filterMap_append, hfound, hnone, List.append_nil, List.range_eq_range']
  exact List.mergeSort_of_pairwise hsorted

/-- Side by side they leave no gap. -/
theorem firstGap_adjacent {nv : Nat} (hnv : 0 < nv) (k n : Nat) :
    firstGap ((List.range' k n).map (fun i => (255 * i, 255))) (255 * k) nv = 255 * (k + n) := by
  induction n generalizing k with
  | zero => rfl
  | succ n ih =>
    rw [List.range'_succ, List.map_cons, firstGap, if_neg (by omega), show max (255 * k) (255 * k + 255) = 255 * (k + 1) by omega, ih]
    omega

/- ### Compaction packs them from 0 on, past the pool's end -/

theorem errs_storeGo_clean (k : Nat) (s : State) (a : Nat) (bs : List Nat) (h : a + bs.length ≤ anvilEnd) (he : s.mem.errs = [])
    (hw : Memory.wf s.mem = true) : (storeGo k s a bs).mem.errs = [] := by
  induction k generalizing s a bs with
  | zero => exact he
  | succ k ih =>
    by_cases hb : bs = []
    · rw [storeGo, if_pos hb]
      exact he
    · rw [storeGo_succ k s a bs hb]
      have hlen := List.length_pos_iff.mpr hb
      obtain ⟨_, herr, _⟩ := storePiece_of_clean (a := a) (by simp only [anvilEnd, asyBase] at *; omega) he hw bs
      exact ih _ _ _ (by rw [List.length_drop]; omega) herr (storePiece_wf hw bs)

/-- The staging image lies at 0x100000, no line is in error, and no datagram is stalled. -/
structure CleanImage (s : State) : Prop where
  staging : s.wld.staging = 0x100000
  stalled : s.wld.stalled = []
  errs : s.mem.errs = []
  wf : Memory.wf s.mem = true

/-- A store into the Anvil leaves the image clean. -/
theorem CleanImage.store (h : CleanImage s) {a : Nat} {bs : List Nat} (hin : a + bs.length ≤ anvilEnd) : CleanImage (store s a bs) where
  staging := by rw [(aside_store s a bs (aside_refl s)).wld, h.staging]
  stalled := by rw [(aside_store s a bs (aside_refl s)).wld, h.stalled]
  errs := errs_storeGo_clean _ _ _ _ hin h.errs h.wf
  wf := (kept_store s a bs (kept_refl s)).mem h.wf

/-- The bytes after it. -/
theorem CleanImage.byteAt_store (h : CleanImage s) {a : Nat} {bs : List Nat} (hin : a + bs.length ≤ anvilEnd) (x : Nat) :
    byteAt (Machine.store s a bs) x = if a ≤ x ∧ x < a + bs.length then bs.getD (x - a) 0 % 256 else byteAt s x :=
  byteAt_storeGo_clean _ _ _ _ hin h.errs h.wf (.inr (by omega)) x

theorem PoolOverfull.clean (h : PoolOverfull s) : CleanImage s := ⟨h.staging, h.stalled, h.errs, h.wf⟩

/-- One entry's turn in `compactVerts`: a mesh's vertices move to the next free place, which its entry then names (R80). -/
def packOne (s : State) (id : Nat) (a : State × Nat) (i : Nat) : State × Nat :=
  let img := s.wld.staging
  let e := primEntry (peek s) img i
  if i ≠ id ∧ present e ∧ entryKind e = 3 then
    let vs := peek s (img + vertOff + 6 * entryVbase e) (6 * entryNv e)
    let s := store (store a.1 (img + vertOff + 6 * a.2) vs) (img + primOff + 32 * i + 28) (leBytes 4 a.2)
    ({ s with wld := { s.wld with moved := insertNew s.wld.moved i } }, a.2 + entryNv e)
  else a

theorem compactVerts_eq (s : State) (id : Nat) : compactVerts s id = (List.range 65536).foldl (packOne s id) (s, 0) := rfl

theorem packOne_mesh (h : PoolOverfull s) {id i : Nat} (hi : i < 2571) (hid : 2571 ≤ id) {a : State × Nat} (ha : CleanImage a.1)
    (hpos : a.2 = 255 * i) : CleanImage (packOne s id a i).1 ∧ (packOne s id a i).2 = 255 * (i + 1) := by
  obtain ⟨hpresent, hkind, hnv, _⟩ := poolMesh_fields hi
  unfold packOne
  dsimp only
  rw [h.staging, h.meshes i hi, if_pos ⟨by omega, hpresent, hkind⟩, hnv]
  have hverts : CleanImage (store a.1 (0x100000 + vertOff + 6 * a.2) (peek s (0x100000 + vertOff + 6 * entryVbase (poolMesh i)) (6 * 255))) :=
    ha.store (by rw [peek_length, hpos]; simp only [vertOff, anvilEnd]; omega)
  have hentry := hverts.store (a := 0x100000 + primOff + 32 * i + 28) (bs := leBytes 4 a.2)
    (by rw [leBytes_length]; simp only [primOff, anvilEnd]; omega)
  exact ⟨⟨hentry.staging, hentry.stalled, hentry.errs, hentry.wf⟩, by omega⟩

theorem packOne_other (h : PoolOverfull s) {id i : Nat} (hlo : 2571 ≤ i) (hhi : i < 65536) (a : State × Nat) : packOne s id a i = a := by
  unfold packOne
  dsimp only
  rw [h.staging, h.others i hhi hlo]
  exact if_neg fun hc => absurd hc.2.2 (by decide)

/-- After n entries, the meshes among them are packed. -/
theorem foldl_packOne (h : PoolOverfull s) {id : Nat} (hid : 2571 ≤ id) (n : Nat) (hn : n ≤ 65536) :
    CleanImage ((List.range n).foldl (packOne s id) (s, 0)).1 ∧ ((List.range n).foldl (packOne s id) (s, 0)).2 = 255 * min n 2571 := by
  induction n with
  | zero => exact ⟨h.clean, rfl⟩
  | succ n ih =>
    obtain ⟨hclean, hpos⟩ := ih (by omega)
    rw [List.range_succ, List.foldl_append, List.foldl_cons, List.foldl_nil]
    by_cases hmesh : n < 2571
    · rw [Nat.min_eq_left (by omega)] at hpos ⊢
      exact packOne_mesh h hmesh hid hclean hpos
    · rw [packOne_other h (by omega) (by omega)]
      exact ⟨hclean, by omega⟩

/-- Compaction gives the new mesh a place past the pool's end. -/
theorem compactVerts_poolOverfull (h : PoolOverfull s) {id : Nat} (hid : 2571 ≤ id) :
    CleanImage (compactVerts s id).1 ∧ (compactVerts s id).2 = 655605 := by
  rw [compactVerts_eq]
  exact foldl_packOne h hid 65536 (by omega)

theorem allocVerts_poolOverfull (h : PoolOverfull s) {id nv : Nat} (hid : 2571 ≤ id) (hnv : 0 < nv) : allocVerts s id nv = compactVerts s id := by
  unfold allocVerts
  dsimp only
  rw [usedVerts_poolOverfull h hid, firstGap_adjacent hnv 0 2571]
  exact if_neg (by simp only [vertPool]; omega)

theorem noteChange_mem (s : State) (id : Nat) (e : List Nat) : (noteChange s id e).mem = s.mem := by
  unfold noteChange
  split <;> rfl

theorem noteChange_staging (s : State) (id : Nat) (e : List Nat) : (noteChange s id e).wld.staging = s.wld.staging := by
  unfold noteChange
  split <;> rfl

theorem noteChange_stalled (s : State) (id : Nat) (e : List Nat) : (noteChange s id e).wld.stalled = s.wld.stalled := by
  unfold noteChange
  split <;> rfl

/-- The vertices of a mesh set there lie in the agent table. -/
theorem setPrim_poolOverfull (h : PoolOverfull s) {d : List Nat} (hid : fldAt d 16 2 = 65535) (hkind : fldAt d 18 1 = 3)
    (hnv : fldAt d 19 1 = 4) (hlen : 72 ≤ d.length) : (setPrim s d).wld.stalled = [] ∧
    byteAt (setPrim s d) (0x100000 + vertOff + 6 * 655605) = d.getD 48 0 % 256 := by
  have hnoted := h.congr (noteChange_mem s 65535 (primEntry (peek s) s.wld.staging 65535)) (noteChange_staging _ _ _)
    (noteChange_stalled _ _ _)
  obtain ⟨hclean, hpos⟩ := compactVerts_poolOverfull hnoted (id := 65535) (by omega)
  have hverts : ((d.drop 48).take 24).length = 24 := by rw [List.length_take, List.length_drop]; omega
  have hentry : ((d.drop 18).take 26 ++ [0, 0] ++ leBytes 4 655605).length = 32 := by
    simp only [List.length_append, List.length_take, List.length_drop, leBytes_length, List.length_cons, List.length_nil]
    omega
  have hstored := hclean.store (a := 0x100000 + vertOff + 6 * 655605) (bs := (d.drop 48).take 24) (by rw [hverts]; decide)
  unfold setPrim
  dsimp only
  rw [hid, hkind, hnv, if_pos rfl, allocVerts_poolOverfull hnoted (by omega) (by omega), hclean.staging, hpos, if_neg (by omega)]
  refine ⟨(hstored.store (by rw [hentry]; decide)).stalled, (hstored.byteAt_store (by rw [hentry]; decide) _).trans ?_⟩
  rw [if_neg (by rw [hentry]; decide), hclean.byteAt_store (by rw [hverts]; decide), hverts, if_pos (by omega), Nat.sub_self]
  simp [List.getD_eq_getElem?_getD]

end Sys2Proof.Machine
end

section
/-! Bytes poked elsewhere leave a ring's records as they are (R91). -/

namespace Sys2Proof.Machine

/-- The state with other bytes in memory, where its lines are in the same condition. -/
def withCells (s : State) (c : List Host.Cell) : State := { s with mem := { s.mem with cells := c } }

theorem poke_eq_withCells (s : State) (a : Nat) (bs : List Nat) : poke s a bs = withCells s (poke s a bs).mem.cells := by
  induction bs generalizing s a with
  | nil => rfl
  | cons b bs ih => exact ih (setByte s a b) (a + 1)

variable {s : State} {c : List Host.Cell}

theorem readLine_withCells {a : Nat} (h : peek (withCells s c) (lineOf a) 64 = peek s (lineOf a) 64) : readLine (withCells s c) a = readLine s a := by
  unfold readLine
  dsimp only
  rw [h]
  rfl

theorem readBrand_withCells {a : Nat} (brand : Nat) (h : peek (withCells s c) (lineOf a) 64 = peek s (lineOf a) 64) :
    readBrand (withCells s c) brand a = readBrand s brand a := by
  have hline : portLine (withCells s c) a = portLine s a := by
    unfold portLine
    dsimp only
    rw [readLine_withCells h]
    rfl
  unfold readBrand
  rw [hline]
  rfl

/-- Memory below a limit is the same. -/
def SameBelow (lim : Nat) (s : State) (c : List Host.Cell) : Prop := ∀ a < lim, byteAt (withCells s c) a = byteAt s a

theorem SameBelow.peek {lim : Nat} (h : SameBelow lim s c) {a n : Nat} (hle : a + n ≤ lim) : peek (withCells s c) a n = peek s a n :=
  List.map_congr_left fun i hi => h _ (by have := List.mem_range.mp hi; omega)

theorem rdLines_withCells {lim : Nat} (h : SameBelow lim s c) (brand : Nat) (k line : Nat) (hle : line + 64 * k ≤ lim) :
    rdLines k (withCells s c) brand line = rdLines k s brand line := by
  induction k generalizing line with
  | zero => rfl
  | succ k ih =>
    have hline : rdLine (withCells s c) brand line = rdLine s brand line := by
      unfold rdLine
      rw [readBrand_withCells brand (h.peek (by simp only [lineOf]; omega))]
    rw [rdLines, rdLines, hline, ih _ (by omega)]

theorem rdBytes_withCells {lim : Nat} (h : SameBelow lim s c) (brand a n : Nat) (hle : a + n + 64 ≤ lim) :
    rdBytes (withCells s c) brand a n = rdBytes s brand a n := by
  unfold rdBytes
  dsimp only
  rw [rdLines_withCells h brand _ _ (by simp only [lineOf]; omega)]

theorem leNat_lt (bs : List Nat) : leNat bs < 256 ^ bs.length := by
  induction bs with
  | nil => exact Nat.one_pos
  | cons b bs ih =>
    rw [leNat, List.length_cons, Nat.pow_succ]
    omega

theorem fldAt_lt (bs : List Nat) (off len : Nat) : fldAt bs off len < 256 ^ len :=
  Nat.lt_of_lt_of_le (leNat_lt _) (Nat.pow_le_pow_right (by decide) (List.length_take_le _ _))

/-- A record is read as before when its ring lies below the limit (R91). -/
theorem fetchRecord_withCells {lim : Nat} (h : SameBelow lim s c) (r : Nat) (hle : ringBase s r + ringRp s r + 65600 ≤ lim) :
    fetchRecord (withCells s c) r = fetchRecord s r := by
  have hrd : ∀ n ≤ 65536, rdBytes (withCells s c) (ringBrand (withCells s c) r) (ringBase (withCells s c) r + ringRp (withCells s c) r) n =
      rdBytes s (ringBrand s r) (ringBase s r + ringRp s r) n := fun n hn =>
    rdBytes_withCells h _ _ _ (show ringBase s r + ringRp s r + n + 64 ≤ lim by omega)
  have hbody : ∀ hdr, rdBytes (withCells s c) (ringBrand (withCells s c) r) (ringBase (withCells s c) r + ringRp (withCells s c) r) (fldAt hdr 2 2) =
      rdBytes s (ringBrand s r) (ringBase s r + ringRp s r) (fldAt hdr 2 2) := fun hdr => hrd _ (Nat.le_of_lt (fldAt_lt hdr 2 2))
  unfold fetchRecord
  simp only [hrd 16 (by omega), hbody]
  rfl

/-- A record's checks look at memory for the primitive's old entry alone (R94). -/
theorem checkRecord_withCells {r : Nat} {d : List Nat} (h : primEntry (peek (withCells s c)) s.wld.staging (fldAt d 16 2) =
    primEntry (peek s) s.wld.staging (fldAt d 16 2)) : checkRecord (withCells s c) r d = checkRecord s r d := by
  unfold checkRecord
  dsimp only
  rw [show (withCells s c).wld = s.wld from rfl, h]

end Sys2Proof.Machine
end

section
/-! A mesh offered to a full vertex pool (R80, R94). -/

namespace Sys2Proof.Machine

/-- PRIM_SET of entry 65535, a mesh of four vertices whose first has dx 1 (R94). -/
def meshRecord : List Nat := layout 80 [(0, 1, 1), (2, 2, 80), (4, 4, 5), (16, 2, 65535), (18, 1, 3), (19, 1, 4), (48, 2, 1)]

/-- The record in ring 0, and a staging image that reads 0. -/
def meshOffered : State := let s := ringHolds 0 meshRecord; { s with wld := { s.wld with staging := 0x100000 } }

/-- The entries of n meshes in the pool, one after another. -/
def poolBytes (n : Nat) : List Nat := (List.range (32 * n)).map (fun x => (poolMesh (x / 32)).getD (x % 32) 0)

/-- The record in ring 0, and a staging image with more vertices than its pool has. -/
def meshOfferedToFullPool : State := poke meshOffered (0x100000 + primOff) (poolBytes 2571)

theorem poolBytes_length (n : Nat) : (poolBytes n).length = 32 * n := by simp [poolBytes]

theorem meshOffered_inv : meshOffered.Inv := by decide +kernel

theorem meshOfferedToFullPool_eq : meshOfferedToFullPool = withCells meshOffered meshOfferedToFullPool.mem.cells := by
  rw [meshOfferedToFullPool]
  exact poke_eq_withCells _ _ _

theorem meshOfferedToFullPool_inv : meshOfferedToFullPool.Inv := by
  obtain ⟨hregs, hmem, hlinks⟩ := meshOffered_inv
  have hkept : Kept meshOffered meshOfferedToFullPool := kept_poke _ _ _ (kept_refl _)
  exact ⟨hkept.regs hregs, hkept.mem hmem, hkept.links hlinks⟩

theorem meshRecord_length : meshRecord.length = 80 := leBytes_length _ _

theorem byteAt_meshOffered {x : Nat} (h : 0x4000 + 80 ≤ x) : byteAt meshOffered x = 0 := by
  have hring : byteAt (ringHolds 0 meshRecord) x = 0 := by
    unfold ringHolds
    rw [byteAt_poke_other _ _ _ _ (.inr (by rwa [meshRecord_length]))]
    rfl
  exact (byteAt_congr (t := meshOffered) (s := ringHolds 0 meshRecord) rfl x).trans hring

theorem sameBelow_meshOfferedToFullPool : SameBelow (0x100000 + primOff) meshOffered meshOfferedToFullPool.mem.cells := fun a ha =>
  (congrArg (byteAt · a) meshOfferedToFullPool_eq.symm).trans (byteAt_poke_other _ _ a _ (.inl ha))

theorem byteAt_meshOfferedToFullPool (x : Nat) (h : 0x4000 + 80 ≤ x) : byteAt meshOfferedToFullPool x =
    if 0x100000 + primOff ≤ x ∧ x < 0x100000 + primOff + 32 * 2571 then (poolBytes 2571).getD (x - (0x100000 + primOff)) 0 % 256 else 0 := by
  obtain ⟨_, hmem, _⟩ := meshOffered_inv
  rw [meshOfferedToFullPool, byteAt_poke hmem, byteAt_meshOffered h, poolBytes_length]

theorem leBytes_lt {k n b : Nat} (h : b ∈ leBytes k n) : b < 256 := by
  induction k generalizing n with
  | zero => exact absurd h List.not_mem_nil
  | succ k ih =>
    rcases List.mem_cons.mp h with rfl | h
    · exact Nat.mod_lt _ (by decide)
    · exact ih h

theorem poolMesh_lt {i b : Nat} (h : b ∈ poolMesh i) : b < 256 := by
  simp only [poolMesh, List.mem_cons, List.mem_append, List.mem_replicate] at h
  rcases h with rfl | rfl | ⟨_, rfl⟩ | h
  · decide
  · decide
  · decide
  · exact leBytes_lt h

theorem poolMesh_length (i : Nat) : (poolMesh i).length = 32 := by simp [poolMesh, leBytes_length]

theorem poolBytes_getD {n i j : Nat} (hi : i < n) (hj : j < 32) : (poolBytes n).getD (32 * i + j) 0 = (poolMesh i).getD j 0 := by
  rw [poolBytes, List.getD_eq_getElem?_getD, List.getElem?_map, List.getElem?_range (by omega), Option.map_some, Option.getD_some]
  rw [show (32 * i + j) / 32 = i by omega, show (32 * i + j) % 32 = j by omega]

theorem poolOverfull_meshOfferedToFullPool : PoolOverfull meshOfferedToFullPool where
  staging := by rw [meshOfferedToFullPool_eq]; rfl
  stalled := by rw [meshOfferedToFullPool_eq]; rfl
  errs := by rw [meshOfferedToFullPool_eq]; rfl
  wf := by
    obtain ⟨_, hmem, _⟩ := meshOfferedToFullPool_inv
    exact hmem
  meshes i hi := by
    refine List.ext_getElem ((peek_length _ _ _).trans (poolMesh_length i).symm) fun j hj hj' => ?_
    have hj : j < 32 := (poolMesh_length i).symm ▸ hj'
    have hget : (peek meshOfferedToFullPool (0x100000 + primOff + 32 * i) 32).getD j 0 = (poolMesh i).getD j 0 := by
      rw [getD_peek _ _ hj, byteAt_meshOfferedToFullPool _ (by simp only [primOff]; omega), if_pos (by omega),
        show 0x100000 + primOff + 32 * i + j - (0x100000 + primOff) = 32 * i + j by omega, poolBytes_getD hi hj]
      exact Nat.mod_eq_of_lt (by rw [← List.getElem_eq_getD (h := hj') 0]; exact poolMesh_lt (List.getElem_mem _))
    rwa [← List.getElem_eq_getD (h := by rwa [peek_length]) 0, ← List.getElem_eq_getD (h := hj') 0] at hget
  others i hi hlo := by
    refine List.eq_replicate_iff.mpr ⟨peek_length _ _ _, fun b hb => ?_⟩
    obtain ⟨j, hj, rfl⟩ := List.mem_map.mp hb
    rw [byteAt_meshOfferedToFullPool _ (by simp only [primOff]; omega), if_neg (by omega)]

theorem fetchRecord_meshOfferedToFullPool : fetchRecord meshOfferedToFullPool 0 = (⟨1, 0, 80, meshRecord⟩, []) := by
  rw [meshOfferedToFullPool_eq, fetchRecord_withCells sameBelow_meshOfferedToFullPool 0 (by decide +kernel)]
  decide +kernel

theorem mayTake_meshOfferedToFullPool : mayTake meshOfferedToFullPool 0 = true := by
  rw [meshOfferedToFullPool_eq]
  decide +kernel

theorem checkRecord_meshOffered : checkRecord meshOffered 0 meshRecord = 0 := by decide +kernel

theorem checkRecord_meshOfferedToFullPool : checkRecord meshOfferedToFullPool 0 meshRecord = 0 := by
  have hid : fldAt meshRecord 16 2 = 65535 := by decide +kernel
  have hentry : primEntry (peek meshOfferedToFullPool) 0x100000 65535 = primEntry (peek meshOffered) 0x100000 65535 := by
    unfold primEntry peek
    refine List.map_congr_left fun j hj => ?_
    rw [byteAt_meshOfferedToFullPool _ (by simp only [primOff]; omega), if_neg (by omega), byteAt_meshOffered (by simp only [primOff]; omega)]
  rw [← checkRecord_meshOffered]
  rw [meshOfferedToFullPool_eq] at hentry ⊢
  exact checkRecord_withCells (hid ▸ hentry)

/- ### The record's intake -/

variable {s : State}

/-- What an accepted PRIM_SET with no gap and no URGENT mark changes before its entry is written is not the staging image (R91, R93). -/
theorem consume_primSet {r : Nat} {f : Fetched} (hreason : f.reason = 0) (htyp : f.typ ≠ 0) (hcheck : checkRecord s r f.data = 0)
    (hgap : seqGap s r f.data = false) (hset : fldAt f.data 0 1 = 1) (hurgent : urgentSet f.data = false) :
    ∃ u, consume s r f = setPrim u f.data ∧ u.mem = s.mem ∧ u.wld.staging = s.wld.staging ∧ u.wld.stalled = s.wld.stalled := by
  obtain ⟨hmem, hstaging, hstalled, hseq, hchecked⟩ : (movedRp s r f).mem = s.mem ∧ (movedRp s r f).wld.staging = s.wld.staging ∧
      (movedRp s r f).wld.stalled = s.wld.stalled ∧ seqGap (movedRp s r f) r f.data = seqGap s r f.data ∧
      checkRecord (movedRp s r f) r f.data = checkRecord s r f.data := by
    unfold movedRp
    dsimp only
    split <;> exact ⟨rfl, rfl, rfl, rfl, rfl⟩
  refine ⟨bump { movedRp s r f with wld := { (movedRp s r f).wld with
    lastSeq := setAt (movedRp s r f).wld.lastSeq r (some (fldAt f.data 4 4)) } } CRU_REC_ACCEPT 1, ?_, hmem, hstaging, hstalled⟩
  rw [hgap] at hseq
  unfold seqGap at hseq
  unfold consume
  dsimp only
  rw [if_neg fun hne => hne hreason, if_neg htyp, hchecked, hcheck, if_neg fun hne => hne rfl, hurgent, if_neg Bool.false_ne_true]
  unfold applyRecord
  rw [hset]
  dsimp only
  rw [hseq]
  rfl

/-- A PRIM_SET that the intake may take is consumed, and no stalled datagram moves on (R91). -/
theorem execPrimSet_of_fetched {r : Nat} {f : Fetched} (htake : mayTake s r = true) (hfetch : fetchRecord s r = (f, [])) (htyp : f.typ = 1)
    (hstalled : (consume s r f).wld.stalled = []) : exec (.primSet r) s = .next (consume s r f) := by
  change Host.Outcome.next (intake (· == 1) s r) = _
  unfold intake
  rw [htake, hfetch]
  simp [htyp, notesFx, dmaPump, hstalled]

theorem exec_meshOfferedToFullPool : ∃ t, exec (.primSet 0) meshOfferedToFullPool = .next t ∧
    byteAt t (0x100000 + vertOff + 6 * 655605) = 1 := by
  obtain ⟨u, hu, hmem, hstaging, hstalled⟩ := consume_primSet (s := meshOfferedToFullPool) (r := 0) (f := ⟨1, 0, 80, meshRecord⟩) rfl (by decide)
    checkRecord_meshOfferedToFullPool (by rw [meshOfferedToFullPool_eq]; decide +kernel) (by decide +kernel) (by decide +kernel)
  obtain ⟨hnone, hbyte⟩ := setPrim_poolOverfull (poolOverfull_meshOfferedToFullPool.congr hmem hstaging hstalled) (d := meshRecord)
    (by decide +kernel) (by decide +kernel) (by decide +kernel) (by rw [meshRecord_length]; decide)
  refine ⟨_, execPrimSet_of_fetched mayTake_meshOfferedToFullPool fetchRecord_meshOfferedToFullPool rfl (by rw [hu]; exact hnone), ?_⟩
  rw [hu, hbyte]
  decide +kernel

end Sys2Proof.Machine

open Sys2Proof Sys2Proof.Machine

/-- Refutes O23: a mesh set in an image whose vertex pool is full already is packed past the pool's end (R80), into the agent table. -/
theorem not_recordsChangeTheStagingHeat : ¬ Obligations.RecordsChangeTheStagingHeat := by
  intro h
  obtain ⟨hset, _⟩ := h meshOfferedToFullPool 0 _ meshOfferedToFullPool_inv mayTake_meshOfferedToFullPool fetchRecord_meshOfferedToFullPool rfl
    (by decide +kernel) checkRecord_meshOfferedToFullPool poolOverfull_meshOfferedToFullPool.stalled
    ⟨poolOverfull_meshOfferedToFullPool.errs, by rw [poolOverfull_meshOfferedToFullPool.staging]; decide, by
      rw [meshOfferedToFullPool_eq]; decide +kernel⟩ (by rw [meshOfferedToFullPool_eq]; decide)
  obtain ⟨t, ht, _, _, _, _, _, hkept, _⟩ := hset rfl (by decide +kernel)
  obtain ⟨t', ht', hbyte⟩ := exec_meshOfferedToFullPool
  obtain rfl := Host.Outcome.next.inj (ht.symm.trans ht')
  have hsame := hkept (0x100000 + vertOff + 6 * 655605) (.inr (by rw [poolOverfull_meshOfferedToFullPool.staging]; decide))
  rw [hbyte, byteAt_meshOfferedToFullPool _ (by decide), if_neg (by decide)] at hsame
  exact absurd hsame (by decide)

end
